-- ==== Sys2Proof/Word.lean ====
section
/-! DEFINITION. The word types of the K9612 and the small index types of its units (R6, R9, R84). -/

namespace Sys2Proof

/-- A register or memory word, 32 bits (R6, R67). -/
abbrev Word := BitVec 32

/-- A byte of memory or of a frame. -/
abbrev Byte := BitVec 8

/-- A V register number of the d, a or b field (R84, R87). -/
abbrev VReg := BitVec 5

/-- A stage, and the Lathe context of the same number k = 2n + c (R9). -/
abbrev Stage := Fin 12

/-- A gate link and its pod (R9). -/
abbrev Link := Fin 12

/-- An issuing engine context: 0 to 11 the Lathe contexts, 12 the Headstock (R59). -/
abbrev CtxId := Fin 13

/-- The outcome of the parity check of a read (R72): no error, an error whose replay passes, an error whose replay
fails. -/
inductive Par where
  | clean
  | replayPass
  | replayFail
  deriving DecidableEq, Repr

/-- How a fetch that failed parity ended (R72, R73): the replay passed; the word was repaired; the image word failed its
program-store check or the repaired word failed parity again. -/
inductive Repair where
  | replayPass
  | repaired
  | failed
  deriving DecidableEq, Repr

/-- The parity of a stepped instruction (R426): how its fetch ended where that failed parity, and the outcome of its own
reads. -/
structure StepPar where
  fetch : Option Repair
  reads : Par
  deriving DecidableEq, Repr

/-- The link on which an upstream word arrives, and the CRC byte that ends it (R193). -/
structure Upward where
  link : Link
  crc : Byte
  deriving DecidableEq, Repr

/-- What the end of reset samples and BOOT's own reads of the persistent store meet: BOOT1:0, whether VBK has stayed at 2.5 V
or above, how many of the reads are corrected, and which words of the store, from 0x000B_0000, are found with two bits in
error (R29, R32, R408). -/
structure Release where
  straps : Fin 4
  vbk : Bool
  corr : Nat
  dead : List Nat
  deriving DecidableEq, Repr

/-- A transaction on a host port: the port, and how many bytes are clocked after the instruction (R386). -/
structure Clocked where
  port : Fin 2
  n : Nat
  deriving DecidableEq, Repr

/-- An injection phase word: its parity and the EDGE time in taps at which its first bit arrives (R400, R401). -/
structure ParityWord where
  p : Bool
  t : Nat
  deriving DecidableEq, Repr

/-- An edge on SYNC_IN: falling or rising, and its EDGE time in taps (R50). -/
structure SyncEdge where
  fall : Bool
  t : Nat
  deriving DecidableEq, Repr

/-- The payload of JOURNAL_READ, and the parity outcomes of its reads of the journal: those of the words from the one with
index `bad` on (R72, R382). -/
structure JournalAsk where
  pl : List Byte
  par : List Par
  bad : Fin 63
  deriving DecidableEq, Repr

end Sys2Proof
end

