-- ==== Sys2Proof/Config.lean ====
section
/-! DEFINITION. The free values: what the spec bounds or leaves open and the machine still produces. None has a body,
so nothing can be proved of a value of one (assumption 2, DESIGN CHOICE). Each is applied to what it depends on, or to the counter
`State.free` for a fresh value each time. -/

namespace Sys2Proof.Config

/-- Residual error of the sine generator at an angle, in 2^−28 pu, before the bound of R111 is applied. -/
opaque sinErr : Word → Int

/-- Residual error of the cosine generator at an angle (R111). -/
opaque cosErr : Word → Int

/-- A fresh word: what a tracker, a metering point or a converter produces and the spec only bounds or does not give
(R152, R234 to R238, R277, R287, R288). -/
opaque freeWord : Nat → Word

/-- A fresh number with the same use where a word is too narrow. -/
opaque freeNat : Nat → Nat

/-- Built versions of the silicon (R441, SYS_VER "As built"). -/
opaque siVersion : BitVec 16

end Sys2Proof.Config
end

