-- ==== Sys2Proof/Machine/Bits.lean ====
section
/-! DEFINITION. Bit fields, bytes, signed readings and rounding: the helpers that the rest of the machine is written
in (R3, R4, R84, R96). -/

namespace Sys2Proof.Machine

/-- Bits `[lo + wd - 1 : lo]` of a word, as a number. -/
def getBits (w : Word) (lo wd : Nat) : Nat := (w >>> lo).toNat % 2 ^ wd

/-- `w` with bits `[lo + wd - 1 : lo]` replaced by `v`. -/
def putBits (w : Word) (lo wd v : Nat) : Word :=
  (w &&& ~~~(BitVec.ofNat 32 (2 ^ wd - 1) <<< lo)) ||| (BitVec.ofNat 32 (v % 2 ^ wd) <<< lo)

/-- Bit `b` of a number. -/
def natBit (v b : Nat) : Bool := v / 2 ^ b % 2 == 1

/-- `v` with bit `b` set. -/
def natSet (v b : Nat) : Nat := if natBit v b then v else v + 2 ^ b

/-- `v` with bit `b` cleared. -/
def natClr (v b : Nat) : Nat := if natBit v b then v - 2 ^ b else v

/-- 1 for true, 0 for false. -/
def b2n (b : Bool) : Nat := if b then 1 else 0

/-- `x` limited to `[lo, hi]`; `hi` wins where the limits cross (R112, R114). -/
def clampInt (lo hi x : Int) : Int := min (max x lo) hi

/-- The int32 and pu28 limits (R3, R4). -/
def int32Lo : Int := -2147483648
def int32Hi : Int := 2147483647

/-- Saturation to 32 bits and whether it took place (R3, R95). -/
def sat32 (x : Int) : Word × Bool :=
  (BitVec.ofInt 32 (clampInt int32Lo int32Hi x), decide (x < int32Lo ∨ int32Hi < x))

/-- Saturation to the 48-bit accumulator range (R97). -/
def sat48 (x : Int) : BitVec 48 × Bool :=
  (BitVec.ofInt 48 (clampInt (-140737488355328) 140737488355327 x),
    decide (x < -140737488355328 ∨ 140737488355327 < x))

/-- Round-to-nearest of `x × 2^−n`: add one half of the result's least bit and shift arithmetically (R96). -/
def rshRound (x : Int) : Nat → Int
  | 0 => x
  | n + 1 => Int.fdiv (x + 2 ^ n) (2 ^ (n + 1))

/-- Round-to-nearest of the quotient `x / d` for `d > 0`, halves upward (R96). -/
def divRound (x : Int) (d : Nat) : Int := Int.fdiv (2 * x + d) (2 * d)

/-- `c + 1` held at `2^wd − 1`: a saturating counter of `wd` bits. -/
def satInc (wd c : Nat) : Nat := if c + 1 < 2 ^ wd then c + 1 else 2 ^ wd - 1

/-- `c + n` held at `2^wd − 1`. -/
def satAdd (wd c n : Nat) : Nat := min (c + n) (2 ^ wd - 1)

/-- The four bytes of a word, least significant first. -/
def wordBytes (w : Word) : List Byte :=
  [w.extractLsb' 0 8, w.extractLsb' 8 8, w.extractLsb' 16 8, w.extractLsb' 24 8]

/-- The word of four bytes, least significant first. -/
def bytesWord (b0 b1 b2 b3 : Byte) : Word := b3 ++ b2 ++ b1 ++ b0

/-- The words of a byte list, least significant byte first; missing bytes of the last word are 0. -/
def wordsOf : List Byte → List Word
  | [] => []
  | [a] => [bytesWord a 0 0 0]
  | [a, b] => [bytesWord a b 0 0]
  | [a, b, c] => [bytesWord a b c 0]
  | a :: b :: c :: d :: t => bytesWord a b c d :: wordsOf t

/-- The number of set bits among the low `n` of `v`. -/
def countBits (v : Nat) : Nat → Nat
  | 0 => 0
  | n + 1 => b2n (natBit v n) + countBits v n

/-- The sign of a number: −1, 0 or 1. -/
def isign (x : Int) : Int := if x < 0 then -1 else if x = 0 then 0 else 1

/-- Absolute value of a two's-complement word as a number. -/
def absW (w : Word) : Nat := w.toInt.natAbs

/-- Bytewise CRC update with an 8-bit register, most significant bit first (R193). -/
def crc8Bit (poly : Nat) (c : Nat) : Nat → Nat
  | 0 => c
  | n + 1 => crc8Bit poly (if natBit c 7 then Nat.xor (c * 2 % 256) poly else c * 2 % 256) n

/-- CRC-8 with polynomial x^8 + x^2 + x + 1 and initial value 0 (R193). -/
def crc8 (bs : List Byte) : Nat :=
  bs.foldl (fun c b => crc8Bit 7 (Nat.xor c b.toNat) 8) 0

end Sys2Proof.Machine
end

