-- ==== Sys2Proof/Machine/Regs.lean ====
section
/-! DEFINITION. The register table of the spec, register by register and field by field: addresses (R439 and the
offset tables of each block), bit positions, access codes (R6) and reset values. One constant per register family
(namespace `A`) and one per field (namespace `F`), then the rows that a write by access code and a read of an
unwritten register consult. A dash or an unnumbered reset value of the spec is 0 here (assumption 3, DESIGN CHOICE). -/

namespace Sys2Proof.Machine

/-- A field of a register: its byte address, lowest bit and width (R6). -/
structure Fld where
  addr : Nat
  lo : Nat
  wd : Nat
  deriving DecidableEq, Repr

/-- A register family: base address, (count, stride) of each index, and the masks of its access codes (R6). -/
structure RegRow where
  base : Nat
  dims : List (Nat × Nat)
  rw : Nat
  rs : Nat
  rp : Nat
  ro : Nat
  w1c : Nat
  wo : Nat
  rst : Nat
  deriving DecidableEq, Repr

-- 03_clocks_and_timebase.md
/-- CLK_STAT (R54). -/
def A.CLK_STAT : Nat := 0x20000
/-- CLK_EVT (R55). -/
def A.CLK_EVT : Nat := 0x20004
/-- CLK_REFMEAS (R56). -/
def A.CLK_REFMEAS : Nat := 0x20008
/-- CLK_RELOCK_CNT (R56). -/
def A.CLK_RELOCK_CNT : Nat := 0x2000C
/-- CLK_ETIME_LO (R56). -/
def A.CLK_ETIME_LO : Nat := 0x20010
/-- CLK_ETIME_HI (R56). -/
def A.CLK_ETIME_HI : Nat := 0x20014
/-- CLK_SYNCI_CFG (R57). -/
def A.CLK_SYNCI_CFG : Nat := 0x20020
/-- CLK_SYNCI_TS_LO (R56). -/
def A.CLK_SYNCI_TS_LO : Nat := 0x20024
/-- CLK_SYNCI_TS_HI (R56). -/
def A.CLK_SYNCI_TS_HI : Nat := 0x20028
/-- CLK_SYNCI_STAT (R57). -/
def A.CLK_SYNCI_STAT : Nat := 0x2002C
/-- CLK_SYNCO_CFG (R58). -/
def A.CLK_SYNCO_CFG : Nat := 0x20030
/-- CLK_SYNCO_DIV (R58). -/
def A.CLK_SYNCO_DIV : Nat := 0x20034
-- 04_lathes_and_headstock.md
/-- LTH_CTL (R81). -/
def A.LTH_CTL (n : Nat) : Nat := 0x60000 + 0x1000 * n
/-- LTH_STAT (R81). -/
def A.LTH_STAT (n : Nat) : Nat := 0x60004 + 0x1000 * n
/-- LTH_FAULT (R81). -/
def A.LTH_FAULT (n : Nat) : Nat := 0x60008 + 0x1000 * n
/-- LTH_PAR (R81). -/
def A.LTH_PAR (n : Nat) : Nat := 0x6000C + 0x1000 * n
/-- LTH_SCRUB (R81). -/
def A.LTH_SCRUB (n : Nat) : Nat := 0x60010 + 0x1000 * n
/-- LTH_ENTRY (R82). -/
def A.LTH_ENTRY (n : Nat) (c : Nat) : Nat := 0x60100 + 0x1000 * n + 0x100 * c
/-- LTH_DWIN (R82). -/
def A.LTH_DWIN (n : Nat) (c : Nat) : Nat := 0x60104 + 0x1000 * n + 0x100 * c
/-- LTH_SF (R82). -/
def A.LTH_SF (n : Nat) (c : Nat) : Nat := 0x60108 + 0x1000 * n + 0x100 * c
/-- LTH_SF_RC (R82). -/
def A.LTH_SF_RC (n : Nat) (c : Nat) : Nat := 0x6010C + 0x1000 * n + 0x100 * c
/-- LTH_LOOP (R82). -/
def A.LTH_LOOP (n : Nat) (c : Nat) : Nat := 0x60110 + 0x1000 * n + 0x100 * c
/-- LTH_DIV (R82). -/
def A.LTH_DIV (n : Nat) (c : Nat) : Nat := 0x60114 + 0x1000 * n + 0x100 * c
/-- LTH_PHASE (R82). -/
def A.LTH_PHASE (n : Nat) (c : Nat) : Nat := 0x60118 + 0x1000 * n + 0x100 * c
/-- LTH_RUNMAX (R82). -/
def A.LTH_RUNMAX (n : Nat) (c : Nat) : Nat := 0x60130 + 0x1000 * n + 0x100 * c
/-- LTH_MARGIN (R82). -/
def A.LTH_MARGIN (n : Nat) (c : Nat) : Nat := 0x60134 + 0x1000 * n + 0x100 * c
/-- LTH_OVR (R82). -/
def A.LTH_OVR (n : Nat) (c : Nat) : Nat := 0x60138 + 0x1000 * n + 0x100 * c
/-- LTH_PC (R82). -/
def A.LTH_PC (n : Nat) (c : Nat) : Nat := 0x6013C + 0x1000 * n + 0x100 * c
-- 06_fjodjalek_control_instructions.md
/-- LTH_EVTCODE (R127). -/
def A.LTH_EVTCODE (n : Nat) (c : Nat) : Nat := 0x60140 + 0x1000 * n + 0x100 * c
-- 11_loops_and_compensation.md
/-- LTH_LSTW (R231). -/
def A.LTH_LSTW (n : Nat) (c : Nat) : Nat := 0x60144 + 0x1000 * n + 0x100 * c
-- 04_lathes_and_headstock.md
/-- LTH_CREG (R82). -/
def A.LTH_CREG (n : Nat) (c : Nat) (j : Nat) : Nat := 0x60120 + 0x1000 * n + 0x100 * c + 0x4 * j
/-- LTH_HS_CTL (R83). -/
def A.LTH_HS_CTL : Nat := 0x68000
/-- LTH_HS_STAT (R83). -/
def A.LTH_HS_STAT : Nat := 0x68004
/-- LTH_HS_ENTRY (R83). -/
def A.LTH_HS_ENTRY : Nat := 0x68008
/-- LTH_HS_VBASE (R83). -/
def A.LTH_HS_VBASE : Nat := 0x6800C
/-- LTH_HS_WDOG (R83). -/
def A.LTH_HS_WDOG : Nat := 0x68060
/-- LTH_HS_SF (R83). -/
def A.LTH_HS_SF : Nat := 0x6806C
/-- LTH_HS_SF_RC (R83). -/
def A.LTH_HS_SF_RC : Nat := 0x68070
/-- LTH_HS_FAULT (R83). -/
def A.LTH_HS_FAULT : Nat := 0x68074
/-- LTH_HS_PAR (R83). -/
def A.LTH_HS_PAR : Nat := 0x68078
/-- LTH_HS_RUNMAX (R83). -/
def A.LTH_HS_RUNMAX : Nat := 0x6807C
/-- LTH_HS_EVEN (R83). -/
def A.LTH_HS_EVEN (i : Nat) : Nat := 0x68010 + 0x4 * i
/-- LTH_HS_EVPEND (R83). -/
def A.LTH_HS_EVPEND (i : Nat) : Nat := 0x68020 + 0x4 * i
/-- LTH_HS_EVREP (R83). -/
def A.LTH_HS_EVREP (i : Nat) : Nat := 0x68030 + 0x4 * i
/-- LTH_HS_EVPRI (R83). -/
def A.LTH_HS_EVPRI (i : Nat) : Nat := 0x68040 + 0x4 * i
/-- LTH_HS_TMR (R83). -/
def A.LTH_HS_TMR (i : Nat) : Nat := 0x68064 + 0x4 * i
-- 07_acquisition.md
/-- ADC_CTL (R155). -/
def A.ADC_CTL : Nat := 0x30000
/-- ADC_STAT (R155). -/
def A.ADC_STAT : Nat := 0x30004
/-- ADC_EVT (R155). -/
def A.ADC_EVT : Nat := 0x30008
/-- ADC_ILIM (R155). -/
def A.ADC_ILIM : Nat := 0x30200
/-- ADC_SCAN (R155). -/
def A.ADC_SCAN (a : Nat) : Nat := 0x30010 + 0x4 * a
/-- ADC_CAL (R155). -/
def A.ADC_CAL (a : Nat) : Nat := 0x30020 + 0x4 * a
/-- ADC_WEND (R155). -/
def A.ADC_WEND (k : Nat) : Nat := 0x30100 + 0x4 * k
/-- ADC_ECFG (R156). -/
def A.ADC_ECFG (e : Nat) : Nat := 0x31000 + 0x40 * e
/-- ADC_GAIN (R156). -/
def A.ADC_GAIN (e : Nat) : Nat := 0x31004 + 0x40 * e
/-- ADC_RNG (R156). -/
def A.ADC_RNG (e : Nat) : Nat := 0x31008 + 0x40 * e
/-- ADC_PCHK (R156). -/
def A.ADC_PCHK (e : Nat) : Nat := 0x3100C + 0x40 * e
/-- ADC_XCHK (R156). -/
def A.ADC_XCHK (e : Nat) : Nat := 0x31010 + 0x40 * e
/-- ADC_RES (R156). -/
def A.ADC_RES (e : Nat) : Nat := 0x31014 + 0x40 * e
/-- ADC_AVG (R156). -/
def A.ADC_AVG (e : Nat) : Nat := 0x31018 + 0x40 * e
/-- ADC_AVGN (R156). -/
def A.ADC_AVGN (e : Nat) : Nat := 0x3101C + 0x40 * e
/-- ADC_WMM (R156). -/
def A.ADC_WMM (e : Nat) : Nat := 0x31020 + 0x40 * e
/-- ADC_MM (R156). -/
def A.ADC_MM (e : Nat) : Nat := 0x31024 + 0x40 * e
/-- ADC_PLST (R156). -/
def A.ADC_PLST (e : Nat) : Nat := 0x31028 + 0x40 * e
-- 08_window_comparators.md
/-- CMP_EVT (R165). -/
def A.CMP_EVT : Nat := 0x38000
/-- CMP_LIVE (R165). -/
def A.CMP_LIVE : Nat := 0x38004
/-- CMP_CFG (R165). -/
def A.CMP_CFG (c : Nat) : Nat := 0x38100 + 0x10 * c
/-- CMP_THR (R165). -/
def A.CMP_THR (c : Nat) : Nat := 0x38104 + 0x10 * c
/-- CMP_STAT (R165). -/
def A.CMP_STAT (c : Nat) : Nat := 0x38108 + 0x10 * c
-- 09_edge_scheduler.md
/-- STG_CTL (R189). -/
def A.STG_CTL (k : Nat) : Nat := 0x40000 + 0x1000 * k
/-- STG_STAT (R189). -/
def A.STG_STAT (k : Nat) : Nat := 0x40004 + 0x1000 * k
/-- STG_PER (R189). -/
def A.STG_PER (k : Nat) : Nat := 0x40008 + 0x1000 * k
/-- STG_PER_NEXT (R189). -/
def A.STG_PER_NEXT (k : Nat) : Nat := 0x4000C + 0x1000 * k
/-- STG_SYNC (R189). -/
def A.STG_SYNC (k : Nat) : Nat := 0x40010 + 0x1000 * k
/-- STG_TMIN (R189). -/
def A.STG_TMIN (k : Nat) : Nat := 0x40014 + 0x1000 * k
/-- STG_PSTART_LO (R189). -/
def A.STG_PSTART_LO (k : Nat) : Nat := 0x40018 + 0x1000 * k
/-- STG_PSTART_HI (R189). -/
def A.STG_PSTART_HI (k : Nat) : Nat := 0x4001C + 0x1000 * k
/-- STG_REG (R189). -/
def A.STG_REG (k : Nat) : Nat := 0x40080 + 0x1000 * k
/-- STG_REGCMP (R189). -/
def A.STG_REGCMP (k : Nat) : Nat := 0x40084 + 0x1000 * k
/-- STG_HIC (R189). -/
def A.STG_HIC (k : Nat) : Nat := 0x40088 + 0x1000 * k
/-- STG_REGSTAT (R189). -/
def A.STG_REGSTAT (k : Nat) : Nat := 0x4008C + 0x1000 * k
/-- STG_EVT (R189). -/
def A.STG_EVT (k : Nat) : Nat := 0x40090 + 0x1000 * k
/-- STG_PLAN_DEFER (R189). -/
def A.STG_PLAN_DEFER (k : Nat) : Nat := 0x40094 + 0x1000 * k
/-- STG_LATE_PLAN (R189). -/
def A.STG_LATE_PLAN (k : Nat) : Nat := 0x40098 + 0x1000 * k
/-- STG_DROP (R189). -/
def A.STG_DROP (k : Nat) : Nat := 0x4009C + 0x1000 * k
-- 11_loops_and_compensation.md
/-- STG_BAND0 (R232). -/
def A.STG_BAND0 (k : Nat) : Nat := 0x400A0 + 0x1000 * k
/-- STG_BAND1 (R232). -/
def A.STG_BAND1 (k : Nat) : Nat := 0x400A4 + 0x1000 * k
/-- STG_REACH (R232). -/
def A.STG_REACH (k : Nat) : Nat := 0x400A8 + 0x1000 * k
/-- STG_TBLCTL (R232). -/
def A.STG_TBLCTL (k : Nat) : Nat := 0x400AC + 0x1000 * k
/-- STG_TBLSTAT (R232). -/
def A.STG_TBLSTAT (k : Nat) : Nat := 0x400B0 + 0x1000 * k
/-- STG_TBLTRN0 (R232). -/
def A.STG_TBLTRN0 (k : Nat) : Nat := 0x400B4 + 0x1000 * k
/-- STG_TBLTRN1 (R232). -/
def A.STG_TBLTRN1 (k : Nat) : Nat := 0x400B8 + 0x1000 * k
-- 09_edge_scheduler.md
/-- STG_MAP (R189). -/
def A.STG_MAP (k : Nat) (i : Nat) : Nat := 0x40020 + 0x1000 * k + 0x4 * i
/-- STG_MASK (R189). -/
def A.STG_MASK (k : Nat) (i : Nat) : Nat := 0x40030 + 0x1000 * k + 0x4 * i
/-- STG_MASKEFF (R189). -/
def A.STG_MASKEFF (k : Nat) (i : Nat) : Nat := 0x40040 + 0x1000 * k + 0x4 * i
/-- STG_MEV (R189). -/
def A.STG_MEV (k : Nat) (j : Nat) : Nat := 0x40050 + 0x1000 * k + 0x4 * j
/-- STG_MEVA (R189). -/
def A.STG_MEVA (k : Nat) (i : Nat) : Nat := 0x40060 + 0x1000 * k + 0x4 * i
/-- STG_MEVB (R189). -/
def A.STG_MEVB (k : Nat) (i : Nat) : Nat := 0x40070 + 0x1000 * k + 0x4 * i
/-- STG_SWCFG (R190). -/
def A.STG_SWCFG (s : Nat) : Nat := 0x4C000 + 0x4 * s
-- 10_gate_links.md
/-- GL_CTL (R216). -/
def A.GL_CTL (n : Nat) : Nat := 0x50000 + 0x1000 * n
/-- GL_STAT (R216). -/
def A.GL_STAT (n : Nat) : Nat := 0x50004 + 0x1000 * n
/-- GL_EVT (R216). -/
def A.GL_EVT (n : Nat) : Nat := 0x50008 + 0x1000 * n
/-- GL_TRIP (R216). -/
def A.GL_TRIP (n : Nat) : Nat := 0x5000C + 0x1000 * n
/-- GL_ID (R216). -/
def A.GL_ID (n : Nat) : Nat := 0x50010 + 0x1000 * n
/-- GL_IDT (R216). -/
def A.GL_IDT (n : Nat) : Nat := 0x50014 + 0x1000 * n
/-- GL_DLINK (R216). -/
def A.GL_DLINK (n : Nat) : Nat := 0x50018 + 0x1000 * n
/-- GL_PSTAT (R216). -/
def A.GL_PSTAT (n : Nat) : Nat := 0x5001C + 0x1000 * n
/-- GL_PMON (R216). -/
def A.GL_PMON (n : Nat) : Nat := 0x50020 + 0x1000 * n
/-- GL_CNT (R216). -/
def A.GL_CNT (n : Nat) : Nat := 0x50024 + 0x1000 * n
/-- GL_CFG (R216). -/
def A.GL_CFG (n : Nat) : Nat := 0x50030 + 0x1000 * n
/-- GL_XTH (R216). -/
def A.GL_XTH (n : Nat) : Nat := 0x50034 + 0x1000 * n
/-- GL_ALOOP (R216). -/
def A.GL_ALOOP (n : Nat) : Nat := 0x50040 + 0x1000 * n
/-- GL_ALOOP2 (R216). -/
def A.GL_ALOOP2 (n : Nat) : Nat := 0x50044 + 0x1000 * n
/-- GL_DESAT (R216). -/
def A.GL_DESAT (n : Nat) (i : Nat) : Nat := 0x50038 + 0x1000 * n + 0x4 * i
/-- GL_SWD (R217). -/
def A.GL_SWD (n : Nat) (s : Nat) : Nat := 0x50100 + 0x1000 * n + 0x20 * s
/-- GL_DRV (R217). -/
def A.GL_DRV (n : Nat) (s : Nat) : Nat := 0x50104 + 0x1000 * n + 0x20 * s
/-- GL_ABND0 (R217). -/
def A.GL_ABND0 (n : Nat) (s : Nat) : Nat := 0x50108 + 0x1000 * n + 0x20 * s
/-- GL_ABND1 (R217). -/
def A.GL_ABND1 (n : Nat) (s : Nat) : Nat := 0x5010C + 0x1000 * n + 0x20 * s
/-- GL_AST (R217). -/
def A.GL_AST (n : Nat) (s : Nat) (b : Nat) : Nat := 0x50110 + 0x1000 * n + 0x20 * s + 0x4 * b
-- 12_grid_interfaces.md
/-- GRD_CTL (R256). -/
def A.GRD_CTL (g : Nat) : Nat := 0x70000 + 0x100 * g
/-- GRD_SRC (R256). -/
def A.GRD_SRC (g : Nat) : Nat := 0x70004 + 0x100 * g
/-- GRD_NOM (R256). -/
def A.GRD_NOM (g : Nat) : Nat := 0x70008 + 0x100 * g
/-- GRD_UNOM (R256). -/
def A.GRD_UNOM (g : Nat) : Nat := 0x7000C + 0x100 * g
/-- GRD_CFG (R256). -/
def A.GRD_CFG (g : Nat) : Nat := 0x70010 + 0x100 * g
/-- GRD_SYNC0 (R256). -/
def A.GRD_SYNC0 (g : Nat) : Nat := 0x70014 + 0x100 * g
/-- GRD_SYNC1 (R256). -/
def A.GRD_SYNC1 (g : Nat) : Nat := 0x70018 + 0x100 * g
/-- GRD_SYNC2 (R256). -/
def A.GRD_SYNC2 (g : Nat) : Nat := 0x7001C + 0x100 * g
/-- GRD_STAT (R256). -/
def A.GRD_STAT (g : Nat) : Nat := 0x70020 + 0x100 * g
/-- GRD_EVT (R260). -/
def A.GRD_EVT (g : Nat) : Nat := 0x70024 + 0x100 * g
/-- GRD_THETA (R256). -/
def A.GRD_THETA (g : Nat) : Nat := 0x70028 + 0x100 * g
/-- GRD_FREQ (R256). -/
def A.GRD_FREQ (g : Nat) : Nat := 0x7002C + 0x100 * g
/-- GRD_ROCOF (R256). -/
def A.GRD_ROCOF (g : Nat) : Nat := 0x70030 + 0x100 * g
/-- GRD_UPN (R256). -/
def A.GRD_UPN (g : Nat) : Nat := 0x70034 + 0x100 * g
/-- GRD_UMEAS (R256). -/
def A.GRD_UMEAS (g : Nat) : Nat := 0x70038 + 0x100 * g
/-- GRD_DIFF (R256). -/
def A.GRD_DIFF (g : Nat) : Nat := 0x7003C + 0x100 * g
/-- GRD_RTCNT (R256). -/
def A.GRD_RTCNT (g : Nat) : Nat := 0x70040 + 0x100 * g
/-- GRD_TRIP (R256). -/
def A.GRD_TRIP (g : Nat) : Nat := 0x70044 + 0x100 * g
/-- GRD_LV (R258). -/
def A.GRD_LV (g : Nat) (i : Nat) : Nat := 0x71000 + 0x100 * g + 0x4 * i
/-- GRD_HV (R258). -/
def A.GRD_HV (g : Nat) (i : Nat) : Nat := 0x71040 + 0x100 * g + 0x4 * i
/-- GRD_UF (R258). -/
def A.GRD_UF (g : Nat) (j : Nat) : Nat := 0x71080 + 0x100 * g + 0x4 * j
/-- GRD_OF (R258). -/
def A.GRD_OF (g : Nat) (j : Nat) : Nat := 0x71090 + 0x100 * g + 0x4 * j
/-- GRD_RTV (R258). -/
def A.GRD_RTV (g : Nat) : Nat := 0x710A0 + 0x100 * g
/-- GRD_RTH (R258). -/
def A.GRD_RTH (g : Nat) : Nat := 0x710A4 + 0x100 * g
/-- GRD_RTQ (R258). -/
def A.GRD_RTQ (g : Nat) : Nat := 0x710A8 + 0x100 * g
/-- GRD_FCONT (R258). -/
def A.GRD_FCONT (g : Nat) : Nat := 0x710AC + 0x100 * g
-- 14_islanding.md
/-- ISL_CTL (R283). -/
def A.ISL_CTL (g : Nat) : Nat := 0x78000 + 0x100 * g
/-- ISL_ISRC (R283). -/
def A.ISL_ISRC (g : Nat) : Nat := 0x78004 + 0x100 * g
/-- ISL_INJ (R283). -/
def A.ISL_INJ (g : Nat) : Nat := 0x78008 + 0x100 * g
/-- ISL_CORR (R283). -/
def A.ISL_CORR (g : Nat) : Nat := 0x7800C + 0x100 * g
/-- ISL_COH (R283). -/
def A.ISL_COH (g : Nat) : Nat := 0x78010 + 0x100 * g
/-- ISL_ROCOF (R283). -/
def A.ISL_ROCOF (g : Nat) : Nat := 0x78014 + 0x100 * g
/-- ISL_VS (R283). -/
def A.ISL_VS (g : Nat) : Nat := 0x78018 + 0x100 * g
/-- ISL_VF (R283). -/
def A.ISL_VF (g : Nat) : Nat := 0x7801C + 0x100 * g
/-- ISL_STAT (R283). -/
def A.ISL_STAT (g : Nat) : Nat := 0x78020 + 0x100 * g
/-- ISL_Z (R283). -/
def A.ISL_Z (g : Nat) : Nat := 0x78024 + 0x100 * g
/-- ISL_EVT (R283). -/
def A.ISL_EVT (g : Nat) : Nat := 0x78028 + 0x100 * g
/-- ISL_TRIP (R283). -/
def A.ISL_TRIP (g : Nat) : Nat := 0x7802C + 0x100 * g
/-- ISL_RECON (R283). -/
def A.ISL_RECON (g : Nat) : Nat := 0x78030 + 0x100 * g
/-- ISL_CNT (R283). -/
def A.ISL_CNT (g : Nat) : Nat := 0x78034 + 0x100 * g
/-- ISL_KCFG (R284). -/
def A.ISL_KCFG : Nat := 0x78400
/-- ISL_KCTL (R284). -/
def A.ISL_KCTL : Nat := 0x78404
/-- ISL_KSTAT (R284). -/
def A.ISL_KSTAT : Nat := 0x78408
-- 15_metering.md
/-- MTR_CTL (R304). -/
def A.MTR_CTL (m : Nat) : Nat := 0x80000 + 0x200 * m
/-- MTR_SRC_V (R304). -/
def A.MTR_SRC_V (m : Nat) : Nat := 0x80004 + 0x200 * m
/-- MTR_SRC_I (R304). -/
def A.MTR_SRC_I (m : Nat) : Nat := 0x80008 + 0x200 * m
/-- MTR_CFG (R304). -/
def A.MTR_CFG (m : Nat) : Nat := 0x8000C + 0x200 * m
/-- MTR_NOM (R304). -/
def A.MTR_NOM (m : Nat) : Nat := 0x80010 + 0x200 * m
/-- MTR_IRATED (R304). -/
def A.MTR_IRATED (m : Nat) : Nat := 0x80014 + 0x200 * m
/-- MTR_CREEP (R304). -/
def A.MTR_CREEP (m : Nat) : Nat := 0x80018 + 0x200 * m
/-- MTR_PQ0 (R304). -/
def A.MTR_PQ0 (m : Nat) : Nat := 0x8001C + 0x200 * m
/-- MTR_PQ1 (R304). -/
def A.MTR_PQ1 (m : Nat) : Nat := 0x80020 + 0x200 * m
/-- MTR_STAT (R304). -/
def A.MTR_STAT (m : Nat) : Nat := 0x80024 + 0x200 * m
/-- MTR_FREQ (R304). -/
def A.MTR_FREQ (m : Nat) : Nat := 0x80080 + 0x200 * m
/-- MTR_ANG0 (R304). -/
def A.MTR_ANG0 (m : Nat) : Nat := 0x80084 + 0x200 * m
/-- MTR_ANG1 (R304). -/
def A.MTR_ANG1 (m : Nat) : Nat := 0x80088 + 0x200 * m
/-- MTR_ANG2 (R304). -/
def A.MTR_ANG2 (m : Nat) : Nat := 0x8008C + 0x200 * m
/-- MTR_LSEQ (R304). -/
def A.MTR_LSEQ (m : Nat) : Nat := 0x80090 + 0x200 * m
/-- MTR_PQSTAT (R304). -/
def A.MTR_PQSTAT (m : Nat) : Nat := 0x800D0 + 0x200 * m
/-- MTR_VRMS (R304). -/
def A.MTR_VRMS (m : Nat) (x : Nat) : Nat := 0x80028 + 0x200 * m + 0x4 * x
/-- MTR_IRMS (R304). -/
def A.MTR_IRMS (m : Nat) (x : Nat) : Nat := 0x80034 + 0x200 * m + 0x4 * x
/-- MTR_P (R304). -/
def A.MTR_P (m : Nat) (x : Nat) : Nat := 0x80040 + 0x200 * m + 0x4 * x
/-- MTR_Q (R304). -/
def A.MTR_Q (m : Nat) (x : Nat) : Nat := 0x8004C + 0x200 * m + 0x4 * x
/-- MTR_S (R304). -/
def A.MTR_S (m : Nat) (x : Nat) : Nat := 0x80058 + 0x200 * m + 0x4 * x
/-- MTR_PF (R304). -/
def A.MTR_PF (m : Nat) (x : Nat) : Nat := 0x80064 + 0x200 * m + 0x4 * x
/-- MTR_PT (R304). -/
def A.MTR_PT (m : Nat) : Nat := 0x80070 + 0x200 * m
/-- MTR_QT (R304). -/
def A.MTR_QT (m : Nat) : Nat := 0x80074 + 0x200 * m
/-- MTR_ST (R304). -/
def A.MTR_ST (m : Nat) : Nat := 0x80078 + 0x200 * m
/-- MTR_PFT (R304). -/
def A.MTR_PFT (m : Nat) : Nat := 0x8007C + 0x200 * m
/-- MTR_E_LO (R304). -/
def A.MTR_E_LO (m : Nat) (r : Nat) : Nat := 0x800A0 + 0x200 * m + 0x8 * r
/-- MTR_E_HI (R304). -/
def A.MTR_E_HI (m : Nat) (r : Nat) : Nat := 0x800A4 + 0x200 * m + 0x8 * r
/-- MTR_EVT (R305). -/
def A.MTR_EVT : Nat := 0x80800
/-- MTR_SAVE (R305). -/
def A.MTR_SAVE : Nat := 0x80804
/-- MTR_SAVESTAT (R305). -/
def A.MTR_SAVESTAT : Nat := 0x80808
/-- MTR_SAVESEQ (R305). -/
def A.MTR_SAVESEQ : Nat := 0x8080C
/-- MTR_RESTORE (R305). -/
def A.MTR_RESTORE : Nat := 0x80810
/-- MTR_RESTORE_SEQ (R305). -/
def A.MTR_RESTORE_SEQ : Nat := 0x80814
-- 16_safety_functions.md
/-- SAF_CTL (R326). -/
def A.SAF_CTL : Nat := 0x90000
/-- SAF_STAT (R326). -/
def A.SAF_STAT : Nat := 0x90004
/-- SAF_EVT (R326). -/
def A.SAF_EVT : Nat := 0x90008
/-- SAF_TP (R326). -/
def A.SAF_TP : Nat := 0x9000C
/-- SAF_TGCTL (R326). -/
def A.SAF_TGCTL : Nat := 0x90010
/-- SAF_TGID (R326). -/
def A.SAF_TGID : Nat := 0x90014
/-- SAF_TGKEY (R326). -/
def A.SAF_TGKEY : Nat := 0x90018
/-- SAF_TGWD (R326). -/
def A.SAF_TGWD : Nat := 0x90020
/-- SAF_TGSTAT (R326). -/
def A.SAF_TGSTAT : Nat := 0x90024
/-- SAF_TGCNT (R326). -/
def A.SAF_TGCNT : Nat := 0x90028
/-- SAF_PCFG (R327). -/
def A.SAF_PCFG (p : Nat) : Nat := 0x90100 + 0x10 * p
/-- SAF_PSTAT (R327). -/
def A.SAF_PSTAT (p : Nat) : Nat := 0x90104 + 0x10 * p
-- 17_fault_collector.md
/-- FLT_CTL (R342). -/
def A.FLT_CTL : Nat := 0x10000
/-- FLT_STAT (R342). -/
def A.FLT_STAT : Nat := 0x10004
/-- FLT_FIRST (R342). -/
def A.FLT_FIRST : Nat := 0x10008
/-- FLT_FIRST_ARG (R342). -/
def A.FLT_FIRST_ARG : Nat := 0x1000C
/-- FLT_FIRST_TS_LO (R342). -/
def A.FLT_FIRST_TS_LO : Nat := 0x10010
/-- FLT_FIRST_TS_HI (R342). -/
def A.FLT_FIRST_TS_HI : Nat := 0x10014
/-- FLT_OVF (R342). -/
def A.FLT_OVF : Nat := 0x10018
/-- FLT_HOLD_T (R342). -/
def A.FLT_HOLD_T : Nat := 0x1001C
/-- FLT_QUIET_T (R342). -/
def A.FLT_QUIET_T : Nat := 0x10020
/-- FLT_RECOV_CNT (R342). -/
def A.FLT_RECOV_CNT : Nat := 0x10024
/-- FLT_RECOV_LIM (R342). -/
def A.FLT_RECOV_LIM : Nat := 0x10028
/-- FLT_CLAST (R342). -/
def A.FLT_CLAST : Nat := 0x1002C
/-- FLT_EVT (R342). -/
def A.FLT_EVT : Nat := 0x10040
/-- FLT_BLOCK (R342). -/
def A.FLT_BLOCK : Nat := 0x10044
/-- FLT_SEEN (R342). -/
def A.FLT_SEEN (i : Nat) : Nat := 0x10030 + 0x4 * i
-- 23_events_and_address_map.md
/-- SYS_ID (R441). -/
def A.SYS_ID : Nat := 0x0
/-- SYS_VER (R441). -/
def A.SYS_VER : Nat := 0x4
-- 18_modes_and_start_up.md
/-- SYS_MODE (R359). -/
def A.SYS_MODE : Nat := 0x10
/-- SYS_MODEREQ (R359). -/
def A.SYS_MODEREQ : Nat := 0x14
/-- SYS_RSTCAUSE (R359). -/
def A.SYS_RSTCAUSE : Nat := 0x18
/-- SYS_BOOT (R359). -/
def A.SYS_BOOT : Nat := 0x1C
/-- SYS_STEST (R359). -/
def A.SYS_STEST : Nat := 0x20
-- 23_events_and_address_map.md
/-- SYS_EVT (R441). -/
def A.SYS_EVT : Nat := 0x24
/-- SYS_RTC_SEC (R441). -/
def A.SYS_RTC_SEC : Nat := 0x28
/-- SYS_RTC_SUB (R441). -/
def A.SYS_RTC_SUB : Nat := 0x2C
-- 13_source_tracking.md
/-- SYS_PCH_CFG (R270). -/
def A.SYS_PCH_CFG : Nat := 0x100
/-- SYS_PCH_THR (R270). -/
def A.SYS_PCH_THR : Nat := 0x104
/-- SYS_PCH_TIME (R270). -/
def A.SYS_PCH_TIME : Nat := 0x108
/-- SYS_PCH_STAT (R270). -/
def A.SYS_PCH_STAT : Nat := 0x10C
/-- SYS_PCH_VMEAS (R270). -/
def A.SYS_PCH_VMEAS : Nat := 0x110
-- 23_events_and_address_map.md
/-- SYS_SERIAL_LO (R441). -/
def A.SYS_SERIAL_LO : Nat := 0x8
/-- SYS_SERIAL_HI (R441). -/
def A.SYS_SERIAL_HI : Nat := 0xC
/-- SYS_EVRT (R441). -/
def A.SYS_EVRT (t : Nat) (i : Nat) : Nat := 0x200 + 0x10 * t + 0x4 * i
/-- SYS_EVPND (R441). -/
def A.SYS_EVPND (t : Nat) (i : Nat) : Nat := 0x240 + 0x10 * t + 0x4 * i
-- 19_commands_and_uhlog.md
/-- CMD_STAT (R385). -/
def A.CMD_STAT : Nat := 0xA0000
/-- CMD_EVT (R385). -/
def A.CMD_EVT : Nat := 0xA0004
/-- CMD_CNT (R385). -/
def A.CMD_CNT : Nat := 0xA0008
/-- CMD_QUOTA0 (R385). -/
def A.CMD_QUOTA0 : Nat := 0xA0010
/-- CMD_QUOTA1 (R385). -/
def A.CMD_QUOTA1 : Nat := 0xA0014
/-- CMD_AUTH0 (R385). -/
def A.CMD_AUTH0 : Nat := 0xA0040
/-- CMD_AUTH1 (R385). -/
def A.CMD_AUTH1 : Nat := 0xA0044
/-- CMD_AUTHTO (R385). -/
def A.CMD_AUTHTO : Nat := 0xA0048
/-- CMD_GRPSTAT (R385). -/
def A.CMD_GRPSTAT : Nat := 0xA004C
/-- UHL_NEXT (R385). -/
def A.UHL_NEXT : Nat := 0xA0100
/-- UHL_PCNT (R385). -/
def A.UHL_PCNT : Nat := 0xA0104
/-- UHL_STAT (R385). -/
def A.UHL_STAT : Nat := 0xA0108
/-- CMD_PORTSTAT (R385). -/
def A.CMD_PORTSTAT (p : Nat) : Nat := 0xA0020 + 0x4 * p
-- 20_ports.md
/-- PRT_EVT (R405). -/
def A.PRT_EVT : Nat := 0xC0000
/-- PRT_HSTAT (R405). -/
def A.PRT_HSTAT : Nat := 0xC0004
/-- PRT_MDIO (R405). -/
def A.PRT_MDIO : Nat := 0xC0200
/-- PRT_PCFG (R405). -/
def A.PRT_PCFG : Nat := 0xC0300
/-- PRT_PSTAT (R405). -/
def A.PRT_PSTAT : Nat := 0xC0304
/-- PRT_PHOP (R405). -/
def A.PRT_PHOP : Nat := 0xC0308
/-- PRT_GPIO (R405). -/
def A.PRT_GPIO : Nat := 0xC0400
/-- PRT_NCTL (R405). -/
def A.PRT_NCTL (i : Nat) : Nat := 0xC0100 + 0x40 * i
/-- PRT_NSTAT (R405). -/
def A.PRT_NSTAT (i : Nat) : Nat := 0xC0104 + 0x40 * i
/-- PRT_NDST_IP (R405). -/
def A.PRT_NDST_IP (i : Nat) : Nat := 0xC0108 + 0x40 * i
/-- PRT_NNOTE (R405). -/
def A.PRT_NNOTE (i : Nat) : Nat := 0xC010C + 0x40 * i
/-- PRT_NCNT (R405). -/
def A.PRT_NCNT (i : Nat) : Nat := 0xC0110 + 0x40 * i
/-- PRT_NID0 (R396). -/
def A.PRT_NID0 (i : Nat) : Nat := 0xB0C00 + 0x10 * i
/-- PRT_NID1 (R396). -/
def A.PRT_NID1 (i : Nat) : Nat := 0xB0C04 + 0x10 * i
/-- PRT_NID2 (R396). -/
def A.PRT_NID2 (i : Nat) : Nat := 0xB0C08 + 0x10 * i
/-- PRT_NID3 (R396). -/
def A.PRT_NID3 (i : Nat) : Nat := 0xB0C0C + 0x10 * i
-- 21_persistent_registers.md
/-- PRS_STAT (R417). -/
def A.PRS_STAT : Nat := 0xBF000
/-- PRS_EVT (R417). -/
def A.PRS_EVT : Nat := 0xBF004
/-- PRS_LASTREF (R417). -/
def A.PRS_LASTREF : Nat := 0xBF008
/-- PRS_PSGEN (R417). -/
def A.PRS_PSGEN : Nat := 0xBF018
/-- PRS_PSA (R417). -/
def A.PRS_PSA : Nat := 0xBF010
/-- PRS_PSB (R417). -/
def A.PRS_PSB : Nat := 0xBF014
/-- PRS_COUNTER (R417). -/
def A.PRS_COUNTER (w : Nat) : Nat := 0xB8000 + 0x4 * w
-- 22_devar_port.md
/-- DBG_STAT (R431). -/
def A.DBG_STAT : Nat := 0xD0000
/-- DBG_CTL (R431). -/
def A.DBG_CTL : Nat := 0xD0004
/-- DBG_EVT (R431). -/
def A.DBG_EVT : Nat := 0xD0008
/-- DBG_CNT (R431). -/
def A.DBG_CNT : Nat := 0xD000C
/-- DBG_SEL (R431). -/
def A.DBG_SEL : Nat := 0xD0010
/-- DBG_ECFG (R432). -/
def A.DBG_ECFG (e : Nat) : Nat := 0xD0100 + 0x40 * e
/-- DBG_ESTAT (R432). -/
def A.DBG_ESTAT (e : Nat) : Nat := 0xD0104 + 0x40 * e
/-- DBG_BP (R432). -/
def A.DBG_BP (e : Nat) (i : Nat) : Nat := 0xD0108 + 0x40 * e + 0x4 * i
/-- DBG_WP (R432). -/
def A.DBG_WP (e : Nat) (j : Nat) : Nat := 0xD0118 + 0x40 * e + 0x4 * j
/-- DBG_V (R433). -/
def A.DBG_V (i : Nat) : Nat := 0xD0400 + 0x4 * i
/-- DBG_ACC_LO (R433). -/
def A.DBG_ACC_LO (n : Nat) : Nat := 0xD0480 + 0x8 * n
/-- DBG_ACC_HI (R433). -/
def A.DBG_ACC_HI (n : Nat) : Nat := 0xD0484 + 0x8 * n
/-- DBG_PC (R433). -/
def A.DBG_PC : Nat := 0xD04A0
/-- DBG_SFW (R433). -/
def A.DBG_SFW : Nat := 0xD04A4

-- 03_clocks_and_timebase.md
def F.CLK_STAT_lock : Fld := ⟨A.CLK_STAT, 0, 1⟩
def F.CLK_STAT_acq : Fld := ⟨A.CLK_STAT, 1, 1⟩
def F.CLK_STAT_tap_hold : Fld := ⟨A.CLK_STAT, 2, 1⟩
def F.CLK_STAT_lockf_win : Fld := ⟨A.CLK_STAT, 3, 1⟩
def F.CLK_STAT_ref_ok : Fld := ⟨A.CLK_STAT, 4, 1⟩
def F.CLK_EVT_unlock : Fld := ⟨A.CLK_EVT, 0, 1⟩
def F.CLK_EVT_relock : Fld := ⟨A.CLK_EVT, 1, 1⟩
def F.CLK_EVT_synci_capt : Fld := ⟨A.CLK_EVT, 2, 1⟩
def F.CLK_EVT_synci_fault : Fld := ⟨A.CLK_EVT, 3, 1⟩
def F.CLK_REFMEAS_khz : Fld := ⟨A.CLK_REFMEAS, 0, 20⟩
def F.CLK_RELOCK_CNT_count : Fld := ⟨A.CLK_RELOCK_CNT, 0, 16⟩
def F.CLK_ETIME_LO_tap : Fld := ⟨A.CLK_ETIME_LO, 0, 5⟩
def F.CLK_ETIME_LO_cyc_lo : Fld := ⟨A.CLK_ETIME_LO, 5, 27⟩
def F.CLK_ETIME_HI_cyc_hi : Fld := ⟨A.CLK_ETIME_HI, 0, 21⟩
def F.CLK_SYNCI_CFG_en : Fld := ⟨A.CLK_SYNCI_CFG, 0, 1⟩
def F.CLK_SYNCI_CFG_fall : Fld := ⟨A.CLK_SYNCI_CFG, 1, 1⟩
def F.CLK_SYNCI_CFG_comp : Fld := ⟨A.CLK_SYNCI_CFG, 2, 6⟩
def F.CLK_SYNCI_CFG_min_gap : Fld := ⟨A.CLK_SYNCI_CFG, 8, 12⟩
def F.CLK_SYNCI_CFG_timeout : Fld := ⟨A.CLK_SYNCI_CFG, 20, 12⟩
def F.CLK_SYNCI_TS_LO_tap : Fld := ⟨A.CLK_SYNCI_TS_LO, 0, 5⟩
def F.CLK_SYNCI_TS_LO_cyc_lo : Fld := ⟨A.CLK_SYNCI_TS_LO, 5, 27⟩
def F.CLK_SYNCI_TS_HI_cyc_hi : Fld := ⟨A.CLK_SYNCI_TS_HI, 0, 21⟩
def F.CLK_SYNCI_STAT_early : Fld := ⟨A.CLK_SYNCI_STAT, 0, 16⟩
def F.CLK_SYNCI_STAT_missing : Fld := ⟨A.CLK_SYNCI_STAT, 16, 1⟩
def F.CLK_SYNCO_CFG_src : Fld := ⟨A.CLK_SYNCO_CFG, 0, 4⟩
def F.CLK_SYNCO_CFG_width : Fld := ⟨A.CLK_SYNCO_CFG, 4, 8⟩
def F.CLK_SYNCO_CFG_phase : Fld := ⟨A.CLK_SYNCO_CFG, 12, 5⟩
def F.CLK_SYNCO_DIV_div : Fld := ⟨A.CLK_SYNCO_DIV, 0, 24⟩
-- 04_lathes_and_headstock.md
def F.LTH_CTL_start_0 (n : Nat) : Fld := ⟨(A.LTH_CTL n), 0, 1⟩
def F.LTH_CTL_start_1 (n : Nat) : Fld := ⟨(A.LTH_CTL n), 1, 1⟩
def F.LTH_CTL_stop_0 (n : Nat) : Fld := ⟨(A.LTH_CTL n), 4, 1⟩
def F.LTH_CTL_stop_1 (n : Nat) : Fld := ⟨(A.LTH_CTL n), 5, 1⟩
def F.LTH_CTL_clr_0 (n : Nat) : Fld := ⟨(A.LTH_CTL n), 8, 1⟩
def F.LTH_CTL_clr_1 (n : Nat) : Fld := ⟨(A.LTH_CTL n), 9, 1⟩
def F.LTH_STAT_st_0 (n : Nat) : Fld := ⟨(A.LTH_STAT n), 0, 3⟩
def F.LTH_STAT_st_1 (n : Nat) : Fld := ⟨(A.LTH_STAT n), 4, 3⟩
def F.LTH_STAT_pend_0 (n : Nat) : Fld := ⟨(A.LTH_STAT n), 8, 1⟩
def F.LTH_STAT_pend_1 (n : Nat) : Fld := ⟨(A.LTH_STAT n), 9, 1⟩
def F.LTH_FAULT_cause (n : Nat) : Fld := ⟨(A.LTH_FAULT n), 0, 4⟩
def F.LTH_FAULT_ctx (n : Nat) : Fld := ⟨(A.LTH_FAULT n), 4, 1⟩
def F.LTH_FAULT_creg_viol (n : Nat) : Fld := ⟨(A.LTH_FAULT n), 8, 8⟩
def F.LTH_FAULT_pc (n : Nat) : Fld := ⟨(A.LTH_FAULT n), 16, 14⟩
def F.LTH_PAR_replays (n : Nat) : Fld := ⟨(A.LTH_PAR n), 0, 16⟩
def F.LTH_PAR_repairs (n : Nat) : Fld := ⟨(A.LTH_PAR n), 16, 16⟩
def F.LTH_SCRUB_en (n : Nat) : Fld := ⟨(A.LTH_SCRUB n), 0, 1⟩
def F.LTH_SCRUB_interval (n : Nat) : Fld := ⟨(A.LTH_SCRUB n), 8, 8⟩
def F.LTH_ENTRY_entry (n : Nat) (c : Nat) : Fld := ⟨(A.LTH_ENTRY n c), 0, 14⟩
def F.LTH_DWIN_base (n : Nat) (c : Nat) : Fld := ⟨(A.LTH_DWIN n c), 0, 13⟩
def F.LTH_DWIN_size (n : Nat) (c : Nat) : Fld := ⟨(A.LTH_DWIN n c), 16, 14⟩
def F.LTH_SF_sf (n : Nat) (c : Nat) : Fld := ⟨(A.LTH_SF n c), 0, 8⟩
def F.LTH_SF_RC_sf (n : Nat) (c : Nat) : Fld := ⟨(A.LTH_SF_RC n c), 0, 8⟩
def F.LTH_LOOP_en (n : Nat) (c : Nat) : Fld := ⟨(A.LTH_LOOP n c), 0, 4⟩
def F.LTH_LOOP_open (n : Nat) (c : Nat) : Fld := ⟨(A.LTH_LOOP n c), 4, 4⟩
def F.LTH_DIV_div_0 (n : Nat) (c : Nat) : Fld := ⟨(A.LTH_DIV n c), 0, 6⟩
def F.LTH_DIV_div_1 (n : Nat) (c : Nat) : Fld := ⟨(A.LTH_DIV n c), 6, 6⟩
def F.LTH_DIV_div_2 (n : Nat) (c : Nat) : Fld := ⟨(A.LTH_DIV n c), 12, 6⟩
def F.LTH_DIV_div_3 (n : Nat) (c : Nat) : Fld := ⟨(A.LTH_DIV n c), 18, 6⟩
def F.LTH_PHASE_phase_0 (n : Nat) (c : Nat) : Fld := ⟨(A.LTH_PHASE n c), 0, 6⟩
def F.LTH_PHASE_phase_1 (n : Nat) (c : Nat) : Fld := ⟨(A.LTH_PHASE n c), 6, 6⟩
def F.LTH_PHASE_phase_2 (n : Nat) (c : Nat) : Fld := ⟨(A.LTH_PHASE n c), 12, 6⟩
def F.LTH_PHASE_phase_3 (n : Nat) (c : Nat) : Fld := ⟨(A.LTH_PHASE n c), 18, 6⟩
def F.LTH_RUNMAX_slots (n : Nat) (c : Nat) : Fld := ⟨(A.LTH_RUNMAX n c), 0, 16⟩
def F.LTH_MARGIN_ref_cyc (n : Nat) (c : Nat) : Fld := ⟨(A.LTH_MARGIN n c), 0, 16⟩
def F.LTH_MARGIN_deferred (n : Nat) (c : Nat) : Fld := ⟨(A.LTH_MARGIN n c), 16, 1⟩
def F.LTH_OVR_count (n : Nat) (c : Nat) : Fld := ⟨(A.LTH_OVR n c), 0, 16⟩
def F.LTH_PC_pc (n : Nat) (c : Nat) : Fld := ⟨(A.LTH_PC n c), 0, 14⟩
-- 06_fjodjalek_control_instructions.md
def F.LTH_EVTCODE_code (n : Nat) (c : Nat) : Fld := ⟨(A.LTH_EVTCODE n c), 0, 16⟩
def F.LTH_EVTCODE_pend (n : Nat) (c : Nat) : Fld := ⟨(A.LTH_EVTCODE n c), 16, 1⟩
def F.LTH_EVTCODE_ovr (n : Nat) (c : Nat) : Fld := ⟨(A.LTH_EVTCODE n c), 17, 1⟩
-- 11_loops_and_compensation.md
def F.LTH_LSTW_ofs (n : Nat) (c : Nat) : Fld := ⟨(A.LTH_LSTW n c), 0, 13⟩
def F.LTH_LSTW_en (n : Nat) (c : Nat) : Fld := ⟨(A.LTH_LSTW n c), 16, 1⟩
-- 04_lathes_and_headstock.md
def F.LTH_CREG_base (n : Nat) (c : Nat) (j : Nat) : Fld := ⟨(A.LTH_CREG n c j), 0, 13⟩
def F.LTH_CREG_len (n : Nat) (c : Nat) (j : Nat) : Fld := ⟨(A.LTH_CREG n c j), 16, 7⟩
def F.LTH_HS_CTL_start : Fld := ⟨A.LTH_HS_CTL, 0, 1⟩
def F.LTH_HS_CTL_stop : Fld := ⟨A.LTH_HS_CTL, 1, 1⟩
def F.LTH_HS_CTL_clr : Fld := ⟨A.LTH_HS_CTL, 2, 1⟩
def F.LTH_HS_STAT_st : Fld := ⟨A.LTH_HS_STAT, 0, 3⟩
def F.LTH_HS_STAT_ev : Fld := ⟨A.LTH_HS_STAT, 8, 7⟩
def F.LTH_HS_STAT_in_handler : Fld := ⟨A.LTH_HS_STAT, 15, 1⟩
def F.LTH_HS_STAT_pc : Fld := ⟨A.LTH_HS_STAT, 16, 15⟩
def F.LTH_HS_ENTRY_entry : Fld := ⟨A.LTH_HS_ENTRY, 0, 15⟩
def F.LTH_HS_VBASE_vbase : Fld := ⟨A.LTH_HS_VBASE, 7, 8⟩
def F.LTH_HS_WDOG_limit : Fld := ⟨A.LTH_HS_WDOG, 0, 16⟩
def F.LTH_HS_SF_sf : Fld := ⟨A.LTH_HS_SF, 0, 8⟩
def F.LTH_HS_SF_RC_sf : Fld := ⟨A.LTH_HS_SF_RC, 0, 8⟩
def F.LTH_HS_FAULT_cause : Fld := ⟨A.LTH_HS_FAULT, 0, 4⟩
def F.LTH_HS_FAULT_pc : Fld := ⟨A.LTH_HS_FAULT, 16, 15⟩
def F.LTH_HS_PAR_replays : Fld := ⟨A.LTH_HS_PAR, 0, 16⟩
def F.LTH_HS_PAR_repairs : Fld := ⟨A.LTH_HS_PAR, 16, 16⟩
def F.LTH_HS_RUNMAX_slots : Fld := ⟨A.LTH_HS_RUNMAX, 0, 16⟩
def F.LTH_HS_EVEN_en (i : Nat) : Fld := ⟨(A.LTH_HS_EVEN i), 0, 32⟩
def F.LTH_HS_EVPEND_pend (i : Nat) : Fld := ⟨(A.LTH_HS_EVPEND i), 0, 32⟩
def F.LTH_HS_EVREP_rep (i : Nat) : Fld := ⟨(A.LTH_HS_EVREP i), 0, 32⟩
def F.LTH_HS_EVPRI_pri (i : Nat) : Fld := ⟨(A.LTH_HS_EVPRI i), 0, 32⟩
def F.LTH_HS_TMR_interval (i : Nat) : Fld := ⟨(A.LTH_HS_TMR i), 0, 31⟩
def F.LTH_HS_TMR_periodic (i : Nat) : Fld := ⟨(A.LTH_HS_TMR i), 31, 1⟩
-- 07_acquisition.md
def F.ADC_CTL_restart : Fld := ⟨A.ADC_CTL, 0, 4⟩
def F.ADC_CTL_cal : Fld := ⟨A.ADC_CTL, 8, 1⟩
def F.ADC_STAT_active : Fld := ⟨A.ADC_STAT, 0, 4⟩
def F.ADC_STAT_cal_ok : Fld := ⟨A.ADC_STAT, 4, 4⟩
def F.ADC_STAT_bg_lim : Fld := ⟨A.ADC_STAT, 8, 4⟩
def F.ADC_STAT_int_fail : Fld := ⟨A.ADC_STAT, 16, 4⟩
def F.ADC_EVT_frz : Fld := ⟨A.ADC_EVT, 0, 1⟩
def F.ADC_EVT_rng : Fld := ⟨A.ADC_EVT, 1, 1⟩
def F.ADC_EVT_xchk : Fld := ⟨A.ADC_EVT, 2, 1⟩
def F.ADC_EVT_int : Fld := ⟨A.ADC_EVT, 3, 1⟩
def F.ADC_ILIM_tj_max : Fld := ⟨A.ADC_ILIM, 0, 8⟩
def F.ADC_SCAN_mask (a : Nat) : Fld := ⟨(A.ADC_SCAN a), 0, 16⟩
def F.ADC_CAL_ofs_corr (a : Nat) : Fld := ⟨(A.ADC_CAL a), 0, 16⟩
def F.ADC_CAL_gain_trim (a : Nat) : Fld := ⟨(A.ADC_CAL a), 16, 16⟩
def F.ADC_WEND_dw (k : Nat) : Fld := ⟨(A.ADC_WEND k), 0, 21⟩
def F.ADC_ECFG_stg (e : Nat) : Fld := ⟨(A.ADC_ECFG e), 0, 4⟩
def F.ADC_ECFG_pd (e : Nat) : Fld := ⟨(A.ADC_ECFG e), 4, 1⟩
def F.ADC_ECFG_frz_en (e : Nat) : Fld := ⟨(A.ADC_ECFG e), 5, 1⟩
def F.ADC_ECFG_rng_en (e : Nat) : Fld := ⟨(A.ADC_ECFG e), 6, 1⟩
def F.ADC_ECFG_xchk_en (e : Nat) : Fld := ⟨(A.ADC_ECFG e), 7, 1⟩
def F.ADC_ECFG_ofs (e : Nat) : Fld := ⟨(A.ADC_ECFG e), 8, 14⟩
def F.ADC_GAIN_gain (e : Nat) : Fld := ⟨(A.ADC_GAIN e), 0, 32⟩
def F.ADC_RNG_lo (e : Nat) : Fld := ⟨(A.ADC_RNG e), 0, 14⟩
def F.ADC_RNG_hi (e : Nat) : Fld := ⟨(A.ADC_RNG e), 16, 14⟩
def F.ADC_PCHK_frz_n (e : Nat) : Fld := ⟨(A.ADC_PCHK e), 0, 16⟩
def F.ADC_PCHK_rng_n (e : Nat) : Fld := ⟨(A.ADC_PCHK e), 16, 8⟩
def F.ADC_PCHK_xchk_n (e : Nat) : Fld := ⟨(A.ADC_PCHK e), 24, 8⟩
def F.ADC_XCHK_cmp (e : Nat) : Fld := ⟨(A.ADC_XCHK e), 0, 5⟩
def F.ADC_XCHK_tol (e : Nat) : Fld := ⟨(A.ADC_XCHK e), 8, 12⟩
def F.ADC_RES_code (e : Nat) : Fld := ⟨(A.ADC_RES e), 0, 14⟩
def F.ADC_RES_clamp (e : Nat) : Fld := ⟨(A.ADC_RES e), 14, 1⟩
def F.ADC_RES_seq (e : Nat) : Fld := ⟨(A.ADC_RES e), 16, 16⟩
def F.ADC_AVG_avg (e : Nat) : Fld := ⟨(A.ADC_AVG e), 0, 32⟩
def F.ADC_AVGN_n (e : Nat) : Fld := ⟨(A.ADC_AVGN e), 0, 20⟩
def F.ADC_AVGN_wseq (e : Nat) : Fld := ⟨(A.ADC_AVGN e), 24, 8⟩
def F.ADC_WMM_min (e : Nat) : Fld := ⟨(A.ADC_WMM e), 0, 14⟩
def F.ADC_WMM_max (e : Nat) : Fld := ⟨(A.ADC_WMM e), 16, 14⟩
def F.ADC_MM_min (e : Nat) : Fld := ⟨(A.ADC_MM e), 0, 14⟩
def F.ADC_MM_max (e : Nat) : Fld := ⟨(A.ADC_MM e), 16, 14⟩
def F.ADC_PLST_frz (e : Nat) : Fld := ⟨(A.ADC_PLST e), 0, 1⟩
def F.ADC_PLST_rng (e : Nat) : Fld := ⟨(A.ADC_PLST e), 1, 1⟩
def F.ADC_PLST_xchk (e : Nat) : Fld := ⟨(A.ADC_PLST e), 2, 1⟩
def F.ADC_PLST_frz_now (e : Nat) : Fld := ⟨(A.ADC_PLST e), 3, 1⟩
def F.ADC_PLST_rng_now (e : Nat) : Fld := ⟨(A.ADC_PLST e), 4, 1⟩
def F.ADC_PLST_xchk_now (e : Nat) : Fld := ⟨(A.ADC_PLST e), 5, 1⟩
def F.ADC_PLST_mm_clr (e : Nat) : Fld := ⟨(A.ADC_PLST e), 8, 1⟩
-- 08_window_comparators.md
def F.CMP_EVT_trip : Fld := ⟨A.CMP_EVT, 0, 24⟩
def F.CMP_LIVE_out : Fld := ⟨A.CMP_LIVE, 0, 24⟩
def F.CMP_CFG_en (c : Nat) : Fld := ⟨(A.CMP_CFG c), 0, 1⟩
def F.CMP_CFG_lo_en (c : Nat) : Fld := ⟨(A.CMP_CFG c), 1, 1⟩
def F.CMP_CFG_hi_en (c : Nat) : Fld := ⟨(A.CMP_CFG c), 2, 1⟩
def F.CMP_CFG_src (c : Nat) : Fld := ⟨(A.CMP_CFG c), 4, 7⟩
def F.CMP_CFG_stg (c : Nat) : Fld := ⟨(A.CMP_CFG c), 16, 4⟩
def F.CMP_THR_lo (c : Nat) : Fld := ⟨(A.CMP_THR c), 0, 10⟩
def F.CMP_THR_hi (c : Nat) : Fld := ⟨(A.CMP_THR c), 16, 10⟩
def F.CMP_STAT_out (c : Nat) : Fld := ⟨(A.CMP_STAT c), 0, 1⟩
def F.CMP_STAT_armed (c : Nat) : Fld := ⟨(A.CMP_STAT c), 1, 1⟩
def F.CMP_STAT_trip (c : Nat) : Fld := ⟨(A.CMP_STAT c), 2, 1⟩
def F.CMP_STAT_side (c : Nat) : Fld := ⟨(A.CMP_STAT c), 3, 1⟩
def F.CMP_STAT_cnt (c : Nat) : Fld := ⟨(A.CMP_STAT c), 16, 16⟩
-- 09_edge_scheduler.md
def F.STG_CTL_tb (k : Nat) : Fld := ⟨(A.STG_CTL k), 0, 1⟩
def F.STG_CTL_run (k : Nat) : Fld := ⟨(A.STG_CTL k), 1, 1⟩
def F.STG_CTL_clr (k : Nat) : Fld := ⟨(A.STG_CTL k), 4, 1⟩
def F.STG_STAT_st (k : Nat) : Fld := ⟨(A.STG_STAT k), 0, 3⟩
def F.STG_STAT_streaming (k : Nat) : Fld := ⟨(A.STG_STAT k), 4, 1⟩
def F.STG_STAT_sync_lock (k : Nat) : Fld := ⟨(A.STG_STAT k), 5, 1⟩
def F.STG_STAT_plan_rep (k : Nat) : Fld := ⟨(A.STG_STAT k), 6, 1⟩
def F.STG_PER_per (k : Nat) : Fld := ⟨(A.STG_PER k), 0, 26⟩
def F.STG_PER_NEXT_per (k : Nat) : Fld := ⟨(A.STG_PER_NEXT k), 0, 26⟩
def F.STG_SYNC_src (k : Nat) : Fld := ⟨(A.STG_SYNC k), 0, 2⟩
def F.STG_SYNC_slew (k : Nat) : Fld := ⟨(A.STG_SYNC k), 4, 8⟩
def F.STG_SYNC_phase (k : Nat) : Fld := ⟨(A.STG_SYNC k), 16, 16⟩
def F.STG_TMIN_tmin (k : Nat) : Fld := ⟨(A.STG_TMIN k), 0, 13⟩
def F.STG_TMIN_carry (k : Nat) : Fld := ⟨(A.STG_TMIN k), 16, 1⟩
def F.STG_PSTART_LO_tap (k : Nat) : Fld := ⟨(A.STG_PSTART_LO k), 0, 5⟩
def F.STG_PSTART_LO_cyc_lo (k : Nat) : Fld := ⟨(A.STG_PSTART_LO k), 5, 27⟩
def F.STG_PSTART_HI_cyc_hi (k : Nat) : Fld := ⟨(A.STG_PSTART_HI k), 0, 21⟩
def F.STG_REG_en (k : Nat) : Fld := ⟨(A.STG_REG k), 0, 1⟩
def F.STG_REG_ss (k : Nat) : Fld := ⟨(A.STG_REG k), 1, 1⟩
def F.STG_REG_lim_en (k : Nat) : Fld := ⟨(A.STG_REG k), 2, 1⟩
def F.STG_REG_ovs_en (k : Nat) : Fld := ⟨(A.STG_REG k), 3, 1⟩
def F.STG_REG_main0 (k : Nat) : Fld := ⟨(A.STG_REG k), 8, 7⟩
def F.STG_REG_main1 (k : Nat) : Fld := ⟨(A.STG_REG k), 16, 7⟩
def F.STG_REGCMP_lim_cmp (k : Nat) : Fld := ⟨(A.STG_REGCMP k), 0, 5⟩
def F.STG_REGCMP_ss_cmp (k : Nat) : Fld := ⟨(A.STG_REGCMP k), 8, 5⟩
def F.STG_REGCMP_ovs_cmp (k : Nat) : Fld := ⟨(A.STG_REGCMP k), 16, 5⟩
def F.STG_REGCMP_blank (k : Nat) : Fld := ⟨(A.STG_REGCMP k), 24, 8⟩
def F.STG_HIC_n (k : Nat) : Fld := ⟨(A.STG_HIC k), 0, 6⟩
def F.STG_HIC_m (k : Nat) : Fld := ⟨(A.STG_HIC k), 8, 4⟩
def F.STG_HIC_t_hic (k : Nat) : Fld := ⟨(A.STG_HIC k), 16, 16⟩
def F.STG_REGSTAT_lim_cnt (k : Nat) : Fld := ⟨(A.STG_REGSTAT k), 0, 6⟩
def F.STG_REGSTAT_retries (k : Nat) : Fld := ⟨(A.STG_REGSTAT k), 8, 4⟩
def F.STG_REGSTAT_trunc (k : Nat) : Fld := ⟨(A.STG_REGSTAT k), 16, 16⟩
def F.STG_EVT_late_plan (k : Nat) : Fld := ⟨(A.STG_EVT k), 0, 1⟩
def F.STG_EVT_rep_fail (k : Nat) : Fld := ⟨(A.STG_EVT k), 1, 1⟩
def F.STG_EVT_ilk_drop (k : Nat) : Fld := ⟨(A.STG_EVT k), 2, 1⟩
def F.STG_EVT_hiccup (k : Nat) : Fld := ⟨(A.STG_EVT k), 3, 1⟩
def F.STG_EVT_hic_fault (k : Nat) : Fld := ⟨(A.STG_EVT k), 4, 1⟩
def F.STG_EVT_imm_late (k : Nat) : Fld := ⟨(A.STG_EVT k), 5, 1⟩
def F.STG_EVT_sync_miss (k : Nat) : Fld := ⟨(A.STG_EVT k), 6, 1⟩
def F.STG_EVT_lim (k : Nat) : Fld := ⟨(A.STG_EVT k), 7, 1⟩
def F.STG_EVT_ovs (k : Nat) : Fld := ⟨(A.STG_EVT k), 8, 1⟩
def F.STG_PLAN_DEFER_count (k : Nat) : Fld := ⟨(A.STG_PLAN_DEFER k), 0, 16⟩
def F.STG_LATE_PLAN_count (k : Nat) : Fld := ⟨(A.STG_LATE_PLAN k), 0, 16⟩
def F.STG_DROP_ilk (k : Nat) : Fld := ⟨(A.STG_DROP k), 0, 16⟩
def F.STG_DROP_tmin (k : Nat) : Fld := ⟨(A.STG_DROP k), 16, 16⟩
-- 11_loops_and_compensation.md
def F.STG_BAND0_e1 (k : Nat) : Fld := ⟨(A.STG_BAND0 k), 0, 16⟩
def F.STG_BAND0_e2 (k : Nat) : Fld := ⟨(A.STG_BAND0 k), 16, 16⟩
def F.STG_BAND1_e3 (k : Nat) : Fld := ⟨(A.STG_BAND1 k), 0, 16⟩
def F.STG_REACH_r0 (k : Nat) : Fld := ⟨(A.STG_REACH k), 0, 8⟩
def F.STG_REACH_r1 (k : Nat) : Fld := ⟨(A.STG_REACH k), 8, 8⟩
def F.STG_REACH_r2 (k : Nat) : Fld := ⟨(A.STG_REACH k), 16, 8⟩
def F.STG_REACH_r3 (k : Nat) : Fld := ⟨(A.STG_REACH k), 24, 8⟩
def F.STG_TBLCTL_learn (k : Nat) : Fld := ⟨(A.STG_TBLCTL k), 0, 1⟩
def F.STG_TBLCTL_nmin (k : Nat) : Fld := ⟨(A.STG_TBLCTL k), 4, 3⟩
def F.STG_TBLCTL_clr_band (k : Nat) : Fld := ⟨(A.STG_TBLCTL k), 8, 4⟩
def F.STG_TBLCTL_sclr (k : Nat) : Fld := ⟨(A.STG_TBLCTL k), 12, 1⟩
def F.STG_TBLSTAT_untr (k : Nat) : Fld := ⟨(A.STG_TBLSTAT k), 0, 16⟩
def F.STG_TBLSTAT_skip (k : Nat) : Fld := ⟨(A.STG_TBLSTAT k), 16, 16⟩
def F.STG_TBLTRN0_b0 (k : Nat) : Fld := ⟨(A.STG_TBLTRN0 k), 0, 11⟩
def F.STG_TBLTRN0_b1 (k : Nat) : Fld := ⟨(A.STG_TBLTRN0 k), 16, 11⟩
def F.STG_TBLTRN1_b2 (k : Nat) : Fld := ⟨(A.STG_TBLTRN1 k), 0, 11⟩
def F.STG_TBLTRN1_b3 (k : Nat) : Fld := ⟨(A.STG_TBLTRN1 k), 16, 11⟩
-- 09_edge_scheduler.md
def F.STG_MAP_sw (k : Nat) (i : Nat) : Fld := ⟨(A.STG_MAP k i), 0, 32⟩
def F.STG_MASK_en (k : Nat) (i : Nat) : Fld := ⟨(A.STG_MASK k i), 0, 32⟩
def F.STG_MASKEFF_en (k : Nat) (i : Nat) : Fld := ⟨(A.STG_MASKEFF k i), 0, 32⟩
def F.STG_MEV_cmp (k : Nat) (j : Nat) : Fld := ⟨(A.STG_MEV k j), 0, 5⟩
def F.STG_MEV_en (k : Nat) (j : Nat) : Fld := ⟨(A.STG_MEV k j), 8, 1⟩
def F.STG_MEVA_set (k : Nat) (i : Nat) : Fld := ⟨(A.STG_MEVA k i), 0, 32⟩
def F.STG_MEVB_set (k : Nat) (i : Nat) : Fld := ⟨(A.STG_MEVB k i), 0, 32⟩
def F.STG_SWCFG_partner (s : Nat) : Fld := ⟨(A.STG_SWCFG s), 0, 7⟩
def F.STG_SWCFG_dt (s : Nat) : Fld := ⟨(A.STG_SWCFG s), 16, 16⟩
-- 10_gate_links.md
def F.GL_CTL_en (n : Nat) : Fld := ⟨(A.GL_CTL n), 0, 1⟩
def F.GL_CTL_enseq (n : Nat) : Fld := ⟨(A.GL_CTL n), 1, 1⟩
def F.GL_STAT_st (n : Nat) : Fld := ⟨(A.GL_STAT n), 0, 2⟩
def F.GL_STAT_rx_lock (n : Nat) : Fld := ⟨(A.GL_STAT n), 3, 1⟩
def F.GL_STAT_pod_en (n : Nat) : Fld := ⟨(A.GL_STAT n), 4, 1⟩
def F.GL_STAT_id_ok (n : Nat) : Fld := ⟨(A.GL_STAT n), 5, 1⟩
def F.GL_STAT_en_fail (n : Nat) : Fld := ⟨(A.GL_STAT n), 6, 1⟩
def F.GL_STAT_force (n : Nat) : Fld := ⟨(A.GL_STAT n), 7, 1⟩
def F.GL_STAT_sc_latch (n : Nat) : Fld := ⟨(A.GL_STAT n), 8, 1⟩
def F.GL_EVT_trip (n : Nat) : Fld := ⟨(A.GL_EVT n), 0, 1⟩
def F.GL_EVT_silence (n : Nat) : Fld := ⟨(A.GL_EVT n), 1, 1⟩
def F.GL_EVT_pod_fault (n : Nat) : Fld := ⟨(A.GL_EVT n), 2, 1⟩
def F.GL_EVT_ovt_warn (n : Nat) : Fld := ⟨(A.GL_EVT n), 3, 1⟩
def F.GL_EVT_nak (n : Nat) : Fld := ⟨(A.GL_EVT n), 4, 1⟩
def F.GL_EVT_en_fail (n : Nat) : Fld := ⟨(A.GL_EVT n), 5, 1⟩
def F.GL_TRIP_didt (n : Nat) : Fld := ⟨(A.GL_TRIP n), 0, 8⟩
def F.GL_TRIP_desat (n : Nat) : Fld := ⟨(A.GL_TRIP n), 8, 8⟩
def F.GL_TRIP_unk (n : Nat) : Fld := ⟨(A.GL_TRIP n), 16, 8⟩
def F.GL_ID_rev (n : Nat) : Fld := ⟨(A.GL_ID n), 0, 8⟩
def F.GL_ID_t_pod (n : Nat) : Fld := ⟨(A.GL_ID n), 8, 8⟩
def F.GL_ID_fitted (n : Nat) : Fld := ⟨(A.GL_ID n), 16, 8⟩
def F.GL_ID_desat_cap (n : Nat) : Fld := ⟨(A.GL_ID n), 24, 8⟩
def F.GL_IDT_type (n : Nat) : Fld := ⟨(A.GL_IDT n), 0, 16⟩
def F.GL_DLINK_dlink (n : Nat) : Fld := ⟨(A.GL_DLINK n), 0, 16⟩
def F.GL_PSTAT_states (n : Nat) : Fld := ⟨(A.GL_PSTAT n), 0, 8⟩
def F.GL_PSTAT_flags (n : Nat) : Fld := ⟨(A.GL_PSTAT n), 8, 8⟩
def F.GL_PSTAT_count (n : Nat) : Fld := ⟨(A.GL_PSTAT n), 16, 16⟩
def F.GL_PMON_temp (n : Nat) : Fld := ⟨(A.GL_PMON n), 0, 8⟩
def F.GL_PMON_vpos (n : Nat) : Fld := ⟨(A.GL_PMON n), 8, 8⟩
def F.GL_PMON_vneg (n : Nat) : Fld := ⟨(A.GL_PMON n), 16, 8⟩
def F.GL_PMON_vlog (n : Nat) : Fld := ⟨(A.GL_PMON n), 24, 8⟩
def F.GL_CNT_crc_up (n : Nat) : Fld := ⟨(A.GL_CNT n), 0, 16⟩
def F.GL_CNT_xdrop (n : Nat) : Fld := ⟨(A.GL_CNT n), 16, 16⟩
def F.GL_CFG_ilk (n : Nat) : Fld := ⟨(A.GL_CFG n), 0, 16⟩
def F.GL_CFG_softoff (n : Nat) : Fld := ⟨(A.GL_CFG n), 16, 4⟩
def F.GL_XTH_th1 (n : Nat) : Fld := ⟨(A.GL_XTH n), 0, 8⟩
def F.GL_XTH_th2 (n : Nat) : Fld := ⟨(A.GL_XTH n), 8, 8⟩
def F.GL_ALOOP_dv_en (n : Nat) : Fld := ⟨(A.GL_ALOOP n), 0, 8⟩
def F.GL_ALOOP_dt_en (n : Nat) : Fld := ⟨(A.GL_ALOOP n), 8, 8⟩
def F.GL_ALOOP_navg (n : Nat) : Fld := ⟨(A.GL_ALOOP n), 16, 4⟩
def F.GL_ALOOP_dt_step (n : Nat) : Fld := ⟨(A.GL_ALOOP n), 24, 8⟩
def F.GL_ALOOP2_margin (n : Nat) : Fld := ⟨(A.GL_ALOOP2 n), 0, 16⟩
def F.GL_ALOOP2_tol (n : Nat) : Fld := ⟨(A.GL_ALOOP2 n), 16, 8⟩
def F.GL_DESAT_sw (n : Nat) (i : Nat) : Fld := ⟨(A.GL_DESAT n i), 0, 3⟩
def F.GL_DESAT_en (n : Nat) (i : Nat) : Fld := ⟨(A.GL_DESAT n i), 3, 1⟩
def F.GL_DESAT_blank (n : Nat) (i : Nat) : Fld := ⟨(A.GL_DESAT n i), 8, 8⟩
def F.GL_DESAT_thr (n : Nat) (i : Nat) : Fld := ⟨(A.GL_DESAT n i), 16, 8⟩
def F.GL_SWD_didt (n : Nat) (s : Nat) : Fld := ⟨(A.GL_SWD n s), 0, 8⟩
def F.GL_SWD_cur (n : Nat) (s : Nat) : Fld := ⟨(A.GL_SWD n s), 8, 6⟩
def F.GL_SWD_cur_v (n : Nat) (s : Nat) : Fld := ⟨(A.GL_SWD n s), 15, 1⟩
def F.GL_DRV_on_s1 (n : Nat) (s : Nat) : Fld := ⟨(A.GL_DRV n s), 0, 4⟩
def F.GL_DRV_on_s2 (n : Nat) (s : Nat) : Fld := ⟨(A.GL_DRV n s), 4, 4⟩
def F.GL_DRV_on_dly (n : Nat) (s : Nat) : Fld := ⟨(A.GL_DRV n s), 8, 8⟩
def F.GL_DRV_off_s1 (n : Nat) (s : Nat) : Fld := ⟨(A.GL_DRV n s), 16, 4⟩
def F.GL_DRV_off_s2 (n : Nat) (s : Nat) : Fld := ⟨(A.GL_DRV n s), 20, 4⟩
def F.GL_DRV_off_dly (n : Nat) (s : Nat) : Fld := ⟨(A.GL_DRV n s), 24, 8⟩
def F.GL_ABND0_dt_min (n : Nat) (s : Nat) : Fld := ⟨(A.GL_ABND0 n s), 0, 16⟩
def F.GL_ABND0_dt_max (n : Nat) (s : Nat) : Fld := ⟨(A.GL_ABND0 n s), 16, 16⟩
def F.GL_ABND1_src_min (n : Nat) (s : Nat) : Fld := ⟨(A.GL_ABND1 n s), 0, 4⟩
def F.GL_ABND1_src_max (n : Nat) (s : Nat) : Fld := ⟨(A.GL_ABND1 n s), 4, 4⟩
def F.GL_ABND1_snk_min (n : Nat) (s : Nat) : Fld := ⟨(A.GL_ABND1 n s), 8, 4⟩
def F.GL_ABND1_snk_max (n : Nat) (s : Nat) : Fld := ⟨(A.GL_ABND1 n s), 12, 4⟩
def F.GL_ABND1_on_tgt (n : Nat) (s : Nat) : Fld := ⟨(A.GL_ABND1 n s), 16, 8⟩
def F.GL_ABND1_off_tgt (n : Nat) (s : Nat) : Fld := ⟨(A.GL_ABND1 n s), 24, 8⟩
def F.GL_AST_on_s2 (n : Nat) (s : Nat) (b : Nat) : Fld := ⟨(A.GL_AST n s b), 0, 4⟩
def F.GL_AST_off_s2 (n : Nat) (s : Nat) (b : Nat) : Fld := ⟨(A.GL_AST n s b), 4, 4⟩
def F.GL_AST_dt (n : Nat) (s : Nat) (b : Nat) : Fld := ⟨(A.GL_AST n s b), 16, 16⟩
-- 12_grid_interfaces.md
def F.GRD_CTL_en (g : Nat) : Fld := ⟨(A.GRD_CTL g), 0, 1⟩
def F.GRD_CTL_rt_en (g : Nat) : Fld := ⟨(A.GRD_CTL g), 1, 1⟩
def F.GRD_CTL_trip_en (g : Nat) : Fld := ⟨(A.GRD_CTL g), 2, 1⟩
def F.GRD_CTL_tclr (g : Nat) : Fld := ⟨(A.GRD_CTL g), 3, 1⟩
def F.GRD_SRC_va (g : Nat) : Fld := ⟨(A.GRD_SRC g), 0, 6⟩
def F.GRD_SRC_vb (g : Nat) : Fld := ⟨(A.GRD_SRC g), 8, 6⟩
def F.GRD_SRC_vc (g : Nat) : Fld := ⟨(A.GRD_SRC g), 16, 6⟩
def F.GRD_NOM_f_nom (g : Nat) : Fld := ⟨(A.GRD_NOM g), 0, 17⟩
def F.GRD_UNOM_u_nom (g : Nat) : Fld := ⟨(A.GRD_UNOM g), 0, 32⟩
def F.GRD_CFG_bw (g : Nat) : Fld := ⟨(A.GRD_CFG g), 0, 2⟩
def F.GRD_CFG_meas_lv (g : Nat) : Fld := ⟨(A.GRD_CFG g), 2, 2⟩
def F.GRD_CFG_meas_hv (g : Nat) : Fld := ⟨(A.GRD_CFG g), 4, 2⟩
def F.GRD_CFG_rocof_win (g : Nat) : Fld := ⟨(A.GRD_CFG g), 8, 6⟩
def F.GRD_CFG_u_hold (g : Nat) : Fld := ⟨(A.GRD_CFG g), 16, 8⟩
def F.GRD_SYNC0_f_win (g : Nat) : Fld := ⟨(A.GRD_SYNC0 g), 0, 16⟩
def F.GRD_SYNC0_t_q (g : Nat) : Fld := ⟨(A.GRD_SYNC0 g), 16, 16⟩
def F.GRD_SYNC1_u_lo (g : Nat) : Fld := ⟨(A.GRD_SYNC1 g), 0, 16⟩
def F.GRD_SYNC1_u_hi (g : Nat) : Fld := ⟨(A.GRD_SYNC1 g), 16, 16⟩
def F.GRD_SYNC2_ang_win (g : Nat) : Fld := ⟨(A.GRD_SYNC2 g), 0, 8⟩
def F.GRD_SYNC2_du_win (g : Nat) : Fld := ⟨(A.GRD_SYNC2 g), 8, 16⟩
def F.GRD_SYNC2_cmp_g (g : Nat) : Fld := ⟨(A.GRD_SYNC2 g), 24, 3⟩
def F.GRD_SYNC2_cmp_en (g : Nat) : Fld := ⟨(A.GRD_SYNC2 g), 27, 1⟩
def F.GRD_STAT_rt (g : Nat) : Fld := ⟨(A.GRD_STAT g), 0, 7⟩
def F.GRD_STAT_flg (g : Nat) : Fld := ⟨(A.GRD_STAT g), 8, 6⟩
def F.GRD_STAT_ep_ms (g : Nat) : Fld := ⟨(A.GRD_STAT g), 16, 16⟩
def F.GRD_EVT_lock (g : Nat) : Fld := ⟨(A.GRD_EVT g), 0, 1⟩
def F.GRD_EVT_unlock (g : Nat) : Fld := ⟨(A.GRD_EVT g), 1, 1⟩
def F.GRD_EVT_hold (g : Nat) : Fld := ⟨(A.GRD_EVT g), 2, 1⟩
def F.GRD_EVT_sync (g : Nat) : Fld := ⟨(A.GRD_EVT g), 3, 1⟩
def F.GRD_EVT_rt_start (g : Nat) : Fld := ⟨(A.GRD_EVT g), 4, 1⟩
def F.GRD_EVT_rt_end (g : Nat) : Fld := ⟨(A.GRD_EVT g), 5, 1⟩
def F.GRD_EVT_vtrip (g : Nat) : Fld := ⟨(A.GRD_EVT g), 6, 1⟩
def F.GRD_EVT_ftrip (g : Nat) : Fld := ⟨(A.GRD_EVT g), 7, 1⟩
def F.GRD_EVT_f_out (g : Nat) : Fld := ⟨(A.GRD_EVT g), 8, 1⟩
def F.GRD_THETA_theta (g : Nat) : Fld := ⟨(A.GRD_THETA g), 0, 32⟩
def F.GRD_FREQ_f (g : Nat) : Fld := ⟨(A.GRD_FREQ g), 0, 20⟩
def F.GRD_ROCOF_rocof (g : Nat) : Fld := ⟨(A.GRD_ROCOF g), 0, 32⟩
def F.GRD_UPN_up (g : Nat) : Fld := ⟨(A.GRD_UPN g), 0, 16⟩
def F.GRD_UPN_un (g : Nat) : Fld := ⟨(A.GRD_UPN g), 16, 16⟩
def F.GRD_UMEAS_lv (g : Nat) : Fld := ⟨(A.GRD_UMEAS g), 0, 16⟩
def F.GRD_UMEAS_hv (g : Nat) : Fld := ⟨(A.GRD_UMEAS g), 16, 16⟩
def F.GRD_DIFF_dphi (g : Nat) : Fld := ⟨(A.GRD_DIFF g), 0, 16⟩
def F.GRD_DIFF_du (g : Nat) : Fld := ⟨(A.GRD_DIFF g), 16, 16⟩
def F.GRD_RTCNT_episodes (g : Nat) : Fld := ⟨(A.GRD_RTCNT g), 0, 16⟩
def F.GRD_RTCNT_trips (g : Nat) : Fld := ⟨(A.GRD_RTCNT g), 16, 16⟩
def F.GRD_TRIP_cause (g : Nat) : Fld := ⟨(A.GRD_TRIP g), 0, 4⟩
def F.GRD_TRIP_stage (g : Nat) : Fld := ⟨(A.GRD_TRIP g), 4, 3⟩
def F.GRD_TRIP_ep_ms (g : Nat) : Fld := ⟨(A.GRD_TRIP g), 16, 16⟩
def F.GRD_LV_u (g : Nat) (i : Nat) : Fld := ⟨(A.GRD_LV g i), 0, 16⟩
def F.GRD_LV_t (g : Nat) (i : Nat) : Fld := ⟨(A.GRD_LV g i), 16, 14⟩
def F.GRD_LV_unit (g : Nat) (i : Nat) : Fld := ⟨(A.GRD_LV g i), 30, 2⟩
def F.GRD_HV_u (g : Nat) (i : Nat) : Fld := ⟨(A.GRD_HV g i), 0, 16⟩
def F.GRD_HV_t (g : Nat) (i : Nat) : Fld := ⟨(A.GRD_HV g i), 16, 14⟩
def F.GRD_HV_unit (g : Nat) (i : Nat) : Fld := ⟨(A.GRD_HV g i), 30, 2⟩
def F.GRD_UF_lim (g : Nat) (j : Nat) : Fld := ⟨(A.GRD_UF g j), 0, 16⟩
def F.GRD_UF_t (g : Nat) (j : Nat) : Fld := ⟨(A.GRD_UF g j), 16, 14⟩
def F.GRD_UF_unit (g : Nat) (j : Nat) : Fld := ⟨(A.GRD_UF g j), 30, 2⟩
def F.GRD_OF_lim (g : Nat) (j : Nat) : Fld := ⟨(A.GRD_OF g j), 0, 16⟩
def F.GRD_OF_t (g : Nat) (j : Nat) : Fld := ⟨(A.GRD_OF g j), 16, 14⟩
def F.GRD_OF_unit (g : Nat) (j : Nat) : Fld := ⟨(A.GRD_OF g j), 30, 2⟩
def F.GRD_RTV_lv_in (g : Nat) : Fld := ⟨(A.GRD_RTV g), 0, 16⟩
def F.GRD_RTV_lv_out (g : Nat) : Fld := ⟨(A.GRD_RTV g), 16, 16⟩
def F.GRD_RTH_hv_in (g : Nat) : Fld := ⟨(A.GRD_RTH g), 0, 16⟩
def F.GRD_RTH_hv_out (g : Nat) : Fld := ⟨(A.GRD_RTH g), 16, 16⟩
def F.GRD_RTQ_q_in (g : Nat) : Fld := ⟨(A.GRD_RTQ g), 0, 8⟩
def F.GRD_RTQ_q_trip (g : Nat) : Fld := ⟨(A.GRD_RTQ g), 8, 8⟩
def F.GRD_RTQ_t_rec (g : Nat) : Fld := ⟨(A.GRD_RTQ g), 16, 16⟩
def F.GRD_FCONT_lo (g : Nat) : Fld := ⟨(A.GRD_FCONT g), 0, 16⟩
def F.GRD_FCONT_hi (g : Nat) : Fld := ⟨(A.GRD_FCONT g), 16, 16⟩
-- 14_islanding.md
def F.ISL_CTL_en (g : Nat) : Fld := ⟨(A.ISL_CTL g), 0, 1⟩
def F.ISL_CTL_inj_en (g : Nat) : Fld := ⟨(A.ISL_CTL g), 1, 1⟩
def F.ISL_CTL_trip_en (g : Nat) : Fld := ⟨(A.ISL_CTL g), 2, 1⟩
def F.ISL_CTL_tclr (g : Nat) : Fld := ⟨(A.ISL_CTL g), 3, 1⟩
def F.ISL_CTL_rc_start (g : Nat) : Fld := ⟨(A.ISL_CTL g), 4, 1⟩
def F.ISL_ISRC_ia (g : Nat) : Fld := ⟨(A.ISL_ISRC g), 0, 6⟩
def F.ISL_ISRC_ib (g : Nat) : Fld := ⟨(A.ISL_ISRC g), 8, 6⟩
def F.ISL_ISRC_ic (g : Nat) : Fld := ⟨(A.ISL_ISRC g), 16, 6⟩
def F.ISL_INJ_h (g : Nat) : Fld := ⟨(A.ISL_INJ g), 0, 2⟩
def F.ISL_INJ_amp (g : Nat) : Fld := ⟨(A.ISL_INJ g), 8, 5⟩
def F.ISL_CORR_nwin (g : Nat) : Fld := ⟨(A.ISL_CORR g), 0, 4⟩
def F.ISL_CORR_q_z (g : Nat) : Fld := ⟨(A.ISL_CORR g), 4, 4⟩
def F.ISL_CORR_v_det (g : Nat) : Fld := ⟨(A.ISL_CORR g), 8, 8⟩
def F.ISL_CORR_z_thr (g : Nat) : Fld := ⟨(A.ISL_CORR g), 16, 16⟩
def F.ISL_COH_mode (g : Nat) : Fld := ⟨(A.ISL_COH g), 0, 2⟩
def F.ISL_COH_t_listen (g : Nat) : Fld := ⟨(A.ISL_COH g), 4, 8⟩
def F.ISL_COH_t_rel (g : Nat) : Fld := ⟨(A.ISL_COH g), 16, 8⟩
def F.ISL_COH_z_ang (g : Nat) : Fld := ⟨(A.ISL_COH g), 24, 8⟩
def F.ISL_ROCOF_lim (g : Nat) : Fld := ⟨(A.ISL_ROCOF g), 0, 16⟩
def F.ISL_ROCOF_t (g : Nat) : Fld := ⟨(A.ISL_ROCOF g), 16, 8⟩
def F.ISL_VS_lim (g : Nat) : Fld := ⟨(A.ISL_VS g), 0, 8⟩
def F.ISL_VF_du (g : Nat) : Fld := ⟨(A.ISL_VF g), 0, 8⟩
def F.ISL_VF_df (g : Nat) : Fld := ⟨(A.ISL_VF g), 8, 8⟩
def F.ISL_VF_t (g : Nat) : Fld := ⟨(A.ISL_VF g), 16, 16⟩
def F.ISL_STAT_inj (g : Nat) : Fld := ⟨(A.ISL_STAT g), 0, 1⟩
def F.ISL_STAT_listen (g : Nat) : Fld := ⟨(A.ISL_STAT g), 1, 1⟩
def F.ISL_STAT_p (g : Nat) : Fld := ⟨(A.ISL_STAT g), 2, 1⟩
def F.ISL_STAT_peer_lost (g : Nat) : Fld := ⟨(A.ISL_STAT g), 3, 1⟩
def F.ISL_STAT_inj_low (g : Nat) : Fld := ⟨(A.ISL_STAT g), 4, 1⟩
def F.ISL_STAT_island (g : Nat) : Fld := ⟨(A.ISL_STAT g), 5, 1⟩
def F.ISL_STAT_rc_done (g : Nat) : Fld := ⟨(A.ISL_STAT g), 6, 1⟩
def F.ISL_Z_zmag (g : Nat) : Fld := ⟨(A.ISL_Z g), 0, 16⟩
def F.ISL_Z_zang (g : Nat) : Fld := ⟨(A.ISL_Z g), 16, 16⟩
def F.ISL_EVT_trip (g : Nat) : Fld := ⟨(A.ISL_EVT g), 0, 1⟩
def F.ISL_EVT_z_high (g : Nat) : Fld := ⟨(A.ISL_EVT g), 1, 1⟩
def F.ISL_EVT_align (g : Nat) : Fld := ⟨(A.ISL_EVT g), 2, 1⟩
def F.ISL_EVT_inj_low (g : Nat) : Fld := ⟨(A.ISL_EVT g), 3, 1⟩
def F.ISL_EVT_rc_done (g : Nat) : Fld := ⟨(A.ISL_EVT g), 4, 1⟩
def F.ISL_EVT_kclose (g : Nat) : Fld := ⟨(A.ISL_EVT g), 5, 1⟩
def F.ISL_EVT_kopen (g : Nat) : Fld := ⟨(A.ISL_EVT g), 6, 1⟩
def F.ISL_EVT_kfault (g : Nat) : Fld := ⟨(A.ISL_EVT g), 7, 1⟩
def F.ISL_TRIP_cause (g : Nat) : Fld := ⟨(A.ISL_TRIP g), 0, 4⟩
def F.ISL_TRIP_zmag (g : Nat) : Fld := ⟨(A.ISL_TRIP g), 16, 16⟩
def F.ISL_RECON_t_rc (g : Nat) : Fld := ⟨(A.ISL_RECON g), 0, 16⟩
def F.ISL_RECON_remain (g : Nat) : Fld := ⟨(A.ISL_RECON g), 16, 16⟩
def F.ISL_CNT_trips (g : Nat) : Fld := ⟨(A.ISL_CNT g), 0, 16⟩
def F.ISL_CNT_flips (g : Nat) : Fld := ⟨(A.ISL_CNT g), 16, 16⟩
def F.ISL_KCFG_en : Fld := ⟨A.ISL_KCFG, 0, 1⟩
def F.ISL_KCFG_g : Fld := ⟨A.ISL_KCFG, 1, 2⟩
def F.ISL_KCFG_fba_pol : Fld := ⟨A.ISL_KCFG, 3, 1⟩
def F.ISL_KCFG_fbb_pol : Fld := ⟨A.ISL_KCFG, 4, 1⟩
def F.ISL_KCTL_close : Fld := ⟨A.ISL_KCTL, 0, 1⟩
def F.ISL_KCTL_open : Fld := ⟨A.ISL_KCTL, 1, 1⟩
def F.ISL_KSTAT_st : Fld := ⟨A.ISL_KSTAT, 0, 3⟩
def F.ISL_KSTAT_fba : Fld := ⟨A.ISL_KSTAT, 4, 1⟩
def F.ISL_KSTAT_fbb : Fld := ⟨A.ISL_KSTAT, 5, 1⟩
def F.ISL_KSTAT_drv : Fld := ⟨A.ISL_KSTAT, 6, 1⟩
def F.ISL_KSTAT_t_ms : Fld := ⟨A.ISL_KSTAT, 16, 16⟩
-- 15_metering.md
def F.MTR_CTL_en (m : Nat) : Fld := ⟨(A.MTR_CTL m), 0, 1⟩
def F.MTR_CTL_discard (m : Nat) : Fld := ⟨(A.MTR_CTL m), 1, 1⟩
def F.MTR_SRC_V_va (m : Nat) : Fld := ⟨(A.MTR_SRC_V m), 0, 6⟩
def F.MTR_SRC_V_vb (m : Nat) : Fld := ⟨(A.MTR_SRC_V m), 8, 6⟩
def F.MTR_SRC_V_vc (m : Nat) : Fld := ⟨(A.MTR_SRC_V m), 16, 6⟩
def F.MTR_SRC_I_ia (m : Nat) : Fld := ⟨(A.MTR_SRC_I m), 0, 6⟩
def F.MTR_SRC_I_ib (m : Nat) : Fld := ⟨(A.MTR_SRC_I m), 8, 6⟩
def F.MTR_SRC_I_ic (m : Nat) : Fld := ⟨(A.MTR_SRC_I m), 16, 6⟩
def F.MTR_CFG_ref (m : Nat) : Fld := ⟨(A.MTR_CFG m), 0, 2⟩
def F.MTR_CFG_nlat (m : Nat) : Fld := ⟨(A.MTR_CFG m), 2, 8⟩
def F.MTR_CFG_lsb (m : Nat) : Fld := ⟨(A.MTR_CFG m), 10, 2⟩
def F.MTR_CFG_pq_en (m : Nat) : Fld := ⟨(A.MTR_CFG m), 12, 1⟩
def F.MTR_CFG_zc_hys (m : Nat) : Fld := ⟨(A.MTR_CFG m), 16, 8⟩
def F.MTR_NOM_f_nom (m : Nat) : Fld := ⟨(A.MTR_NOM m), 0, 17⟩
def F.MTR_IRATED_i_rated (m : Nat) : Fld := ⟨(A.MTR_IRATED m), 0, 32⟩
def F.MTR_CREEP_start (m : Nat) : Fld := ⟨(A.MTR_CREEP m), 0, 16⟩
def F.MTR_PQ0_u_decl (m : Nat) : Fld := ⟨(A.MTR_PQ0 m), 0, 16⟩
def F.MTR_PQ0_hys (m : Nat) : Fld := ⟨(A.MTR_PQ0 m), 16, 8⟩
def F.MTR_PQ1_sag_th (m : Nat) : Fld := ⟨(A.MTR_PQ1 m), 0, 8⟩
def F.MTR_PQ1_swell_th (m : Nat) : Fld := ⟨(A.MTR_PQ1 m), 8, 8⟩
def F.MTR_PQ1_int_th (m : Nat) : Fld := ⟨(A.MTR_PQ1 m), 16, 8⟩
def F.MTR_STAT_run (m : Nat) : Fld := ⟨(A.MTR_STAT m), 0, 1⟩
def F.MTR_STAT_free (m : Nat) : Fld := ⟨(A.MTR_STAT m), 1, 1⟩
def F.MTR_STAT_creep (m : Nat) : Fld := ⟨(A.MTR_STAT m), 2, 3⟩
def F.MTR_STAT_ent_fail (m : Nat) : Fld := ⟨(A.MTR_STAT m), 5, 1⟩
def F.MTR_STAT_pq_open (m : Nat) : Fld := ⟨(A.MTR_STAT m), 6, 1⟩
def F.MTR_STAT_cyc (m : Nat) : Fld := ⟨(A.MTR_STAT m), 16, 16⟩
def F.MTR_FREQ_f (m : Nat) : Fld := ⟨(A.MTR_FREQ m), 0, 20⟩
def F.MTR_ANG0_vb (m : Nat) : Fld := ⟨(A.MTR_ANG0 m), 0, 16⟩
def F.MTR_ANG0_vc (m : Nat) : Fld := ⟨(A.MTR_ANG0 m), 16, 16⟩
def F.MTR_ANG1_ia (m : Nat) : Fld := ⟨(A.MTR_ANG1 m), 0, 16⟩
def F.MTR_ANG1_ib (m : Nat) : Fld := ⟨(A.MTR_ANG1 m), 16, 16⟩
def F.MTR_ANG2_ic (m : Nat) : Fld := ⟨(A.MTR_ANG2 m), 0, 16⟩
def F.MTR_LSEQ_seq (m : Nat) : Fld := ⟨(A.MTR_LSEQ m), 0, 16⟩
def F.MTR_LSEQ_ent_fail (m : Nat) : Fld := ⟨(A.MTR_LSEQ m), 16, 1⟩
def F.MTR_LSEQ_free (m : Nat) : Fld := ⟨(A.MTR_LSEQ m), 17, 1⟩
def F.MTR_LSEQ_restored (m : Nat) : Fld := ⟨(A.MTR_LSEQ m), 18, 1⟩
def F.MTR_LSEQ_gap (m : Nat) : Fld := ⟨(A.MTR_LSEQ m), 19, 1⟩
def F.MTR_PQSTAT_next (m : Nat) : Fld := ⟨(A.MTR_PQSTAT m), 0, 6⟩
def F.MTR_PQSTAT_total (m : Nat) : Fld := ⟨(A.MTR_PQSTAT m), 16, 16⟩
def F.MTR_VRMS_rms (m : Nat) (x : Nat) : Fld := ⟨(A.MTR_VRMS m x), 0, 32⟩
def F.MTR_IRMS_rms (m : Nat) (x : Nat) : Fld := ⟨(A.MTR_IRMS m x), 0, 32⟩
def F.MTR_P_val (m : Nat) (x : Nat) : Fld := ⟨(A.MTR_P m x), 0, 32⟩
def F.MTR_Q_val (m : Nat) (x : Nat) : Fld := ⟨(A.MTR_Q m x), 0, 32⟩
def F.MTR_S_val (m : Nat) (x : Nat) : Fld := ⟨(A.MTR_S m x), 0, 32⟩
def F.MTR_PF_val (m : Nat) (x : Nat) : Fld := ⟨(A.MTR_PF m x), 0, 32⟩
def F.MTR_PT_val (m : Nat) : Fld := ⟨(A.MTR_PT m), 0, 32⟩
def F.MTR_QT_val (m : Nat) : Fld := ⟨(A.MTR_QT m), 0, 32⟩
def F.MTR_ST_val (m : Nat) : Fld := ⟨(A.MTR_ST m), 0, 32⟩
def F.MTR_PFT_val (m : Nat) : Fld := ⟨(A.MTR_PFT m), 0, 32⟩
def F.MTR_E_LO_e_lo (m : Nat) (r : Nat) : Fld := ⟨(A.MTR_E_LO m r), 0, 32⟩
def F.MTR_E_HI_e_hi (m : Nat) (r : Nat) : Fld := ⟨(A.MTR_E_HI m r), 0, 16⟩
def F.MTR_E_HI_wrap (m : Nat) (r : Nat) : Fld := ⟨(A.MTR_E_HI m r), 16, 16⟩
def F.MTR_EVT_latch : Fld := ⟨A.MTR_EVT, 0, 4⟩
def F.MTR_EVT_pq : Fld := ⟨A.MTR_EVT, 4, 4⟩
def F.MTR_EVT_save_done : Fld := ⟨A.MTR_EVT, 8, 1⟩
def F.MTR_EVT_restore : Fld := ⟨A.MTR_EVT, 9, 1⟩
def F.MTR_EVT_gap : Fld := ⟨A.MTR_EVT, 10, 1⟩
def F.MTR_EVT_save_fail : Fld := ⟨A.MTR_EVT, 11, 1⟩
def F.MTR_EVT_retired : Fld := ⟨A.MTR_EVT, 12, 1⟩
def F.MTR_EVT_ent_fail : Fld := ⟨A.MTR_EVT, 16, 4⟩
def F.MTR_SAVE_period : Fld := ⟨A.MTR_SAVE, 0, 10⟩
def F.MTR_SAVE_now : Fld := ⟨A.MTR_SAVE, 16, 1⟩
def F.MTR_SAVESTAT_slot : Fld := ⟨A.MTR_SAVESTAT, 0, 4⟩
def F.MTR_SAVESTAT_busy : Fld := ⟨A.MTR_SAVESTAT, 4, 1⟩
def F.MTR_SAVESTAT_retired : Fld := ⟨A.MTR_SAVESTAT, 16, 16⟩
def F.MTR_SAVESEQ_seq : Fld := ⟨A.MTR_SAVESEQ, 0, 32⟩
def F.MTR_RESTORE_valid : Fld := ⟨A.MTR_RESTORE, 0, 1⟩
def F.MTR_RESTORE_gap : Fld := ⟨A.MTR_RESTORE, 1, 1⟩
def F.MTR_RESTORE_none : Fld := ⟨A.MTR_RESTORE, 2, 1⟩
def F.MTR_RESTORE_slot : Fld := ⟨A.MTR_RESTORE, 4, 4⟩
def F.MTR_RESTORE_pend : Fld := ⟨A.MTR_RESTORE, 8, 4⟩
def F.MTR_RESTORE_gap_s : Fld := ⟨A.MTR_RESTORE, 16, 16⟩
def F.MTR_RESTORE_SEQ_seq : Fld := ⟨A.MTR_RESTORE_SEQ, 0, 32⟩
-- 16_safety_functions.md
def F.SAF_CTL_hs_ack : Fld := ⟨A.SAF_CTL, 0, 1⟩
def F.SAF_CTL_clr : Fld := ⟨A.SAF_CTL, 4, 1⟩
def F.SAF_STAT_rel : Fld := ⟨A.SAF_STAT, 0, 8⟩
def F.SAF_STAT_trel : Fld := ⟨A.SAF_STAT, 8, 8⟩
def F.SAF_STAT_soa : Fld := ⟨A.SAF_STAT, 16, 1⟩
def F.SAF_STAT_sob : Fld := ⟨A.SAF_STAT, 17, 1⟩
def F.SAF_STAT_force : Fld := ⟨A.SAF_STAT, 18, 1⟩
def F.SAF_EVT_demand : Fld := ⟨A.SAF_EVT, 0, 1⟩
def F.SAF_EVT_ackwait : Fld := ⟨A.SAF_EVT, 1, 1⟩
def F.SAF_EVT_release : Fld := ⟨A.SAF_EVT, 2, 1⟩
def F.SAF_EVT_disc : Fld := ⟨A.SAF_EVT, 3, 1⟩
def F.SAF_EVT_tpfail : Fld := ⟨A.SAF_EVT, 4, 1⟩
def F.SAF_EVT_tg_demand : Fld := ⟨A.SAF_EVT, 5, 1⟩
def F.SAF_EVT_tg_err : Fld := ⟨A.SAF_EVT, 6, 1⟩
def F.SAF_EVT_so_chg : Fld := ⟨A.SAF_EVT, 7, 1⟩
def F.SAF_TP_period : Fld := ⟨A.SAF_TP, 0, 10⟩
def F.SAF_TGCTL_en : Fld := ⟨A.SAF_TGCTL, 0, 1⟩
def F.SAF_TGCTL_tx_en : Fld := ⟨A.SAF_TGCTL, 1, 1⟩
def F.SAF_TGCTL_ls_en : Fld := ⟨A.SAF_TGCTL, 8, 8⟩
def F.SAF_TGCTL_skew : Fld := ⟨A.SAF_TGCTL, 16, 8⟩
def F.SAF_TGID_rx_id : Fld := ⟨A.SAF_TGID, 0, 16⟩
def F.SAF_TGID_tx_id : Fld := ⟨A.SAF_TGID, 16, 16⟩
def F.SAF_TGKEY_key : Fld := ⟨A.SAF_TGKEY, 0, 32⟩
def F.SAF_TGWD_wdog : Fld := ⟨A.SAF_TGWD, 0, 10⟩
def F.SAF_TGSTAT_last_seq : Fld := ⟨A.SAF_TGSTAT, 0, 16⟩
def F.SAF_TGSTAT_wd_exp : Fld := ⟨A.SAF_TGSTAT, 16, 1⟩
def F.SAF_TGSTAT_seq_v : Fld := ⟨A.SAF_TGSTAT, 17, 1⟩
def F.SAF_TGCNT_single : Fld := ⟨A.SAF_TGCNT, 0, 8⟩
def F.SAF_TGCNT_mismatch : Fld := ⟨A.SAF_TGCNT, 8, 8⟩
def F.SAF_TGCNT_invalid : Fld := ⟨A.SAF_TGCNT, 16, 8⟩
def F.SAF_TGCNT_old : Fld := ⟨A.SAF_TGCNT, 24, 8⟩
def F.SAF_PCFG_en (p : Nat) : Fld := ⟨(A.SAF_PCFG p), 0, 1⟩
def F.SAF_PCFG_prof (p : Nat) : Fld := ⟨(A.SAF_PCFG p), 1, 2⟩
def F.SAF_PCFG_tp (p : Nat) : Fld := ⟨(A.SAF_PCFG p), 3, 1⟩
def F.SAF_PCFG_link (p : Nat) : Fld := ⟨(A.SAF_PCFG p), 4, 3⟩
def F.SAF_PCFG_link_en (p : Nat) : Fld := ⟨(A.SAF_PCFG p), 7, 1⟩
def F.SAF_PCFG_filt (p : Nat) : Fld := ⟨(A.SAF_PCFG p), 8, 5⟩
def F.SAF_PCFG_disc (p : Nat) : Fld := ⟨(A.SAF_PCFG p), 16, 11⟩
def F.SAF_PSTAT_st (p : Nat) : Fld := ⟨(A.SAF_PSTAT p), 0, 2⟩
def F.SAF_PSTAT_fa (p : Nat) : Fld := ⟨(A.SAF_PSTAT p), 2, 1⟩
def F.SAF_PSTAT_fb (p : Nat) : Fld := ⟨(A.SAF_PSTAT p), 3, 1⟩
def F.SAF_PSTAT_ra (p : Nat) : Fld := ⟨(A.SAF_PSTAT p), 4, 1⟩
def F.SAF_PSTAT_rb (p : Nat) : Fld := ⟨(A.SAF_PSTAT p), 5, 1⟩
def F.SAF_PSTAT_cause (p : Nat) : Fld := ⟨(A.SAF_PSTAT p), 6, 2⟩
def F.SAF_PSTAT_dmax (p : Nat) : Fld := ⟨(A.SAF_PSTAT p), 16, 16⟩
-- 17_fault_collector.md
def F.FLT_CTL_auto_en : Fld := ⟨A.FLT_CTL, 0, 1⟩
def F.FLT_CTL_cclr : Fld := ⟨A.FLT_CTL, 4, 1⟩
def F.FLT_STAT_open : Fld := ⟨A.FLT_STAT, 0, 1⟩
def F.FLT_STAT_hold : Fld := ⟨A.FLT_STAT, 1, 1⟩
def F.FLT_STAT_quiet : Fld := ⟨A.FLT_STAT, 2, 1⟩
def F.FLT_STAT_esc : Fld := ⟨A.FLT_STAT, 3, 1⟩
def F.FLT_STAT_locked : Fld := ⟨A.FLT_STAT, 4, 1⟩
def F.FLT_STAT_cls_max : Fld := ⟨A.FLT_STAT, 5, 2⟩
def F.FLT_FIRST_code : Fld := ⟨A.FLT_FIRST, 0, 16⟩
def F.FLT_FIRST_cls : Fld := ⟨A.FLT_FIRST, 16, 2⟩
def F.FLT_FIRST_mode : Fld := ⟨A.FLT_FIRST, 24, 4⟩
def F.FLT_FIRST_valid : Fld := ⟨A.FLT_FIRST, 31, 1⟩
def F.FLT_FIRST_ARG_arg : Fld := ⟨A.FLT_FIRST_ARG, 0, 32⟩
def F.FLT_FIRST_TS_LO_tap : Fld := ⟨A.FLT_FIRST_TS_LO, 0, 5⟩
def F.FLT_FIRST_TS_LO_cyc_lo : Fld := ⟨A.FLT_FIRST_TS_LO, 5, 27⟩
def F.FLT_FIRST_TS_HI_cyc_hi : Fld := ⟨A.FLT_FIRST_TS_HI, 0, 21⟩
def F.FLT_OVF_ovf : Fld := ⟨A.FLT_OVF, 0, 1⟩
def F.FLT_OVF_count : Fld := ⟨A.FLT_OVF, 8, 8⟩
def F.FLT_OVF_last : Fld := ⟨A.FLT_OVF, 16, 16⟩
def F.FLT_HOLD_T_t_us : Fld := ⟨A.FLT_HOLD_T, 0, 14⟩
def F.FLT_QUIET_T_t_ms : Fld := ⟨A.FLT_QUIET_T, 0, 20⟩
def F.FLT_RECOV_CNT_cnt : Fld := ⟨A.FLT_RECOV_CNT, 0, 8⟩
def F.FLT_RECOV_CNT_win_s : Fld := ⟨A.FLT_RECOV_CNT, 16, 12⟩
def F.FLT_RECOV_LIM_lim : Fld := ⟨A.FLT_RECOV_LIM, 0, 8⟩
def F.FLT_CLAST_code : Fld := ⟨A.FLT_CLAST, 0, 16⟩
def F.FLT_CLAST_count : Fld := ⟨A.FLT_CLAST, 16, 16⟩
def F.FLT_EVT_ev : Fld := ⟨A.FLT_EVT, 0, 9⟩
def F.FLT_BLOCK_ref : Fld := ⟨A.FLT_BLOCK, 0, 1⟩
def F.FLT_BLOCK_unlock : Fld := ⟨A.FLT_BLOCK, 1, 1⟩
def F.FLT_BLOCK_sc_latch : Fld := ⟨A.FLT_BLOCK, 2, 1⟩
def F.FLT_BLOCK_kfault : Fld := ⟨A.FLT_BLOCK, 3, 1⟩
def F.FLT_BLOCK_plaus : Fld := ⟨A.FLT_BLOCK, 4, 1⟩
def F.FLT_BLOCK_locked : Fld := ⟨A.FLT_BLOCK, 5, 1⟩
def F.FLT_SEEN_seen (i : Nat) : Fld := ⟨(A.FLT_SEEN i), 0, 32⟩
-- 23_events_and_address_map.md
def F.SYS_ID_part : Fld := ⟨A.SYS_ID, 0, 16⟩
def F.SYS_ID_pkg : Fld := ⟨A.SYS_ID, 16, 8⟩
def F.SYS_ID_temp : Fld := ⟨A.SYS_ID, 24, 8⟩
def F.SYS_VER_si_minor : Fld := ⟨A.SYS_VER, 0, 8⟩
def F.SYS_VER_si_major : Fld := ⟨A.SYS_VER, 8, 8⟩
def F.SYS_VER_pod_contract : Fld := ⟨A.SYS_VER, 16, 8⟩
def F.SYS_VER_isa : Fld := ⟨A.SYS_VER, 24, 8⟩
-- 18_modes_and_start_up.md
def F.SYS_MODE_mode : Fld := ⟨A.SYS_MODE, 0, 4⟩
def F.SYS_MODE_prev : Fld := ⟨A.SYS_MODE, 4, 4⟩
def F.SYS_MODE_halt : Fld := ⟨A.SYS_MODE, 8, 1⟩
def F.SYS_MODE_changes : Fld := ⟨A.SYS_MODE, 16, 16⟩
def F.SYS_MODEREQ_target : Fld := ⟨A.SYS_MODEREQ, 0, 4⟩
def F.SYS_MODEREQ_pend : Fld := ⟨A.SYS_MODEREQ, 8, 1⟩
def F.SYS_MODEREQ_result : Fld := ⟨A.SYS_MODEREQ, 16, 8⟩
def F.SYS_RSTCAUSE_por : Fld := ⟨A.SYS_RSTCAUSE, 0, 1⟩
def F.SYS_RSTCAUSE_mon : Fld := ⟨A.SYS_RSTCAUSE, 1, 1⟩
def F.SYS_RSTCAUSE_rail : Fld := ⟨A.SYS_RSTCAUSE, 2, 3⟩
def F.SYS_RSTCAUSE_resetn : Fld := ⟨A.SYS_RSTCAUSE, 5, 1⟩
def F.SYS_RSTCAUSE_soft : Fld := ⟨A.SYS_RSTCAUSE, 6, 1⟩
def F.SYS_RSTCAUSE_holdup : Fld := ⟨A.SYS_RSTCAUSE, 7, 1⟩
def F.SYS_RSTCAUSE_refloss : Fld := ⟨A.SYS_RSTCAUSE, 8, 1⟩
def F.SYS_RSTCAUSE_rtc_inv : Fld := ⟨A.SYS_RSTCAUSE, 9, 1⟩
def F.SYS_BOOT_straps : Fld := ⟨A.SYS_BOOT, 0, 2⟩
def F.SYS_BOOT_bank : Fld := ⟨A.SYS_BOOT, 2, 1⟩
def F.SYS_BOOT_fallback : Fld := ⟨A.SYS_BOOT, 3, 1⟩
def F.SYS_BOOT_img_ok : Fld := ⟨A.SYS_BOOT, 4, 1⟩
def F.SYS_BOOT_dl : Fld := ⟨A.SYS_BOOT, 5, 1⟩
def F.SYS_BOOT_t_ms : Fld := ⟨A.SYS_BOOT, 16, 16⟩
def F.SYS_STEST_done : Fld := ⟨A.SYS_STEST, 0, 1⟩
def F.SYS_STEST_pass : Fld := ⟨A.SYS_STEST, 1, 1⟩
def F.SYS_STEST_fail : Fld := ⟨A.SYS_STEST, 4, 3⟩
def F.SYS_STEST_pods : Fld := ⟨A.SYS_STEST, 8, 12⟩
def F.SYS_STEST_t_ms : Fld := ⟨A.SYS_STEST, 20, 12⟩
-- 23_events_and_address_map.md
def F.SYS_EVT_pch_done : Fld := ⟨A.SYS_EVT, 0, 1⟩
def F.SYS_EVT_pch_fail : Fld := ⟨A.SYS_EVT, 1, 1⟩
def F.SYS_EVT_mode : Fld := ⟨A.SYS_EVT, 2, 1⟩
def F.SYS_EVT_rbg_off : Fld := ⟨A.SYS_EVT, 3, 1⟩
def F.SYS_RTC_SEC_sec : Fld := ⟨A.SYS_RTC_SEC, 0, 32⟩
def F.SYS_RTC_SUB_ms : Fld := ⟨A.SYS_RTC_SUB, 0, 10⟩
def F.SYS_RTC_SUB_valid : Fld := ⟨A.SYS_RTC_SUB, 31, 1⟩
-- 13_source_tracking.md
def F.SYS_PCH_CFG_dc_ent : Fld := ⟨A.SYS_PCH_CFG, 0, 6⟩
def F.SYS_PCH_CFG_src_ent : Fld := ⟨A.SYS_PCH_CFG, 8, 6⟩
def F.SYS_PCH_CFG_gpio : Fld := ⟨A.SYS_PCH_CFG, 16, 2⟩
def F.SYS_PCH_CFG_pol : Fld := ⟨A.SYS_PCH_CFG, 18, 1⟩
def F.SYS_PCH_CFG_en : Fld := ⟨A.SYS_PCH_CFG, 19, 1⟩
def F.SYS_PCH_CFG_overlap : Fld := ⟨A.SYS_PCH_CFG, 24, 8⟩
def F.SYS_PCH_THR_v_done : Fld := ⟨A.SYS_PCH_THR, 0, 16⟩
def F.SYS_PCH_THR_ratio : Fld := ⟨A.SYS_PCH_THR, 16, 8⟩
def F.SYS_PCH_THR_dv_min : Fld := ⟨A.SYS_PCH_THR, 24, 8⟩
def F.SYS_PCH_TIME_t_max : Fld := ⟨A.SYS_PCH_TIME, 0, 16⟩
def F.SYS_PCH_TIME_t_chk : Fld := ⟨A.SYS_PCH_TIME, 16, 8⟩
def F.SYS_PCH_TIME_t_settle : Fld := ⟨A.SYS_PCH_TIME, 24, 8⟩
def F.SYS_PCH_STAT_done : Fld := ⟨A.SYS_PCH_STAT, 0, 1⟩
def F.SYS_PCH_STAT_drive : Fld := ⟨A.SYS_PCH_STAT, 1, 1⟩
def F.SYS_PCH_STAT_fail : Fld := ⟨A.SYS_PCH_STAT, 2, 1⟩
def F.SYS_PCH_STAT_cause : Fld := ⟨A.SYS_PCH_STAT, 4, 3⟩
def F.SYS_PCH_STAT_t_ms : Fld := ⟨A.SYS_PCH_STAT, 16, 16⟩
def F.SYS_PCH_VMEAS_v_max : Fld := ⟨A.SYS_PCH_VMEAS, 0, 16⟩
def F.SYS_PCH_VMEAS_vdc : Fld := ⟨A.SYS_PCH_VMEAS, 16, 16⟩
-- 23_events_and_address_map.md
def F.SYS_SERIAL_LO_serial : Fld := ⟨A.SYS_SERIAL_LO, 0, 32⟩
def F.SYS_SERIAL_HI_serial : Fld := ⟨A.SYS_SERIAL_HI, 0, 32⟩
def F.SYS_EVRT_route (t : Nat) (i : Nat) : Fld := ⟨(A.SYS_EVRT t i), 0, 32⟩
def F.SYS_EVPND_pend (t : Nat) (i : Nat) : Fld := ⟨(A.SYS_EVPND t i), 0, 32⟩
-- 19_commands_and_uhlog.md
def F.CMD_STAT_inflight : Fld := ⟨A.CMD_STAT, 0, 7⟩
def F.CMD_STAT_groups : Fld := ⟨A.CMD_STAT, 8, 3⟩
def F.CMD_EVT_done : Fld := ⟨A.CMD_EVT, 0, 5⟩
def F.CMD_EVT_refused : Fld := ⟨A.CMD_EVT, 5, 1⟩
def F.CMD_EVT_group : Fld := ⟨A.CMD_EVT, 6, 1⟩
def F.CMD_EVT_pjournal : Fld := ⟨A.CMD_EVT, 7, 1⟩
def F.CMD_CNT_bad_frame : Fld := ⟨A.CMD_CNT, 0, 16⟩
def F.CMD_CNT_queue_full : Fld := ⟨A.CMD_CNT, 16, 16⟩
def F.CMD_QUOTA0_q0 : Fld := ⟨A.CMD_QUOTA0, 0, 7⟩
def F.CMD_QUOTA0_q1 : Fld := ⟨A.CMD_QUOTA0, 8, 7⟩
def F.CMD_QUOTA0_q2 : Fld := ⟨A.CMD_QUOTA0, 16, 7⟩
def F.CMD_QUOTA0_q3 : Fld := ⟨A.CMD_QUOTA0, 24, 7⟩
def F.CMD_QUOTA1_q4 : Fld := ⟨A.CMD_QUOTA1, 0, 7⟩
def F.CMD_AUTH0_holder0 : Fld := ⟨A.CMD_AUTH0, 0, 4⟩
def F.CMD_AUTH0_holder1 : Fld := ⟨A.CMD_AUTH0, 4, 4⟩
def F.CMD_AUTH0_holder2 : Fld := ⟨A.CMD_AUTH0, 8, 4⟩
def F.CMD_AUTH0_holder3 : Fld := ⟨A.CMD_AUTH0, 12, 4⟩
def F.CMD_AUTH0_holder4 : Fld := ⟨A.CMD_AUTH0, 16, 4⟩
def F.CMD_AUTH0_holder5 : Fld := ⟨A.CMD_AUTH0, 20, 4⟩
def F.CMD_AUTH0_holder6 : Fld := ⟨A.CMD_AUTH0, 24, 4⟩
def F.CMD_AUTH0_holder7 : Fld := ⟨A.CMD_AUTH0, 28, 4⟩
def F.CMD_AUTH1_holder8 : Fld := ⟨A.CMD_AUTH1, 0, 4⟩
def F.CMD_AUTH1_holder9 : Fld := ⟨A.CMD_AUTH1, 4, 4⟩
def F.CMD_AUTH1_holder10 : Fld := ⟨A.CMD_AUTH1, 8, 4⟩
def F.CMD_AUTH1_holder11 : Fld := ⟨A.CMD_AUTH1, 12, 4⟩
def F.CMD_AUTHTO_t_ms : Fld := ⟨A.CMD_AUTHTO, 0, 16⟩
def F.CMD_GRPSTAT_result : Fld := ⟨A.CMD_GRPSTAT, 0, 8⟩
def F.CMD_GRPSTAT_part : Fld := ⟨A.CMD_GRPSTAT, 8, 8⟩
def F.CMD_GRPSTAT_aligned : Fld := ⟨A.CMD_GRPSTAT, 16, 1⟩
def F.CMD_GRPSTAT_seq_lo : Fld := ⟨A.CMD_GRPSTAT, 24, 8⟩
def F.UHL_NEXT_index : Fld := ⟨A.UHL_NEXT, 0, 32⟩
def F.UHL_PCNT_count : Fld := ⟨A.UHL_PCNT, 0, 32⟩
def F.UHL_STAT_rebuilt : Fld := ⟨A.UHL_STAT, 0, 1⟩
def F.UHL_STAT_closed : Fld := ⟨A.UHL_STAT, 1, 1⟩
def F.CMD_PORTSTAT_last_seq (p : Nat) : Fld := ⟨(A.CMD_PORTSTAT p), 0, 16⟩
def F.CMD_PORTSTAT_inflight (p : Nat) : Fld := ⟨(A.CMD_PORTSTAT p), 16, 7⟩
def F.CMD_PORTSTAT_valid (p : Nat) : Fld := ⟨(A.CMD_PORTSTAT p), 23, 1⟩
-- 20_ports.md
def F.PRT_EVT_host_err : Fld := ⟨A.PRT_EVT, 0, 2⟩
def F.PRT_EVT_net_drop : Fld := ⟨A.PRT_EVT, 2, 2⟩
def F.PRT_EVT_ring_up : Fld := ⟨A.PRT_EVT, 4, 1⟩
def F.PRT_EVT_ring_lost : Fld := ⟨A.PRT_EVT, 5, 1⟩
def F.PRT_EVT_relay : Fld := ⟨A.PRT_EVT, 6, 1⟩
def F.PRT_EVT_mdio : Fld := ⟨A.PRT_EVT, 7, 1⟩
def F.PRT_HSTAT_pend_a : Fld := ⟨A.PRT_HSTAT, 0, 8⟩
def F.PRT_HSTAT_pend_b : Fld := ⟨A.PRT_HSTAT, 8, 8⟩
def F.PRT_HSTAT_bad_instr : Fld := ⟨A.PRT_HSTAT, 16, 8⟩
def F.PRT_HSTAT_ans_drop : Fld := ⟨A.PRT_HSTAT, 24, 8⟩
def F.PRT_MDIO_reg : Fld := ⟨A.PRT_MDIO, 0, 5⟩
def F.PRT_MDIO_phy : Fld := ⟨A.PRT_MDIO, 5, 5⟩
def F.PRT_MDIO_wr : Fld := ⟨A.PRT_MDIO, 10, 1⟩
def F.PRT_MDIO_go : Fld := ⟨A.PRT_MDIO, 11, 1⟩
def F.PRT_MDIO_busy : Fld := ⟨A.PRT_MDIO, 15, 1⟩
def F.PRT_MDIO_data : Fld := ⟨A.PRT_MDIO, 16, 16⟩
def F.PRT_PCFG_en : Fld := ⟨A.PRT_PCFG, 0, 1⟩
def F.PRT_PCFG_relay_en : Fld := ⟨A.PRT_PCFG, 1, 1⟩
def F.PRT_PCFG_pos : Fld := ⟨A.PRT_PCFG, 2, 3⟩
def F.PRT_PCFG_n : Fld := ⟨A.PRT_PCFG, 5, 4⟩
def F.PRT_PCFG_stg : Fld := ⟨A.PRT_PCFG, 12, 4⟩
def F.PRT_PSTAT_up : Fld := ⟨A.PRT_PSTAT, 0, 1⟩
def F.PRT_PSTAT_last_relay : Fld := ⟨A.PRT_PSTAT, 8, 3⟩
def F.PRT_PHOP_meas : Fld := ⟨A.PRT_PHOP, 0, 16⟩
def F.PRT_PHOP_trim : Fld := ⟨A.PRT_PHOP, 16, 16⟩
def F.PRT_GPIO_dir : Fld := ⟨A.PRT_GPIO, 0, 4⟩
def F.PRT_GPIO_out : Fld := ⟨A.PRT_GPIO, 8, 4⟩
def F.PRT_GPIO_in : Fld := ⟨A.PRT_GPIO, 16, 4⟩
def F.PRT_NCTL_en (i : Nat) : Fld := ⟨(A.PRT_NCTL i), 0, 1⟩
def F.PRT_NCTL_s100 (i : Nat) : Fld := ⟨(A.PRT_NCTL i), 1, 1⟩
def F.PRT_NCTL_fdx (i : Nat) : Fld := ⟨(A.PRT_NCTL i), 2, 1⟩
def F.PRT_NSTAT_rx_act (i : Nat) : Fld := ⟨(A.PRT_NSTAT i), 0, 1⟩
def F.PRT_NDST_IP_ip (i : Nat) : Fld := ⟨(A.PRT_NDST_IP i), 0, 32⟩
def F.PRT_NNOTE_en (i : Nat) : Fld := ⟨(A.PRT_NNOTE i), 0, 1⟩
def F.PRT_NNOTE_gap (i : Nat) : Fld := ⟨(A.PRT_NNOTE i), 8, 8⟩
def F.PRT_NNOTE_dport (i : Nat) : Fld := ⟨(A.PRT_NNOTE i), 16, 16⟩
def F.PRT_NCNT_rx_drop (i : Nat) : Fld := ⟨(A.PRT_NCNT i), 0, 16⟩
def F.PRT_NCNT_ip_drop (i : Nat) : Fld := ⟨(A.PRT_NCNT i), 16, 16⟩
def F.PRT_NID0_mac_lo (i : Nat) : Fld := ⟨(A.PRT_NID0 i), 0, 32⟩
def F.PRT_NID1_mac_hi (i : Nat) : Fld := ⟨(A.PRT_NID1 i), 0, 16⟩
def F.PRT_NID2_ip (i : Nat) : Fld := ⟨(A.PRT_NID2 i), 0, 32⟩
def F.PRT_NID3_etype (i : Nat) : Fld := ⟨(A.PRT_NID3 i), 0, 16⟩
-- 21_persistent_registers.md
def F.PRS_STAT_busy : Fld := ⟨A.PRS_STAT, 0, 1⟩
def F.PRS_STAT_queue : Fld := ⟨A.PRS_STAT, 4, 4⟩
def F.PRS_STAT_corr : Fld := ⟨A.PRS_STAT, 16, 16⟩
def F.PRS_EVT_warn : Fld := ⟨A.PRS_EVT, 0, 1⟩
def F.PRS_EVT_endur : Fld := ⟨A.PRS_EVT, 1, 1⟩
def F.PRS_EVT_corr : Fld := ⟨A.PRS_EVT, 2, 1⟩
def F.PRS_LASTREF_word : Fld := ⟨A.PRS_LASTREF, 0, 16⟩
def F.PRS_PSGEN_gen : Fld := ⟨A.PRS_PSGEN, 0, 32⟩
def F.PRS_PSA_erases : Fld := ⟨A.PRS_PSA, 0, 14⟩
def F.PRS_PSA_valid : Fld := ⟨A.PRS_PSA, 16, 1⟩
def F.PRS_PSA_active : Fld := ⟨A.PRS_PSA, 17, 1⟩
def F.PRS_PSA_at_limit : Fld := ⟨A.PRS_PSA, 18, 1⟩
def F.PRS_PSB_erases : Fld := ⟨A.PRS_PSB, 0, 14⟩
def F.PRS_PSB_valid : Fld := ⟨A.PRS_PSB, 16, 1⟩
def F.PRS_PSB_active : Fld := ⟨A.PRS_PSB, 17, 1⟩
def F.PRS_PSB_at_limit : Fld := ⟨A.PRS_PSB, 18, 1⟩
def F.PRS_COUNTER_count (w : Nat) : Fld := ⟨(A.PRS_COUNTER w), 0, 20⟩
def F.PRS_COUNTER_limit (w : Nat) : Fld := ⟨(A.PRS_COUNTER w), 31, 1⟩
-- 22_devar_port.md
def F.DBG_STAT_unlocked : Fld := ⟨A.DBG_STAT, 0, 1⟩
def F.DBG_STAT_port_en : Fld := ⟨A.DBG_STAT, 1, 1⟩
def F.DBG_STAT_blocked : Fld := ⟨A.DBG_STAT, 2, 1⟩
def F.DBG_STAT_lockout : Fld := ⟨A.DBG_STAT, 3, 1⟩
def F.DBG_STAT_fails : Fld := ⟨A.DBG_STAT, 8, 8⟩
def F.DBG_STAT_halted : Fld := ⟨A.DBG_STAT, 16, 7⟩
def F.DBG_CTL_eng : Fld := ⟨A.DBG_CTL, 0, 3⟩
def F.DBG_CTL_ctx : Fld := ⟨A.DBG_CTL, 3, 1⟩
def F.DBG_CTL_op : Fld := ⟨A.DBG_CTL, 4, 2⟩
def F.DBG_CTL_all : Fld := ⟨A.DBG_CTL, 8, 1⟩
def F.DBG_EVT_halt : Fld := ⟨A.DBG_EVT, 0, 1⟩
def F.DBG_EVT_step : Fld := ⟨A.DBG_EVT, 1, 1⟩
def F.DBG_EVT_session : Fld := ⟨A.DBG_EVT, 2, 1⟩
def F.DBG_CNT_refused : Fld := ⟨A.DBG_CNT, 0, 16⟩
def F.DBG_CNT_crc : Fld := ⟨A.DBG_CNT, 16, 16⟩
def F.DBG_SEL_eng : Fld := ⟨A.DBG_SEL, 0, 3⟩
def F.DBG_SEL_ctx : Fld := ⟨A.DBG_SEL, 3, 1⟩
def F.DBG_ECFG_sw_en (e : Nat) : Fld := ⟨(A.DBG_ECFG e), 0, 1⟩
def F.DBG_ESTAT_cause (e : Nat) : Fld := ⟨(A.DBG_ESTAT e), 0, 4⟩
def F.DBG_ESTAT_index (e : Nat) : Fld := ⟨(A.DBG_ESTAT e), 4, 2⟩
def F.DBG_ESTAT_ctx (e : Nat) : Fld := ⟨(A.DBG_ESTAT e), 6, 1⟩
def F.DBG_ESTAT_step_wait (e : Nat) : Fld := ⟨(A.DBG_ESTAT e), 7, 1⟩
def F.DBG_ESTAT_prev_0 (e : Nat) : Fld := ⟨(A.DBG_ESTAT e), 8, 3⟩
def F.DBG_ESTAT_prev_1 (e : Nat) : Fld := ⟨(A.DBG_ESTAT e), 12, 3⟩
def F.DBG_ESTAT_brk (e : Nat) : Fld := ⟨(A.DBG_ESTAT e), 16, 16⟩
def F.DBG_BP_addr (e : Nat) (i : Nat) : Fld := ⟨(A.DBG_BP e i), 0, 15⟩
def F.DBG_BP_en (e : Nat) (i : Nat) : Fld := ⟨(A.DBG_BP e i), 16, 1⟩
def F.DBG_BP_ctx (e : Nat) (i : Nat) : Fld := ⟨(A.DBG_BP e i), 17, 2⟩
def F.DBG_WP_addr (e : Nat) (j : Nat) : Fld := ⟨(A.DBG_WP e j), 0, 14⟩
def F.DBG_WP_mask (e : Nat) (j : Nat) : Fld := ⟨(A.DBG_WP e j), 14, 4⟩
def F.DBG_WP_rd (e : Nat) (j : Nat) : Fld := ⟨(A.DBG_WP e j), 18, 1⟩
def F.DBG_WP_wr (e : Nat) (j : Nat) : Fld := ⟨(A.DBG_WP e j), 19, 1⟩
def F.DBG_WP_en (e : Nat) (j : Nat) : Fld := ⟨(A.DBG_WP e j), 20, 1⟩
def F.DBG_WP_ctx (e : Nat) (j : Nat) : Fld := ⟨(A.DBG_WP e j), 21, 2⟩
def F.DBG_V_v (i : Nat) : Fld := ⟨(A.DBG_V i), 0, 32⟩
def F.DBG_ACC_LO_lo (n : Nat) : Fld := ⟨(A.DBG_ACC_LO n), 0, 32⟩
def F.DBG_ACC_HI_hi (n : Nat) : Fld := ⟨(A.DBG_ACC_HI n), 0, 16⟩
def F.DBG_PC_pc : Fld := ⟨A.DBG_PC, 0, 15⟩
def F.DBG_SFW_sf : Fld := ⟨A.DBG_SFW, 0, 8⟩

/-- Rows of block 0x00000, part 0. -/
def regRows0_0 : List RegRow := [
  ⟨0x0, [], 0x0, 0x0, 0x0, 0xFFFFFFFF, 0x0, 0x0, 0x1019612⟩,
  ⟨0x4, [], 0x0, 0x0, 0x0, 0xFFFFFFFF, 0x0, 0x0, 0x1010000⟩,
  ⟨0x10, [], 0x0, 0x0, 0x0, 0xFFFF01FF, 0x0, 0x0, 0x0⟩,
  ⟨0x14, [], 0x0, 0x0, 0x0, 0xFF0100, 0x0, 0xF, 0x0⟩,
  ⟨0x18, [], 0x0, 0x0, 0x0, 0x3FF, 0x0, 0x0, 0x1⟩,
  ⟨0x1C, [], 0x0, 0x0, 0x0, 0xFFFF003F, 0x0, 0x0, 0x0⟩,
  ⟨0x20, [], 0x0, 0x0, 0x0, 0xFFFFFF73, 0x0, 0x0, 0x0⟩,
  ⟨0x24, [], 0x0, 0x0, 0x0, 0x0, 0xF, 0x0, 0x0⟩,
  ⟨0x28, [], 0xFFFFFFFF, 0x0, 0x0, 0x0, 0x0, 0x0, 0x0⟩,
  ⟨0x2C, [], 0x0, 0x0, 0x0, 0x800003FF, 0x0, 0x0, 0x0⟩,
  ⟨0x100, [], 0x0, 0xFF0F3F3F, 0x0, 0x0, 0x0, 0x0, 0x32003F3F⟩,
  ⟨0x104, [], 0x0, 0xFFFFFFFF, 0x0, 0x0, 0x0, 0x0, 0x1EF30258⟩,
  ⟨0x108, [], 0x0, 0xFFFFFFFF, 0x0, 0x0, 0x0, 0x0, 0x14050190⟩,
  ⟨0x10C, [], 0x0, 0x0, 0x0, 0xFFFF0073, 0x4, 0x0, 0x0⟩,
  ⟨0x110, [], 0x0, 0xFFFF, 0x0, 0xFFFF0000, 0x0, 0x0, 0x3E8⟩,
  ⟨0x8, [], 0x0, 0x0, 0x0, 0xFFFFFFFF, 0x0, 0x0, 0x0⟩,
  ⟨0xC, [], 0x0, 0x0, 0x0, 0xFFFFFFFF, 0x0, 0x0, 0x0⟩,
  ⟨0x200, [(4, 0x10), (4, 0x4)], 0x0, 0x0, 0x0, 0xFFFFFFFF, 0x0, 0x0, 0x0⟩,
  ⟨0x240, [(4, 0x10), (4, 0x4)], 0x0, 0x0, 0x0, 0x0, 0xFFFFFFFF, 0x0, 0x0⟩]
/-- Rows of block 0x00000. -/
def regRows0 : List RegRow := regRows0_0

/-- Rows of block 0x10000, part 0. -/
def regRows1_0 : List RegRow := [
  ⟨0x10000, [], 0x1, 0x0, 0x0, 0x0, 0x0, 0x10, 0x1⟩,
  ⟨0x10004, [], 0x0, 0x0, 0x0, 0x7F, 0x0, 0x0, 0x0⟩,
  ⟨0x10008, [], 0x0, 0x0, 0x0, 0x8F03FFFF, 0x0, 0x0, 0x0⟩,
  ⟨0x1000C, [], 0x0, 0x0, 0x0, 0xFFFFFFFF, 0x0, 0x0, 0x0⟩,
  ⟨0x10010, [], 0x0, 0x0, 0x0, 0xFFFFFFFF, 0x0, 0x0, 0x0⟩,
  ⟨0x10014, [], 0x0, 0x0, 0x0, 0x1FFFFF, 0x0, 0x0, 0x0⟩,
  ⟨0x10018, [], 0x0, 0x0, 0x0, 0xFFFFFF01, 0x0, 0x0, 0x0⟩,
  ⟨0x1001C, [], 0x3FFF, 0x0, 0x0, 0x0, 0x0, 0x0, 0x3E8⟩,
  ⟨0x10020, [], 0xFFFFF, 0x0, 0x0, 0x0, 0x0, 0x0, 0x2710⟩,
  ⟨0x10024, [], 0x0, 0x0, 0x0, 0xFFF00FF, 0x0, 0x0, 0x0⟩,
  ⟨0x10028, [], 0xFF, 0x0, 0x0, 0x0, 0x0, 0x0, 0x3⟩,
  ⟨0x1002C, [], 0x0, 0x0, 0x0, 0xFFFFFFFF, 0x0, 0x0, 0x0⟩,
  ⟨0x10040, [], 0x0, 0x0, 0x0, 0x0, 0x1FF, 0x0, 0x0⟩,
  ⟨0x10044, [], 0x0, 0x0, 0x0, 0x3F, 0x0, 0x0, 0x0⟩,
  ⟨0x10030, [(4, 0x4)], 0x0, 0x0, 0x0, 0xFFFFFFFF, 0x0, 0x0, 0x0⟩]
/-- Rows of block 0x10000. -/
def regRows1 : List RegRow := regRows1_0

/-- Rows of block 0x20000, part 0. -/
def regRows2_0 : List RegRow := [
  ⟨0x20000, [], 0x0, 0x0, 0x0, 0x1F, 0x0, 0x0, 0x4⟩,
  ⟨0x20004, [], 0x0, 0x0, 0x0, 0x0, 0xF, 0x0, 0x0⟩,
  ⟨0x20008, [], 0x0, 0x0, 0x0, 0xFFFFF, 0x0, 0x0, 0x0⟩,
  ⟨0x2000C, [], 0x0, 0x0, 0x0, 0xFFFF, 0x0, 0x0, 0x0⟩,
  ⟨0x20010, [], 0x0, 0x0, 0x0, 0xFFFFFFFF, 0x0, 0x0, 0x0⟩,
  ⟨0x20014, [], 0x0, 0x0, 0x0, 0x1FFFFF, 0x0, 0x0, 0x0⟩,
  ⟨0x20020, [], 0xFFFFFFFF, 0x0, 0x0, 0x0, 0x0, 0x0, 0x3E840⟩,
  ⟨0x20024, [], 0x0, 0x0, 0x0, 0xFFFFFFFF, 0x0, 0x0, 0x0⟩,
  ⟨0x20028, [], 0x0, 0x0, 0x0, 0x1FFFFF, 0x0, 0x0, 0x0⟩,
  ⟨0x2002C, [], 0x0, 0x0, 0x0, 0xFFFF, 0x10000, 0x0, 0x0⟩,
  ⟨0x20030, [], 0x1FFFF, 0x0, 0x0, 0x0, 0x0, 0x0, 0xA0⟩,
  ⟨0x20034, [], 0xFFFFFF, 0x0, 0x0, 0x0, 0x0, 0x0, 0xFA⟩]
/-- Rows of block 0x20000. -/
def regRows2 : List RegRow := regRows2_0

/-- Rows of block 0x30000, part 0. -/
def regRows3_0 : List RegRow := [
  ⟨0x30000, [], 0x0, 0x0, 0x0, 0x0, 0x0, 0x10F, 0x0⟩,
  ⟨0x30004, [], 0x0, 0x0, 0x0, 0xFFF, 0xF0000, 0x0, 0x0⟩,
  ⟨0x30008, [], 0x0, 0x0, 0x0, 0x0, 0xF, 0x0, 0x0⟩,
  ⟨0x30200, [], 0xFF, 0x0, 0x0, 0x0, 0x0, 0x0, 0x82⟩,
  ⟨0x30010, [(4, 0x4)], 0xFFFF, 0x0, 0x0, 0x0, 0x0, 0x0, 0xF000⟩,
  ⟨0x30020, [(4, 0x4)], 0x0, 0x0, 0x0, 0xFFFFFFFF, 0x0, 0x0, 0x0⟩,
  ⟨0x30100, [(12, 0x4)], 0x0, 0x1FFFFF, 0x0, 0x0, 0x0, 0x0, 0x0⟩,
  ⟨0x31000, [(64, 0x40)], 0x3FFFF0, 0xF, 0x0, 0x0, 0x0, 0x0, 0xF⟩,
  ⟨0x31004, [(64, 0x40)], 0xFFFFFFFF, 0x0, 0x0, 0x0, 0x0, 0x0, 0x10000000⟩,
  ⟨0x31008, [(64, 0x40)], 0x3FFF3FFF, 0x0, 0x0, 0x0, 0x0, 0x0, 0x3FFF0000⟩,
  ⟨0x3100C, [(64, 0x40)], 0xFFFFFFFF, 0x0, 0x0, 0x0, 0x0, 0x0, 0x80403E8⟩,
  ⟨0x31010, [(64, 0x40)], 0xFFF1F, 0x0, 0x0, 0x0, 0x0, 0x0, 0x4000⟩,
  ⟨0x31014, [(64, 0x40)], 0x0, 0x0, 0x0, 0xFFFF7FFF, 0x0, 0x0, 0x0⟩,
  ⟨0x31018, [(64, 0x40)], 0x0, 0x0, 0x0, 0xFFFFFFFF, 0x0, 0x0, 0x0⟩,
  ⟨0x3101C, [(64, 0x40)], 0x0, 0x0, 0x0, 0xFF0FFFFF, 0x0, 0x0, 0x0⟩,
  ⟨0x31020, [(64, 0x40)], 0x0, 0x0, 0x0, 0x3FFF3FFF, 0x0, 0x0, 0x0⟩,
  ⟨0x31024, [(64, 0x40)], 0x0, 0x0, 0x0, 0x3FFF3FFF, 0x0, 0x0, 0x3FFF⟩,
  ⟨0x31028, [(64, 0x40)], 0x0, 0x0, 0x0, 0x38, 0x7, 0x100, 0x0⟩,
  ⟨0x38000, [], 0x0, 0x0, 0x0, 0x0, 0xFFFFFF, 0x0, 0x0⟩,
  ⟨0x38004, [], 0x0, 0x0, 0x0, 0xFFFFFF, 0x0, 0x0, 0x0⟩]
/-- Rows of block 0x30000, part 1. -/
def regRows3_1 : List RegRow := [
  ⟨0x38100, [(24, 0x10)], 0x7, 0xF07F0, 0x0, 0x0, 0x0, 0x0, 0xF0000⟩,
  ⟨0x38104, [(24, 0x10)], 0x3FF03FF, 0x0, 0x0, 0x0, 0x0, 0x0, 0x3FF0000⟩,
  ⟨0x38108, [(24, 0x10)], 0x0, 0x0, 0x0, 0xFFFF000B, 0x4, 0x0, 0x0⟩]
/-- Rows of block 0x30000. -/
def regRows3 : List RegRow := regRows3_0 ++ regRows3_1

/-- Rows of block 0x40000, part 0. -/
def regRows4_0 : List RegRow := [
  ⟨0x40000, [(12, 0x1000)], 0x2, 0x1, 0x0, 0x0, 0x0, 0x10, 0x0⟩,
  ⟨0x40004, [(12, 0x1000)], 0x0, 0x0, 0x0, 0x77, 0x0, 0x0, 0x0⟩,
  ⟨0x40008, [(12, 0x1000)], 0x3FFFFFF, 0x0, 0x0, 0x0, 0x0, 0x0, 0x27100⟩,
  ⟨0x4000C, [(12, 0x1000)], 0x0, 0x0, 0x0, 0x3FFFFFF, 0x0, 0x0, 0x0⟩,
  ⟨0x40010, [(12, 0x1000)], 0x0, 0xFFFF0FF3, 0x0, 0x0, 0x0, 0x0, 0x100⟩,
  ⟨0x40014, [(12, 0x1000)], 0x11FFF, 0x0, 0x0, 0x0, 0x0, 0x0, 0x7D0⟩,
  ⟨0x40018, [(12, 0x1000)], 0x0, 0x0, 0x0, 0xFFFFFFFF, 0x0, 0x0, 0x0⟩,
  ⟨0x4001C, [(12, 0x1000)], 0x0, 0x0, 0x0, 0x1FFFFF, 0x0, 0x0, 0x0⟩,
  ⟨0x40080, [(12, 0x1000)], 0x2, 0x7F7F0D, 0x0, 0x0, 0x0, 0x0, 0x7F7F00⟩,
  ⟨0x40084, [(12, 0x1000)], 0x0, 0xFF1F1F1F, 0x0, 0x0, 0x0, 0x0, 0xA000000⟩,
  ⟨0x40088, [(12, 0x1000)], 0x0, 0xFFFF0F3F, 0x0, 0x0, 0x0, 0x0, 0x640307⟩,
  ⟨0x4008C, [(12, 0x1000)], 0x0, 0x0, 0x0, 0xFFFF0F3F, 0x0, 0x0, 0x0⟩,
  ⟨0x40090, [(12, 0x1000)], 0x0, 0x0, 0x0, 0x0, 0x1FF, 0x0, 0x0⟩,
  ⟨0x40094, [(12, 0x1000)], 0x0, 0x0, 0x0, 0xFFFF, 0x0, 0x0, 0x0⟩,
  ⟨0x40098, [(12, 0x1000)], 0x0, 0x0, 0x0, 0xFFFF, 0x0, 0x0, 0x0⟩,
  ⟨0x4009C, [(12, 0x1000)], 0x0, 0x0, 0x0, 0xFFFFFFFF, 0x0, 0x0, 0x0⟩,
  ⟨0x400A0, [(12, 0x1000)], 0x0, 0xFFFFFFFF, 0x0, 0x0, 0x0, 0x0, 0x6000200⟩,
  ⟨0x400A4, [(12, 0x1000)], 0x0, 0xFFFF, 0x0, 0x0, 0x0, 0x0, 0xC00⟩,
  ⟨0x400A8, [(12, 0x1000)], 0xFFFFFFFF, 0x0, 0x0, 0x0, 0x0, 0x0, 0x0⟩,
  ⟨0x400AC, [(12, 0x1000)], 0x71, 0x0, 0x0, 0x0, 0x0, 0x1F00, 0x10⟩]
/-- Rows of block 0x40000, part 1. -/
def regRows4_1 : List RegRow := [
  ⟨0x400B0, [(12, 0x1000)], 0x0, 0x0, 0x0, 0xFFFFFFFF, 0x0, 0x0, 0x0⟩,
  ⟨0x400B4, [(12, 0x1000)], 0x0, 0x0, 0x0, 0x7FF07FF, 0x0, 0x0, 0x0⟩,
  ⟨0x400B8, [(12, 0x1000)], 0x0, 0x0, 0x0, 0x7FF07FF, 0x0, 0x0, 0x0⟩,
  ⟨0x40020, [(12, 0x1000), (3, 0x4)], 0x0, 0xFFFFFFFF, 0x0, 0x0, 0x0, 0x0, 0x0⟩,
  ⟨0x40030, [(12, 0x1000), (3, 0x4)], 0xFFFFFFFF, 0x0, 0x0, 0x0, 0x0, 0x0, 0xFFFFFFFF⟩,
  ⟨0x40040, [(12, 0x1000), (3, 0x4)], 0x0, 0x0, 0x0, 0xFFFFFFFF, 0x0, 0x0, 0x0⟩,
  ⟨0x40050, [(12, 0x1000), (2, 0x4)], 0x0, 0x11F, 0x0, 0x0, 0x0, 0x0, 0x0⟩,
  ⟨0x40060, [(12, 0x1000), (3, 0x4)], 0x0, 0xFFFFFFFF, 0x0, 0x0, 0x0, 0x0, 0x0⟩,
  ⟨0x40070, [(12, 0x1000), (3, 0x4)], 0x0, 0xFFFFFFFF, 0x0, 0x0, 0x0, 0x0, 0x0⟩,
  ⟨0x4C000, [(96, 0x4)], 0xFFFF0000, 0x7F, 0x0, 0x0, 0x0, 0x0, 0xFA0007F⟩]
/-- Rows of block 0x40000. -/
def regRows4 : List RegRow := regRows4_0 ++ regRows4_1

/-- Rows of block 0x50000, part 0. -/
def regRows5_0 : List RegRow := [
  ⟨0x50000, [(12, 0x1000)], 0x0, 0x1, 0x0, 0x0, 0x0, 0x2, 0x0⟩,
  ⟨0x50004, [(12, 0x1000)], 0x0, 0x0, 0x0, 0x1FB, 0x0, 0x0, 0x80⟩,
  ⟨0x50008, [(12, 0x1000)], 0x0, 0x0, 0x0, 0x0, 0x3F, 0x0, 0x0⟩,
  ⟨0x5000C, [(12, 0x1000)], 0x0, 0x0, 0x0, 0xFFFFFF, 0x0, 0x0, 0x0⟩,
  ⟨0x50010, [(12, 0x1000)], 0x0, 0x0, 0x0, 0xFFFFFFFF, 0x0, 0x0, 0x0⟩,
  ⟨0x50014, [(12, 0x1000)], 0x0, 0x0, 0x0, 0xFFFF, 0x0, 0x0, 0x0⟩,
  ⟨0x50018, [(12, 0x1000)], 0x0, 0x0, 0x0, 0xFFFF, 0x0, 0x0, 0x0⟩,
  ⟨0x5001C, [(12, 0x1000)], 0x0, 0x0, 0x0, 0xFFFFFFFF, 0x0, 0x0, 0x0⟩,
  ⟨0x50020, [(12, 0x1000)], 0x0, 0x0, 0x0, 0xFFFFFFFF, 0x0, 0x0, 0x0⟩,
  ⟨0x50024, [(12, 0x1000)], 0x0, 0x0, 0x0, 0xFFFFFFFF, 0x0, 0x0, 0x0⟩,
  ⟨0x50030, [(12, 0x1000)], 0xF0000, 0xFFFF, 0x0, 0x0, 0x0, 0x0, 0x107D0⟩,
  ⟨0x50034, [(12, 0x1000)], 0x0, 0xFFFF, 0x0, 0x0, 0x0, 0x0, 0xE61A⟩,
  ⟨0x50040, [(12, 0x1000)], 0xFF0FFFFF, 0x0, 0x0, 0x0, 0x0, 0x0, 0x50080000⟩,
  ⟨0x50044, [(12, 0x1000)], 0xFFFFFF, 0x0, 0x0, 0x0, 0x0, 0x0, 0x40190⟩,
  ⟨0x50038, [(12, 0x1000), (2, 0x4)], 0x0, 0xFFFF0F, 0x0, 0x0, 0x0, 0x0, 0x800A00⟩,
  ⟨0x50100, [(12, 0x1000), (8, 0x20)], 0xBFFF, 0x0, 0x0, 0x0, 0x0, 0x0, 0x80⟩,
  ⟨0x50104, [(12, 0x1000), (8, 0x20)], 0xFFFFFFFF, 0x0, 0x0, 0x0, 0x0, 0x0, 0x770077⟩,
  ⟨0x50108, [(12, 0x1000), (8, 0x20)], 0x0, 0x0, 0xFFFFFFFF, 0x0, 0x0, 0x0, 0x3E8007D0⟩,
  ⟨0x5010C, [(12, 0x1000), (8, 0x20)], 0x0, 0x0, 0xFFFFFFFF, 0x0, 0x0, 0x0, 0x2828F0F0⟩,
  ⟨0x50110, [(12, 0x1000), (8, 0x20), (4, 0x4)], 0x0, 0x0, 0x0, 0xFFFF00FF, 0x0, 0x0, 0x0⟩]
/-- Rows of block 0x50000. -/
def regRows5 : List RegRow := regRows5_0

/-- Rows of block 0x60000, part 0. -/
def regRows6_0 : List RegRow := [
  ⟨0x60000, [(6, 0x1000)], 0x0, 0x0, 0x0, 0x0, 0x0, 0x333, 0x0⟩,
  ⟨0x60004, [(6, 0x1000)], 0x0, 0x0, 0x0, 0x377, 0x0, 0x0, 0x0⟩,
  ⟨0x60008, [(6, 0x1000)], 0x0, 0x0, 0x0, 0x3FFFFF1F, 0x0, 0x0, 0x0⟩,
  ⟨0x6000C, [(6, 0x1000)], 0x0, 0x0, 0x0, 0xFFFFFFFF, 0x0, 0x0, 0x0⟩,
  ⟨0x60010, [(6, 0x1000)], 0xFF01, 0x0, 0x0, 0x0, 0x0, 0x0, 0x401⟩,
  ⟨0x60100, [(6, 0x1000), (2, 0x100)], 0x0, 0x3FFF, 0x0, 0x0, 0x0, 0x0, 0x0⟩,
  ⟨0x60104, [(6, 0x1000), (2, 0x100)], 0x0, 0x3FFF1FFF, 0x0, 0x0, 0x0, 0x0, 0x10000000⟩,
  ⟨0x60108, [(6, 0x1000), (2, 0x100)], 0x0, 0x0, 0x0, 0xFF, 0x0, 0x0, 0x0⟩,
  ⟨0x6010C, [(6, 0x1000), (2, 0x100)], 0x0, 0x0, 0x0, 0xFF, 0x0, 0x0, 0x0⟩,
  ⟨0x60110, [(6, 0x1000), (2, 0x100)], 0xF0, 0xF, 0x0, 0x0, 0x0, 0x0, 0xF0⟩,
  ⟨0x60114, [(6, 0x1000), (2, 0x100)], 0x0, 0xFFFFFF, 0x0, 0x0, 0x0, 0x0, 0x0⟩,
  ⟨0x60118, [(6, 0x1000), (2, 0x100)], 0x0, 0xFFFFFF, 0x0, 0x0, 0x0, 0x0, 0x0⟩,
  ⟨0x60130, [(6, 0x1000), (2, 0x100)], 0x0, 0x0, 0x0, 0xFFFF, 0x0, 0x0, 0x0⟩,
  ⟨0x60134, [(6, 0x1000), (2, 0x100)], 0x0, 0x0, 0x0, 0x1FFFF, 0x0, 0x0, 0xFFFF⟩,
  ⟨0x60138, [(6, 0x1000), (2, 0x100)], 0x0, 0x0, 0x0, 0xFFFF, 0x0, 0x0, 0x0⟩,
  ⟨0x6013C, [(6, 0x1000), (2, 0x100)], 0x0, 0x0, 0x0, 0x3FFF, 0x0, 0x0, 0x0⟩,
  ⟨0x60140, [(6, 0x1000), (2, 0x100)], 0x0, 0x0, 0x0, 0xFFFF, 0x30000, 0x0, 0x0⟩,
  ⟨0x60144, [(6, 0x1000), (2, 0x100)], 0x0, 0x11FFF, 0x0, 0x0, 0x0, 0x0, 0x0⟩,
  ⟨0x60120, [(6, 0x1000), (2, 0x100), (4, 0x4)], 0x0, 0x7F1FFF, 0x0, 0x0, 0x0, 0x0, 0x0⟩,
  ⟨0x68000, [], 0x0, 0x0, 0x0, 0x0, 0x0, 0x7, 0x0⟩]
/-- Rows of block 0x60000, part 1. -/
def regRows6_1 : List RegRow := [
  ⟨0x68004, [], 0x0, 0x0, 0x0, 0x7FFFFF07, 0x0, 0x0, 0x0⟩,
  ⟨0x68008, [], 0x0, 0x7FFF, 0x0, 0x0, 0x0, 0x0, 0x0⟩,
  ⟨0x6800C, [], 0x0, 0x7F80, 0x0, 0x0, 0x0, 0x0, 0x0⟩,
  ⟨0x68060, [], 0xFFFF, 0x0, 0x0, 0x0, 0x0, 0x0, 0x3E8⟩,
  ⟨0x6806C, [], 0x0, 0x0, 0x0, 0xFF, 0x0, 0x0, 0x0⟩,
  ⟨0x68070, [], 0x0, 0x0, 0x0, 0xFF, 0x0, 0x0, 0x0⟩,
  ⟨0x68074, [], 0x0, 0x0, 0x0, 0x7FFF000F, 0x0, 0x0, 0x0⟩,
  ⟨0x68078, [], 0x0, 0x0, 0x0, 0xFFFFFFFF, 0x0, 0x0, 0x0⟩,
  ⟨0x6807C, [], 0x0, 0x0, 0x0, 0xFFFF, 0x0, 0x0, 0x0⟩,
  ⟨0x68010, [(4, 0x4)], 0xFFFFFFFF, 0x0, 0x0, 0x0, 0x0, 0x0, 0x0⟩,
  ⟨0x68020, [(4, 0x4)], 0x0, 0x0, 0x0, 0xFFFFFFFF, 0x0, 0x0, 0x0⟩,
  ⟨0x68030, [(4, 0x4)], 0x0, 0x0, 0x0, 0x0, 0xFFFFFFFF, 0x0, 0x0⟩,
  ⟨0x68040, [(8, 0x4)], 0xFFFFFFFF, 0x0, 0x0, 0x0, 0x0, 0x0, 0x0⟩,
  ⟨0x68064, [(2, 0x4)], 0xFFFFFFFF, 0x0, 0x0, 0x0, 0x0, 0x0, 0x0⟩]
/-- Rows of block 0x60000. -/
def regRows6 : List RegRow := regRows6_0 ++ regRows6_1

/-- Rows of block 0x70000, part 0. -/
def regRows7_0 : List RegRow := [
  ⟨0x70000, [(4, 0x100)], 0x1, 0x6, 0x0, 0x0, 0x0, 0x8, 0x0⟩,
  ⟨0x70004, [(4, 0x100)], 0x0, 0x3F3F3F, 0x0, 0x0, 0x0, 0x0, 0x3F3F3F⟩,
  ⟨0x70008, [(4, 0x100)], 0x0, 0x1FFFF, 0x0, 0x0, 0x0, 0x0, 0xC350⟩,
  ⟨0x7000C, [(4, 0x100)], 0x0, 0xFFFFFFFF, 0x0, 0x0, 0x0, 0x0, 0x10000000⟩,
  ⟨0x70010, [(4, 0x100)], 0x0, 0xFF3F3F, 0x0, 0x0, 0x0, 0x0, 0x141415⟩,
  ⟨0x70014, [(4, 0x100)], 0xFFFFFFFF, 0x0, 0x0, 0x0, 0x0, 0x0, 0x640064⟩,
  ⟨0x70018, [(4, 0x100)], 0xFFFFFFFF, 0x0, 0x0, 0x0, 0x0, 0x0, 0x44C0384⟩,
  ⟨0x7001C, [(4, 0x100)], 0xFFFFFFF, 0x0, 0x0, 0x0, 0x0, 0x0, 0x3232⟩,
  ⟨0x70020, [(4, 0x100)], 0x0, 0x0, 0x0, 0xFFFF3F7F, 0x0, 0x0, 0x0⟩,
  ⟨0x70024, [(4, 0x100)], 0x0, 0x0, 0x0, 0x0, 0x1FF, 0x0, 0x0⟩,
  ⟨0x70028, [(4, 0x100)], 0x0, 0x0, 0x0, 0xFFFFFFFF, 0x0, 0x0, 0x0⟩,
  ⟨0x7002C, [(4, 0x100)], 0x0, 0x0, 0x0, 0xFFFFF, 0x0, 0x0, 0x0⟩,
  ⟨0x70030, [(4, 0x100)], 0x0, 0x0, 0x0, 0xFFFFFFFF, 0x0, 0x0, 0x0⟩,
  ⟨0x70034, [(4, 0x100)], 0x0, 0x0, 0x0, 0xFFFFFFFF, 0x0, 0x0, 0x0⟩,
  ⟨0x70038, [(4, 0x100)], 0x0, 0x0, 0x0, 0xFFFFFFFF, 0x0, 0x0, 0x0⟩,
  ⟨0x7003C, [(4, 0x100)], 0x0, 0x0, 0x0, 0xFFFFFFFF, 0x0, 0x0, 0x0⟩,
  ⟨0x70040, [(4, 0x100)], 0x0, 0x0, 0x0, 0xFFFFFFFF, 0x0, 0x0, 0x0⟩,
  ⟨0x70044, [(4, 0x100)], 0x0, 0x0, 0x0, 0xFFFF007F, 0x0, 0x0, 0x0⟩,
  ⟨0x71000, [(4, 0x100), (16, 0x4)], 0x0, 0x0, 0xFFFFFFFF, 0x0, 0x0, 0x0, 0x352⟩,
  ⟨0x71040, [(4, 0x100), (16, 0x4)], 0x0, 0x0, 0xFFFFFFFF, 0x0, 0x0, 0x0, 0x44C⟩]
/-- Rows of block 0x70000, part 1. -/
def regRows7_1 : List RegRow := [
  ⟨0x71080, [(4, 0x100), (4, 0x4)], 0x0, 0x0, 0xFFFFFFFF, 0x0, 0x0, 0x0, 0xC0000000⟩,
  ⟨0x71090, [(4, 0x100), (4, 0x4)], 0x0, 0x0, 0xFFFFFFFF, 0x0, 0x0, 0x0, 0xC0000000⟩,
  ⟨0x710A0, [(4, 0x100)], 0x0, 0x0, 0xFFFFFFFF, 0x0, 0x0, 0x0, 0x3840352⟩,
  ⟨0x710A4, [(4, 0x100)], 0x0, 0x0, 0xFFFFFFFF, 0x0, 0x0, 0x0, 0x438044C⟩,
  ⟨0x710A8, [(4, 0x100)], 0x0, 0x0, 0xFFFFFFFF, 0x0, 0x0, 0x0, 0x643205⟩,
  ⟨0x710AC, [(4, 0x100)], 0x0, 0x0, 0xFFFFFFFF, 0x0, 0x0, 0x0, 0x1F401F4⟩,
  ⟨0x78000, [(4, 0x100)], 0x1, 0x6, 0x0, 0x0, 0x0, 0x18, 0x0⟩,
  ⟨0x78004, [(4, 0x100)], 0x0, 0x3F3F3F, 0x0, 0x0, 0x0, 0x0, 0x3F3F3F⟩,
  ⟨0x78008, [(4, 0x100)], 0x0, 0x1F03, 0x0, 0x0, 0x0, 0x0, 0xA00⟩,
  ⟨0x7800C, [(4, 0x100)], 0x0, 0xFFFFFFFF, 0x0, 0x0, 0x0, 0x0, 0x12C0532⟩,
  ⟨0x78010, [(4, 0x100)], 0x0, 0xFFFF0FF3, 0x0, 0x0, 0x0, 0x0, 0x460A00A1⟩,
  ⟨0x78014, [(4, 0x100)], 0x0, 0xFFFFFF, 0x0, 0x0, 0x0, 0x0, 0xA0000⟩,
  ⟨0x78018, [(4, 0x100)], 0x0, 0xFF, 0x0, 0x0, 0x0, 0x0, 0x0⟩,
  ⟨0x7801C, [(4, 0x100)], 0x0, 0xFFFFFFFF, 0x0, 0x0, 0x0, 0x0, 0x640000⟩,
  ⟨0x78020, [(4, 0x100)], 0x0, 0x0, 0x0, 0x7F, 0x0, 0x0, 0x0⟩,
  ⟨0x78024, [(4, 0x100)], 0x0, 0x0, 0x0, 0xFFFFFFFF, 0x0, 0x0, 0x0⟩,
  ⟨0x78028, [(4, 0x100)], 0x0, 0x0, 0x0, 0x0, 0xFF, 0x0, 0x0⟩,
  ⟨0x7802C, [(4, 0x100)], 0x0, 0x0, 0x0, 0xFFFF000F, 0x0, 0x0, 0x0⟩,
  ⟨0x78030, [(4, 0x100)], 0x0, 0xFFFF, 0x0, 0xFFFF0000, 0x0, 0x0, 0x3C003C⟩,
  ⟨0x78034, [(4, 0x100)], 0x0, 0x0, 0x0, 0xFFFFFFFF, 0x0, 0x0, 0x0⟩]
/-- Rows of block 0x70000, part 2. -/
def regRows7_2 : List RegRow := [
  ⟨0x78400, [], 0x0, 0x1F, 0x0, 0x0, 0x0, 0x0, 0x0⟩,
  ⟨0x78404, [], 0x0, 0x0, 0x0, 0x0, 0x0, 0x3, 0x0⟩,
  ⟨0x78408, [], 0x0, 0x0, 0x0, 0xFFFF0077, 0x0, 0x0, 0x0⟩]
/-- Rows of block 0x70000. -/
def regRows7 : List RegRow := regRows7_0 ++ regRows7_1 ++ regRows7_2

/-- Rows of block 0x80000, part 0. -/
def regRows8_0 : List RegRow := [
  ⟨0x80000, [(4, 0x200)], 0x1, 0x0, 0x0, 0x0, 0x0, 0x2, 0x0⟩,
  ⟨0x80004, [(4, 0x200)], 0x0, 0x3F3F3F, 0x0, 0x0, 0x0, 0x0, 0x3F3F3F⟩,
  ⟨0x80008, [(4, 0x200)], 0x0, 0x3F3F3F, 0x0, 0x0, 0x0, 0x0, 0x3F3F3F⟩,
  ⟨0x8000C, [(4, 0x200)], 0x0, 0xFF1FFF, 0x0, 0x0, 0x0, 0x0, 0x1400C4⟩,
  ⟨0x80010, [(4, 0x200)], 0x0, 0x1FFFF, 0x0, 0x0, 0x0, 0x0, 0xC350⟩,
  ⟨0x80014, [(4, 0x200)], 0x0, 0xFFFFFFFF, 0x0, 0x0, 0x0, 0x0, 0xB504F33⟩,
  ⟨0x80018, [(4, 0x200)], 0x0, 0xFFFF, 0x0, 0x0, 0x0, 0x0, 0x4⟩,
  ⟨0x8001C, [(4, 0x200)], 0x0, 0xFFFFFF, 0x0, 0x0, 0x0, 0x0, 0x1402C3⟩,
  ⟨0x80020, [(4, 0x200)], 0x0, 0xFFFFFF, 0x0, 0x0, 0x0, 0x0, 0x56E5A⟩,
  ⟨0x80024, [(4, 0x200)], 0x0, 0x0, 0x0, 0xFFFF007F, 0x0, 0x0, 0x0⟩,
  ⟨0x80080, [(4, 0x200)], 0x0, 0x0, 0x0, 0xFFFFF, 0x0, 0x0, 0x0⟩,
  ⟨0x80084, [(4, 0x200)], 0x0, 0x0, 0x0, 0xFFFFFFFF, 0x0, 0x0, 0x0⟩,
  ⟨0x80088, [(4, 0x200)], 0x0, 0x0, 0x0, 0xFFFFFFFF, 0x0, 0x0, 0x0⟩,
  ⟨0x8008C, [(4, 0x200)], 0x0, 0x0, 0x0, 0xFFFF, 0x0, 0x0, 0x0⟩,
  ⟨0x80090, [(4, 0x200)], 0x0, 0x0, 0x0, 0xFFFFF, 0x0, 0x0, 0x0⟩,
  ⟨0x800D0, [(4, 0x200)], 0x0, 0x0, 0x0, 0xFFFF003F, 0x0, 0x0, 0x0⟩,
  ⟨0x80028, [(4, 0x200), (3, 0x4)], 0x0, 0x0, 0x0, 0xFFFFFFFF, 0x0, 0x0, 0x0⟩,
  ⟨0x80034, [(4, 0x200), (3, 0x4)], 0x0, 0x0, 0x0, 0xFFFFFFFF, 0x0, 0x0, 0x0⟩,
  ⟨0x80040, [(4, 0x200), (3, 0x4)], 0x0, 0x0, 0x0, 0xFFFFFFFF, 0x0, 0x0, 0x0⟩,
  ⟨0x8004C, [(4, 0x200), (3, 0x4)], 0x0, 0x0, 0x0, 0xFFFFFFFF, 0x0, 0x0, 0x0⟩]
/-- Rows of block 0x80000, part 1. -/
def regRows8_1 : List RegRow := [
  ⟨0x80058, [(4, 0x200), (3, 0x4)], 0x0, 0x0, 0x0, 0xFFFFFFFF, 0x0, 0x0, 0x0⟩,
  ⟨0x80064, [(4, 0x200), (3, 0x4)], 0x0, 0x0, 0x0, 0xFFFFFFFF, 0x0, 0x0, 0x0⟩,
  ⟨0x80070, [(4, 0x200)], 0x0, 0x0, 0x0, 0xFFFFFFFF, 0x0, 0x0, 0x0⟩,
  ⟨0x80074, [(4, 0x200)], 0x0, 0x0, 0x0, 0xFFFFFFFF, 0x0, 0x0, 0x0⟩,
  ⟨0x80078, [(4, 0x200)], 0x0, 0x0, 0x0, 0xFFFFFFFF, 0x0, 0x0, 0x0⟩,
  ⟨0x8007C, [(4, 0x200)], 0x0, 0x0, 0x0, 0xFFFFFFFF, 0x0, 0x0, 0x0⟩,
  ⟨0x800A0, [(4, 0x200), (6, 0x8)], 0x0, 0x0, 0x0, 0xFFFFFFFF, 0x0, 0x0, 0x0⟩,
  ⟨0x800A4, [(4, 0x200), (6, 0x8)], 0x0, 0x0, 0x0, 0xFFFFFFFF, 0x0, 0x0, 0x0⟩,
  ⟨0x80800, [], 0x0, 0x0, 0x0, 0x0, 0xF1FFF, 0x0, 0x0⟩,
  ⟨0x80804, [], 0x3FF, 0x0, 0x0, 0x0, 0x0, 0x10000, 0x3C⟩,
  ⟨0x80808, [], 0x0, 0x0, 0x0, 0xFFFF001F, 0x0, 0x0, 0x0⟩,
  ⟨0x8080C, [], 0x0, 0x0, 0x0, 0xFFFFFFFF, 0x0, 0x0, 0x0⟩,
  ⟨0x80810, [], 0x0, 0x0, 0x0, 0xFFFF0FF7, 0x0, 0x0, 0x0⟩,
  ⟨0x80814, [], 0x0, 0x0, 0x0, 0xFFFFFFFF, 0x0, 0x0, 0x0⟩]
/-- Rows of block 0x80000. -/
def regRows8 : List RegRow := regRows8_0 ++ regRows8_1

/-- Rows of block 0x90000, part 0. -/
def regRows9_0 : List RegRow := [
  ⟨0x90000, [], 0x0, 0x1, 0x0, 0x0, 0x0, 0x10, 0x0⟩,
  ⟨0x90004, [], 0x0, 0x0, 0x0, 0x7FFFF, 0x0, 0x0, 0x0⟩,
  ⟨0x90008, [], 0x0, 0x0, 0x0, 0x0, 0xFF, 0x0, 0x0⟩,
  ⟨0x9000C, [], 0x0, 0x3FF, 0x0, 0x0, 0x0, 0x0, 0x64⟩,
  ⟨0x90010, [], 0x0, 0xFFFF03, 0x0, 0x0, 0x0, 0x0, 0x140000⟩,
  ⟨0x90014, [], 0x0, 0xFFFFFFFF, 0x0, 0x0, 0x0, 0x0, 0x0⟩,
  ⟨0x90018, [], 0x0, 0xFFFFFFFF, 0x0, 0x0, 0x0, 0x0, 0x0⟩,
  ⟨0x90020, [], 0x0, 0x3FF, 0x0, 0x0, 0x0, 0x0, 0x64⟩,
  ⟨0x90024, [], 0x0, 0x0, 0x0, 0x3FFFF, 0x0, 0x0, 0x0⟩,
  ⟨0x90028, [], 0x0, 0x0, 0x0, 0xFFFFFFFF, 0x0, 0x0, 0x0⟩,
  ⟨0x90100, [(8, 0x10)], 0x0, 0x7FF1FFF, 0x0, 0x0, 0x0, 0x0, 0x640500⟩,
  ⟨0x90104, [(8, 0x10)], 0x0, 0x0, 0x0, 0xFFFF00FF, 0x0, 0x0, 0x0⟩]
/-- Rows of block 0x90000. -/
def regRows9 : List RegRow := regRows9_0

/-- Rows of block 0xA0000, part 0. -/
def regRowsA_0 : List RegRow := [
  ⟨0xA0000, [], 0x0, 0x0, 0x0, 0x77F, 0x0, 0x0, 0x0⟩,
  ⟨0xA0004, [], 0x0, 0x0, 0x0, 0x0, 0xFF, 0x0, 0x0⟩,
  ⟨0xA0008, [], 0x0, 0x0, 0x0, 0xFFFFFFFF, 0x0, 0x0, 0x0⟩,
  ⟨0xA0010, [], 0x7F7F7F7F, 0x0, 0x0, 0x0, 0x0, 0x0, 0xC0C1010⟩,
  ⟨0xA0014, [], 0x7F, 0x0, 0x0, 0x0, 0x0, 0x0, 0x8⟩,
  ⟨0xA0040, [], 0x0, 0x0, 0x0, 0xFFFFFFFF, 0x0, 0x0, 0xFFFFFFFF⟩,
  ⟨0xA0044, [], 0x0, 0x0, 0x0, 0xFFFF, 0x0, 0x0, 0xFFFF⟩,
  ⟨0xA0048, [], 0xFFFF, 0x0, 0x0, 0x0, 0x0, 0x0, 0x0⟩,
  ⟨0xA004C, [], 0x0, 0x0, 0x0, 0xFF01FFFF, 0x0, 0x0, 0x0⟩,
  ⟨0xA0100, [], 0x0, 0x0, 0x0, 0xFFFFFFFF, 0x0, 0x0, 0x0⟩,
  ⟨0xA0104, [], 0x0, 0x0, 0x0, 0xFFFFFFFF, 0x0, 0x0, 0x0⟩,
  ⟨0xA0108, [], 0x0, 0x0, 0x0, 0x3, 0x0, 0x0, 0x0⟩,
  ⟨0xA0020, [(5, 0x4)], 0x0, 0x0, 0x0, 0xFFFFFF, 0x0, 0x0, 0x0⟩]
/-- Rows of block 0xA0000. -/
def regRowsA : List RegRow := regRowsA_0

/-- Rows of block 0xB0000, part 0. -/
def regRowsB_0 : List RegRow := [
  ⟨0xB0C00, [(2, 0x10)], 0x0, 0x0, 0xFFFFFFFF, 0x0, 0x0, 0x0, 0x0⟩,
  ⟨0xB0C04, [(2, 0x10)], 0x0, 0x0, 0xFFFF, 0x0, 0x0, 0x0, 0x4C02⟩,
  ⟨0xB0C08, [(2, 0x10)], 0x0, 0x0, 0xFFFFFFFF, 0x0, 0x0, 0x0, 0x0⟩,
  ⟨0xB0C0C, [(2, 0x10)], 0x0, 0x0, 0xFFFF, 0x0, 0x0, 0x0, 0x88B5⟩,
  ⟨0xBF000, [], 0x0, 0x0, 0x0, 0xFFFF00F1, 0x0, 0x0, 0x0⟩,
  ⟨0xBF004, [], 0x0, 0x0, 0x0, 0x0, 0x7, 0x0, 0x0⟩,
  ⟨0xBF008, [], 0x0, 0x0, 0x0, 0xFFFF, 0x0, 0x0, 0x0⟩,
  ⟨0xBF018, [], 0x0, 0x0, 0x0, 0xFFFFFFFF, 0x0, 0x0, 0x0⟩,
  ⟨0xBF010, [], 0x0, 0x0, 0x0, 0x73FFF, 0x0, 0x0, 0x0⟩,
  ⟨0xBF014, [], 0x0, 0x0, 0x0, 0x73FFF, 0x0, 0x0, 0x0⟩,
  ⟨0xB8000, [(6144, 0x4)], 0x0, 0x0, 0x0, 0x800FFFFF, 0x0, 0x0, 0x0⟩]
/-- Rows of block 0xB0000. -/
def regRowsB : List RegRow := regRowsB_0

/-- Rows of block 0xC0000, part 0. -/
def regRowsC_0 : List RegRow := [
  ⟨0xC0000, [], 0x0, 0x0, 0x0, 0x0, 0xFF, 0x0, 0x0⟩,
  ⟨0xC0004, [], 0x0, 0x0, 0x0, 0xFFFFFFFF, 0x0, 0x0, 0x0⟩,
  ⟨0xC0200, [], 0xFFFF07FF, 0x0, 0x0, 0x8000, 0x0, 0x800, 0x0⟩,
  ⟨0xC0300, [], 0x1, 0xF1FE, 0x0, 0x0, 0x0, 0x0, 0x40⟩,
  ⟨0xC0304, [], 0x0, 0x0, 0x0, 0x701, 0x0, 0x0, 0x0⟩,
  ⟨0xC0308, [], 0xFFFF0000, 0x0, 0x0, 0xFFFF, 0x0, 0x0, 0x0⟩,
  ⟨0xC0400, [], 0xF0F, 0x0, 0x0, 0xF0000, 0x0, 0x0, 0x0⟩,
  ⟨0xC0100, [(2, 0x40)], 0x7, 0x0, 0x0, 0x0, 0x0, 0x0, 0x6⟩,
  ⟨0xC0104, [(2, 0x40)], 0x0, 0x0, 0x0, 0x1, 0x0, 0x0, 0x0⟩,
  ⟨0xC0108, [(2, 0x40)], 0xFFFFFFFF, 0x0, 0x0, 0x0, 0x0, 0x0, 0x0⟩,
  ⟨0xC010C, [(2, 0x40)], 0xFFFFFF01, 0x0, 0x0, 0x0, 0x0, 0x0, 0xC1CD0A00⟩,
  ⟨0xC0110, [(2, 0x40)], 0x0, 0x0, 0x0, 0xFFFFFFFF, 0x0, 0x0, 0x0⟩]
/-- Rows of block 0xC0000. -/
def regRowsC : List RegRow := regRowsC_0

/-- Rows of block 0xD0000, part 0. -/
def regRowsD_0 : List RegRow := [
  ⟨0xD0000, [], 0x0, 0x0, 0x0, 0x7FFF0F, 0x0, 0x0, 0x0⟩,
  ⟨0xD0004, [], 0x0, 0x0, 0x0, 0x0, 0x0, 0x13F, 0x0⟩,
  ⟨0xD0008, [], 0x0, 0x0, 0x0, 0x0, 0x7, 0x0, 0x0⟩,
  ⟨0xD000C, [], 0x0, 0x0, 0x0, 0xFFFFFFFF, 0x0, 0x0, 0x0⟩,
  ⟨0xD0010, [], 0xF, 0x0, 0x0, 0x0, 0x0, 0x0, 0x0⟩,
  ⟨0xD0100, [(7, 0x40)], 0x1, 0x0, 0x0, 0x0, 0x0, 0x0, 0x0⟩,
  ⟨0xD0104, [(7, 0x40)], 0x0, 0x0, 0x0, 0xFFFF77FF, 0x0, 0x0, 0x0⟩,
  ⟨0xD0108, [(7, 0x40), (4, 0x4)], 0x77FFF, 0x0, 0x0, 0x0, 0x0, 0x0, 0x60000⟩,
  ⟨0xD0118, [(7, 0x40), (2, 0x4)], 0x7FFFFF, 0x0, 0x0, 0x0, 0x0, 0x0, 0x600000⟩,
  ⟨0xD0400, [(32, 0x4)], 0xFFFFFFFF, 0x0, 0x0, 0x0, 0x0, 0x0, 0x0⟩,
  ⟨0xD0480, [(4, 0x8)], 0xFFFFFFFF, 0x0, 0x0, 0x0, 0x0, 0x0, 0x0⟩,
  ⟨0xD0484, [(4, 0x8)], 0xFFFF, 0x0, 0x0, 0x0, 0x0, 0x0, 0x0⟩,
  ⟨0xD04A0, [], 0x7FFF, 0x0, 0x0, 0x0, 0x0, 0x0, 0x0⟩,
  ⟨0xD04A4, [], 0xFF, 0x0, 0x0, 0x0, 0x0, 0x0, 0x0⟩]
/-- Rows of block 0xD0000. -/
def regRowsD : List RegRow := regRowsD_0

/-- The rows of the 64 KiB block that an address lies in. -/
def regRowsAt (a : Nat) : List RegRow :=
  match a / 0x10000 with
  | 0 => regRows0
  | 1 => regRows1
  | 2 => regRows2
  | 3 => regRows3
  | 4 => regRows4
  | 5 => regRows5
  | 6 => regRows6
  | 7 => regRows7
  | 8 => regRows8
  | 9 => regRows9
  | 10 => regRowsA
  | 11 => regRowsB
  | 12 => regRowsC
  | 13 => regRowsD
  | _ => []

/-- Whether byte offset `o` is instance `i, j, …` of a family with these (count, stride) pairs. -/
def dimsHit : List (Nat × Nat) → Nat → Bool
  | [], o => o == 0
  | (c, st) :: t, o => decide (o / st < c) && dimsHit t (o % st)

/-- Whether the register of row `r` lies at address `a`. -/
def RegRow.hit (r : RegRow) (a : Nat) : Bool := decide (r.base ≤ a) && dimsHit r.dims (a - r.base)

/-- The row of the register at address `a`, if a register lies there (R440). -/
def regRow? (a : Nat) : Option RegRow := (regRowsAt a).find? (·.hit a)

/-- Instances whose reset value differs from their family's: LTH_DWIN of context 1 (R82), the unused envelope
points as shipped (R258), the Devar settings (R421) and the shipped network addresses (R396). -/
def regResetExtra (a : Nat) : Option Nat :=
  if a / 0x1000 ∈ [0x60, 0x61, 0x62, 0x63, 0x64, 0x65] ∧ a % 0x1000 = 0x204 then some 0x10001000
  else if a / 0x400 = 0x71000 / 0x400 ∧ a % 0x100 < 0x80 ∧ a % 0x40 ≠ 0 ∧ a % 4 = 0 then some 0xC0000000
  else if a = 0xB0044 then some 0x301
  else if a = 0xB0C08 then some 0xA9FE600C
  else if a = 0xB0C18 then some 0xA9FE600D
  else none

/-- The reset value of the register at address `a`, 0 where no register lies (R440). -/
def regReset (a : Nat) : Word :=
  match regResetExtra a with
  | some v => BitVec.ofNat 32 v
  | none => match regRow? a with
    | some r => BitVec.ofNat 32 r.rst
    | none => 0

end Sys2Proof.Machine
end

