-- ==== Sys2Proof/Machine/Types.lean ====
section
/-! DEFINITION. The parts of the state that no register of the spec shows whole: contexts, stages, links, converters,
grid, islanding, metering and safety units, the command queue, the ports' stores and what leaves the device. Register
fields live in the register file (`State.regs`) and are not repeated here. -/

namespace Sys2Proof.Machine

/-- The states of an engine context (R61). -/
inductive CtxSt where
  | idle
  | run
  | wait
  | halt
  | fault
  deriving DecidableEq, Repr

/-- The code of a context state in LTH_STAT (R61). -/
def CtxSt.code : CtxSt → Nat
  | .idle => 0
  | .run => 1
  | .wait => 2
  | .halt => 3
  | .fault => 4

/-- The eleven GRID quantities of one interface as a stage event snapped them (R120). -/
abbrev GridSnap := Vector Word 11

/-- One engine context: a Lathe context or the Headstock (R59, R62, R64 to R66, R218 to R220, R424). -/
structure Ctx where
  /-- State (R61). -/
  st : CtxSt
  /-- State before HALT (R424). -/
  prev : CtxSt
  /-- Word address of the next instruction. -/
  pc : Nat
  /-- V0 to V31; entry 0 is never read (R87). -/
  v : Vector Word 32
  /-- ACC0 to ACC3 (R97). -/
  acc : Vector (BitVec 48) 4
  /-- Sticky flags (R82). -/
  sf : BitVec 8
  /-- Stage-event latch (R64). -/
  latch : Bool
  /-- Stage events counted since the start; P is this number less one (R65). -/
  events : Nat
  /-- Loops that became due since the previous WAIT returned (R65). -/
  due : Nat
  /-- An overrun since the previous WAIT returned (R66). -/
  ovr : Bool
  /-- Switching was stopped at the latest stage event (R66). -/
  stopped : Bool
  /-- No WAIT has returned since the start (R65). -/
  first : Bool
  /-- A stop is pending for the next WAIT (R62). -/
  stopReq : Bool
  /-- Slots since the latest WAIT return (R82, LTH_RUNMAX). -/
  slots : Nat
  /-- A WAIT has returned since the start, so slots are counted (R82). -/
  counting : Bool
  /-- Destination of the sleeping WAIT (R66). -/
  waitD : VReg
  /-- Open state of the loops in force, bit j (R218). -/
  openF : Nat
  /-- Loops that became closed and not yet reported (R220). -/
  closedT : Nat
  /-- Loops that became open and not yet reported (R220). -/
  openedT : Nat
  /-- Snapshot of the four grid interfaces (R120). -/
  snap : Vector GridSnap 4
  /-- How many of its next instructions trigger no breakpoint: one after a resume, and the stepped one and the one after it
where it has been stepped (R426, R427). -/
  bpSkip : Nat
  deriving DecidableEq, Repr

/-- A context as reset leaves it: IDLE, everything cleared, all loops open (R61, R62, R218). -/
def Ctx.init : Ctx where
  st := .idle
  prev := .idle
  pc := 0
  v := Vector.replicate 32 0
  acc := Vector.replicate 4 0
  sf := 0
  latch := false
  events := 0
  due := 0
  ovr := false
  stopped := false
  first := true
  stopReq := false
  slots := 0
  counting := false
  waitD := 0
  openF := 15
  closedT := 0
  openedT := 0
  snap := Vector.replicate 4 (Vector.replicate 11 0)
  bpSkip := 0

/-- A pulse slot of a plan: key 4 × switch + slot, then the on and off instants in taps from the period start. Only
slots with on < off are kept, in rising key order, so a plan has one form (R122, R123). -/
abbrev Plan := List (Nat × Nat × Nat)

/-- An edge of a switch: the switch, the polarity (on or off), the execution instant in EDGE taps, the load band and
the drive codes fixed at its latch (R19, R180, R194, R211). -/
structure Edge where
  sw : Nat
  on : Bool
  t : Nat
  band : Nat
  step1 : Nat
  step2 : Nat
  dly : Nat
  deriving DecidableEq, Repr

/-- A command assigned to a slot of its link (R180, R183): the stage, the slot's first tap, the edge, and whether it has
been sent. -/
structure Slotted where
  stage : Nat
  link : Nat
  start : Nat
  edge : Edge
  sent : Bool
  deriving DecidableEq, Repr

/-- An immediate off waiting for the next slot of its link (R183). -/
structure Imm where
  stage : Nat
  link : Nat
  sw : Nat
  horizon : Nat
  deriving DecidableEq, Repr

/-- A kept edge of a switch, to which a crossing word is matched (R198). -/
structure Kept where
  sw : Nat
  on : Bool
  seq : Nat
  band : Nat
  deriving DecidableEq, Repr

/-- A stage's timebase, plans and scheduler (R166 to R188). -/
structure Stg where
  /-- Start instant of the current period in EDGE taps (R166). -/
  ts : Nat
  /-- Length of the current period in taps (R166). -/
  tn : Nat
  /-- The reload instant of the coming period has passed (R166). -/
  latched : Bool
  /-- START_STAGE has asked for period 0, which has not begun; the EDGE time of the request (R168). -/
  starting : Option Nat
  /-- Pending plan (R122). -/
  pend : Plan
  /-- Committed plan for the coming latch (R124). -/
  com : Plan
  /-- A commit held for the following period (R20). -/
  held : Option Plan
  /-- The plan latched for the coming or current period (R173). -/
  cur : Plan
  /-- The previous latched plan that was streamed; all-off before the first (R168, R181, R458). -/
  prevPlan : Plan
  /-- Pulse carry per switch, non-zero ones (R177). -/
  carry : List (Nat × Nat)
  /-- Withheld off-edges (R178). -/
  withheld : List Edge
  /-- Switches on at the end of the latched period (R173). -/
  onEnd : List Nat
  /-- A stop is pending (R182); it arrived inside the guard window, so the coming reload instant does not sample it
  (R166). -/
  stopReq : Bool
  stopLate : Bool
  /-- run was set inside the guard window of a stage that is not switching, or whose stop the coming reload instant samples:
  the instant after that one samples it (R166). -/
  runLate : Bool
  /-- Instant of each switch's latest off-edge (R179), and its assigned edges, newest first (R181). -/
  lastOff : List (Nat × Nat)
  hist : List (Nat × Nat)
  /-- The stop was sampled at the latest reload instant and its all-off plan was streamed (R182). -/
  offLatched : Bool
  /-- Plan repetition of the coming period (R181, STG_STAT.plan_rep). -/
  repNext : Bool
  /-- HICCUP: the end of T_hic once its first all-off period has begun (R186). -/
  hicEnd : Option Nat
  /-- HICCUP latched at the reload instant; T_hic starts with the next period (R186). -/
  hicArm : Bool
  /-- T_hic has expired; resume at the next reload instant (R186). -/
  hicDone : Bool
  /-- A current-limit truncation in the current period (R186). -/
  limited : Bool
  /-- Commutation event j saw an out-of-window decision since the previous reload instant (R175). -/
  comm : Vector Bool 2
  /-- Latest source event instant not yet used (R170). -/
  src : Option Nat
  /-- Periods since the latest source event (R170). -/
  srcAge : Nat
  /-- Consecutive periods with a small synchronisation error (R170). -/
  syncN : Nat
  /-- Instant the timebase started; a window that began before it is discarded (R139, R168). -/
  t0 : Nat
  /-- End of the latest averaging window in EDGE taps, if one has ended (R138). -/
  winEnd : Option Nat
  /-- The window has closed and its stage event is due (R142). -/
  winDue : Bool
  /-- Effective mask of the coming period (R175). -/
  maskN : Vector Word 3
  /-- On-intervals of main switches (switch, on, off) of the latched periods, and the instants of their on-edges, as
  truncation and blanking need them (R183). -/
  mainIv : List (Nat × Nat × Nat)
  mainOn : List Nat
  /-- The off-edges of the main switches with the band and codes of the latest reload instant (R19, R183). -/
  mainDrv : List Edge
  /-- Consecutive limited periods, which STG_REGSTAT.lim_cnt shows up to 63 (R186). -/
  limN : Nat
  /-- STG_REG.ss was cleared by a write in HICCUP: the stage resumes with lim_cmp (R269). -/
  hicLim : Bool
  /-- Number of the current period, from 0 (R168), and number of the leader's period that the coming period follows
  (R169). -/
  num : Nat
  ringL : Nat
  deriving DecidableEq, Repr

/-- A stage as reset leaves it: OFF, no plan (R167, R168). -/
def Stg.init : Stg where
  ts := 0
  tn := 0
  latched := false
  starting := none
  pend := []
  com := []
  held := none
  cur := []
  prevPlan := []
  carry := []
  withheld := []
  onEnd := []
  stopReq := false
  stopLate := false
  runLate := false
  lastOff := []
  hist := []
  offLatched := false
  repNext := false
  hicEnd := none
  hicArm := false
  hicDone := false
  limited := false
  comm := Vector.replicate 2 false
  src := none
  srcAge := 0
  syncN := 0
  t0 := 0
  winEnd := none
  winDue := false
  maskN := Vector.replicate 3 0
  mainIv := []
  mainOn := []
  mainDrv := []
  limN := 0
  hicLim := false
  num := 0
  ringL := 0

/-- What the steps of R174 make of a plan: the delivery set in slot order, the withheld edges, the switches that reach
the end of the period on, the switches that are on through its start with the end of that interval, the carries, the latest
off-edges, the switches the interlock dropped and the number of short on-intervals dropped. -/
structure Built where
  edges : List Edge
  withheld : List Edge
  onEnd : List Nat
  cont : List (Nat × Nat)
  carry : List (Nat × Nat)
  lastOff : List (Nat × Nat)
  ilk : List Nat
  short : Nat
  deriving DecidableEq, Repr

/-- A configuration word on its way to a pod (R196): pod address, value, tag, the in-flight command it belongs to (if
any), whether it restores a value of a rollback (R215, R375), whether it has left, and the register address, word and
mask that take effect at its ACK (R217). -/
structure CfgWord where
  addr : Nat
  value : Word
  tag : Nat
  cmd : Option Nat
  restoring : Bool
  sent : Bool
  reg : Option (Nat × Word × Word)
  deriving DecidableEq, Repr

/-- Sums of an adaptive loop between updates (R212, R213). -/
structure LoopSum where
  sum : Nat
  n : Nat
  deriving DecidableEq, Repr

/-- A gate link (R191 to R217). -/
structure Lnk where
  /-- Next pod address to be sent by the ENABLE sequence; none outside SEQ (R204). -/
  seqAt : Option Nat
  /-- The ID word was accepted in this sequence (R204). -/
  idOk : Bool
  /-- The echo response was accepted in this sequence (R204). -/
  echoOk : Bool
  /-- Tag of the next configuration word (R196). -/
  tag : Nat
  /-- Configuration words waiting for their gap or their ACK, oldest first (R195, R196). -/
  cfg : List CfgWord
  /-- Edge numbers of the eight switches (R194). -/
  seqNo : Vector Nat 8
  /-- The last 16 edges of each switch of the link, newest first (R198). -/
  kept : List Kept
  /-- dv/dt sums by 16 × switch on the link + 8 for on-edges + band (R212). -/
  dv : List (Nat × LoopSum)
  /-- Dead-time maxima per 4 × switch-on-link + band (R213). -/
  dt : List (Nat × LoopSum)
  /-- Switches whose latched trip has been recorded since the latest ENABLE, so that index 4 adds no unknown kind while the
  pod's own latch stands (R209, R210). -/
  known : Nat
  /-- TRIP pairs whose event word has not arrived (R207, R332). -/
  pairs : Nat
  /-- GL_ABND0 and GL_ABND1 in force for each switch since the latest reload instant of its stage (R214). -/
  bnd : Vector (Word × Word) 8
  /-- Held in PART by a force at the transition from STANDBY to CONFIGURE, and to go to DIS when that force ends (R202). -/
  toDis : Bool
  deriving DecidableEq, Repr

/-- A link as reset leaves it (R201). -/
def Lnk.init : Lnk where
  seqAt := none
  idOk := false
  echoOk := false
  tag := 0
  cfg := []
  seqNo := Vector.replicate 8 0
  kept := []
  dv := []
  dt := []
  known := 0
  pairs := 0
  bnd := Vector.replicate 8 (0, 0)
  toDis := false

/-- An acquisition entry (R140, R144 to R148): the open window, the closed window and the run counts of the checks. -/
structure Ent where
  sum : Int
  cnt : Nat
  mn : Word
  mx : Word
  cSum : Int
  cCnt : Nat
  cMn : Word
  cMx : Word
  code : Nat
  frz : Nat
  rng : Nat
  xchk : Nat
  int : Nat
  seen : Bool
  /-- Offset and gain in force at the close of the window (R136, R140). -/
  cOfs : Nat
  cGain : Word
  /-- The published window extremes, scaled and ordered (R144). -/
  sMn : Word
  sMx : Word
  /-- The entry's own range check has failed and still fails (R149). -/
  rngOwn : Bool
  deriving DecidableEq, Repr

/-- An entry as reset leaves it. -/
def Ent.init : Ent := ⟨0, 0, 0, 0, 0, 0, 0, 0, 0, 0, 0, 0, 0, false, 0, 0, 0, 0, false⟩

/-- A grid interface's tracker, ride-through evaluator and synchroniser (R233 to R251). -/
structure Grd where
  /-- Ticks of the present LV or HV run below lv_in or above hv_in, and outside the trip envelope; whether that run
  outside it has decided its trip (R243, R245). -/
  qLv : Nat
  qHv : Nat
  qTrip : Nat
  qTripHv : Nat
  dTrip : Bool
  dTripHv : Bool
  /-- The live entry failure has decided its trip (R248). -/
  dEnt : Bool
  /-- Ticks in range during RECOVERY (R243). -/
  recN : Nat
  /-- Ticks since the LV and the HV episode began (R243). -/
  ep : Nat
  epHv : Nat
  /-- Ticks each frequency stage has been active: UF 0 to 3 then OF 0 to 3 (R246). -/
  fq : Vector Nat 8
  /-- d+, q+, d−, q− (R234). -/
  dq : Vector Word 4
  /-- α+ and β+, α− and β−, and vα, in pu28 (R234, R271, R275). -/
  ab : Vector Int 2
  abn : Vector Int 2
  va : Int
  /-- U+, U−, the LV measure and the HV measure in 2^−28 of nominal (R234, R242). -/
  uPos : Nat
  uNeg : Nat
  uLv : Nat
  uHv : Nat
  /-- EDGE time of the latest evaluation (R233). -/
  tEval : Nat
  /-- EDGE time since which |q+| ≤ 0.02 d+, since which |q+| > 0.1 d+ outside hold, and since which every condition of
  sync_ok has held (R236, R239). -/
  inLock : Option Nat
  outLock : Option Nat
  syncAt : Option Nat
  /-- GRD_FREQ with its instants over the ROCOF interval, and the tracker's frequency over one nominal line cycle, in
  0.1 mHz, newest first (R238). -/
  fhist : List (Nat × Nat)
  thist : List (Nat × Nat)
  deriving DecidableEq, Repr

def Grd.init : Grd where
  qLv := 0
  qHv := 0
  qTrip := 0
  qTripHv := 0
  dTrip := false
  dTripHv := false
  dEnt := false
  recN := 0
  ep := 0
  epHv := 0
  fq := Vector.replicate 8 0
  dq := Vector.replicate 4 0
  ab := Vector.replicate 2 0
  abn := Vector.replicate 2 0
  va := 0
  uPos := 0
  uNeg := 0
  uLv := 0
  uHv := 0
  tEval := 0
  inLock := none
  outLock := none
  syncAt := none
  fhist := []
  thist := []

/-- Products summed over samples of a signal with cos θ_i and sin θ_i, and the samples counted (R274, R275). -/
structure Corr where
  c : Int
  s : Int
  n : Nat
  deriving DecidableEq, Repr

def Corr.init : Corr := ⟨0, 0, 0⟩

/-- A correlation window: whether it is valid, and the sums of vα and of iα (R275). -/
structure Win where
  ok : Bool
  v : Corr
  i : Corr
  deriving DecidableEq, Repr

def Win.init : Win := ⟨true, Corr.init, Corr.init⟩

/-- An islanding unit, beside ISL_STAT (R271 to R283). -/
structure Isl where
  /-- The unit was injecting at the latest evaluation, and no wrap of θ+ has come since injection started (R274). -/
  injWas : Bool
  first : Bool
  /-- The unit has listened since it was enabled (R274). -/
  listened : Bool
  /-- The open correlation window, once a wrap of θ+ at p = 0 has begun one; the window that has closed and waits for
  its evaluation; the latest windows, newest first, at most 8 (R275). -/
  win : Option Win
  done : Option Win
  wins : List Win
  /-- Consecutive valid evaluations at or above the threshold (R275). -/
  qz : Nat
  /-- Milliseconds that the reconnect timer has counted since its latest restart (R278). -/
  recon : Nat
  /-- Listen interval: EDGE time of the wrap that began it, its parity reference, the sums of vα, and whether its last
  line cycle has ended (R274). -/
  lAt : Option Nat
  lp : Bool
  heard : Corr
  lDue : Bool
  /-- EDGE time from which the next listen interval is due (R274). -/
  relAt : Nat
  /-- Time in taps for which ROCOF, the voltage window and the frequency window have been exceeded (R271). -/
  cRoc : Nat
  cVolt : Nat
  cFreq : Nat
  /-- Angle of (α+, β+), EDGE time and GRD_FREQ at the previous wrap of θ+ (R271). -/
  vsRef : Option (Word × Nat × Nat)
  /-- Detectors that have decided a trip which waits to be carried out, bit = cause (R271, R277). -/
  due : Nat
  deriving DecidableEq, Repr

/-- A unit as reset leaves it, nothing of its timer's length counted (R278). -/
def Isl.init : Isl where
  injWas := false
  first := false
  listened := false
  win := none
  done := none
  wins := []
  qz := 0
  recon := 0
  lAt := none
  lp := false
  heard := Corr.init
  lDue := false
  relAt := 0
  cRoc := 0
  cVolt := 0
  cFreq := 0
  vsRef := none
  due := 0

/-- A sample of a metering point: its instant, the voltages and the currents of the three phases (R285). -/
structure MSmp where
  t : Nat
  v : Vector Int 3
  i : Vector Int 3
  deriving DecidableEq, Repr

/-- A metering point (R285 to R305). -/
structure Mtr where
  /-- Samples of the running cycle and of the latest line cycle, newest first (R286, R287, R295). -/
  smp : List MSmp
  /-- Start of the running cycle, none before the first accepted positive crossing; start of the latest line cycle that has
  ended (R286). -/
  zc : Option Nat
  zp : Option Nat
  /-- The latest accepted crossing of either direction, or the start; whether a crossing has been accepted; the latest
  accepted positive crossing, or the start (R286). -/
  base : Nat
  any : Bool
  pos : Nat
  /-- The latest end of a half cycle that ended no cycle (R295). -/
  half : Option Nat
  /-- Nominal half cycles counted in free-run since `base`; the next one to end is the second of its cycle (R286). -/
  fr : Nat
  second : Bool
  /-- The reference voltage has been below −zc_hys since the latest accepted negative crossing, above +zc_hys since the
  latest accepted positive one (R286). -/
  low : Bool
  high : Bool
  /-- Energy accumulators, E and W above 24 bits of residue, one per register r (R290, R292). -/
  e : Vector Nat 6
  /-- Latched values, E and W (R293). -/
  el : Vector Nat 6
  /-- Quantity registers as the latest read of MTR_VRMS0 latched them (R289). -/
  q : List (Nat × Word)
  /-- Values pending from a restored slot, with their lsb code (R299). -/
  restored : Option (Vector Nat 6 × Nat)
  /-- Conditions of the interval that ends at the next latch: entry failure, free-run, restored, gap (R293). -/
  lFail : Bool
  lFree : Bool
  lRest : Bool
  lGap : Bool
  /-- Ring slots of the open sag or interruption and of the open swell (R295). -/
  sag : Option Nat
  swell : Option Nat
  deriving DecidableEq, Repr

def Mtr.init : Mtr where
  smp := []
  zc := none
  zp := none
  base := 0
  any := false
  pos := 0
  half := none
  fr := 0
  second := false
  low := false
  high := false
  e := Vector.replicate 6 0
  el := Vector.replicate 6 0
  q := []
  restored := none
  lFail := false
  lFree := false
  lRest := false
  lGap := false
  sag := none
  swell := none

/-- The SYNC_OUT generator (R51, R58). -/
structure SyncO where
  /-- Source in force: 0 off, 1 to 12 the period start of a stage, 13 REF ÷ div. -/
  src : Nat
  /-- EDGE instant at which the current SYNC_OUT period began; none while the source has not reached a boundary. -/
  start : Option Nat
  /-- High time in taps, period of the divider in taps, and delay in taps in force. -/
  high : Nat
  len : Nat
  phase : Nat
  deriving DecidableEq, Repr

/-- Off, the output low (R58). -/
def SyncO.init : SyncO := ⟨0, none, 0, 0, 0⟩

/-- A safety pair as one channel keeps it (R308 to R312). -/
structure Pair where
  /-- State code of R311. -/
  st : Nat
  /-- Filtered levels of the A and B balls. -/
  fa : Bool
  fb : Bool
  /-- Consecutive samples at the other level, A and B (R308). -/
  na : Nat
  nb : Nat
  /-- Consecutive ticks of disagreement (R312). -/
  disc : Nat
  deriving DecidableEq, Repr

def Pair.init : Pair := ⟨0, false, false, 0, 0, 0⟩

/-- A test-pulse output (R310): its level; ticks until the pulse in progress ends; whether the pulse's test is still to
come; ticks since the start of its latest pulse, where there has been one. -/
structure TestPulse where
  high : Bool
  left : Nat
  due : Bool
  since : Option Nat
  deriving DecidableEq, Repr

/-- As reset leaves it: low (R24, R310). -/
def TestPulse.init : TestPulse := ⟨false, 0, false, none⟩

/-- At a tick: the pulse ends after its third tick, and the output is high again (R310). -/
def TestPulse.tick (x : TestPulse) : TestPulse :=
  ⟨x.high || x.left == 1, x.left - 1, x.due && decide (1 < x.left), x.since.map (· + 1)⟩

/-- What waits for the next tick to act on the telegram inputs (R321, R322). -/
inductive TgFx where
  /-- A telegram was accepted with these release bits. -/
  | accept (rel : Nat)
  /-- Two copies of this sequence number differed. -/
  | mismatch (seq : Nat)
  /-- The watchdog expired. -/
  | expired
  deriving DecidableEq, Repr

/-- A safety telegram copy that waits for its counterpart (R321). -/
structure TgCopy where
  net : Fin 2
  bytes : List Byte
  seq : Nat
  src : List Byte
  deriving DecidableEq, Repr

/-- A frame in the receive queue of a MAC (R390), with the parity outcomes that its command will meet (R72). -/
structure RxFrame where
  bytes : List Byte
  par : List Par
  bad : Nat
  deriving DecidableEq, Repr

/-- The identity of a network that is in force (R396): MAC and IPv4 address, safety EtherType. -/
structure NetId where
  mac : List Byte
  ip : List Byte
  etype : Nat
  deriving DecidableEq, Repr

/-- Phases of a command in flight (R367, R371 to R376). -/
inductive Phase where
  /-- Accepted, not started. -/
  | queued
  /-- Started: waits for its words to take effect or for a pod's ACK (R370, R374, R375). -/
  | applying
  /-- PERSIST_WRITE, a bank write or a journal copy with the write unit: words still to go (R371, R372, R380). -/
  | writing
  /-- Orderly stop (R348). -/
  | stopping
  /-- SAFETY_ACK waits for the tick (R315). -/
  | tick
  /-- LATCH_METER waits for its points (R293). -/
  | latching
  /-- Ramp-tracked set-points still moving (R252, R376). -/
  | ramping
  /-- Group armed: waits for t_v and t_c (R374). -/
  | armed
  /-- A part failed after commit: waits for t_r (R375). -/
  | failed
  /-- Rolled back at t_r: waits for the reverted parts and the restoring ACKs (R375). -/
  | rolling
  deriving DecidableEq, Repr

/-- A word of a command: address and value. -/
structure AW where
  addr : Nat
  val : Word
  deriving DecidableEq, Repr

/-- A ramp-tracked set-point: stage, absolute data word of the target and of blk + 1 and blk + 2, its value (R252). -/
structure Track where
  stage : Nat
  target : Nat
  blk : Nat
  val : Word
  deriving DecidableEq, Repr

/-- A command in flight (R367). -/
structure Cmd where
  id : Nat
  port : Nat
  seq : Nat
  op : Nat
  fence : Bool
  nseq : Bool
  pl : List Byte
  fcrc : Word
  /-- Journal index of its entry; none for an unsequenced command (R377). -/
  jidx : Option Nat
  /-- REF cycle of acceptance (R377). -/
  t0 : Nat
  ph : Phase
  /-- Words still to be written, or register words already in the stage's staging (R370, R371). -/
  todo : List AW
  /-- Values held before t_c, for a rollback: part, word index within it, address and value (R375). -/
  saved : List (Nat × Nat × AW)
  tracks : List Track
  /-- Metering points that have still to latch (R293). -/
  points : Nat
  /-- The result the command will complete with, and bytes 1 to 3 of its response. -/
  res : Nat
  part : Nat
  cause : Nat
  word : Nat
  /-- Byte address of the Headstock descriptor (R130). -/
  desc : Option Nat
  /-- Case of a group's commit, or of its rollback, 1 to 3, with the commit or revert instant of case 2 in taps, the
instant at which it was chosen, t_a or t_f, and the first reload instants after it that the target stages have had since
(R374, R375). -/
  gcase : Nat
  tc : Nat
  ta : Nat
  first : List (Nat × Nat)
  /-- Its commit used the third case (R374, R385). -/
  aligned : Bool
  /-- Its journal entry as written at acceptance (R377). -/
  ent : List Byte
  /-- Source of the frame on a network: hardware address, IPv4 address, port, and tag where it had one (R391, R393). -/
  src : List Byte
  deriving DecidableEq, Repr

/-- A register word staged for a stage's next boundary (R6, R166): stage, address, value, the mask of the bits it
carries, whether it arrived inside the guard window, whether a reload instant has sampled it, and the command it
belongs to. -/
structure Staged where
  stage : Nat
  addr : Nat
  val : Word
  mask : Word
  late : Bool
  sampled : Bool
  cmd : Option Nat
  deriving DecidableEq, Repr

/-- What the write unit is asked to write (R408, R409): a persistent word, for whom. -/
structure WReq where
  addr : Nat
  val : Word
  /-- 0 command word, 1 persistent journal word, 2 energy save word. -/
  kind : Nat
  cmd : Option Nat
  deriving DecidableEq, Repr

/-- A program-store word being programmed, or a bank erase, or a read-check (R372, R413). -/
structure PReq where
  addr : Nat
  val : Word
  cmd : Option Nat
  deriving DecidableEq, Repr

/-- What leaves the device at its balls, in order (an observer's record; the model's own). -/
inductive Out where
  /-- A downstream word of a link: its start symbol, its data bytes and its CRC byte (R192 to R196). -/
  | word (link start : Nat) (bytes : List Byte)
  /-- ENABLE, DISABLE, PARTING, ID request, echo request on a link (R192, R201, R204). -/
  | symbol (link code : Nat)
  /-- A datagram or frame on a network port, with its destination: 0 response, 2 status telegram, 3 gratuitous ARP, 4
  notification, 5 ARP reply (R364, R393 to R397, R323). -/
  | net (port kind : Nat) (dst bytes : List Byte)
  /-- Bytes shifted out on a host port (R387). -/
  | host (port : Nat) (bytes : List Byte)
  /-- A Devar answer (R420). -/
  | devar (bytes : List Byte)
  /-- A word on the peer link: 0 status, 1 carrier phase, 2 injection phase, 3 ring trip, 4 ring result, 6 PARTING relay (R400). -/
  | peer (kind : Nat) (bytes : List Byte)
  /-- A management frame (R399). -/
  | mdio (value : Word)
  /-- The value and result code that a register access returned to its accessor. -/
  | access (result : Nat) (value : Word)
  deriving DecidableEq, Repr

/-- A response waiting on a host port: whether it belongs to an accepted command, and its frame (R387). -/
structure Answer where
  accepted : Bool
  bytes : List Byte
  deriving DecidableEq, Repr

/-- The per-port account of the command processor that registers do not show (R363, R369). -/
structure PortAcc where
  /-- REF cycle of the latest accepted frame (R369). -/
  last : Nat
  /-- Source address and tag of the latest accepted datagram (R393). -/
  src : List Byte
  deriving DecidableEq, Repr

end Sys2Proof.Machine
end

