-- ==== Sys2Proof/Syntax.lean ====
section
/-! DEFINITION. The commands of the block: one constructor per row of spec/opcode_table.json, in the table's order.
An instruction of an engine is the row of its issue by context `e`, with the fields of its word and the parity outcome of
its reads (`p`, or `rp` reads that passed a replay and `bad` one that failed it). A register write names its writer: 0
Host A, 1 Host B, 2 Net A, 3 Net B, 4 the Headstock, 5 the Devar port. A partner's command names its port, its flags and
its payload. An event carries what the device observes at it; `t` is EDGE time in taps (assumption 6, DESIGN CHOICE). An operand of type `Unit` names a value that the device computes
itself, from its samples, at that event: it carries nothing. -/

namespace Sys2Proof

inductive Instr where
/-- ADD (R93): Integer add of Va and Vb into Vd, wrapping modulo 2^32. -/
  | add (e : CtxId) (d : VReg) (a : VReg) (b : VReg)
/-- SUB (R93): Integer subtract Vb from Va into Vd, wrapping. -/
  | sub (e : CtxId) (d : VReg) (a : VReg) (b : VReg)
/-- ADDS (R93): Saturating integer add, sets ovf_int on saturation. -/
  | adds (e : CtxId) (d : VReg) (a : VReg) (b : VReg)
/-- SUBS (R93): Saturating integer subtract, sets ovf_int on saturation. -/
  | subs (e : CtxId) (d : VReg) (a : VReg) (b : VReg)
/-- AND (R93): Bitwise AND of Va and Vb into Vd. -/
  | and (e : CtxId) (d : VReg) (a : VReg) (b : VReg)
/-- OR (R93): Bitwise OR of Va and Vb into Vd. -/
  | or (e : CtxId) (d : VReg) (a : VReg) (b : VReg)
/-- XOR (R93): Bitwise exclusive OR of Va and Vb into Vd. -/
  | xor (e : CtxId) (d : VReg) (a : VReg) (b : VReg)
/-- ANDN (R93): Va AND NOT Vb into Vd. -/
  | andn (e : CtxId) (d : VReg) (a : VReg) (b : VReg)
/-- SHL (R93): Logical left shift of Va by Vb[4:0]. -/
  | shl (e : CtxId) (d : VReg) (a : VReg) (b : VReg)
/-- SHR (R93): Logical right shift of Va by Vb[4:0]. -/
  | shr (e : CtxId) (d : VReg) (a : VReg) (b : VReg)
/-- SAR (R93): Arithmetic right shift of Va by Vb[4:0]. -/
  | sar (e : CtxId) (d : VReg) (a : VReg) (b : VReg)
/-- SHLI (R93): Logical left shift of Va by the literal. -/
  | shli (e : CtxId) (d : VReg) (a : VReg) (lit : BitVec 5)
/-- SHRI (R93): Logical right shift of Va by the literal. -/
  | shri (e : CtxId) (d : VReg) (a : VReg) (lit : BitVec 5)
/-- SARI (R93): Arithmetic right shift of Va by the literal. -/
  | sari (e : CtxId) (d : VReg) (a : VReg) (lit : BitVec 5)
/-- MUL (R93): Low 32 bits of the signed product, ovf_int if outside int32. -/
  | mul (e : CtxId) (d : VReg) (a : VReg) (b : VReg)
/-- MULH (R93): High 32 bits of the signed 64-bit product. -/
  | mulh (e : CtxId) (d : VReg) (a : VReg) (b : VReg)
/-- DIV (R94): Signed integer division truncated toward zero with the special cases of division by zero and overflow.
    -/
  | div (e : CtxId) (d : VReg) (a : VReg) (b : VReg)
/-- CLT (R93): Writes 1 if Va is less than Vb signed, else 0. -/
  | clt (e : CtxId) (d : VReg) (a : VReg) (b : VReg)
/-- CLTU (R93): Writes 1 if Va is less than Vb unsigned, else 0. -/
  | cltu (e : CtxId) (d : VReg) (a : VReg) (b : VReg)
/-- CEQ (R93): Writes 1 if Va equals Vb, else 0. -/
  | ceq (e : CtxId) (d : VReg) (a : VReg) (b : VReg)
/-- MIN (R93): Signed minimum of Va and Vb. -/
  | min (e : CtxId) (d : VReg) (a : VReg) (b : VReg)
/-- MAX (R93): Signed maximum of Va and Vb. -/
  | max (e : CtxId) (d : VReg) (a : VReg) (b : VReg)
/-- JLR (R94): Writes the next word address to Vd and jumps to the old value of Va. -/
  | jlr (e : CtxId) (d : VReg) (a : VReg)
/-- SFRD (R93): Copies SF into Vd without clearing it. -/
  | sfrd (e : CtxId) (d : VReg)
/-- PADD (R95): Saturating pu28 addition. -/
  | padd (e : CtxId) (d : VReg) (a : VReg) (b : VReg)
/-- PSUB (R95): Saturating pu28 subtraction. -/
  | psub (e : CtxId) (d : VReg) (a : VReg) (b : VReg)
/-- PNEG (R95): Saturating pu28 negation. -/
  | pneg (e : CtxId) (d : VReg) (a : VReg)
/-- PABS (R95): Saturating pu28 absolute value. -/
  | pabs (e : CtxId) (d : VReg) (a : VReg)
/-- PMUL (R95): Rounded, saturating pu28 multiplication. -/
  | pmul (e : CtxId) (d : VReg) (a : VReg) (b : VReg)
/-- PSHL (R95): Saturating pu28 left shift by the literal. -/
  | pshl (e : CtxId) (d : VReg) (a : VReg) (lit : BitVec 5)
/-- PSHR (R95): Rounded pu28 right shift by the literal. -/
  | pshr (e : CtxId) (d : VReg) (a : VReg) (lit : BitVec 5)
/-- PDIV (R95): Saturating pu28 division truncated toward zero. -/
  | pdiv (e : CtxId) (d : VReg) (a : VReg) (b : VReg)
/-- ITOP (R95): Converts a fixed-point int32 to pu28 with saturation. -/
  | itop (e : CtxId) (d : VReg) (a : VReg) (lit : BitVec 5)
/-- PTOI (R95): Converts pu28 to a rounded fixed-point int32. -/
  | ptoi (e : CtxId) (d : VReg) (a : VReg) (lit : BitVec 5)
/-- PMAC (R98): Adds the rounded product of Va and Vb to an accumulator with saturation. -/
  | pmac (e : CtxId) (n : BitVec 2) (a : VReg) (b : VReg)
/-- PMSB (R98): Subtracts the rounded product of Va and Vb from an accumulator with saturation. -/
  | pmsb (e : CtxId) (n : BitVec 2) (a : VReg) (b : VReg)
/-- ACCLD (R98): Loads an accumulator from a pu28 value. -/
  | accld (e : CtxId) (n : BitVec 2) (a : VReg)
/-- ACCADD (R98): Adds a pu28 value to an accumulator with saturation. -/
  | accadd (e : CtxId) (n : BitVec 2) (a : VReg)
/-- ACCRD (R98): Reads an accumulator as a rounded, saturated pu28 value. -/
  | accrd (e : CtxId) (d : VReg) (n : BitVec 2)
/-- ACCCLR (R98): Clears an accumulator. -/
  | accclr (e : CtxId) (n : BitVec 2)
/-- ACCLO (R98): Reads the raw low 32 bits of an accumulator. -/
  | acclo (e : CtxId) (d : VReg) (n : BitVec 2)
/-- ACCHI (R98): Reads the raw high 16 bits of an accumulator, sign-extended. -/
  | acchi (e : CtxId) (d : VReg) (n : BitVec 2)
/-- ACCSET (R98): Sets all 48 raw bits of an accumulator from two registers. -/
  | accset (e : CtxId) (n : BitVec 2) (a : VReg) (b : VReg)
/-- PLI (R99): Loads a Q4.12 per-unit immediate. -/
  | pli (e : CtxId) (d : VReg) (imm : BitVec 16)
/-- PADDI (R99): Saturating addition of a per-unit immediate. -/
  | paddi (e : CtxId) (d : VReg) (a : VReg) (imm : BitVec 16)
/-- ADDI (R99): Wrapping addition of a sign-extended immediate. -/
  | addi (e : CtxId) (d : VReg) (a : VReg) (imm : BitVec 16)
/-- CLTI (R99): Signed compare of Va with an immediate. -/
  | clti (e : CtxId) (d : VReg) (a : VReg) (imm : BitVec 16)
/-- ANDI (R99): AND with a zero-extended immediate. -/
  | andi (e : CtxId) (d : VReg) (a : VReg) (imm : BitVec 16)
/-- ORI (R99): OR with a zero-extended immediate. -/
  | ori (e : CtxId) (d : VReg) (a : VReg) (imm : BitVec 16)
/-- XORI (R99): Exclusive OR with a zero-extended immediate. -/
  | xori (e : CtxId) (d : VReg) (a : VReg) (imm : BitVec 16)
/-- LHI (R99): Loads the immediate into the high half of Vd. -/
  | lhi (e : CtxId) (d : VReg) (imm : BitVec 16)
/-- BEQ (R100): Branches when the two registers are equal. -/
  | beq (e : CtxId) (d : VReg) (a : VReg) (off : BitVec 16)
/-- BNE (R100): Branches when the two registers differ. -/
  | bne (e : CtxId) (d : VReg) (a : VReg) (off : BitVec 16)
/-- BLT (R100): Branches when the first register is less, signed. -/
  | blt (e : CtxId) (d : VReg) (a : VReg) (off : BitVec 16)
/-- BGE (R100): Branches when the first register is greater or equal, signed. -/
  | bge (e : CtxId) (d : VReg) (a : VReg) (off : BitVec 16)
/-- BLTU (R100): Branches when the first register is less, unsigned. -/
  | bltu (e : CtxId) (d : VReg) (a : VReg) (off : BitVec 16)
/-- BGEU (R100): Branches when the first register is greater or equal, unsigned. -/
  | bgeu (e : CtxId) (d : VReg) (a : VReg) (off : BitVec 16)
/-- JL (R101): Jump and link to an absolute word address. -/
  | jl (e : CtxId) (d : VReg) (target : BitVec 16)
/-- LD (R102): Loads a word from the context's data window. -/
  | ld (e : CtxId) (d : VReg) (a : VReg) (imm : BitVec 16) (p : Par)
/-- ST (R103): Stores a word into the data window, suppressed in a closed coefficient region. -/
  | st (e : CtxId) (d : VReg) (a : VReg) (imm : BitVec 16)
/-- CLARKE (R110): Clarke transform of three phase values into a register pair. -/
  | clarke (e : CtxId) (d : VReg) (a : VReg) (b : VReg)
/-- CLARKE2 (R110): Two-input Clarke transform assuming a zero sum. -/
  | clarke2 (e : CtxId) (d : VReg) (a : VReg)
/-- PARK (R110): Park transform of alpha and beta at an angle. -/
  | park (e : CtxId) (d : VReg) (a : VReg) (b : VReg)
/-- IPARK (R110): Inverse Park transform of d and q at an angle. -/
  | ipark (e : CtxId) (d : VReg) (a : VReg) (b : VReg)
/-- SINCOS (R111): Sine and cosine of a turn32 angle into a register pair. -/
  | sincos (e : CtxId) (d : VReg) (a : VReg)
/-- PI (R112): One PI controller step with integrator kept in data memory. -/
  | pi (e : CtxId) (d : VReg) (a : VReg) (blk : BitVec 16) (rp : Fin 6) (bad : Option (Fin 5))
/-- LIM (R114): Limits Va between an upper and a lower limit. -/
  | lim (e : CtxId) (d : VReg) (a : VReg) (b : VReg)
/-- LIMS (R114): Limits Va symmetrically to the magnitude of Vb. -/
  | lims (e : CtxId) (d : VReg) (a : VReg) (b : VReg)
/-- RAMP (R115): Moves a stored present value toward a target by at most the stored rate. -/
  | ramp (e : CtxId) (d : VReg) (a : VReg) (blk : BitVec 16) (rp : Fin 3) (bad : Option (Fin 2))
/-- TBL (R117): Interpolated compensation table lookup with neighbour-band donors. -/
  | tbl (e : CtxId) (d : VReg) (a : VReg) (b : VReg) (lit : BitVec 5) (rp : Fin 7) (bad : Option (Fin 3 × Bool))
/-- TBLU (R228): Trains two table entries of the load band, with seeding, when learning is permitted. -/
  | tblu (e : CtxId) (d : VReg) (a : VReg) (b : VReg) (lit : BitVec 5) (rp : Fin 7) (bad : Option (Fin 3 × Bool))
/-- AVG (R119): Reads an entry's window average, extremes or sample count. -/
  | avg (e : CtxId) (d : VReg) (x : Fin 64) (sel : Fin 4)
/-- SMP (R119): Reads an entry's latest sample. -/
  | smp (e : CtxId) (d : VReg) (x : Fin 64) (raw : Bool)
/-- GRID (R120): Reads a quantity of a grid interface from the snapshot or live. -/
  | grid (e : CtxId) (d : VReg) (g : Fin 4) (q : BitVec 6)
/-- MTR (R121): Reads a quantity of a metering point. -/
  | mtr (e : CtxId) (d : VReg) (m : Fin 4) (q : BitVec 6)
/-- PLANT (R123): Writes a pulse slot with instants in taps into the pending plan. -/
  | plant (e : CtxId) (d : VReg) (a : VReg) (sw : BitVec 7) (p : BitVec 2)
/-- PLANF (R123): Writes a pulse slot with instants as period fractions into the pending plan. -/
  | planf (e : CtxId) (d : VReg) (a : VReg) (sw : BitVec 7) (p : BitVec 2)
/-- PLANC (R122): Clears all four pulse slots of a switch in the pending plan. -/
  | planc (e : CtxId) (sw : BitVec 7)
/-- COMMIT (R124): Copies the pending plan into the committed plan and returns its status. -/
  | commit (e : CtxId) (d : VReg)
/-- WAIT (R64): Returns at once if the stage-event latch is set, otherwise sleeps; on the Headstock starts dispatch.
    -/
  | wait (e : CtxId) (d : VReg)
/-- EVT (R126): Writes a code to LTH_EVTCODE and raises the stage event EV(12 + k). -/
  | evt (e : CtxId) (imm : BitVec 16)
/-- SFCLR (R128): Clears the selected sticky flags. -/
  | sfclr (e : CtxId) (imm : BitVec 16) (fp : Bool)
/-- SYS_RD (R129): Headstock read of a register. -/
  | sysRd (e : CtxId) (d : VReg) (a : VReg) (p : Par)
/-- SYS_MRD (R129): Headstock read of a memory word. -/
  | sysMrd (e : CtxId) (d : VReg) (a : VReg) (p : Par)
/-- SYS_WR (R129): Headstock write, allowed only into its own data memory. -/
  | sysWr (e : CtxId) (d : VReg) (a : VReg) (b : VReg)
/-- SYS_CMD (R129): Headstock submits a command descriptor as partner port 4. -/
  | sysCmd (e : CtxId) (d : VReg) (a : VReg) (rp : Fin 67) (lost : Option (Fin 66)) (par : List Par) (bad : Fin 63)
/-- BRK (R131): Halts the engine when an unlocked Devar session enables software breakpoints. -/
  | brk (e : CtxId) (code : BitVec 16)
/-- ILLEGAL_OPCODE (R85): Fetch of a reserved encoding stops the context in FAULT. -/
  | illegalOpcode (e : CtxId) (w : Word)
/-- INSTRUCTION_REPAIR (R73): After a stall, an instruction word is repaired from its image and fetched again. -/
  | instructionRepair (e : CtxId) (r : Repair)
/-- SCRUB_READ (R74): The scrubber reads one instruction word at its interval. -/
  | scrubRead (m : Fin 7) (r : Option Repair)
/-- STAGE_EVENT (R142): The averages of a stage become final, the stage event and EVk are raised and a waiting context
    is woken. -/
  | stageEvent (k : Stage)
/-- CONTEXT_WAKE (R64): A sleeping context leaves WAIT with the due mask after its stage event. -/
  | contextWake (k : Stage)
/-- HS_DISPATCH (R77): The waiting Headstock is dispatched to the vector of the highest-priority pending event. -/
  | hsDispatch
/-- HS_WATCHDOG_EXPIRY (R78): A handler exceeds the watchdog limit and the Headstock stops in FAULT. -/
  | hsWatchdogExpiry
/-- HS_TIMER_EXPIRY (R79): A Headstock interval timer expires, raising EV122 or EV123. -/
  | hsTimerExpiry (i : Fin 2)
/-- START_CONTEXT (R62): LTH_CTL.start_c starts an IDLE or FAULT context with cleared state. -/
  | startContext (p : Fin 6) (k : Stage)
/-- STOP_CONTEXT (R62): LTH_CTL.stop_c stops a context at its next WAIT. -/
  | stopContext (p : Fin 6) (k : Stage)
/-- CLEAR_CONTEXT_STATS (R81): LTH_CTL.clr_c clears LTH_RUNMAX, LTH_MARGIN and LTH_OVR. -/
  | clearContextStats (p : Fin 6) (k : Stage)
/-- HS_START (R83): LTH_HS_CTL.start starts the Headstock. -/
  | hsStart (p : Fin 6)
/-- HS_STOP (R83): LTH_HS_CTL.stop stops the Headstock at its next WAIT. -/
  | hsStop (p : Fin 6)
/-- HS_CLEAR_RUNMAX (R83): LTH_HS_CTL.clr clears LTH_HS_RUNMAX. -/
  | hsClearRunmax (p : Fin 6)
/-- HS_TIMER_WRITE (R79): Writing a timer interval starts or stops a Headstock timer at once. -/
  | hsTimerWrite (p : Fin 6) (i : Fin 2) (v : Word)
/-- SF_READ_CLEAR (R82): A read of LTH_SF_RC returns SF and clears the bits returned. -/
  | sfReadClear (e : CtxId)
/-- ADC_SAMPLE (R132): A converted code reaches CORE and feeds the latest sample, min/max, window sum, checks, grid
    and metering. -/
  | adcSample (e : Fin 64) (t : Nat) (raw : BitVec 14) (clamp : Bool) (code : Unit) (out : Unit)
/-- WINDOW_CLOSE (R138): The averaging window of a stage closes at t_we. -/
  | windowClose (k : Stage)
/-- FREEZE_FAIL (R146): An entry delivers F identical codes and the freeze check fails. -/
  | freezeFail (e : Fin 64) (code : BitVec 14)
/-- RANGE_FAIL (R147): rng_n consecutive codes out of range fail the range check. -/
  | rangeFail (e : Fin 64) (code : BitVec 14)
/-- XCHK_FAIL (R148): xchk_n consecutive disagreements with the comparator fail the cross-check. -/
  | xchkFail (e : Fin 64)
/-- INTERNAL_ENTRY_FAIL (R151): An internal entry leaves its limits for its sample count. -/
  | internalEntryFail (a : Fin 4) (n : Fin 4) (code : BitVec 14)
/-- ADC_RESTART (R135): ADC_CTL.restart restarts the passes of the named ADCs on one common CONV edge. -/
  | adcRestart (p : Fin 6) (mask : BitVec 4)
/-- ADC_CALIBRATE (R152): ADC_CTL.cal repeats the foreground calibration of all four ADCs. -/
  | adcCalibrate (p : Fin 6)
/-- ADC_CAL_DONE (R152): A foreground calibration ends and all ADCs start passes together. -/
  | adcCalDone (ok : BitVec 4)
/-- ADC_SCAN_WRITE (R134): A scan mask write is checked and applied at a later CONV edge after the current pass. -/
  | adcScanWrite (p : Fin 6) (a : Fin 4) (mask : BitVec 16)
/-- MM_CLR (R144): ADC_PLST.mm_clr clears the running min/max pair. -/
  | mmClr (p : Fin 6) (e : Fin 64)
/-- ADC_AVG_READ (R143): A read of ADC_AVG latches ADC_AVGN and ADC_WMM of the same window. -/
  | adcAvgRead (e : Fin 64)
/-- COMPARATOR_DECISION (R160): A comparator tick latches an in- or out-of-window decision and trips its stage if
    armed. -/
  | comparatorDecision (c : Fin 24) (t : Nat) (lvl : Nat)
/-- COMPARATOR_ARMED (R163): A comparator becomes armed 2 µs after its first powered tick. -/
  | comparatorArmed (c : Fin 24)
/-- COMPARATOR_ENABLE (R162): Setting CMP_CFG.en powers the comparator from the next tick. -/
  | comparatorEnable (p : Fin 6) (c : Fin 24)
/-- CMP_TRIP_CLEAR (R165): Writing 1 to CMP_STAT.trip clears it and cnt. -/
  | cmpTripClear (p : Fin 6) (c : Fin 24)
/-- TIMEBASE_START (R168): A started stage begins period 0 at the instant its source dictates. -/
  | timebaseStart (k : Stage)
/-- RELOAD_INSTANT (R174): The scheduler latches the committed plan, samples fields, builds edges and checks delivery.
    -/
  | reloadInstant (k : Stage)
/-- SYNC_MISS (R170): No source event within 16 periods makes the stage run free. -/
  | syncMiss (k : Stage)
/-- PERIOD_START (R166): A new period of a stage begins under the latched values. -/
  | periodStart (k : Stage)
/-- HICCUP_END (R186): T_hic expires; the stage sets ss, counts a retry and resumes at the next reload instant. -/
  | hiccupEnd (k : Stage)
/-- EDGE_COMMAND (R194): An edge command is sent downstream in its assigned slot. -/
  | edgeCommand (n : Link)
/-- IMMEDIATE_OFF (R183): A truncation command leaves in the next free slot after the word in flight. -/
  | immediateOff (n : Link)
/-- SYNC_WORD (R195): A SYNC word is sent in the first suitable idle gap. -/
  | syncWord (n : Link) (t : Nat)
/-- CONFIGURATION_WORD (R196): A pending configuration word is sent in the first idle gap of 8 symbols. -/
  | configurationWord (n : Link)
/-- START_STAGE (R168): Command that checks and sets run for the named stages, starting their timebases. -/
  | startStage (p : Fin 4) (fence : Bool) (pl : List Byte)
/-- STOP_STAGE (R182): Command that clears run so each stage latches an all-off plan. -/
  | stopStage (p : Fin 4) (fence : Bool) (pl : List Byte)
/-- STG_RUN_SET (R168): A write of 1 to STG_CTL.run, checked as START_STAGE. -/
  | stgRunSet (p : Fin 6) (k : Stage)
/-- STG_RUN_CLEAR (R182): A write of 0 to STG_CTL.run stops the stage at its next reload instant. -/
  | stgRunClear (p : Fin 6) (k : Stage)
/-- STG_TB_WRITE (R189): A write to STG_CTL.tb starts or stops the timebase. -/
  | stgTbWrite (p : Fin 6) (k : Stage) (on : Bool)
/-- STG_CLR (R189): STG_CTL.clr clears the stage counters. -/
  | stgClr (p : Fin 6) (k : Stage)
/-- TABLE_CLEAR_BAND (R229): STG_TBLCTL.clr_band clears every entry of a band. -/
  | tableClearBand (p : Fin 6) (k : Stage) (bands : BitVec 4)
/-- TABLE_STAT_CLEAR (R232): STG_TBLCTL.sclr clears STG_TBLSTAT. -/
  | tableStatClear (p : Fin 6) (k : Stage)
/-- STATUS_WORD (R200): An upstream status word with valid CRC is received from a pod. -/
  | statusWord (u : Upward) (states : Byte) (flags : Byte) (idx : Byte) (val : Byte)
/-- LINK_SILENCE (R200): No valid status word for 2 µs sets GL_EVT.silence. -/
  | linkSilence (n : Link)
/-- TRIP_PAIR (R207): A TRIP pair decoded in LINKRX forces PARTING and records a class A fault. -/
  | tripPair (n : Link)
/-- CROSSING_WORD (R198): A crossing word is matched to an edge and feeds the adaptive loops. -/
  | crossingWord (u : Upward) (i : Fin 8) (pol : Bool) (seq : BitVec 4) (t1 : BitVec 16) (t2 : BitVec 16)
/-- ID_WORD (R204): The pod's ID word is checked during the ENABLE sequence. -/
  | idWord (u : Upward) (rev : Byte) (tpod : Byte) (fitted : Byte) (cap : Byte) (typ : BitVec 16)
/-- ECHO_RESPONSE (R204): The echo response gives the round trip from which d_link is stored. -/
  | echoResponse (n : Link) (rt : Nat)
/-- DIDT_TRIP (R199): Event word reporting a di/dt short-circuit trip. -/
  | didtTrip (u : Upward) (sw : Fin 8)
/-- DESATURATION_TRIP (R199): Event word reporting a desaturation trip. -/
  | desaturationTrip (u : Upward) (sw : Fin 8)
/-- GATE_SUPPLY_FAULT (R199): Event word reporting a gate supply out of range. -/
  | gateSupplyFault (u : Upward) (idx : Byte) (val : Byte)
/-- OVERTEMP_SHUTDOWN (R199): Event word reporting a pod over-temperature shutdown. -/
  | overtempShutdown (u : Upward) (temp : Byte)
/-- OVERTEMP_WARNING (R199): Event word reporting a pod over-temperature warning. -/
  | overtempWarning (u : Upward) (temp : Byte)
/-- CONFIGURATION_ACK (R196): Event word acknowledging a configuration word. -/
  | configurationAck (u : Upward) (tag : Byte)
/-- CONFIGURATION_NAK (R215): Event word refusing a configuration word, ending a sequence or rolling back a write. -/
  | configurationNak (u : Upward) (tag : Byte) (reason : Byte)
/-- DOWNSTREAM_WORD_DISCARDED (R199): Event word reporting discarded downstream words. -/
  | downstreamWordDiscarded (u : Upward) (count : Byte)
/-- LATE_TIMED_COMMAND (R199): Event word reporting a late timed command. -/
  | lateTimedCommand (u : Upward) (sw : Byte) (seq : Byte)
/-- POD_INTERLOCK_DROP (R199): Event word reporting an on-edge dropped by the pod interlock. -/
  | podInterlockDrop (u : Upward) (sw : Byte) (seq : Byte)
/-- EDGE_QUEUE_FULL (R199): Event word reporting a command discarded for a full queue. -/
  | edgeQueueFull (u : Upward) (sw : Byte) (seq : Byte)
/-- UPSTREAM_WORD_DISCARDED (R193): An upstream word with CRC error or invalid symbol is discarded and counted. -/
  | upstreamWordDiscarded (n : Link)
/-- RX_LOCK (R191): The upstream receiver reports lock after 64 valid symbols. -/
  | rxLock (n : Link)
/-- RX_LOSS (R191): The upstream receiver reports loss after 4 invalid symbols in 16. -/
  | rxLoss (n : Link)
/-- ENSEQ_REQUEST (R203): GL_CTL.enseq requests the ENABLE sequence on a link. -/
  | enseqRequest (p : Fin 6) (n : Link)
/-- ENABLE_TIMEOUT (R204): EN not reached within 100 µs; the link returns to PART with en_fail. -/
  | enableTimeout (n : Link)
/-- CONFIGURATION_ACK_TIMEOUT (R215): No ACK of a configuration word within 20 µs. -/
  | configurationAckTimeout (n : Link)
/-- LINK_TO_DIS (R202): 2 µs after the last force other than GATE_EN ends, a link under GATE_EN low goes to DIS. -/
  | linkToDis (n : Link)
/-- GATE_EN_FALL (R33): A low level on GATE_EN parts all links, class A if switching. -/
  | gateEnFall
/-- GATE_EN_RISE (R34): GATE_EN rises; after a low of 10 µs or more every latched short-circuit fault clears. -/
  | gateEnRise (long : Bool)
/-- RESETN_LOW (R30): A RESETN low level decided as a reset parts links and asserts internal reset. -/
  | resetnLow
/-- RESET_RELEASE (R32): End of reset samples BOOT1:0 and enters BOOT with links in PART. -/
  | resetRelease (r : Release)
/-- POWER_ON (R31): Rails rise into range and internal reset releases after 1 ms. -/
  | powerOn (vbk : Bool) (sec : Word) (ms : Fin 1000)
/-- MONITOR_TRIP (R28): A supply monitor trips, parts links, drops outputs and asserts reset. -/
  | monitorTrip (r : Fin 5)
/-- MONITOR_RELEASE (R26): A supply rail stays in range for 1 ms and its monitor releases. -/
  | monitorRelease (r : Fin 5)
/-- PFI_ASSERT (R36): PFI high for 2 µs takes the device to HOLDUP and starts the final save. -/
  | pfiAssert
/-- HOLDUP_RELEASE_RESET (R36): 100 ms after PFI release with rails in range, an internal reset occurs. -/
  | holdupReleaseReset
/-- RBS_QUALIFIED (R37): RBS at or above the on threshold for 1 ms turns RBG on. -/
  | rbsQualified
/-- RBS_OFF (R38): RBS falls below the off threshold; RBG turns off and a class C event follows. -/
  | rbsOff
/-- ALIVE_TOGGLE (R35): ALIVE toggles at each half period while fault-free. -/
  | aliveToggle
/-- LOCK_QUALIFIED (R47): Mandrel qualifies lock; taps are released and EV113 is raised after a loss. -/
  | lockQualified
/-- LOCK_LOST (R47): Mandrel loses lock, parts links, holds taps and starts acquisition. -/
  | lockLost
/-- ACQUISITION_RESTART (R45): Lock not qualified in 20 µs; acquisition restarts every 1 ms. -/
  | acquisitionRestart
/-- REF_LOSS (R53): The SAFE domain declares loss of REF and clamps the outputs. -/
  | refLoss
/-- REF_MEASURE (R52): The frequency monitor completes a 16 µs measurement and may declare loss of REF. -/
  | refMeasure (khz : Nat)
/-- REF_RETURN (R353): REF returns into range and the REF-loss restart proceeds. -/
  | refReturn
/-- SYNC_IN_CAPTURE (R50): A SYNC_IN edge is captured into CLK_SYNCI_TS, or ignored as early. -/
  | syncInCapture (x : SyncEdge)
/-- SYNC_IN_TIMEOUT (R50): No SYNC_IN edge within the timeout sets missing. -/
  | syncInTimeout
/-- ETIME_READ (R56): Reading a timestamp LO register latches its HI register. -/
  | etimeRead (r : Fin 15)
/-- GRID_LOCK (R236): The angle tracker qualifies lock after 40 ms. -/
  | gridLock (g : Fin 4)
/-- GRID_UNLOCK (R236): The tracker loses lock after 5 ms outside hold. -/
  | gridUnlock (g : Fin 4)
/-- SYNC_OK (R239): All synchronisation conditions hold for t_q and sync_ok is set. -/
  | syncOk (g : Fin 4)
/-- RT_TICK (R241): The ride-through evaluator runs its 20 µs tick. -/
  | rtTick
/-- EPISODE_DECLARED (R243): q_in ticks below lv_in or above hv_in declare LV or HV. -/
  | episodeDeclared (g : Fin 4) (hv : Bool)
/-- RECOVERY_END (R243): The measure stays in range for t_rec and RECOVERY ends in NORMAL. -/
  | recoveryEnd (g : Fin 4)
/-- VOLTAGE_TRIP (R245): q_trip ticks beyond the envelope decide a voltage trip. -/
  | voltageTrip (g : Fin 4) (hv : Option Bool)
/-- FREQUENCY_TRIP (R246): A frequency stage stays active for its duration and decides a trip. -/
  | frequencyTrip (g : Fin 4) (hi : Bool) (j : Fin 4)
/-- GRD_TCLR (R247): GRD_CTL.tclr clears vtrip, ftrip and GRD_TRIP. -/
  | grdTclr (p : Fin 6) (g : Fin 4)
/-- GRD_ENABLE (R257): Setting GRD_CTL.en is checked and starts the interface. -/
  | grdEnable (p : Fin 6) (g : Fin 4)
/-- ISLAND_PASSIVE_TRIP (R271): A passive detector holds for its time or sees a vector shift and decides an islanding
    trip. -/
  | islandPassiveTrip (g : Fin 4) (i : Fin 4)
/-- CORRELATION_WINDOW_END (R275): A two-cycle correlation window ends and |Z| is evaluated. -/
  | correlationWindowEnd (g : Fin 4) (zmag : Unit) (zang : Unit) (low : Unit)
/-- LISTEN_START (R274): The re-listen interval expires and a listen interval begins. -/
  | listenStart (g : Fin 4)
/-- LISTEN_END (R274): A listen interval ends and the parity p is chosen. -/
  | listenEnd (g : Fin 4) (mag : Unit) (aligned : Unit)
/-- INJECTION_PARITY_WORD (R401): A peer injection phase word sets the parity in mode 2. -/
  | injectionParityWord (g : Fin 4) (x : ParityWord)
/-- RECONNECT_DONE (R278): The reconnect timer expires and rc_done is set. -/
  | reconnectDone (g : Fin 4)
/-- ISL_TCLR (R283): ISL_CTL.tclr clears island and ISL_TRIP. -/
  | islTclr (p : Fin 6) (g : Fin 4)
/-- RC_START (R278): ISL_CTL.rc_start restarts the reconnect timer. -/
  | rcStart (p : Fin 6) (g : Fin 4)
/-- CONTACTOR_CLOSE (R280): ISL_KCTL.close requests closing if allowed. -/
  | contactorClose (p : Fin 6)
/-- CONTACTOR_OPEN (R280): ISL_KCTL.open starts an opening unless a stage switches. -/
  | contactorOpen (p : Fin 6)
/-- KFB_CHANGE (R279): A feedback channel changes after 10 equal samples and moves the contactor state. -/
  | kfbChange (b : Bool) (w : BitVec 10) (t : Nat)
/-- CONTACTOR_TIMEOUT (R279): 50 ms pass without confirming feedback: close failure or welded. -/
  | contactorTimeout
/-- PRECHARGE_EVALUATE (R263): Every 100 µs the precharge unit reads V_dc and V_s. -/
  | prechargeEvaluate
/-- PRECHARGE_DONE (R263): The done conditions hold for t_settle and EV116 is raised. -/
  | prechargeDone
/-- PRECHARGE_TIMEOUT (R264): Precharge is not done within t_max. -/
  | prechargeTimeout
/-- PRECHARGE_PROGRESS_CHECK (R264): A progress interval ends and too little rise fails precharge. -/
  | prechargeProgressCheck
/-- PRECHARGE_OVERLAP_END (R265): The overlap ends and the precharge drive goes inactive. -/
  | prechargeOverlapEnd
/-- ZERO_CROSSING (R286): An accepted zero crossing of the reference voltage ends a half or full line cycle. -/
  | zeroCrossing (m : Fin 4) (pos : Bool) (t : Unit)
/-- FREE_RUN (R286): No positive crossing for 2 ÷ f_nom puts the point into free-run. -/
  | freeRun (m : Fin 4)
/-- FREE_RUN_HALF_CYCLE (R286): A nominal half cycle ends in free-run. -/
  | freeRunHalfCycle (m : Fin 4)
/-- MTR_VRMS0_READ (R289): A read of MTR_VRMS0 latches the quantity set. -/
  | mtrVrms0Read (m : Fin 4)
/-- MTR_LSEQ_READ (R293): A read of MTR_LSEQ copies the energy words into the read buffer. -/
  | mtrLseqRead (m : Fin 4)
/-- ENERGY_SAVE_START (R297): The save period expires and a save copies the accumulators. -/
  | energySaveStart
/-- ENERGY_SAVE_NOW (R297): MTR_SAVE.now starts a save at once. -/
  | energySaveNow (p : Fin 6)
/-- ENERGY_SAVE_DONE (R297): Word 63 is written and the save completes with EV74. -/
  | energySaveDone (hot : Bool)
/-- METER_DISCARD (R299): MTR_CTL.discard drops the pending restored values. -/
  | meterDiscard (p : Fin 6) (m : Fin 4)
/-- METER_ENABLE (R285): Setting MTR_CTL.en is checked and starts the point. -/
  | meterEnable (p : Fin 6) (m : Fin 4)
/-- SAFETY_TICK (R306): The 100 µs tick samples the safety balls and evaluates pairs and telegram inputs. -/
  | safetyTick (a : BitVec 8) (b : BitVec 8) (rbA : Bool) (rbB : Bool)
/-- FILTER_CHANGE (R308): A filtered ball state changes after N_f consecutive samples. -/
  | filterChange (p : Fin 8) (b : Bool) (level : Bool)
/-- DISCREPANCY_FAULT (R312): The disagreement count reaches K and the pair locks. -/
  | discrepancyFault (p : Fin 8)
/-- TEST_PULSE_START (R310): A test pulse period expires and TPA or TPB pulses low. -/
  | testPulseStart (ch : Fin 2)
/-- TEST_PULSE_CHECK (R310): 200 µs into a pulse the tested balls are checked for low. -/
  | testPulseCheck (ch : Fin 2) (balls : BitVec 8)
/-- TEST_FAULT (R310): Two failed tests on a ball lock the pair with cause 2. -/
  | testFault (p : Fin 8) (ch : Fin 2)
/-- STROBE_INTERVAL_FAULT (R306): Channel B measures a tick interval out of range: class A. -/
  | strobeIntervalFault (n : Nat)
/-- CHANNEL_DISAGREEMENT (R319): Channels differ or an output reads back wrong for 3 ticks: class A. -/
  | channelDisagreement (u : Fin 18)
/-- SAFE_OUTPUT_DROP (R317): 50 µs after the force, a channel drives its safe output low. -/
  | safeOutputDrop (ch : Fin 2)
/-- SAFETY_TELEGRAM_COPY (R321): A telegram copy is checked and compared with its counterpart. -/
  | safetyTelegramCopy (net : Fin 2) (src : List Byte) (b : List Byte)
/-- TELEGRAM_SKEW_EXPIRY (R321): A waiting copy finds no counterpart within the skew window. -/
  | telegramSkewExpiry
/-- TELEGRAM_WATCHDOG (R322): No telegram accepted within wdog puts every input into DEMAND. -/
  | telegramWatchdog
/-- SAF_CLR (R326): SAF_CTL.clr clears dmax and SAF_TGCNT. -/
  | safClr (p : Fin 6)
/-- FAULT_REPORT (R329): A source report reaches the collector and opens or merges an episode, or notifies. -/
  | faultReport (code : BitVec 16) (arg : Word)
/-- HOLD_EXPIRY (R333): The fault-hold window expires and the device escalates to SAFE-STOP. -/
  | holdExpiry
/-- QUIET_EXPIRY (R338): The quiet timer completes and the device recovers or locks. -/
  | quietExpiry
/-- RECOVERY_WINDOW_END (R339): The 3600 s recovery window ends and FLT_RECOV_CNT returns to 0. -/
  | recoveryWindowEnd
/-- FLT_BLOCK_CLEARED (R338): FLT_BLOCK becomes 0 and the quiet timer starts. -/
  | fltBlockCleared
/-- FLT_CCLR (R342): FLT_CTL.cclr clears FLT_CLAST. -/
  | fltCclr (p : Fin 6)
/-- AUTO_EN_WRITE (R338): Changing FLT_CTL.auto_en starts or stops the quiet timer. -/
  | autoEnWrite (p : Fin 6) (on : Bool)
/-- BOOT_DONE (R349): Image selection completes and, with lock, SELFTEST begins. -/
  | bootDone
/-- SELFTEST_DONE (R351): SELFTEST ends in CONFIGURE or SAFE-STOP. -/
  | selftestDone (fail : Option (Fin 7)) (arg : Word) (pods : BitVec 12) (ms : Nat)
/-- SOFT_RESET_ASSERT (R355): 100 µs after SET_MODE RESET, internal reset asserts. -/
  | softResetAssert
/-- NOP (R365): Command with no effect. -/
  | nop (p : Fin 4) (fence : Bool) (nseq : Bool) (pl : List Byte)
/-- PING (R365): Command that returns its payload. -/
  | ping (p : Fin 4) (fence : Bool) (nseq : Bool) (pl : List Byte)
/-- READ (R365): Command that returns up to 63 words. -/
  | read (p : Fin 4) (fence : Bool) (nseq : Bool) (pl : List Byte) (par : List Par) (bad : Fin 63)
/-- WRITE (R370): Command that writes 1 to 63 consecutive words under their access codes. -/
  | write (p : Fin 4) (fence : Bool) (pl : List Byte)
/-- WRITE_GROUP (R374): Command that validates and commits several parts together. -/
  | writeGroup (p : Fin 4) (fence : Bool) (pl : List Byte)
/-- PERSIST_WRITE (R371): Command that writes persistent words with endurance accounting. -/
  | persistWrite (p : Fin 4) (fence : Bool) (pl : List Byte)
/-- ERASE_INACTIVE_BANK (R372): LOAD_PROGRAM function 0 erases the inactive bank. -/
  | eraseInactiveBank (p : Fin 4) (fence : Bool) (pl : List Byte)
/-- WRITE_BANK (R372): LOAD_PROGRAM function 1 writes bytes into the inactive bank. -/
  | writeBank (p : Fin 4) (fence : Bool) (pl : List Byte)
/-- CHECK_BANK (R415): LOAD_PROGRAM function 2 checks the inactive bank and makes it active. -/
  | checkBank (p : Fin 4) (fence : Bool) (pl : List Byte)
/-- LOAD_ENGINE (R372): LOAD_PROGRAM function 3 loads an engine from the active bank. -/
  | loadEngine (p : Fin 4) (fence : Bool) (pl : List Byte)
/-- SET_MODE (R346): Command that requests a mode transition. -/
  | setMode (p : Fin 4) (fence : Bool) (pl : List Byte)
/-- ORDERLY_STOP_DONE (R348): The last stage becomes READY and SET_MODE STANDBY completes. -/
  | orderlyStopDone
/-- SETPOINT (R252): Command that writes a target word, optionally ramp-tracked. -/
  | setpoint (p : Fin 4) (fence : Bool) (pl : List Byte)
/-- SETPOINT_GROUP (R376): Command that writes several set-points together. -/
  | setpointGroup (p : Fin 4) (fence : Bool) (pl : List Byte)
/-- CLAIM_AUTHORITY (R369): Command that claims stages for the port. -/
  | claimAuthority (p : Fin 4) (fence : Bool) (pl : List Byte)
/-- RELEASE_AUTHORITY (R369): Command that releases stages held by the port. -/
  | releaseAuthority (p : Fin 4) (fence : Bool) (pl : List Byte)
/-- JOURNAL_READ (R382): Command that returns Uhlog entries. -/
  | journalRead (p : Fin 4) (fence : Bool) (nseq : Bool) (q : JournalAsk)
/-- FAULT_CLEAR (R336): Command that closes the episode and enters STANDBY. -/
  | faultClear (p : Fin 4) (fence : Bool) (pl : List Byte)
/-- RESUME (R335): Command that ends fault hold and restarts the links. -/
  | resume (p : Fin 4) (fence : Bool) (pl : List Byte)
/-- SAFETY_ACK (R315): Command that releases units in ACK_WAIT at the next tick. -/
  | safetyAck (p : Fin 4) (fence : Bool) (pl : List Byte)
/-- LATCH_METER (R293): Command that latches the named metering points. -/
  | latchMeter (p : Fin 4) (fence : Bool) (pl : List Byte)
/-- EVENT_MASK (R436): Command that replaces the routing mask of a target. -/
  | eventMask (p : Fin 4) (fence : Bool) (pl : List Byte)
/-- COMMAND_START (R367): An accepted command that waited for order, fence or a group begins execution. -/
  | commandStart (p : List Par) (bad : Fin 63)
/-- GROUP_COMMIT (R374): At t_v and t_c the group is rechecked and its parts written. -/
  | groupCommit (i : Fin 4)
/-- GROUP_ROLLBACK (R375): At t_r every part reverts and restoring words are sent. -/
  | groupRollback (i : Fin 4)
/-- SYS_MODEREQ_WRITE (R359): A write to SYS_MODEREQ makes a SET_MODE request. -/
  | sysModereqWrite (p : Fin 6) (target : BitVec 4)
/-- REGISTER_WRITE (R6): A write to a register without behaviour of its own, applied by its access code. -/
  | registerWrite (p : Fin 6) (a : Word) (v : Word)
/-- HOST_WRITE_FRAME (R387): A 0x5A transaction ends with CSN rising and its frame is judged. -/
  | hostWriteFrame (h : Fin 2) (b : List Byte) (par : List Par) (bad : Fin 63)
/-- HOST_READ_RESPONSE (R387): A 0xA5 transaction shifts out the oldest response, removed at CSN rising. -/
  | hostReadResponse (h : Fin 2) (n : Nat)
/-- HOST_BAD_INSTRUCTION (R386): A transaction with an unknown instruction is counted. -/
  | hostBadInstruction (x : Clocked)
/-- ETHERNET_FRAME (R390): A frame received by a MAC is filtered and passed on or dropped. -/
  | ethernetFrame (i : Fin 2) (b : List Byte) (hold : Bool) (par : List Par) (bad : Fin 63)
/-- ARP_REQUEST (R394): An ARP request for the port's address is answered. -/
  | arpRequest (i : Fin 2) (sha : List Byte) (spa : List Byte) (tpa : List Byte)
/-- COMMAND_DATAGRAM (R393): A UDP datagram carrying one command frame is judged. -/
  | commandDatagram (i : Fin 2) (src : List Byte) (b : List Byte) (par : List Par) (bad : Fin 63)
/-- NET_ENABLE (R394): PRT_NCTL.en set sends one gratuitous ARP. -/
  | netEnable (p : Fin 6) (i : Fin 2)
/-- NOTIFICATION (R395): A notification datagram is sent for pending routed events after the gap. -/
  | notification (i : Fin 2)
/-- MDIO_START (R399): PRT_MDIO.go starts a management frame. -/
  | mdioStart (p : Fin 6) (reg : BitVec 5) (phy : BitVec 5) (wr : Bool) (data : BitVec 16)
/-- MDIO_DONE (R399): The management frame completes and EV111 is raised. -/
  | mdioDone (data : BitVec 16)
/-- PEER_STATUS_WORD (R400): A peer status word is received. -/
  | peerStatusWord (pos : Fin 8) (flags : BitVec 2)
/-- CARRIER_PHASE_WORD (R401): A carrier phase word gives a source event and is forwarded. -/
  | carrierPhaseWord (late : BitVec 16) (own : BitVec 16) (data : Word) (t : Nat)
/-- RING_TRIP (R402): A ring trip word is forwarded or returns to the leader. -/
  | ringTrip (acc : BitVec 16) (t : BitVec 16)
/-- RING_RESULT (R402): The ring result sets the hop delay and brings the ring up. -/
  | ringResult (h : BitVec 16) (n : Byte)
/-- PARTING_RELAY (R403): A decoded relay forces the own links and is forwarded. -/
  | partingRelay (origin : Fin 8)
/-- RING_LOST (R402): No valid peer symbol for 2 µs or 4 CRC errors in 16 lose the ring. -/
  | ringLost
/-- RING_RETRY (R402): The leader retries the ring trip every 10 ms. -/
  | ringRetry
/-- PERSIST_WORD_DONE (R408): A persistent word write completes and the write unit takes the next word. -/
  | persistWordDone (hot : Bool)
/-- ERASE_DONE (R413): A program-store bank erase completes. -/
  | eraseDone
/-- RTC_SET (R441): A write to SYS_RTC_SEC starts setting the RTC. -/
  | rtcSet (p : Fin 6) (sec : Word)
/-- RTC_SET_DONE (R441): The RTC handshake completes and valid is set. -/
  | rtcSetDone
/-- RTC_READ (R441): A read of SYS_RTC_SEC latches SYS_RTC_SUB. -/
  | rtcRead
/-- DEVAR_READ (R423): Devar packet that reads one word. -/
  | devarRead (a : Word) (tag : BitVec 4) (p : Par)
/-- DEVAR_WRITE (R423): Devar packet that writes one word. -/
  | devarWrite (a : Word) (v : Word) (tag : BitVec 4) (p : StepPar)
/-- UNLOCK (R422): Devar packet that unlocks the port with the key. -/
  | unlock (key : Word) (tag : BitVec 4)
/-- LOCK (R422): Devar packet that locks the port. -/
  | lock (tag : BitVec 4)
/-- DEVAR_BAD_PACKET (R420): A packet with a wrong CRC or op is answered with BAD_FRAME. -/
  | devarBadPacket (crc : Bool) (op : BitVec 4) (tag : BitVec 4)
/-- DEVAR_IDLE_ABANDON (R420): DIO high for 64 cycles abandons the packet in progress. -/
  | devarIdleAbandon
/-- UNLOCK_LOCKOUT_END (R422): The 100 ms lockout after a refused UNLOCK ends. -/
  | unlockLockoutEnd
/-- DEBUG_HALT (R424): DBG_CTL op 1 halts an engine or every engine. -/
  | debugHalt (m : Fin 7) (all : Bool)
/-- DEBUG_RUN (R425): DBG_CTL op 2 resumes halted engines. -/
  | debugRun (m : Fin 7) (all : Bool)
/-- DEBUG_STEP (R426): DBG_CTL op 3 steps one context by one instruction. -/
  | debugStep (e : CtxId) (p : StepPar)
/-- BREAKPOINT_HALT (R427): An enabled breakpoint halts the engine before the instruction issues. -/
  | breakpointHalt (e : CtxId)
/-- PROGRAMMING_DONE (R413): A program-store word finishes programming (10 µs max per word), and the next word of a
    LOAD_PROGRAM function 1, the gen word of function 2 or a download can proceed. -/
  | programmingDone
  deriving DecidableEq, Repr

end Sys2Proof
end

