-- ==== Sys2Proof/Machine/State.lean ====
section
/-! DEFINITION. The state of the K9612 as a block: the register file, the memories, the parts that no register shows,
the pins, the command queue of the model and what has left the device; the outcomes other than a next state; and the
state right after a power-on reset (R24, R343, R353, R354). -/

namespace Sys2Proof.Machine

/-- The state of the device. -/
structure State where
  /-- Register file by byte address, persistent words included: rising addresses, no entry equal to its reset value
  (R6, R439). -/
  regs : List (Nat × Word)
  /-- Memories by byte address: instruction and data memories, compensation tables, Uhlog RAM, event rings, program
  store (R67, R116, R296, R378, R413), in canonical form. -/
  mem : List Host.Cell
  /-- Engine contexts: 0 to 11 the Lathe contexts, 12 the Headstock (R59). -/
  ctx : Vector Ctx 13
  /-- Stages (R166). -/
  stg : Vector Stg 12
  /-- Gate links (R191). -/
  lnk : Vector Lnk 12
  /-- Assigned and immediate commands of all links (R180, R183). -/
  slots : List Slotted
  imms : List Imm
  /-- Acquisition entries (R9, R140). -/
  ent : Vector Ent 64
  /-- Scan masks waiting, per ADC, with the CONV edge at which each is taken; calibration running; a calibration has
  completed since reset; DAC visit count of x.15 (R134, R135, R151, R152, R155). -/
  scanPend : Vector (Option (Nat × Nat)) 4
  calRun : Bool
  calDone : Bool
  dacIdx : Vector Nat 4
  /-- DACs of x.15 outside their code on the latest visit, and those that have failed, per ADC; a midscale failure
  persists (R149, R151); the latest converted entry of each ADC, 16 where the next sample starts a pass, and its
  earliest next CONV edge (R132 to R135); the background correction in 2^−12 code (R152). -/
  dacBad : Vector Nat 4
  dacFail : Vector Nat 4
  midFail : Vector Bool 4
  adcLast : Vector Nat 4
  adcDue : Vector Nat 4
  midAcc : Vector Int 4
  /-- Comparators: powered, and the start of the first powered tick (R162, R163). -/
  cmpPow : Vector Bool 24
  cmpFrom : Vector Nat 24
  /-- The latest eight decisions of each comparator with the starts of their ticks, newest first: out of window (R148,
  R157). -/
  cmpDec : Vector (List (Nat × Bool)) 24
  /-- Written thresholds of each comparator with the EDGE time from which they apply, newest first (R164). -/
  cmpThr : Vector (List (Nat × Word)) 24
  /-- Grid interfaces, islanding units and metering points (R233, R271, R285). -/
  grd : Vector Grd 4
  isl : Vector Isl 4
  mtr : Vector Mtr 4
  /-- Slot and sequence of the latest save begun, or of the newest valid slot at BOOT; the final save has begun; a final
  save was left incomplete, which the next BOOT reports (R36, R298, R302, R412; assumption 57, DEDUCED). -/
  saveLast : Option (Nat × Nat)
  finalSave : Bool
  saveCut : Bool
  /-- RTC seconds and milliseconds of the latest PFI assertion, RESETN low level or supply-monitor trip, kept by the RTC
  domain (R299). -/
  tStop : Nat × Nat
  /-- EDGE time of the contactor's latest drive change (R279); state, filtered channels and drive are ISL_KSTAT. -/
  kT0 : Nat
  /-- Precharge (R262 to R265): evaluations for which done holds, evaluations since entry, V_dc at the start of the
  progress interval and evaluations before it, over-voltage run, overlap running, EDGE time at which it began; the drive is
  SYS_PCH_STAT.drive. -/
  pchOk : Nat
  pchN : Nat
  pchV0 : Int
  pchChk : Nat
  pchOv : Nat
  pchOverlap : Bool
  pchExit : Nat
  /-- Safety pairs as channels A and B keep them, and logical inputs LS0 to LS7 (R311, R322). -/
  pairA : Vector Pair 8
  pairB : Vector Pair 8
  lsA : Vector Nat 8
  lsB : Vector Nat 8
  /-- Ticks the channels have differed, and each output has read back wrong (R319). -/
  chDiff : Nat
  soDiff : Vector Nat 2
  /-- The test-pulse outputs TPA and TPB; whether the latest test of each ball failed, pair p at p on channel A and at 8 + p
  on channel B (R310). -/
  tp : Vector TestPulse 2
  tpBad : Vector Bool 16
  /-- Telegram copies that wait for their counterparts, oldest first (R321). -/
  tgWait : List TgCopy
  /-- Telegram effects waiting for the next tick, in order (R322). -/
  tgFx : List TgFx
  /-- Safety force applied; the safe outputs' drive; a drop pending (R316, R317). -/
  safForce : Bool
  so : Vector Bool 2
  soDrop : Vector Bool 2
  /-- The CORE cycle in which the latest episode opened: REF cycles since reset, and of EDGE time (R331). -/
  fltCyc : Nat × Nat
  /-- The CORE cycle of the latest class A or B report that came while stages were switching, with those stages; the bits
  that raising EV85 may set, as they read before the latest episode opened (R20, R331, R340, R341). -/
  swCyc : Option ((Nat × Nat) × List Nat)
  fltEv : List Nat
  /-- Fault collector: window length latched, mode before FAULT-HOLD, trip or safety force in the window, episode that
  waits for its links after RESUME (R333, R335). -/
  holdLen : Nat
  holdMode : Nat
  holdTrip : Bool
  resumed : Bool
  /-- Links whose ENABLE sequence the episode of a RESUME waits for (R335). -/
  resumeLinks : List Nat
  /-- Recovery window remaining in ms (R339). -/
  recovMs : Nat
  /-- Loss-of-REF cause held in the SAFE domain, with its argument (R53, R354); REF lost and not returned. -/
  refHeld : Option Nat
  refLost : Bool
  /-- A SET_MODE RESET is pending its 100 µs (R355); a reset to be carried out after the final save, as the
  bit of its cause in SYS_RSTCAUSE (R36, R358). -/
  softReset : Bool
  resetAfterSave : Option Nat
  /-- Rails whose monitor is tripped: 0 VDD to 4 VDDSAFE (R26). -/
  railBad : Vector Bool 5
  /-- The end of reset has sampled the straps and BOOT is running; image selection finished (R32, R349). -/
  bootDone : Bool
  /-- REF cycle at the entry to SELFTEST (R351, R359). -/
  stestCyc : Nat
  /-- A write that set CMP_CFG.en has been accepted since the latest reset, so the DAC loopback has passed (R162). -/
  loopOk : Bool
  /-- Pins read by the device: GATE_EN, RESETN, PFI, and BOOT1:0 as sampled (R24, R32). -/
  gateEn : Bool
  resetN : Bool
  pfi : Bool
  straps : Nat
  /-- Pins driven: ALIVE level and toggling, RBG (R35, R37). -/
  alive : Bool
  aliveRun : Bool
  rbg : Bool
  /-- EDGE time in taps; the counter runs from the first lock (R49). -/
  etime : Nat
  eRun : Bool
  everLock : Bool
  /-- REF cycles since reset, for the RTC and command durations (R377, R441). -/
  cyc : Nat
  rtcSub : Nat
  rtcPend : Option Word
  /-- Words latched by the read of a companion register, by their own address: HI words of timestamps (R56), ADC_AVGN and
  ADC_WMM (R143), SYS_RTC_SUB (R441). -/
  hiLatch : List (Nat × Word)
  /-- Event last captured on SYNC_IN, for the spacing rule (R50). -/
  synciLast : Option Nat
  /-- SYNC_OUT (R51). -/
  synco : SyncO
  /-- Scrubber addresses: Lathe 0 to 5, Headstock (R74). -/
  scrub : Vector Nat 7
  /-- Headstock watchdog limit of the running handler; timers running, their reload (R78, R79). -/
  hsLim : Nat
  hsTmr : Vector Bool 2
  /-- Register words staged for stage boundaries (R166). -/
  staged : List Staged
  /-- Commands in flight in order of acceptance; the next identifier (R367). -/
  cmds : List Cmd
  nextId : Nat
  ports : Vector PortAcc 5
  /-- Lowest index the RAM journal can hold since it was last lost (R354, R378). -/
  jLow : Nat
  /-- Host ports' responses that have not been removed, oldest first (R387). -/
  host : Vector (List Answer) 2
  /-- Write unit: requests in order; the word in progress is the head (R408, R409). -/
  wq : List WReq
  /-- Program store: words still to be programmed, erase in progress with its command, and which bank is active (R413). -/
  pq : List PReq
  erasing : Option (Option Nat)
  activeB : Bool
  /-- Byte address of the first image word that each engine memory, Lathe 0 to 5 and Headstock, was loaded from: its
  repair image (R68, R73). -/
  imgOf : Vector (Option Nat) 7
  /-- Identities of the networks in force, as taken when en was set (R396); received frames that wait, at most 4 a network
  (R390). -/
  netId : Vector NetId 2
  rxq : Vector (List RxFrame) 2
  /-- Source addresses of the latest accepted safety telegram copies (R397); REF cycle of the latest frame received on each
  network, and of its latest notification (R395, R405). -/
  tgSrc : Vector (List Byte) 2
  netLast : Vector (Option Nat) 2
  noteAt : Vector (Option Nat) 2
  /-- The Devar port's allowance of refused UNLOCKs, as the settings word gave it at reset (R421). -/
  dbgLim : Nat
  /-- The leader's ring trip is under way; the ring was up and has been lost, so the leader retries (R402); seq of the
  next carrier phase word (R400). -/
  ringWait : Bool
  ringLost : Bool
  peerSeq : Nat
  /-- The model's own: index of the next free value (assumption 2, DESIGN CHOICE). -/
  free : Nat
  /-- The model's own: what has left the device, newest first (assumption 4, DESIGN CHOICE). -/
  out : List Out
  /-- The model's own: the commands waiting, first in, first out. -/
  pending : List Instr
  deriving DecidableEq, Repr

/-- Reasons to stop with a fault. No meaning of this model stops: every row of the table has an effect. -/
inductive Fault where
  deriving DecidableEq, Repr

/-- Reasons to refuse. -/
inductive Refusal where
  /-- Raised by the dispatcher for a row that has no meaning yet; safe, since the machine stops. -/
  | notModelled (mnemonic : String)
  deriving DecidableEq, Repr

/-- The machine right after a power-on reset, before BOOT: mode RESET, engines IDLE, links silent, every register at its
reset value, SYS_RSTCAUSE naming the power-on (R24, R343, R353, R354). The pins are at the level of an unconnected ball
(R24). -/
def State.reset : State where
  regs := []
  mem := []
  ctx := Vector.replicate 13 Ctx.init
  stg := Vector.replicate 12 Stg.init
  lnk := Vector.replicate 12 Lnk.init
  slots := []
  imms := []
  ent := Vector.replicate 64 Ent.init
  scanPend := Vector.replicate 4 none
  calRun := false
  calDone := false
  dacIdx := Vector.replicate 4 0
  dacBad := Vector.replicate 4 0
  dacFail := Vector.replicate 4 0
  midFail := Vector.replicate 4 false
  adcLast := Vector.replicate 4 16
  adcDue := Vector.replicate 4 0
  midAcc := Vector.replicate 4 0
  cmpPow := Vector.replicate 24 false
  cmpFrom := Vector.replicate 24 0
  cmpDec := Vector.replicate 24 []
  cmpThr := Vector.replicate 24 []
  grd := Vector.replicate 4 Grd.init
  isl := Vector.replicate 4 Isl.init
  mtr := Vector.replicate 4 Mtr.init
  saveLast := none
  finalSave := false
  saveCut := false
  tStop := (0, 0)
  kT0 := 0
  pchOk := 0
  pchN := 0
  pchV0 := 0
  pchChk := 0
  pchOv := 0
  pchOverlap := false
  pchExit := 0
  pairA := Vector.replicate 8 Pair.init
  pairB := Vector.replicate 8 Pair.init
  lsA := Vector.replicate 8 0
  lsB := Vector.replicate 8 0
  chDiff := 0
  soDiff := Vector.replicate 2 0
  tp := Vector.replicate 2 TestPulse.init
  tpBad := Vector.replicate 16 false
  tgWait := []
  tgFx := []
  safForce := false
  so := Vector.replicate 2 false
  soDrop := Vector.replicate 2 false
  holdLen := 0
  holdMode := 0
  holdTrip := false
  fltCyc := (0, 0)
  swCyc := none
  fltEv := []
  resumed := false
  resumeLinks := []
  recovMs := 0
  refHeld := none
  refLost := false
  softReset := false
  resetAfterSave := none
  railBad := Vector.replicate 5 false
  bootDone := false
  stestCyc := 0
  loopOk := false
  gateEn := false
  resetN := true
  pfi := false
  straps := 0
  alive := false
  aliveRun := false
  rbg := false
  etime := 0
  eRun := false
  everLock := false
  cyc := 0
  rtcSub := 0
  rtcPend := none
  hiLatch := []
  synciLast := none
  synco := SyncO.init
  scrub := Vector.replicate 7 0
  hsLim := 0
  hsTmr := Vector.replicate 2 false
  staged := []
  cmds := []
  nextId := 0
  ports := Vector.replicate 5 ⟨0, []⟩
  jLow := 0
  host := Vector.replicate 2 []
  wq := []
  pq := []
  erasing := none
  activeB := false
  imgOf := Vector.replicate 7 none
  netId := Vector.replicate 2 ⟨[], [], 0⟩
  rxq := Vector.replicate 2 []
  tgSrc := Vector.replicate 2 []
  netLast := Vector.replicate 2 none
  noteAt := Vector.replicate 2 none
  dbgLim := 3
  ringWait := false
  ringLost := false
  peerSeq := 0
  free := 0
  out := []
  pending := []

end Sys2Proof.Machine
end

