-- ==== Sys2Proof/Machine/Ops.lean ====
section
/-! DEFINITION. The named operations over registers, memory, contexts and events that every meaning is written in:
sparse stores in canonical form, register and field access (R6, R439, R440), memory access (R67, R70), event raising
(R434 to R436). -/

namespace Sys2Proof.Machine

/-- What a meaning answers. -/
abbrev Res := Host.Outcome State Fault Refusal

/-! ### Sparse stores -/

/-- The value of key `a`: its entry, or what an unlisted key reads as. -/
def smGet {β : Type} (d : Nat → β) : List (Nat × β) → Nat → β
  | [], a => d a
  | (b, v) :: t, a => if b = a then v else smGet d t a

/-- Enter `v` at key `a`, keys rising. -/
def smIns {β : Type} : List (Nat × β) → Nat → β → List (Nat × β)
  | [], a, v => [(a, v)]
  | (b, w) :: t, a, v =>
    if a < b then (a, v) :: (b, w) :: t else if a = b then (a, v) :: t else (b, w) :: smIns t a v

/-- Remove key `a`. -/
def smErase {β : Type} (l : List (Nat × β)) (a : Nat) : List (Nat × β) := l.filter fun p => p.1 != a

/-- Write `v` at key `a`; the entry goes where `v` is what an unlisted key reads as. -/
def smSet {β : Type} [DecidableEq β] (d : Nat → β) (l : List (Nat × β)) (a : Nat) (v : β) : List (Nat × β) :=
  if v = d a then smErase l a else smIns l a v

/-- The canonical form: keys strictly rising, no entry equal to what an unlisted key reads as. -/
def smWf {β : Type} [DecidableEq β] (d : Nat → β) : List (Nat × β) → Bool
  | [] => true
  | [(a, v)] => v != d a
  | (a, v) :: (b, w) :: t => decide (a < b) && v != d a && smWf d ((b, w) :: t)

/-- A list-backed number per key, 0 where unlisted. -/
def nget (l : List (Nat × Nat)) (a : Nat) : Nat := smGet (fun _ => 0) l a

/-- Write a number per key. -/
def nset (l : List (Nat × Nat)) (a v : Nat) : List (Nat × Nat) := smSet (fun _ => 0) l a v

/-! ### Registers -/

/-- The home of a register word: a persistent window of the bank is the block's own register (R214, R258), and the
serial number is bank words 0 and 1 (R441). -/
def home (a : Nat) : Nat :=
  if a = 0x8 then 0xB0000
  else if a = 0xC then 0xB0004
  else if 0xB0400 ≤ a ∧ a < 0xB0700 then
    let s := (a - 0xB0400) / 8
    A.GL_ABND0 (s / 8) (s % 8) + (a - 0xB0400) % 8
  else if 0xB0800 ≤ a ∧ a < 0xB0C00 then
    if (a - 0xB0800) % 0x100 < 0xB0 then 0x71000 + (a - 0xB0800) else a
  else a

/-- The stored word of the register at byte address `a` (R6); 0 where no register lies (R440). -/
def State.reg (s : State) (a : Nat) : Word := smGet regReset s.regs (home a)

/-- Store a register word. -/
def State.setReg (s : State) (a : Nat) (v : Word) : State := { s with regs := smSet regReset s.regs (home a) v }

/-- Store the masked bits of a register word. -/
def State.mergeReg (s : State) (a : Nat) (v m : Word) : State := s.setReg a ((s.reg a &&& ~~~m) ||| (v &&& m))

/-- A field's value. -/
def State.f (s : State) (x : Fld) : Nat := getBits (s.reg x.addr) x.lo x.wd

/-- A one-bit field, or whether a field is not 0. -/
def State.fb (s : State) (x : Fld) : Bool := s.f x != 0

/-- Store a field. -/
def State.put (s : State) (x : Fld) (v : Nat) : State := s.setReg x.addr (putBits (s.reg x.addr) x.lo x.wd v)

/-- Set a one-bit field. -/
def State.set1 (s : State) (x : Fld) : State := s.put x 1

/-- Store 1 or 0. -/
def State.putB (s : State) (x : Fld) (b : Bool) : State := s.put x (b2n b)

/-- Count in a saturating field. -/
def State.bump (s : State) (x : Fld) : State := s.put x (satInc x.wd (s.f x))

/-- A field read as a two's-complement number. -/
def State.fInt (s : State) (x : Fld) : Int :=
  let v := s.f x
  if v < 2 ^ (x.wd - 1) then (v : Int) else (v : Int) - 2 ^ x.wd

/-! ### Memory -/

/-- What a byte of memory that nothing has written reads as: 0xFF in the erased program store, 0 elsewhere
(R85, R349, R413; assumption 5, DESIGN CHOICE). -/
def memDefault (a : Nat) : Byte := if 0x400000 ≤ a ∧ a < 0x480000 then 0xFF else 0

/-- The canonical form of the memory. -/
def Memory.wf (m : List Host.Cell) : Bool := smWf memDefault m

/-- One byte of memory. -/
def State.mb (s : State) (a : Nat) : Byte := smGet memDefault s.mem a

/-- Write one byte. -/
def State.setMb (s : State) (a : Nat) (b : Byte) : State := { s with mem := smSet memDefault s.mem a b }

/-- The word at a byte address, least significant byte first. -/
def State.mw (s : State) (a : Nat) : Word := bytesWord (s.mb a) (s.mb (a + 1)) (s.mb (a + 2)) (s.mb (a + 3))

/-- Write a word whole (R70). -/
def State.setMw (s : State) (a : Nat) (w : Word) : State :=
  (((s.setMb a (w.extractLsb' 0 8)).setMb (a + 1) (w.extractLsb' 8 8)).setMb (a + 2)
    (w.extractLsb' 16 8)).setMb (a + 3) (w.extractLsb' 24 8)

/-- Half word, least significant byte first: a table entry (R116). -/
def State.mh (s : State) (a : Nat) : Nat := (s.mb a).toNat + 256 * (s.mb (a + 1)).toNat

/-- Write a half word. -/
def State.setMh (s : State) (a v : Nat) : State :=
  (s.setMb a (BitVec.ofNat 8 v)).setMb (a + 1) (BitVec.ofNat 8 (v / 256))

/-- Write bytes at rising addresses. -/
def State.setBytes (s : State) (a : Nat) : List Byte → State
  | [] => s
  | b :: t => (s.setMb a b).setBytes (a + 1) t

/-! ### Parts of the state -/

/-- The context number of the Headstock. -/
abbrev hs : CtxId := 12

/-- The context of stage k (R9). -/
def ctxOf (k : Stage) : CtxId := ⟨k.val, by omega⟩

/-- The stage of a Lathe context; none for the Headstock. -/
def stageOf (e : CtxId) : Option Stage := if h : e.val < 12 then some ⟨e.val, h⟩ else none

/-- Change a context. -/
def State.setCtx (s : State) (e : CtxId) (c : Ctx) : State := { s with ctx := s.ctx.set e c }

/-- Change a stage. -/
def State.setStg (s : State) (k : Stage) (g : Stg) : State := { s with stg := s.stg.set k g }

/-- Change a link. -/
def State.setLnk (s : State) (n : Link) (l : Lnk) : State := { s with lnk := s.lnk.set n l }

/-- Record what leaves the device. -/
def State.emit (s : State) (o : Out) : State := { s with out := o :: s.out }

/-- A fresh free word and the state that has used it up. -/
def State.fresh (s : State) : Word × State := (Config.freeWord s.free, { s with free := s.free + 1 })

/-- A fresh free number. -/
def State.freshN (s : State) : Nat × State := (Config.freeNat s.free, { s with free := s.free + 1 })

/-- All stages, all links. -/
def stages : List Stage := List.finRange 12
def links : List Link := List.finRange 12

/-- Device mode codes (R343). -/
def mReset : Nat := 0
def mBoot : Nat := 1
def mSelftest : Nat := 2
def mConfigure : Nat := 3
def mStandby : Nat := 4
def mPrecharge : Nat := 5
def mSync : Nat := 6
def mRun : Nat := 7
def mRide : Nat := 8
def mFaultHold : Nat := 9
def mSafeStop : Nat := 10
def mHoldup : Nat := 11

/-- The present mode (R343). -/
def State.mode (s : State) : Nat := s.f F.SYS_MODE_mode

/-- Stage state codes (R167). -/
def stOff : Nat := 0
def stReady : Nat := 1
def stSwitching : Nat := 2
def stHiccup : Nat := 3

/-- The state code of a stage (R167). -/
def State.stgSt (s : State) (k : Stage) : Nat := s.f (F.STG_STAT_st k)

/-- "The stage is switching": state SWITCHING or HICCUP (R167). -/
def State.switching (s : State) (k : Stage) : Bool := s.stgSt k == stSwitching || s.stgSt k == stHiccup

/-- Any stage is switching (R63, R328). -/
def State.anySwitching (s : State) : Bool := stages.any s.switching

/-- The stage's timebase runs: not OFF, and period 0 has begun (R167, R168). -/
def State.tbRuns (s : State) (k : Stage) : Bool := s.stgSt k != stOff && s.stg[k].starting.isNone

/-- The stage that owns a switch, by its STG_MAP (R171). -/
def State.owner (s : State) (sw : Nat) : Option Stage :=
  stages.find? fun k => natBit (s.reg (A.STG_MAP k (sw / 32))).toNat (sw % 32)

/-- Whether stage k owns the switch. -/
def State.owns (s : State) (k : Stage) (sw : Nat) : Bool :=
  decide (sw < 96) && natBit (s.reg (A.STG_MAP k (sw / 32))).toNat (sw % 32)

/-- The switches of a stage in rising order. -/
def State.switchesOf (s : State) (k : Stage) : List Nat := (List.range 96).filter (s.owns k)

/-- Link state codes (R201). -/
def lPart : Nat := 0
def lDis : Nat := 1
def lSeq : Nat := 2
def lEn : Nat := 3

/-- The state code of a link (R201). -/
def State.lnkSt (s : State) (n : Link) : Nat := s.f (F.GL_STAT_st n)

/-- The links that carry a switch of the stage. -/
def State.linksOf (s : State) (k : Stage) : List Link :=
  links.filter fun n => (List.range 8).any fun i => s.owns k (8 * n + i)

/-- Every link that carries a switch of the stage is in EN (R228, R458). -/
def State.linksEn (s : State) (k : Stage) : Bool := (s.linksOf k).all fun n => s.lnkSt n == lEn

/-- What an input ball or a receiver brings about: nothing while reset is held (R24). -/
def State.heard (s t : State) : State := if s.mode = mReset then s else t

/-! ### Events -/

/-- Whether event `ev` is routed to target `t` (R436). -/
def State.routed (s : State) (t ev : Nat) : Bool :=
  natBit (s.reg (A.SYS_EVRT t (ev / 32))).toNat (ev % 32)

/-- Set the pending bit of event `ev` for target `t`, if routed (R436). -/
def State.pendTarget (s : State) (ev t : Nat) : State :=
  if s.routed t ev then
    s.setReg (A.SYS_EVPND t (ev / 32)) (s.reg (A.SYS_EVPND t (ev / 32)) ||| (1#32 <<< (ev % 32)))
  else s

/-- Raise an event: its Headstock pending bit, or its repeat bit where that is set (R77), and the pending bits of the
targets it is routed to (R436). -/
def State.raise (s : State) (ev : Nat) : State :=
  let a := A.LTH_HS_EVPEND (ev / 32)
  let s1 := if natBit (s.reg a).toNat (ev % 32) then
      s.setReg (A.LTH_HS_EVREP (ev / 32)) (s.reg (A.LTH_HS_EVREP (ev / 32)) ||| (1#32 <<< (ev % 32)))
    else s.setReg a (s.reg a ||| (1#32 <<< (ev % 32)))
  [0, 1, 2, 3].foldl (fun s t => s.pendTarget ev t) s1

/-- Set a source bit; its event is raised when the bit was 0 (R434). -/
def State.src (s : State) (bit : Fld) (ev : Nat) : State :=
  if s.fb bit then s else (s.set1 bit).raise ev

/-! ### Result codes (R366) -/

def rOk : Nat := 0
def rRunning : Nat := 1
def rAuthority : Nat := 2
def rMode : Nat := 3
def rBadFrame : Nat := 4
def rBadArg : Nat := 5
def rPartFailed : Nat := 6
def rRolledBack : Nat := 7
def rEndurance : Nat := 8
def rQueueFull : Nat := 9
def rSuperseded : Nat := 10

/-- One REF cycle in taps (R8). -/
def refTaps : Nat := 32

/-- The reload lead L_lead in taps (R166). -/
def leadTaps : Nat := 10240

/-- The guard window in taps (R8, R166). -/
def guardTaps : Nat := 1024

end Sys2Proof.Machine
end

