-- ==== Sys2Proof/Machine/Flags.lean ====
section
/-! DEFINITION. The sticky flags SF (R82, R88, R104) and every result with the flags it sets (R93 to R99). -/

namespace Sys2Proof.Machine

/-- Flag masks in SF (R82). -/
def fSatAdd : BitVec 8 := 0x01
def fSatMul : BitVec 8 := 0x02
def fSatAcc : BitVec 8 := 0x04
def fPiClamp : BitVec 8 := 0x08
def fDiv0 : BitVec 8 := 0x10
def fUntrained : BitVec 8 := 0x20
def fOvfInt : BitVec 8 := 0x40
def fReplay : BitVec 8 := 0x80

/-- The mask where the condition holds, no flag otherwise. -/
def flagIf (b : Bool) (m : BitVec 8) : BitVec 8 := if b then m else 0

/-- A 32-bit result with the flag of its saturation. -/
def satFlag (x : Int) (m : BitVec 8) : Word × BitVec 8 := ((sat32 x).1, flagIf (sat32 x).2 m)

/-- ADDS, SUBS (R93). -/
def fAdds (a b : Word) : Word × BitVec 8 := satFlag (a.toInt + b.toInt) fOvfInt
def fSubs (a b : Word) : Word × BitVec 8 := satFlag (a.toInt - b.toInt) fOvfInt

/-- MUL: low half, ovf_int where the product is outside int32 (R93). -/
def fMul (a b : Word) : Word × BitVec 8 := (a * b, flagIf (sat32 (a.toInt * b.toInt)).2 fOvfInt)

/-- MULH: high half of the signed product (R93). -/
def fMulh (a b : Word) : Word := BitVec.ofInt 32 (Int.fdiv (a.toInt * b.toInt) (2 ^ 32))

/-- A zero divisor: by the sign of the dividend (R94). -/
def fZeroDiv (a : Word) : Word × BitVec 8 :=
  (if a.toInt > 0 then 0x7FFFFFFF else if a.toInt < 0 then 0x80000000 else 0, fDiv0)

/-- DIV: truncated toward zero, with the cases of R94. -/
def fDiv (a b : Word) : Word × BitVec 8 :=
  if b = 0 then fZeroDiv a else satFlag (Int.tdiv a.toInt b.toInt) fOvfInt

/-- PADD, PSUB, PNEG, PABS (R95). -/
def fPadd (a b : Word) : Word × BitVec 8 := satFlag (a.toInt + b.toInt) fSatAdd
def fPsub (a b : Word) : Word × BitVec 8 := satFlag (a.toInt - b.toInt) fSatAdd
def fPneg (a : Word) : Word × BitVec 8 := satFlag (-a.toInt) fSatAdd
def fPabs (a : Word) : Word × BitVec 8 := satFlag a.toInt.natAbs fSatAdd

/-- PMUL: rounded product (R95, R96). -/
def fPmul (a b : Word) : Word × BitVec 8 := satFlag (rshRound (a.toInt * b.toInt) 28) fSatMul

/-- PSHL, PSHR (R95). -/
def fPshl (a : Word) (n : Nat) : Word × BitVec 8 := satFlag (a.toInt * 2 ^ n) fSatMul
def fPshr (a : Word) (n : Nat) : Word := BitVec.ofInt 32 (rshRound a.toInt n)

/-- PDIV: truncated quotient, zero divisor as DIV (R94, R95). -/
def fPdiv (a b : Word) : Word × BitVec 8 :=
  if b = 0 then fZeroDiv a else satFlag (Int.tdiv (a.toInt * 2 ^ 28) b.toInt) fSatMul

/-- ITOP, PTOI with a fraction width of 0 to 28 bits (R95). -/
def fItop (a : Word) (n : Nat) : Word × BitVec 8 := satFlag (a.toInt * 2 ^ (28 - n)) fSatMul
def fPtoi (a : Word) (n : Nat) : Word := BitVec.ofInt 32 (rshRound a.toInt (28 - n))

/-- The product of two pu28 values rounded to 36 fraction bits (R97, R98). -/
def accProd (a b : Word) : Int := rshRound (a.toInt * b.toInt) 20

/-- An accumulator result with sat_acc (R97). -/
def accSat (x : Int) : BitVec 48 × BitVec 8 := ((sat48 x).1, flagIf (sat48 x).2 fSatAcc)

/-- ACCRD: rounded, saturated to pu28, sat_acc (R98). -/
def fAccrd (x : BitVec 48) : Word × BitVec 8 := satFlag (rshRound x.toInt 8) fSatAcc

/-- Comparison results (R93). -/
def bword (b : Bool) : Word := if b then 1 else 0

/-- Signed minimum and maximum (R93). -/
def fMin (a b : Word) : Word := if a.toInt ≤ b.toInt then a else b
def fMax (a b : Word) : Word := if a.toInt ≤ b.toInt then b else a

/-- PADDI (R99). -/
def fPaddi (a : Word) (imm : BitVec 16) : Word × BitVec 8 := satFlag (a.toInt + imm.toInt * 2 ^ 16) fSatAdd

end Sys2Proof.Machine
end

