-- ==== Sys2Proof/Machine/Complete.lean ====
section
/-! DEFINITION. Frames, the Uhlog and the completion of a command: CRC-32 (R361), response frames (R364), journal
entries (R377 to R380), what a completion writes, raises and sends (R364, R385, R387, R130). -/

namespace Sys2Proof.Machine

/-- One bit of the reflected CRC-32 with polynomial `poly` (R361). -/
def crcRefBit (poly c : Nat) : Nat → Nat
  | 0 => c
  | n + 1 => crcRefBit poly (if c % 2 = 1 then Nat.xor (c / 2) poly else c / 2) n

/-- The reflected CRC-32 register after the bytes. -/
def crcRef (poly init : Nat) (bs : List Byte) : Nat :=
  bs.foldl (fun c b => crcRefBit poly (Nat.xor c b.toNat) 8) init

/-- The CRC of a command frame: IEEE 802.3, reflected, initial value all ones, inverted at the end (R361). -/
def crc32 (bs : List Byte) : Word := BitVec.ofNat 32 (Nat.xor (crcRef 0xEDB88320 0xFFFFFFFF bs) 0xFFFFFFFF)

/-- The CRC-32C of a safety telegram: no final inversion (R320). -/
def crc32c (init : Word) (bs : List Byte) : Word := BitVec.ofNat 32 (crcRef 0x82F63B78 init.toNat bs)

/-- A number as `n` bytes, least significant first. -/
def leBytes (v : Nat) : Nat → List Byte
  | 0 => []
  | n + 1 => BitVec.ofNat 8 v :: leBytes (v / 256) n

/-- A number as `n` bytes, most significant first. -/
def beBytes (v n : Nat) : List Byte := (leBytes v n).reverse

/-- The MAC address of network i: bytes 0 and 1 in mac_hi, bytes 2 to 5 in mac_lo (R396). -/
def State.macOf (s : State) (i : Nat) : List Byte :=
  leBytes (s.f (F.PRT_NID1_mac_hi i)) 2 ++ leBytes (s.f (F.PRT_NID0_mac_lo i)) 4

/-- The IPv4 address of network i. -/
def State.ipOf (s : State) (i : Nat) : List Byte := beBytes (s.f (F.PRT_NID2_ip i)) 4

/-- The identity of network i as its persistent words give it comes into force (R396). -/
def State.takeId (s : State) (i : Fin 2) : State :=
  { s with netId := s.netId.set i ⟨s.macOf i, s.ipOf i, s.f (F.PRT_NID3_etype i)⟩ }

/-- The number of a byte list, least significant first. -/
def leNat : List Byte → Nat
  | [] => 0
  | b :: t => b.toNat + 256 * leNat t

/-- Byte `i` of a payload, 0 past its end. -/
def byteAt (bs : List Byte) (i : Nat) : Nat := ((bs[i]?).getD 0).toNat

/-- `n` bytes of a payload from `i`, as a number. -/
def bytesAt (bs : List Byte) (i n : Nat) : Nat := leNat ((bs.drop i).take n)

/-- A frame: header, payload and CRC (R361). -/
def frame (seq op flags : Nat) (pl : List Byte) (ver : Nat := 1) : List Byte :=
  let b := leBytes seq 2 ++ [BitVec.ofNat 8 op, BitVec.ofNat 8 flags] ++ leBytes pl.length 2 ++ [BitVec.ofNat 8 ver, 0] ++ pl
  b ++ wordBytes (crc32 b)

/-- A response frame: rsp set, seq, op and ver copied; four bytes and the data (R364). An accepted command has ver 1. -/
def respFrame (seq op res part cause word : Nat) (data : List Byte) (ver : Nat := 1) : List Byte :=
  frame seq op 1 ([BitVec.ofNat 8 res, BitVec.ofNat 8 part, BitVec.ofNat 8 cause, BitVec.ofNat 8 word] ++ data) ver

/-- Opcode values (R365). -/
def opNop : Nat := 0x00
def opPing : Nat := 0x01
def opRead : Nat := 0x02
def opWrite : Nat := 0x03
def opWriteGroup : Nat := 0x04
def opPersist : Nat := 0x05
def opLoad : Nat := 0x06
def opStart : Nat := 0x10
def opStop : Nat := 0x11
def opSetMode : Nat := 0x12
def opSetpoint : Nat := 0x13
def opSetGroup : Nat := 0x14
def opClaim : Nat := 0x20
def opRelease : Nat := 0x21
def opJournal : Nat := 0x22
def opFaultClear : Nat := 0x30
def opResume : Nat := 0x31
def opSafetyAck : Nat := 0x32
def opLatch : Nat := 0x33
def opEventMask : Nat := 0x34

/-- Every opcode that is not reserved (R365). -/
def knownOps : List Nat :=
  [0x00, 0x01, 0x02, 0x03, 0x04, 0x05, 0x06, 0x10, 0x11, 0x12, 0x13, 0x14, 0x20, 0x21, 0x22, 0x30, 0x31, 0x32, 0x33,
    0x34]

/-- Base address of the RAM journal's entry `i` (R378). -/
def jAddr (i : Nat) : Nat := 0x340000 + i % 4096 * 32

/-- Whether the RAM journal still holds entry `i` (R378). -/
def State.jHeld (s : State) (i : Nat) : Bool :=
  decide (s.jLow ≤ i) && decide (i < (s.reg A.UHL_NEXT).toNat) && decide ((s.reg A.UHL_NEXT).toNat ≤ i + 4096)

/-- Milliseconds of the RTC (R441). -/
def State.rtcMs (s : State) : Nat := s.f F.SYS_RTC_SUB_ms

/-- The auxiliary word at acceptance: the first data word of a write, else payload bytes 4 to 7; a SETPOINT records its
value (R377). -/
def jAux (op : Nat) (pl : List Byte) : List Byte :=
  let i := if op = opWriteGroup then 12 else if op = opSetpoint then 8 else 4
  leBytes (bytesAt pl i 4) 4

/-- The entry of an accepted command, at the next index (R377). -/
def State.jEntry (s : State) (c : Cmd) : List Byte :=
  leBytes (s.reg A.UHL_NEXT).toNat 4 ++ leBytes c.seq 2 ++ [BitVec.ofNat 8 c.port, BitVec.ofNat 8 c.op,
    BitVec.ofNat 8 (2 * b2n c.fence), 0xFF, 0, 0] ++ wordBytes (s.reg A.SYS_RTC_SEC) ++ leBytes s.rtcMs 2 ++ [0, 0]
    ++ wordBytes c.fcrc ++ leBytes (bytesAt c.pl 0 4) 4 ++ jAux c.op c.pl

/-- Write the entry of an accepted command at the next index (R377). -/
def State.jOpen (s : State) (c : Cmd) : State :=
  let i := (s.reg A.UHL_NEXT).toNat
  (s.setBytes (jAddr i) (s.jEntry c)).setReg A.UHL_NEXT (BitVec.ofNat 32 (i + 1))

/-- Duration of a command in ms, rounded up, saturating (R377). -/
def State.durOf (s : State) (c : Cmd) : Nat := min ((s.cyc - c.t0 + 249999) / 250000) 65535

/-- The auxiliary word at completion, where it is rewritten (R377): the mode in force for SET_MODE, blk + 1 for a
ramp-tracked SETPOINT. -/
def State.jAuxDone (s : State) (c : Cmd) : Option Word :=
  if c.op = opSetMode then some (BitVec.ofNat 32 s.mode)
  else if c.op = opSetpoint then c.tracks.head?.map fun t => s.mw (t.blk + 4)
  else none

/-- The completed entry of a command: what acceptance wrote, with result, part, cause, duration and where it is rewritten
the auxiliary word (R377). -/
def State.jDone (s : State) (c : Cmd) : List Byte :=
  c.ent.take 9 ++ [BitVec.ofNat 8 c.res, BitVec.ofNat 8 c.part, BitVec.ofNat 8 c.cause] ++ (c.ent.drop 12).take 6 ++
    leBytes (s.durOf c) 2 ++ (c.ent.drop 20).take 8 ++ ((s.jAuxDone c).map wordBytes).getD (c.ent.drop 28)

/-- Complete the journal entry of a command where the RAM journal still holds it: a newer command may have taken its place
(R377, R378). -/
def State.jClose (s : State) (c : Cmd) : State :=
  match c.jidx with
  | none => s
  | some i => if s.jHeld i then s.setBytes (jAddr i) (s.jDone c) else s

/-- Commands whose completed entry is copied to the persistent journal (R380). -/
def Cmd.copied (c : Cmd) : Bool :=
  (c.op == opPersist && (c.res == rOk || c.res == rEndurance)) ||
    (c.op == opLoad && c.res == rOk && byteAt c.pl 0 != 1)

/-- Change a command in flight. -/
def State.updCmd (s : State) (id : Nat) (f : Cmd → Cmd) : State :=
  { s with cmds := s.cmds.map fun c => if c.id = id then f c else c }

/-- The command in flight with this identifier. -/
def State.cmd? (s : State) (id : Nat) : Option Cmd := s.cmds.find? fun c => c.id == id

/-- Deliver a response or an answer to its port: a host port stores it until it is read (R387), a network port sends it
(R393). -/
def State.deliver (s : State) (port : Nat) (accepted : Bool) (dst b : List Byte) : State :=
  if h : port < 2 then
    let q := s.host[port]
    let bad := (q.filter fun a => !a.accepted).length
    if !accepted && decide (4 ≤ bad) then
      (s.bump F.PRT_HSTAT_ans_drop).src ⟨A.PRT_EVT, port, 1⟩ (104 + port)
    else { s with host := s.host.set port (q ++ [⟨accepted, b⟩]) }
  else if port < 4 then s.emit (.net (port - 2) 0 dst b)
  else s

/-- The event bits of a completion (R385). -/
def State.doneEvents (s : State) (port res : Nat) : State :=
  let s1 := s.src ⟨A.CMD_EVT, port, 1⟩ (96 + port)
  let s2 := if res = rRunning ∨ res = rAuthority ∨ res = rMode then s1.src F.CMD_EVT_refused 101 else s1
  if res = rPartFailed ∨ res = rRolledBack then s2.src F.CMD_EVT_group 102 else s2

/-- Send the response of a command, or write word 0 of its descriptor, and take it out of flight (R364, R130). -/
def State.respond (s : State) (c : Cmd) (data : List Byte) : State :=
  let s1 := { s with cmds := s.cmds.filter fun d => d.id != c.id }
  let s2 := match c.desc with
    | some a => s1.setMw a (BitVec.ofNat 32 (c.res + 256 * c.seq + (if c.res = rOk then 2 ^ 30 else 0)))
    | none => if c.port < 4 then s1.deliver c.port true c.src (respFrame c.seq c.op c.res c.part c.cause c.word data) else s1
  let s3 := if c.op = opWriteGroup ∨ c.op = opSetGroup then
      (((s2.put F.CMD_GRPSTAT_result c.res).put F.CMD_GRPSTAT_part c.part).put F.CMD_GRPSTAT_seq_lo c.seq).putB
        F.CMD_GRPSTAT_aligned c.aligned
    else s2
  s3.doneEvents c.port c.res

/-- Put the eight words of a completed entry to the write unit as a persistent journal copy, marked as copied there and, if
it is still held, in the RAM journal (R377, R380). -/
def State.copyEntry (s : State) (c : Cmd) : State :=
  match c.jidx with
  | none => s
  | some i =>
    let b := (s.jDone c).set 6 (BitVec.ofNat 8 (c.port + 128))
    let s1 := if s.jHeld i then s.setMb (jAddr i + 6) (BitVec.ofNat 8 (c.port + 128)) else s
    let ahead := ((s1.wq.filter fun q => q.kind == 1).map (·.cmd)).eraseDups.length
    let j := ((s1.reg A.UHL_PCNT).toNat + ahead) % 512
    let reqs := (List.range 8).map fun w =>
      (⟨0xB2000 + 32 * j + 4 * w, BitVec.ofNat 32 (bytesAt b (4 * w) 4), 1, some c.id⟩ : WReq)
    { s1 with wq := s1.wq ++ reqs }

/-- Complete a command with its result and bytes 1 to 3 of the response. A configuration-changing command first has its
entry copied and answers afterwards (R380). -/
def State.finish (s : State) (id res part cause word : Nat) (data : List Byte) : State :=
  match s.cmd? id with
  | none => s
  | some c0 =>
    let c := { c0 with res := res, part := part, cause := cause, word := word }
    let s1 := s.jClose c
    if c.copied && c.jidx.isSome then
      (s1.updCmd id fun _ => { c with ph := .writing, todo := [] }).copyEntry c
    else s1.respond c data

/-- Complete a command with a result that names no part: bytes 1 to 3 are 0xFF, the result and 0 (R364). -/
def State.finishR (s : State) (id res : Nat) : State := s.finish id res 0xFF res 0 []

/-- Complete every command in flight that satisfies `p` with REFUSED_MODE. -/
def State.endCmds (s : State) (p : Cmd → Bool) : State :=
  (s.cmds.filter p).foldl (fun s c => s.finishR c.id rMode) s

end Sys2Proof.Machine
end

