-- ==== Sys2Proof/Machine/Protect.lean ====
section
/-! DEFINITION. What stops the converter, written once: forces and PARTING (R21, R33, R42, R202), the fault collector
(R328 to R341), mode changes and their hardware actions (R343 to R348), the ENABLE sequence's start (R203, R204). -/

namespace Sys2Proof.Machine

/-! ### Conditions the registers show -/

/-- A force is present on every link: GATE_EN low, the safety force, or a mode in which links are held in PART
(R202, R343; assumption 12, DEDUCED). -/
def State.forceNow (s : State) : Bool :=
  !s.gateEn || s.safForce || [0, 1, 2, 9, 10, 11].contains s.mode

/-- A plausibility check of an entry bound to a stage is live (R149, R338). -/
def State.plausLive (s : State) : Bool :=
  (List.range 64).any fun e =>
    decide (s.f (F.ADC_ECFG_stg e) < 12) &&
      (s.fb (F.ADC_PLST_frz_now e) || s.fb (F.ADC_PLST_rng_now e) || s.fb (F.ADC_PLST_xchk_now e))

/-- A link holds a latched short circuit: a bit of GL_TRIP, or a TRIP pair whose event word has not yet named the switch
(R207, R210, R332; assumption 54, DEDUCED). -/
def State.trips (s : State) (n : Link) : Bool := (s.reg (A.GL_TRIP n)) != 0 || s.lnk[n].pairs != 0

/-- The recovery-blocking conditions, as FLT_BLOCK shows them (R338). -/
def State.fltBlock (s : State) : Nat :=
  b2n (s.refLost || !s.fb F.CLK_STAT_ref_ok) + 2 * b2n (!s.fb F.CLK_STAT_lock) + 4 * b2n (links.any s.trips)
    + 8 * b2n (s.f F.ISL_KSTAT_st == 4) + 16 * b2n s.plausLive + 32 * b2n (s.fb F.FLT_STAT_locked)

/-- A class A fault is latched (R317). -/
def State.classA (s : State) : Bool := s.fb F.FLT_STAT_open && s.f F.FLT_STAT_cls_max == 1

/-- An engine is in HALT (R357). -/
def State.halted (s : State) : Bool := (List.finRange 13).any fun e => s.ctx[e].st == .halt

/-! ### Commands that a mode change ends -/

/-- Whether words or pod acknowledgements of a command are still outstanding. -/
def State.refers (s : State) (id : Nat) : Bool :=
  s.staged.any (fun w => w.cmd == some id) || links.any fun n => s.lnk[n].cfg.any fun w => w.cmd == some id

/-- A ramp-tracked set-point whose words are written stays in flight; an earlier one for the same target word completes
with SUPERSEDED, a group when its other entries have (R252, R253, R376). -/
def State.startRamp (s : State) (c : Cmd) : State :=
  let same (t : Track) : Bool := c.tracks.any fun u => u.stage == t.stage && u.target == t.target
  let old := s.cmds.filter fun d => d.ph == .ramping && d.id != c.id && d.tracks.any same
  old.foldl (fun s d =>
      let left := d.tracks.filter fun t => !same t
      if left.isEmpty || d.op == opSetpoint then s.finishR d.id rSuperseded
      else s.updCmd d.id fun d => { d with tracks := left, res := rSuperseded, part := 0xFF, cause := rSuperseded, word := 0 })
    (s.updCmd c.id fun c => { c with ph := .ramping })

/-- Complete the commands whose last word has taken effect (R370, R374, R375), or watch their ramps (R252). -/
def State.settle (s : State) : State :=
  (s.cmds.filter fun c => (c.ph == .applying || c.ph == .rolling) && !s.refers c.id).foldl
    (fun s c => if c.ph == .applying && c.res == rOk && !c.tracks.isEmpty then s.startRamp c
      else s.finish c.id c.res c.part c.cause c.word []) s

/-- End commands with REFUSED_MODE and drop what they had staged. -/
def State.endWith (s : State) (p : Cmd → Bool) : State :=
  let ids := (s.cmds.filter p).map (·.id)
  { s with staged := s.staged.filter fun w => !(w.cmd.any fun i => ids.contains i) }.endCmds p

/-- Groups armed and not yet committed end with REFUSED_MODE on an episode or a mode change (R20, R374). -/
def State.endGroups (s : State) : State := s.endWith fun c => c.ph == .armed

/-- Ramp-tracked set-points end when SYNCHRONISE, RUN and RIDE-THROUGH are left (R254). -/
def State.endRamps (s : State) : State := s.endWith fun c => !c.tracks.isEmpty

/-! ### Hardware actions of a mode -/

/-- Set a bit of ISL_EVT, EV(68 + g) (R283). -/
def State.islEvt (s : State) (g : Fin 4) (b : Nat) : State := s.src ⟨A.ISL_EVT g, b, 1⟩ (68 + g.val)

/-- The interface and unit that govern the contactor (R284). -/
def State.kg (s : State) : Fin 4 := ⟨s.f F.ISL_KCFG_g % 4, by omega⟩

/-- The confirming feedback: its time since the drive change in 0.1 ms (R279). -/
def State.kConfirm (s : State) (st ev : Nat) : State :=
  ((s.put F.ISL_KSTAT_st st).put F.ISL_KSTAT_t_ms (min 65535 ((s.etime - s.kT0) / 800000))).islEvt s.kg ev

/-- CLOSING is left for CLOSED with both channels closed, OPENING for OPEN with both open (R279). -/
def State.kSettle (s : State) : State :=
  let a := s.fb F.ISL_KSTAT_fba
  let b := s.fb F.ISL_KSTAT_fbb
  match s.f F.ISL_KSTAT_st with
  | 1 => if a && b then s.kConfirm 2 5 else s
  | 3 => if !a && !b then s.kConfirm 0 6 else s
  | _ => s

/-- The drives of the contactor change and its feedback is awaited in state `st` (R279). -/
def State.kDrive (s : State) (st drv : Nat) : State :=
  { (s.put F.ISL_KSTAT_st st).put F.ISL_KSTAT_drv drv with kT0 := s.etime }.kSettle

/-- The contactor opens where it is CLOSING or CLOSED: drives low, opening awaited (R279, R280). -/
def State.kOpen (s : State) : State :=
  if s.f F.ISL_KSTAT_st = 1 ∨ s.f F.ISL_KSTAT_st = 2 then s.kDrive 3 0 else s

/-- The precharge drive goes inactive and an overlap ends (R265). -/
def State.pchEnd (s : State) : State := { s.put F.SYS_PCH_STAT_drive 0 with pchOverlap := false }

/-- A channel's pairs and telegram inputs. -/
def State.pairsOf (s : State) (ch : Fin 2) : Vector Pair 8 := if ch = 0 then s.pairA else s.pairB
def State.inputsOf (s : State) (ch : Fin 2) : Vector Nat 8 := if ch = 0 then s.lsA else s.lsB

/-- An enabled pair or telegram input of a channel is not in RELEASE; a linked pair counts as released only while its
partner is (R314, R316). -/
def State.forceOf (s : State) (ch : Fin 2) : Bool :=
  let pr := s.pairsOf ch
  ((List.finRange 8).any fun p => s.fb (F.SAF_PCFG_en p) &&
    !(pr[p].st == 2 && (!s.fb (F.SAF_PCFG_link_en p) || pr[s.f (F.SAF_PCFG_link p) % 8].st == 2))) ||
    (List.finRange 8).any fun i => natBit (s.f F.SAF_TGCTL_ls_en) i && (s.inputsOf ch)[i] != 2

/-- A channel energises its output only while these hold (R317). -/
def State.soMay (s : State) (ch : Fin 2) : Bool := !s.forceOf ch && !s.classA && !([0, 1, 2, 10, 11].contains s.mode)

/-- An energised output whose condition has ended drops 50 µs later (R317). -/
def State.soCheck (s : State) : State :=
  { s with soDrop := #v[s.soDrop[0] || (s.so[0] && !s.soMay 0), s.soDrop[1] || (s.so[1] && !s.soMay 1)] }

/-- Both safe outputs low at once (R28, R53). -/
def State.soLow (s : State) : State :=
  let s1 := if s.so[0] || s.so[1] then s.src F.SAF_EVT_so_chg 83 else s
  { (s1.put F.SAF_STAT_soa 0).put F.SAF_STAT_sob 0 with
      so := Vector.replicate 2 false, soDrop := Vector.replicate 2 false }

/-- A stage's switching is taken from it: run clear; READY where its timebase runs; hiccup and plans in force end
(R343). The committed plan is kept. -/
def State.clearRun (s : State) (k : Stage) : State :=
  let s1 := s.put (F.STG_CTL_run k) 0
  let s2 := if s1.switching k then s1.put (F.STG_STAT_st k) stReady else s1
  s2.setStg k { s2.stg[k] with
    carry := [], stopReq := false, stopLate := false, runLate := false, offLatched := false, hicEnd := none, hicArm := false, hicDone := false,
    limited := false, prevPlan := [], repNext := false }

/-- Every STG_CTL.run is cleared (R343). -/
def State.clearRuns (s : State) : State := stages.foldl (fun s k => s.clearRun k) s

/-- The mode register changes: old mode to prev, count, EV118 (R344). -/
def State.modeTo (s : State) (m : Nat) : State :=
  ((s.put F.SYS_MODE_prev s.mode).put F.SYS_MODE_mode m).bump F.SYS_MODE_changes |>.src F.SYS_EVT_mode 118

/-- Whether the mode is one of SYNCHRONISE, RUN and RIDE-THROUGH. -/
def isSwitchMode (m : Nat) : Bool := m == mSync || m == mRun || m == mRide

/-- A mode change with the actions that depend on the modes alone (R344, R254, R265, R317, R374): groups end; an
orderly stop in flight ends unless it is what completes; ramp-tracked set-points end on leaving the switching modes;
PRECHARGE is left with the overlap towards SYNCHRONISE or RUN and without it otherwise. -/
def State.changeMode (s : State) (m : Nat) : State :=
  let old := s.mode
  let s1 := s.endGroups
  let s2 := s1.endWith fun c => c.ph == .stopping
  let s3 := if s2.fb F.SYS_MODEREQ_pend then (s2.put F.SYS_MODEREQ_pend 0).put F.SYS_MODEREQ_result rMode else s2
  let s4 := s3.modeTo m
  let s5 := if isSwitchMode old && !isSwitchMode m then s4.endRamps else s4
  let s6 := if old = mPrecharge then
      if m = mSync ∨ m = mRun then
        if s5.fb F.SYS_PCH_STAT_drive && s5.fb F.SYS_PCH_CFG_overlap then
          { s5 with pchOverlap := true, pchExit := s5.etime }
        else s5.pchEnd
      else s5.pchEnd
    else if m = mFaultHold ∨ m = mSafeStop ∨ m = mHoldup ∨ m = mReset then s5.pchEnd
    else s5
  s6.soCheck

/-! ### The fault collector -/

/-- FLT_EVT bit of event `ev`, 84 to 92 (R341). -/
def fltEvt (ev : Nat) : Fld := ⟨A.FLT_EVT, ev - 84, 1⟩

/-- The quiet timer starts from zero where it may run, and stops elsewhere (R338). -/
def State.quietRestart (s : State) : State :=
  s.putB F.FLT_STAT_quiet (s.mode == mSafeStop && s.fb F.FLT_CTL_auto_en && s.fltBlock == 0)

/-- Entry to SAFE-STOP: runs cleared, contactor opened, precharge ended, quiet timer (R338, R343, R280). -/
def State.enterSafeStop (s : State) : State :=
  (((s.changeMode mSafeStop).clearRuns).kOpen.put F.FLT_STAT_hold 0).quietRestart

/-- Escalation from FAULT-HOLD, or after a failed sequence of a RESUME: SAFE-STOP, esc and EV87 (R333, R335). In SAFE-STOP
already there is no second transition, and in HOLDUP a report only merges (R340, R344). -/
def State.escalate (s : State) : State :=
  if s.mode = mHoldup then s
  else
    let s1 := (s.set1 F.FLT_STAT_esc).src (fltEvt 87) 87
    if s.mode = mSafeStop then s1 else s1.enterSafeStop

/-- ALIVE goes low and stays low on a class A or B fault (R35). -/
def State.aliveLow (s : State) : State := { s with alive := false, aliveRun := false }

/-- Merge a class A or B report into the open episode (R329, R330). -/
def State.merge (s : State) (code : Nat) : State :=
  let s1 := ((s.put F.FLT_OVF_count (min (s.f F.FLT_OVF_count + 1) 255)).put F.FLT_OVF_last code)
  let s2 := s1.set1 ⟨A.FLT_SEEN (code / 256 / 32), code / 256 % 32, 1⟩
  let s3 := if s2.fb F.FLT_OVF_ovf then s2 else (s2.set1 F.FLT_OVF_ovf).src (fltEvt 86) 86
  if s3.mode = mSafeStop then s3.quietRestart else s3

/-- The CORE cycle of now, which is one REF cycle long: as REF cycles count and as EDGE time counts, since a row that
carries its instant moves EDGE time (R8, R331; assumption 52, DEDUCED). -/
def State.coreCyc (s : State) : Nat × Nat := (s.cyc, s.etime / refTaps)

/-- The first source: code, class, mode, argument and time (R329). -/
def State.firstSource (s : State) (code cls : Nat) (arg : Word) : State :=
  let s1 := s.setReg A.FLT_FIRST 0
  let s2 := (((s1.put F.FLT_FIRST_code code).put F.FLT_FIRST_cls cls).put F.FLT_FIRST_mode s.mode).set1 F.FLT_FIRST_valid
  let s3 := ((s2.setReg A.FLT_FIRST_ARG arg).setReg A.FLT_FIRST_TS_LO (BitVec.ofNat 32 s.etime)).setReg
    A.FLT_FIRST_TS_HI (BitVec.ofNat 32 (s.etime / 2 ^ 32 % 2 ^ 21))
  s3.set1 ⟨A.FLT_SEEN (code / 256 / 32), code / 256 % 32, 1⟩

/-- The bits that raising EV85 may set: FLT_EVT, the Headstock's pending and repeat bits, the targets' pending bits (R77,
R341, R436). -/
def evBitsB : List Fld :=
  [fltEvt 85, ⟨A.LTH_HS_EVPEND 2, 21, 1⟩, ⟨A.LTH_HS_EVREP 2, 21, 1⟩] ++ [0, 1, 2, 3].map fun t => ⟨A.SYS_EVPND t 2, 21, 1⟩

/-- Open an episode: first source, argument, time; OVF and SEEN cleared (R329). `cls` is 1 for A, 2 for B. -/
def State.openEpisode (s : State) (code cls : Nat) (arg : Word) : State :=
  let s1 := ((((s.setReg A.FLT_OVF 0).setReg (A.FLT_SEEN 0) 0).setReg (A.FLT_SEEN 1) 0).setReg (A.FLT_SEEN 2) 0).setReg
    (A.FLT_SEEN 3) 0
  let s2 := (((s1.firstSource code cls arg).set1 F.FLT_STAT_open).put F.FLT_STAT_esc 0).put F.FLT_STAT_cls_max cls
  ({ s2 with resumed := false, fltCyc := s.coreCyc, fltEv := evBitsB.map s.f }).src (fltEvt (83 + cls)) (83 + cls)

/-- Entry to FAULT-HOLD: the window opens with the length FLT_HOLD_T has now (R333). -/
def State.enterFaultHold (s : State) : State :=
  { (s.changeMode mFaultHold).set1 F.FLT_STAT_hold with
      holdLen := s.f F.FLT_HOLD_T_t_us, holdMode := s.mode, holdTrip := false }

/-- A class C report: FLT_CLAST and EV88 (R328). -/
def State.noteC (s : State) (code : Nat) : State :=
  ((s.put F.FLT_CLAST_code code).bump F.FLT_CLAST_count).src (fltEvt 88) 88

/-- Classes of a report (R328, R332). -/
inductive Cls where
  | A
  | B
  | C
  | BC
  deriving DecidableEq, Repr

/-- A class A or B report comes while stages are switching: they count as switching for every report of its CORE cycle,
whichever of them is handled first (R20, R331, R340; assumption 52, DEDUCED). -/
def State.markSwitching (s : State) : State :=
  if s.anySwitching then { s with swCyc := some (s.coreCyc, (stages.filter s.switching).map (·.val)) } else s

/-- The stages that were switching as a class A or B report of this CORE cycle came. -/
def State.swHeld (s : State) : List Nat :=
  match s.swCyc with
  | some (c, ks) => if c == s.coreCyc && s.fb F.FLT_STAT_open then ks else []
  | none => []

/-- The stage counts as switching for a report (R150, R328, R331). -/
def State.switchingAt (s : State) (k : Stage) : Bool := s.switching k || s.swHeld.contains k.val

/-- Any stage counts as switching for a report (R328, R331). -/
def State.anySwitchingAt (s : State) : Bool := s.anySwitching || !s.swHeld.isEmpty

/-- B/C is B while any stage is switching; a class B report without one is handled as class C (R328, R340). -/
def State.resolve (s : State) : Cls → Cls
  | .BC => if s.anySwitchingAt then .B else .C
  | .B => if s.anySwitchingAt then .B else .C
  | c => c

/-- A report of the cycle in which the episode opened, with a lower code than its first source (R331). Of two relays the
first one decoded stays first, whatever their codes (R404). -/
def State.overtakes (s : State) (code : Nat) : Bool :=
  s.fltCyc == s.coreCyc && decide (code < s.f F.FLT_FIRST_code) && !(code / 256 == 0x2F && s.f F.FLT_FIRST_code / 256 == 0x2F)

/-- The event of a class B episode is taken back: its bits read as they did before it was raised (R331, R341). -/
def State.unraiseB (s : State) : State := (evBitsB.zip s.fltEv).foldl (fun s x => s.put x.1 x.2) s

/-- Of the reports of one CORE cycle, the lowest code is the first source and the others are merged; where it is of class A
and the one before it of class B, the episode is one that a class A report opened (R20, R331, R341; assumption 52,
DEDUCED). -/
def State.overtake (s : State) (code cls : Nat) (arg : Word) : State :=
  let s0 := if cls = 1 ∧ s.f F.FLT_FIRST_cls = 2 then s.unraiseB else s
  let s1 := (((s0.put F.FLT_FIRST_code code).put F.FLT_FIRST_cls cls).setReg A.FLT_FIRST_ARG arg).set1
    ⟨A.FLT_SEEN (code / 256 / 32), code / 256 % 32, 1⟩
  (s1.src (fltEvt (83 + cls)) (83 + cls)).merge (s.f F.FLT_FIRST_code)

/-- A class A or B report of an open episode (R329, R331). -/
def State.joinEpisode (s : State) (code cls : Nat) (arg : Word) : State :=
  if s.overtakes code then s.overtake code cls arg else s.merge code

/-- The entry to SAFE-STOP of a class A report that overtakes the class B report of its cycle: the one transition of that
cycle, from the mode in which the episode opened (R331, R344; assumption 52, DEDUCED). -/
def State.stopInstead (s : State) : State :=
  ((s.put F.SYS_MODE_mode (s.f F.FLT_FIRST_mode)).put F.SYS_MODE_changes (s.f F.SYS_MODE_changes - 1)).enterSafeStop

/-- What a class A report does to the mode: SAFE-STOP from CONFIGURE to RIDE-THROUGH; RESET, BOOT and SELFTEST have no such
transition, and HOLDUP stays (R340, R345; assumption 34, DEDUCED). -/
def State.stopForA (s : State) : State := if 3 ≤ s.mode ∧ s.mode ≤ 8 then s.enterSafeStop else s.soCheck

/-- The collector's handling of a report, after the protective path has parted the links (R328 to R330, R340). -/
def State.collect (s0 : State) (code : Nat) (cls : Cls) (arg : Word) : State :=
  let s := s0.markSwitching
  match s0.resolve cls with
  | .A =>
    if s.fb F.FLT_STAT_open then
      let s1 := (s.joinEpisode code 1 arg).put F.FLT_STAT_cls_max 1
      if s1.mode = mFaultHold then (if s.overtakes code then s1.aliveLow.stopInstead else s1.aliveLow.escalate)
      else s1.aliveLow.stopForA
    else (s.openEpisode code 1 arg).aliveLow.stopForA
  | .B =>
    if s.fb F.FLT_STAT_open then (s.joinEpisode code 2 arg).aliveLow
    else
      let s1 := (s.openEpisode code 2 arg).aliveLow
      if isSwitchMode s1.mode then s1.enterFaultHold else s1
  | _ => s0.noteC code

/-! ### Parting -/

/-- The values of the configuration words that wait for a pod's ACK are stored, to be sent by the next sequence (R196,
R215, R217). -/
def State.storeCfg (s : State) (n : Link) : State :=
  s.lnk[n].cfg.foldl (fun s w => match w.reg with
    | some (a, v, m) => s.mergeReg a v m
    | none => s) s

/-- One link goes to PART; a sequence in progress ends in en_fail (R42, R202, R204). Its unsent configuration values are
stored and sent by the next sequence (R215). -/
def State.partLink (s : State) (n : Link) : State :=
  if s.lnkSt n = lPart then s
  else
    let s0 := s.storeCfg n
    let s1 := (s0.put (F.GL_STAT_st n) lPart).emit (.symbol n 0xFD)
    let s2 := s1.setLnk n { s1.lnk[n] with seqAt := none, idOk := false, echoOk := false, cfg := [] }
    if s.lnkSt n = lSeq then (s2.set1 (F.GL_STAT_en_fail n)).src (F.GL_EVT_en_fail n) (24 + n) else s2

/-- What PARTING does to a stage: carries cleared, withheld edges discarded, the previous plan counts as all-off, its
switches are off (R177, R458). -/
def State.partStage (s : State) (k : Stage) : State :=
  s.setStg k { s.stg[k] with
    carry := [], withheld := [], prevPlan := [], onEnd := [], hist := [], mainIv := [], mainOn := [],
    repNext := false }

/-- Every link parts; no further edge command is sent (R20, R21, R42). With `relay`, a device of a ring relays the
PARTING (R403). -/
def State.partLinks (s : State) (relay : Bool) : State :=
  let s1 := links.foldl (fun s n => s.partLink n) s
  let s2 := { stages.foldl (fun s k => s.partStage k) s1 with slots := [], imms := [] }
  (if relay && s.fb F.PRT_PCFG_relay_en && s.fb F.PRT_PCFG_en then
      s2.emit (.peer 6 [BitVec.ofNat 8 (s.f F.PRT_PCFG_pos)])
    else s2).settle

/-- Sequences that ended in en_fail are reported as class B/C type 0x24 (R204, R332). As class B they stop all switching,
so that the sequences still in progress end in en_fail too and merge (R21, R328). After a RESUME they merge into its
episode and lead to SAFE-STOP (R335). -/
def State.seqsFailed (s : State) (ns : List Link) (relay : Bool) : State :=
  let all := ns ++ links.filter fun n => s.lnkSt n == lSeq
  if ns.isEmpty then s
  else if s.resumed && s.fb F.FLT_STAT_open then
    ({ all.foldl (fun (s : State) (n : Link) => s.merge (0x2400 + n.val)) s with
        resumed := false }).aliveLow.escalate.partLinks (relay && s.anySwitching)
  else if s.anySwitchingAt then
    (all.foldl (fun (s : State) (n : Link) => s.collect (0x2400 + n.val) .B 0) s).partLinks relay
  else ns.foldl (fun (s : State) (n : Link) => s.collect (0x2400 + n.val) .C 0) s

/-- Every link parts, and the sequences that this ends are reported. `relay` says whether the cause is one of R42 or R33
that came while a stage was switching, which a device of a ring relays (R403). -/
def State.partAll (s : State) (relay : Bool) : State :=
  (s.partLinks relay).seqsFailed (links.filter fun n => s.lnkSt n == lSeq) false

/-- A fault report: the collector records it, and a class A or B report parts the links and is relayed where a stage was
switching as it came (R21, R42, R329, R403). -/
def State.report (s : State) (code : Nat) (cls : Cls) (arg : Word) : State :=
  match s.resolve cls with
  | .C => s.collect code .C arg
  | c => (s.collect code c arg).partAll s.anySwitching

/-- A loss of REF that was held is delivered at the end of SELFTEST: it is the first source, also of an episode that a class
A report of BOOT or SELFTEST has opened, whose own first source is then merged (R53, R353, R354; assumption 34,
DEDUCED). -/
def State.deliverRef (s : State) : State :=
  match s.refHeld with
  | some khz =>
    let s1 := { s with refHeld := none }
    if s1.fb F.FLT_STAT_open then
      ((s1.firstSource 0x0100 1 (BitVec.ofNat 32 khz)).put F.FLT_STAT_cls_max 1).merge (s1.f F.FLT_FIRST_code)
    else s1.report 0x0100 .A (BitVec.ofNat 32 khz)
  | none => s

/-- SELFTEST ends with the failing instance: class A type 0x0C and SAFE-STOP; a loss of REF that was held is delivered with
it (R345, R351, R352, R354). -/
def State.selftestFailed (s : State) (i ms : Nat) (arg : Word) : State :=
  let s1 := (((s.put F.SYS_STEST_done 1).put F.SYS_STEST_t_ms (min ms 4095)).put F.SYS_STEST_pass 0).put F.SYS_STEST_fail i
  (s1.deliverRef.report (0x0C00 + i) .A arg).enterSafeStop

/-! ### The ENABLE sequence's start and entries to STANDBY -/

/-- Request the sequence on a link in use: it enters SEQ and sends DISABLE and the ID request, unless a force or a latched
short circuit keeps it where it is with en_fail (R192, R203, R204). Values that waited for the pod's ACK are stored and
sent by the sequence (R196, R215). -/
def State.startSeq (s : State) (n : Link) : State :=
  if !s.fb (F.GL_CTL_en n) then s
  else if s.forceNow || s.trips n then s.set1 (F.GL_STAT_en_fail n)
  else
    let s0 := s.storeCfg n
    let s1 := ((s0.put (F.GL_STAT_st n) lSeq).put (F.GL_STAT_en_fail n) 0).put (F.GL_STAT_id_ok n) 0
    (((s1.setLnk n { s1.lnk[n] with seqAt := some 0, idOk := false, echoOk := false, cfg := [] }).emit
      (.symbol n 0xFE)).emit (.symbol n 0x3C)).settle

/-- The sequence starts on every link with en set that is neither in EN nor already in SEQ (R347). -/
def State.startSeqs (s : State) : State :=
  (links.filter fun n => s.lnkSt n != lEn && s.lnkSt n != lSeq).foldl (fun s n => s.startSeq n) s

/-- Entry to STANDBY: every run cleared (R343). -/
def State.enterStandby (s : State) : State := (s.changeMode mStandby).clearRuns

/-- The episode closes: no window, no quiet timer; ALIVE toggles again where SELFTEST has passed (R35, R335, R336,
R352). -/
def State.closeEpisode (s : State) : State :=
  { ((s.put F.FLT_STAT_open 0).put F.FLT_STAT_hold 0).put F.FLT_STAT_quiet 0 with
      resumed := false, resumeLinks := [], aliveRun := s.fb F.SYS_STEST_pass }

/-- The reconnect timer of unit g restarts at its full value, rc_done clears (R278). -/
def State.rcRestart (s : State) (g : Fin 4) : State :=
  { s.put (F.ISL_STAT_rc_done g) 0 with
      isl := s.isl.set g { s.isl[g] with recon := 0 } }

/-- ISL_STAT.island, ISL_EVT.trip and the count of a trip sequence (R277). -/
def State.islNote (s : State) (g : Fin 4) : State :=
  ((s.put (F.ISL_STAT_island g) 1).islEvt g 0).bump (F.ISL_CNT_trips g)

/-- The trip sequence of the grid trips of one tick, or of an islanding trip, on the units `gs`: links part, contactor opens,
STANDBY and its sequences, the reconnect timers, and what ISL_STAT, ISL_EVT and ISL_CNT show (R250, R277, R347). In
FAULT-HOLD the trip is recorded for RESUME (R255, R282, R335). -/
def State.tripSequence (s : State) (gs : List (Fin 4)) : State :=
  let s1 := gs.foldl (fun s g => s.rcRestart g) ((gs.foldl (fun s g => s.islNote g) s).partAll false).kOpen
  if gs.isEmpty then s
  else if s1.mode = mFaultHold then { s1 with holdTrip := true }
  else if isSwitchMode s1.mode then s1.enterStandby.startSeqs
  else s1

end Sys2Proof.Machine
end

