-- ==== Sys2Proof/Machine/Operands.lean ====
section
/-! DEFINITION. Operand access of the engines: V registers and accumulators (R87), the data window (R69, R102),
coefficient regions (R71), the addresses of the engine memories (R67), and the parity of a read (R72). -/

namespace Sys2Proof.Machine

/-- V register `r`; V0 reads 0 (R87). -/
def Ctx.rd (c : Ctx) (r : VReg) : Word := if r = 0 then 0 else c.v[r.toFin]

/-- Write V register `r`; a write to V0 is discarded (R87). -/
def Ctx.wr (c : Ctx) (r : VReg) (w : Word) : Ctx := if r = 0 then c else { c with v := c.v.set r.toFin w }

/-- The second register of a pair (R108). -/
def pairHi (r : VReg) : VReg := r + 1

/-- Accumulator `n` (R97). -/
def Ctx.rdAcc (c : Ctx) (n : BitVec 2) : BitVec 48 := c.acc[n.toFin]

/-- Write an accumulator. -/
def Ctx.wrAcc (c : Ctx) (n : BitVec 2) (w : BitVec 48) : Ctx := { c with acc := c.acc.set n.toFin w }

/-- Set sticky flags (R88). -/
def Ctx.flag (c : Ctx) (m : BitVec 8) : Ctx := { c with sf := c.sf ||| m }

/-- Words of an engine's instruction memory (R67). -/
def pcLimit (e : CtxId) : Nat := if e.val < 12 then 16384 else 32768

/-- Byte address of an instruction word (R67). -/
def imemAddr (e : CtxId) (w : Nat) : Nat :=
  if e.val < 12 then 0x100000 + 0x10000 * (e.val / 2) + 4 * w else 0x180000 + 4 * w

/-- Byte address of a data word of the engine of `e` (R67). -/
def dmemAddr (e : CtxId) (w : Nat) : Nat :=
  if e.val < 12 then 0x200000 + 0x10000 * (e.val / 2) + 4 * w else 0x280000 + 4 * w

/-- The data word that a window offset names, if it lies in the window (R69, R102). -/
def State.window (s : State) (e : CtxId) (off : Nat) : Option Nat :=
  if e.val < 12 then
    if off < s.f (F.LTH_DWIN_size (e.val / 2) (e.val % 2)) then
      some (s.f (F.LTH_DWIN_base (e.val / 2) (e.val % 2)) + off)
    else none
  else if off < 16384 then some off else none

/-- The word offset of LD and ST: Va + sext(imm16), modulo 2^32 (R102). -/
def effOff (a : Word) (imm : BitVec 16) : Nat := (a + imm.signExtend 32).toNat

/-- The loop whose coefficient region, of a Lathe context, holds the window offset (R71). -/
def State.cregOf (s : State) (e : CtxId) (off : Nat) : Option Nat :=
  if e.val < 12 then
    (List.range 4).find? fun j =>
      decide (s.f (F.LTH_CREG_base (e.val / 2) (e.val % 2) j) ≤ off) &&
        decide (off < s.f (F.LTH_CREG_base (e.val / 2) (e.val % 2) j) + s.f (F.LTH_CREG_len (e.val / 2) (e.val % 2) j))
  else none

/-- The offset lies in the region of a closed loop (R71). -/
def State.cregClosed (s : State) (e : CtxId) (off : Nat) : Bool :=
  match s.cregOf e off with
  | some j => !natBit s.ctx[e].openF j
  | none => false

/-- The unit number of an engine in fault codes: Lathe n, or 6 for the Headstock (R332). -/
def engineNo (e : CtxId) : Nat := if e.val < 12 then e.val / 2 else 6

/-- LTH_FAULT of the engine of `e`, or LTH_HS_FAULT. -/
def faultReg (e : CtxId) : Nat := if e.val < 12 then A.LTH_FAULT (e.val / 2) else A.LTH_HS_FAULT

/-- Record a stop in LTH_FAULT or LTH_HS_FAULT: cause, context, address (R81, R83, R92). Where execution has run off
the end of the memory, 16384 or 32768 does not fit the field, which keeps its low bits, 0 (R92; assumption 73, DESIGN
CHOICE: the spec names no address there). -/
def State.noteFault (s : State) (e : CtxId) (cause pc : Nat) : State :=
  if e.val < 12 then
    ((s.put (F.LTH_FAULT_cause (e.val / 2)) cause).put (F.LTH_FAULT_ctx (e.val / 2)) (e.val % 2)).put
      (F.LTH_FAULT_pc (e.val / 2)) pc
  else (s.put F.LTH_HS_FAULT_cause cause).put F.LTH_HS_FAULT_pc pc

/-- A ramp-tracked set-point of a stage ends where its context leaves RUN and WAIT or its timebase stops (R254). -/
def State.endRampsOf (s : State) (k : Nat) : State :=
  s.endWith fun c => c.tracks.any fun t => t.stage == k

/-- A context enters FAULT: state, EV124 (R63, R80), ramp-tracked set-points of its stage end (R254). -/
def State.toFault (s : State) (e : CtxId) (cause : Nat) : State :=
  let s1 := s.noteFault e cause s.ctx[e].pc
  let s2 := (s1.setCtx e { s1.ctx[e] with st := .fault }).raise 124
  if e.val < 12 then s2.endRampsOf e.val else s2.put F.LTH_HS_STAT_in_handler 0

/-- An engine fault of R63: the context stops in FAULT and type 0x2C is reported, B/C (R63, R332). Nothing else of the
instruction takes effect (R92). -/
def State.engineFault (s : State) (e : CtxId) (cause : Nat) : State :=
  let s1 := s.toFault e cause
  s1.report (0x2C00 + e.val) .BC (s1.reg (faultReg e))

/-- A replay: LTH_PAR.replays and EV121; an engine's own read also sets SF.parity_replay and costs 3 slots (R72). -/
def State.replayOf (s : State) (e : CtxId) : State :=
  let s1 := if e.val < 12 then s.bump (F.LTH_PAR_replays (e.val / 2)) else s.bump F.LTH_HS_PAR_replays
  let s2 := s1.setCtx e { (s1.ctx[e].flag fReplay) with slots := s1.ctx[e].slots + 3 }
  s2.raise 121

/-- `n` replays. -/
def State.replays (s : State) (e : CtxId) : Nat → State
  | 0 => s
  | n + 1 => (s.replayOf e).replays e n

/-- A data, table or bus word that fails its replay under an engine's read: class A type 0x05 with the unit given, and
the reading context stops in FAULT (R72, R332). -/
def State.parityFail (s : State) (e : CtxId) (unit addr : Nat) : State :=
  ((s.replayOf e).toFault e 4).report (0x0500 + unit) .A (BitVec.ofNat 32 addr)

end Sys2Proof.Machine
end

