-- ==== Sys2Proof/Machine/Halt.lean ====
section
/-! DEFINITION. Halting an engine (R357, R424, R427 to R429): the halt itself, breakpoints and watchpoints. -/

namespace Sys2Proof.Machine

/-- The contexts of engine m: two of a Lathe, one of the Headstock. -/
def ctxsOf (m : Fin 7) : List CtxId :=
  if h : m.val < 6 then [⟨2 * m.val, by omega⟩, ⟨2 * m.val + 1, by omega⟩] else [hs]

/-- The engine number of a context. -/
def engineOf (e : CtxId) : Fin 7 := ⟨engineNo e, by unfold engineNo; split <;> omega⟩

/-- The context number within its engine, as DBG_ESTAT.ctx shows it. -/
def ctxBit (e : CtxId) : Nat := if e.val < 12 then e.val % 2 else 0

/-- A context enters HALT from RUN or WAIT; in any other state it keeps its state (R61, R424). -/
def Ctx.halt (c : Ctx) : Ctx := if c.st = .run ∨ c.st = .wait then { c with st := .halt, prev := c.st } else c

/-- The state code that DBG_ESTAT.prev shows for a context at a halt. -/
def Ctx.prevCode (c : Ctx) : Nat := if c.st = .halt then c.prev.code else c.st.code

/-- Context e halts; one that leaves RUN or WAIT ends the ramps that its stage tracks (R254, R424). -/
def State.haltCtx (s : State) (e : CtxId) : State :=
  let s1 := s.setCtx e s.ctx[e].halt
  if e.val < 12 ∧ (s.ctx[e].st = .run ∨ s.ctx[e].st = .wait) then s1.endRampsOf e.val else s1

/-- Engine m halts: its contexts, DBG_ESTAT and EV125, and class A type 0x0B while any stage is switching (R357,
R424). -/
def State.haltEngine (s : State) (m : Fin 7) (cause index ctx : Nat) : State :=
  let cs := ctxsOf m
  let p (i : Nat) : Nat := ((cs[i]?).map fun e => s.ctx[e].prevCode).getD 0
  let s1 := ((((s.put (F.DBG_ESTAT_cause m) cause).put (F.DBG_ESTAT_index m) index).put (F.DBG_ESTAT_ctx m)
    ctx).put (F.DBG_ESTAT_prev_0 m) (p 0)).put (F.DBG_ESTAT_prev_1 m) (p 1)
  let s2 := (cs.foldl (fun (s : State) (e : CtxId) => s.haltCtx e) s1).put (F.DBG_ESTAT_step_wait m) 0
  let s3 := s2.src F.DBG_EVT_halt 125
  if s3.anySwitching then s3.report (0x0B00 + m.val) .A 0 else s3

/-- The context's bit is set in a breakpoint's or watchpoint's ctx field; ignored for the Headstock (R432). -/
def ctxWatched (e : CtxId) (v : Nat) : Bool := decide (12 ≤ e.val) || natBit v (e.val % 2)

/-- The breakpoint that matches the next instruction of a context, lowest index first (R427). -/
def State.bpHit (s : State) (e : CtxId) : Option Nat :=
  let m := engineNo e
  [0, 1, 2, 3].find? fun i =>
    s.fb (F.DBG_BP_en m i) && s.f (F.DBG_BP_addr m i) == s.ctx[e].pc && ctxWatched e (s.f (F.DBG_BP_ctx m i))

/-- The breakpoint that stops the next instruction of a context before it issues; none on the first one after a resume or
a step (R427). -/
def State.bpStop (s : State) (e : CtxId) : Option Nat := if s.ctx[e].bpSkip = 0 then s.bpHit e else none

/-- A watchpoint or BRK of an instruction that has completed halts its engine; a breakpoint at the next instruction of the
context takes precedence: one halt, whose cause is the breakpoint (R429, R430). -/
def State.trigger (s : State) (e : CtxId) (cause index : Nat) : State :=
  match s.bpStop e with
  | some i => s.haltEngine (engineOf e) 2 i (ctxBit e)
  | none => s.haltEngine (engineOf e) cause index (ctxBit e)

/-- The watchpoint that matches accesses of an instruction: data words read and data words written (R428). -/
def State.wpHit (s : State) (e : CtxId) (rd wr : List Nat) : Option Nat :=
  let m := engineNo e
  [0, 1].find? fun j =>
    let d := 2 ^ min 13 (s.f (F.DBG_WP_mask m j))
    let same (w : Nat) : Bool := w / d == s.f (F.DBG_WP_addr m j) / d
    s.fb (F.DBG_WP_en m j) && ctxWatched e (s.f (F.DBG_WP_ctx m j)) &&
      ((s.fb (F.DBG_WP_rd m j) && rd.any same) || (s.fb (F.DBG_WP_wr m j) && wr.any same))

/-- A watched access halts the engine once its instruction has completed (R428, R429). -/
def State.watch (s : State) (e : CtxId) (rd wr : List Nat) : State :=
  if s.ctx[e].st ≠ .run then s
  else match s.wpHit e rd wr with
    | some j => s.trigger e 3 j
    | none => s

end Sys2Proof.Machine
end

