-- ==== Sys2Proof/Machine/Issue.lean ====
section
/-! DEFINITION. The issue of one instruction by a context (R59 to R63, R90 to R92): what every instruction does besides
its own effect, and the forms that the families share. -/

namespace Sys2Proof.Machine

/-- The program counter of the last issued instruction, as LTH_PC shows it (R82); the Headstock's stands in
LTH_HS_STAT. -/
def State.notePc (s : State) (e : CtxId) (pc : Nat) : State :=
  if e.val < 12 then s.setReg (A.LTH_PC (e.val / 2) (e.val % 2)) (BitVec.ofNat 32 (pc % 16384)) else s

/-- The state in which the instruction at the program counter of context `e` issues: its address is noted, and it is one
less of those that trigger no breakpoint (R82, R427). -/
def State.fetched (s : State) (e : CtxId) : State :=
  (s.setCtx e { s.ctx[e] with bpSkip := s.ctx[e].bpSkip - 1 }).notePc e s.ctx[e].pc

/-- A fetch by context `e`: nothing while it is not in RUN (R61); a breakpoint at the address halts the engine first (R427);
a program counter outside the memory faults (R63); otherwise `f`. -/
def State.fetch (s : State) (e : CtxId) (f : State → State) : State :=
  if s.ctx[e].st ≠ .run then s
  else match s.bpStop e with
    | some i => s.haltEngine (engineOf e) 2 i (ctxBit e)
    | none =>
      if pcLimit e ≤ s.ctx[e].pc then s.engineFault e 2 else f s

/-- An issue by context `e`: a fetch, then `f` on the state in which the address has been noted (R82). -/
def State.issue (s : State) (e : CtxId) (f : State → State) : State := s.fetch e fun s => f (s.fetched e)

/-- An issue that the encoding or the engine may make illegal: illegal opcode (R63, R85, R108, R109). -/
def State.issueIf (s : State) (e : CtxId) (ok : Bool) (f : State → State) : State :=
  s.issue e fun s => if ok then f s else s.engineFault e 1

/-- An even pair number; a destination pair lies in 2 to 30 (R108). -/
def pairOk (r : VReg) : Bool := r.toNat % 2 == 0
def dstPairOk (r : VReg) : Bool := r.toNat % 2 == 0 && r != 0

/-- The context after an instruction of `n` slots that goes on with the next word (R91). -/
def Ctx.step (c : Ctx) (n : Nat) : Ctx := { c with pc := c.pc + 1, slots := c.slots + n }

/-- Complete an instruction with one destination register: value and flags (R88, R90). -/
def State.done (s : State) (e : CtxId) (d : VReg) (r : Word × BitVec 8) (n : Nat) : State :=
  s.setCtx e (((s.ctx[e].wr d r.1).flag r.2).step n)

/-- Complete an instruction with a destination pair: both are written together (R108). -/
def State.donePair (s : State) (e : CtxId) (d : VReg) (x y : Word) (fl : BitVec 8) (n : Nat) : State :=
  s.setCtx e ((((s.ctx[e].wr d x).wr (pairHi d) y).flag fl).step n)

/-- An instruction that reads registers of its context and writes one register. -/
def State.regOp (s : State) (e : CtxId) (d : VReg) (n : Nat) (f : Ctx → Word × BitVec 8) : State :=
  s.issue e fun s => s.done e d (f s.ctx[e]) n

/-- An instruction without flags that reads registers of its context and writes one register. -/
def State.regOp0 (s : State) (e : CtxId) (d : VReg) (n : Nat) (f : Ctx → Word) : State :=
  s.regOp e d n fun c => (f c, 0)

/-- An instruction that updates an accumulator (R97, R98). -/
def State.accOp (s : State) (e : CtxId) (n : BitVec 2) (f : Ctx → BitVec 48 × BitVec 8) : State :=
  s.issue e fun s =>
    s.setCtx e (((s.ctx[e].wrAcc n (f s.ctx[e]).1).flag (f s.ctx[e]).2).step 1)

/-- A jump to word address `t`, writing the next address to `d`; a target outside the memory faults with the address of
the jump (R92, R94, R101). -/
def State.jump (s : State) (e : CtxId) (d : VReg) (t : Nat) : State :=
  if pcLimit e ≤ t then s.engineFault e 2
  else
    let c := s.ctx[e]
    s.setCtx e { c.wr d (BitVec.ofNat 32 (c.pc + 1)) with pc := t, slots := c.slots + 2 }

/-- A conditional branch of 2 slots (R100, R101): the target of a branch that is not taken is not checked. -/
def State.branch (s : State) (e : CtxId) (d a : VReg) (off : BitVec 16) (p : Word → Word → Bool) : State :=
  s.issue e fun s =>
    let c := s.ctx[e]
    if p (c.rd d) (c.rd a) then
      let t : Int := (c.pc : Int) + 1 + off.toInt
      if t < 0 ∨ (pcLimit e : Int) ≤ t then s.engineFault e 2
      else s.setCtx e { c with pc := t.toNat, slots := c.slots + 2 }
    else s.setCtx e (c.step 2)

/-- The data word at byte address `a` under the outcome of its parity check: `f` on the value, after a replay where
there was one; or the class A fault (R72). -/
def State.parityRead (s : State) (e : CtxId) (p : Par) (a : Nat) (f : State → Word → State) : State :=
  match p with
  | .clean => f s (s.mw a)
  | .replayPass => f (s.replayOf e) (s.mw a)
  | .replayFail => s.parityFail e (engineNo e) a

/-- The reads of an instruction that takes several words, under the outcome of their parity checks: `n` of them passed
their replay; `bad` is the unit and the byte address of one that failed it (R72). -/
def State.parityBlock (s : State) (e : CtxId) (n : Nat) (bad : Option (Nat × Nat)) (f : State → State) : State :=
  match bad with
  | none => f (s.replays e n)
  | some (u, a) => (s.replays e n).parityFail e u a

/-- A store to window offset `off`, already checked against the window: suppressed in the region of a closed loop, with
LTH_FAULT.creg_viol and a class C report (R71, R103). -/
def State.storeWord (s : State) (e : CtxId) (off w : Nat) (v : Word) : State :=
  if s.cregClosed e off then
    (s.bump (F.LTH_FAULT_creg_viol (e.val / 2))).report (0x6500 + e.val) .C (BitVec.ofNat 32 off)
  else s.setMw (dmemAddr e w) v

end Sys2Proof.Machine
end

