-- ==== Sys2Proof/Machine/Accumulator.lean ====
section
/-! DEFINITION. The accumulator group (R97, R98). -/

namespace Sys2Proof.Machine

/-- PMAC (R97, R98). -/
def execPmac (e : CtxId) (n : BitVec 2) (a b : VReg) (s : State) : Res :=
  .next (s.accOp e n fun c => accSat ((c.rdAcc n).toInt + accProd (c.rd a) (c.rd b)))

/-- PMSB (R97, R98). -/
def execPmsb (e : CtxId) (n : BitVec 2) (a b : VReg) (s : State) : Res :=
  .next (s.accOp e n fun c => accSat ((c.rdAcc n).toInt - accProd (c.rd a) (c.rd b)))

/-- ACCLD (R98). -/
def execAccld (e : CtxId) (n : BitVec 2) (a : VReg) (s : State) : Res :=
  .next (s.accOp e n fun c => (BitVec.ofInt 48 ((c.rd a).toInt * 256), 0))

/-- ACCADD (R97, R98). -/
def execAccadd (e : CtxId) (n : BitVec 2) (a : VReg) (s : State) : Res :=
  .next (s.accOp e n fun c => accSat ((c.rdAcc n).toInt + (c.rd a).toInt * 256))

/-- ACCRD, 2 slots (R98). -/
def execAccrd (e : CtxId) (d : VReg) (n : BitVec 2) (s : State) : Res :=
  .next (s.regOp e d 2 fun c => fAccrd (c.rdAcc n))

/-- ACCCLR (R98). -/
def execAccclr (e : CtxId) (n : BitVec 2) (s : State) : Res :=
  .next (s.accOp e n fun _ => (0, 0))

/-- ACCLO (R98). -/
def execAcclo (e : CtxId) (d : VReg) (n : BitVec 2) (s : State) : Res :=
  .next (s.regOp0 e d 1 fun c => (c.rdAcc n).extractLsb' 0 32)

/-- ACCHI: bits [47:32], sign-extended (R98). -/
def execAcchi (e : CtxId) (d : VReg) (n : BitVec 2) (s : State) : Res :=
  .next (s.regOp0 e d 1 fun c => ((c.rdAcc n).extractLsb' 32 16).signExtend 32)

/-- ACCSET (R98). -/
def execAccset (e : CtxId) (n : BitVec 2) (a b : VReg) (s : State) : Res :=
  .next (s.accOp e n fun c => (((c.rd a).extractLsb' 0 16) ++ c.rd b, 0))

end Sys2Proof.Machine
end

