-- ==== Sys2Proof/Machine/Timing.lean ====
section
/-! DEFINITION. Instants of a stage's period: period start, reload instant, guard window and window ends (R16, R17, R139,
R166). Times are EDGE time in taps (R8, R49). -/

namespace Sys2Proof.Machine

/-- The model's EDGE time is at least `t`: an event that carries its instant has arrived (assumption 6, DESIGN CHOICE). -/
def State.toInstant (s : State) (t : Nat) : State := { s with etime := max s.etime t }

/-- A 53-bit EDGE time as its LO and HI words (R56, R189). -/
def loWord (t : Nat) : Word := BitVec.ofNat 32 t
def hiWord (t : Nat) : Word := BitVec.ofNat 32 (t / 2 ^ 32 % 2 ^ 21)

/-- Start of the coming period (R166). -/
def Stg.next (g : Stg) : Nat := g.ts + g.tn

/-- Length fixed for the next period once its reload instant has passed (R166). -/
def State.tNext (s : State) (k : Stage) : Nat := s.f (F.STG_PER_NEXT_per k)

/-- The next reload instant of a stage whose timebase runs (R166). -/
def State.reloadAt (s : State) (k : Stage) : Nat :=
  (if s.stg[k].latched then s.stg[k].next + s.tNext k else s.stg[k].next) - leadTaps

/-- Now lies inside the guard window of a reload instant that is still to come, so that instant does not sample a write
made now (R166). -/
def State.inWindow (s : State) (k : Stage) : Bool := s.tbRuns k && decide (s.reloadAt k ≤ s.etime + guardTaps)

/-- Whether now lies inside the guard window of the coming reload instant, or at a reload instant (R20, R166). -/
def State.inGuard (s : State) (k : Stage) : Bool :=
  s.inWindow k || (s.tbRuns k && s.stg[k].latched && s.etime == s.stg[k].next - leadTaps)

/-- The window end offset in taps (R139). -/
def State.dwTaps (s : State) (k : Stage) : Nat := s.f (F.ADC_WEND_dw k) * refTaps

/-- Ends of the windows that close for the coming period and, once its length is fixed, for the one after it, each with
its length (R16, R139). A window end may lie before the period it belongs to starts. -/
def State.winEnds (s : State) (k : Stage) : List (Int × Nat) :=
  let g := s.stg[k]
  let w : Int := (g.next : Int) - leadTaps - s.dwTaps k
  (w, g.tn) :: (if g.latched then [(w + s.tNext k, s.tNext k)] else [])

/-- The next window end and its length: the first of `winEnds` after the latest one. -/
def State.nextWin (s : State) (k : Stage) : Option (Int × Nat) :=
  (s.winEnds k).find? fun x => match s.stg[k].winEnd with
    | none => true
    | some t => decide ((t : Int) < x.1)

end Sys2Proof.Machine
end

