-- ==== Sys2Proof/Machine/Acquire.lean ====
section
/-! DEFINITION. Acquisition: scaling, windows, running extremes and the plausibility checks (R132 to R156). -/

namespace Sys2Proof.Machine

/-- ADC and scan position of a flat index (R9). -/
def adcOf (e : Nat) : Nat := e / 16
def scanPos (e : Nat) : Nat := e % 16

/-- An external entry (R9, R233). -/
def extEntry (e : Nat) : Bool := decide (e < 64) && decide (e % 16 < 12)

/-- A code, with 12 fraction bits, scaled to pu28 (R136). -/
def scaleQ (x12 : Int) (ofs : Nat) (gain : Word) : Word :=
  (sat32 (rshRound ((x12 - 4096 * ofs) * gain.toInt) 26)).1

/-- A code scaled with its entry's present offset and gain (R136). -/
def State.scale (s : State) (e : Nat) (code : Nat) : Word :=
  scaleQ (4096 * code) (s.f (F.ADC_ECFG_ofs e)) (s.reg (A.ADC_GAIN e))

/-- The latest sample of an entry, scaled (R136). -/
def State.latest (s : State) (e : Nat) : Int := (s.scale e (s.f (F.ADC_RES_code e))).toInt

/-- The stage an entry is bound to (R156). -/
def State.boundTo (s : State) (e : Nat) : Option Stage :=
  if h : s.f (F.ADC_ECFG_stg e) < 12 then some ⟨s.f (F.ADC_ECFG_stg e), h⟩ else none

/-- The entries bound to a stage. -/
def State.boundEntries (s : State) (k : Stage) : List (Fin 64) :=
  (List.finRange 64).filter fun e => s.f (F.ADC_ECFG_stg e) == k.val

/-- The scan mask of an ADC counting a write that has not yet applied (R134). -/
def State.scanMask (s : State) (a : Fin 4) : Nat := ((s.scanPend[a]).map (·.1)).getD (s.f (F.ADC_SCAN_mask a))

/-- The entry is enabled in its scan mask (R133, R134). -/
def State.scanned (s : State) (e : Nat) : Bool :=
  if h : e / 16 < 4 then natBit (s.scanMask ⟨e / 16, h⟩) (e % 16) else false

/-- Consecutive-count limits of the checks (R156). -/
def State.frzN (s : State) (e : Nat) : Nat := max 16 (s.f (F.ADC_PCHK_frz_n e))
def State.rngN (s : State) (e : Nat) : Nat := max 1 (s.f (F.ADC_PCHK_rng_n e))
def State.xchkN (s : State) (e : Nat) : Nat := max 1 (s.f (F.ADC_PCHK_xchk_n e))

/-- Report class of an entry (R150). -/
def State.plausCls (s : State) (e : Nat) : Cls :=
  match s.boundTo e with
  | some k => if s.switchingAt k then .B else .C
  | none => .C

/-! ### Comparator ticks -/

/-- The start of the comparator tick that begins in [t − 20 ns, t + 20 ns) (R148, R157). -/
def tickAround (t : Nat) : Nat := (t + 159) / 320 * 320

/-- The decision of comparator c in the tick that begins at `t`, where it is one of its latest (R148). -/
def State.decisionAt (s : State) (c t : Nat) : Option Bool :=
  ((s.cmpDec.toList.getD c []).find? fun p => p.1 == t).map (·.2)

/-- The thresholds of comparator c in force for a tick that begins at `t`, as CMP_THR holds them (R164). -/
def State.thrAt (s : State) (c t : Nat) : Word :=
  (((s.cmpThr.toList.getD c []).find? fun p => decide (p.1 ≤ t)).map (·.2)).getD 0x03FF0000

/-! ### Entries of metering points -/

/-- The voltage and the current entry of a phase (R285). -/
def State.vEnt (s : State) (m x : Nat) : Nat :=
  match x with
  | 0 => s.f (F.MTR_SRC_V_va m)
  | 1 => s.f (F.MTR_SRC_V_vb m)
  | _ => s.f (F.MTR_SRC_V_vc m)
def State.iEnt (s : State) (m x : Nat) : Nat :=
  match x with
  | 0 => s.f (F.MTR_SRC_I_ia m)
  | 1 => s.f (F.MTR_SRC_I_ib m)
  | _ => s.f (F.MTR_SRC_I_ic m)

/-- The six entries of a point. -/
def State.mtrEnts (s : State) (m : Nat) : List Nat := [0, 1, 2].map (s.vEnt m) ++ [0, 1, 2].map (s.iEnt m)

/-- Change a point. -/
def State.setMtr (s : State) (m : Fin 4) (x : Mtr) : State := { s with mtr := s.mtr.set m x }

/-- A plausibility failure of an entry reaches the points that use it (R302, R303). -/
def State.meterEntFail (s : State) (e : Nat) : State :=
  (List.finRange 4).foldl (fun (s : State) (m : Fin 4) =>
    if s.fb (F.MTR_CTL_en m) && (s.mtrEnts m).contains e then
      (s.src ⟨A.MTR_EVT, 16 + m.val, 1⟩ 75).setMtr m { s.mtr[m] with lFail := true }
    else s) s

/-- Change an entry. -/
def State.setEnt (s : State) (e : Fin 64) (x : Ent) : State := { s with ent := s.ent.set e x }

/-- Check `w` (0 freeze, 1 range, 2 cross-check) of an entry fails: sticky and live bit, the shared event, the report
(R149, R150). -/
def State.plausFail (s : State) (e w : Nat) (arg : Nat) : State :=
  let s1 := s.set1 ⟨A.ADC_PLST e, w, 1⟩
  let s2 := if s1.fb ⟨A.ADC_PLST e, 3 + w, 1⟩ then s1
    else (s1.set1 ⟨A.ADC_PLST e, 3 + w, 1⟩).src ⟨A.ADC_EVT, w, 1⟩ (60 + w)
  (s2.meterEntFail e).report (0x2800 + 0x100 * w + e) (s2.plausCls e) (BitVec.ofNat 32 arg)

/-- The live bit of check `w` clears. -/
def State.plausClear (s : State) (e w : Nat) : State := s.put ⟨A.ADC_PLST e, 3 + w, 1⟩ 0

/-- An internal entry fails: int_fail, EV63, type 0x2B; a midscale or loopback failure also counts as a range failure of
every bound entry of its ADC (R151). -/
def State.internalFail (s : State) (a n : Nat) (code : Nat) : State :=
  let s1 := ((s.set1 ⟨A.ADC_STAT, 16 + a, 1⟩).src F.ADC_EVT_int 63).report (0x2B00 + (4 * a + (n - 12))) .BC
    (BitVec.ofNat 32 code)
  if n = 14 ∨ n = 15 then
    (((List.range 16).map (16 * a + ·)).filter fun e => (s1.boundTo e).isSome).foldl
      (fun s e => s.plausFail e 1 code) s1
  else s1

/-- Empty the open window of an entry. -/
def Ent.clearOpen (x : Ent) : Ent := { x with sum := 0, cnt := 0, mn := 0, mx := 0 }

/-- Close the open window: its sums wait for the last members still under way (R138, R142). -/
def Ent.close (x : Ent) (ofs : Nat) (gain : Word) : Ent :=
  { x.clearOpen with cSum := x.sum, cCnt := x.cnt, cMn := x.mn, cMx := x.mx, cOfs := ofs, cGain := gain }

/-- Add a member code to sums (R140). -/
def addOpen (x : Ent) (code : Nat) : Ent :=
  { x with
    sum := x.sum + code, cnt := x.cnt + 1
    mn := if x.cnt = 0 then BitVec.ofNat 32 code else BitVec.ofNat 32 (min x.mn.toNat code)
    mx := if x.cnt = 0 then BitVec.ofNat 32 code else BitVec.ofNat 32 (max x.mx.toNat code) }

/-- Add a member code to the closed window. -/
def addClosed (x : Ent) (code : Nat) : Ent :=
  { x with
    cSum := x.cSum + code, cCnt := x.cCnt + 1
    cMn := if x.cCnt = 0 then BitVec.ofNat 32 code else BitVec.ofNat 32 (min x.cMn.toNat code)
    cMx := if x.cCnt = 0 then BitVec.ofNat 32 code else BitVec.ofNat 32 (max x.cMx.toNat code) }

/-- Average of a closed window, 12 fraction bits (R140). -/
def Ent.avg12 (x : Ent) : Int := divRound (x.cSum * 4096) x.cCnt

/-- Smaller and larger of two words read as signed numbers. -/
def wMin (a b : Word) : Word := if a.toInt ≤ b.toInt then a else b
def wMax (a b : Word) : Word := if a.toInt ≤ b.toInt then b else a

/-- Publish the closed window of an entry: ADC_AVG, ADC_AVGN and ADC_WMM as one set (R140, R142). -/
def State.publish (s : State) (e : Fin 64) : State :=
  let x := s.ent[e]
  let avg := if x.cCnt = 0 then 0 else scaleQ x.avg12 x.cOfs x.cGain
  let lo := if x.cCnt = 0 then 0 else scaleQ (4096 * x.cMn.toInt) x.cOfs x.cGain
  let hi := if x.cCnt = 0 then 0 else scaleQ (4096 * x.cMx.toInt) x.cOfs x.cGain
  let s1 := { s with ent := s.ent.set e { x with
    sMn := wMin lo hi, sMx := wMax lo hi, cSum := 0, cCnt := 0, cMn := 0, cMx := 0 } }
  ((((s1.setReg (A.ADC_AVG e) avg).put (F.ADC_AVGN_n e) x.cCnt).put (F.ADC_AVGN_wseq e)
    (s1.f (F.ADC_AVGN_wseq e) + 1)).put (F.ADC_WMM_min e) x.cMn.toNat).put (F.ADC_WMM_max e) x.cMx.toNat

/-- What AVG returns (R119, R140, R144). -/
def State.avgRead (s : State) (e : Fin 64) (sel : Nat) : Word :=
  match s.boundTo e with
  | some _ => match sel with
    | 0 => s.reg (A.ADC_AVG e)
    | 1 => s.ent[e].sMn
    | 2 => s.ent[e].sMx
    | _ => BitVec.ofNat 32 (s.f (F.ADC_AVGN_n e))
  | none =>
    let lo := s.scale e (s.f (F.ADC_MM_min e))
    let hi := s.scale e (s.f (F.ADC_MM_max e))
    match sel with
    | 1 => wMin lo hi
    | 2 => wMax lo hi
    | _ => 0

/-- Discard the open windows of a stage's entries (R139). -/
def State.dropWindows (s : State) (k : Stage) : State :=
  (s.boundEntries k).foldl (fun (s : State) (e : Fin 64) => { s with ent := s.ent.set e s.ent[e].clearOpen }) s

end Sys2Proof.Machine
end

