-- ==== Sys2Proof/Machine/Transform.lean ====
section
/-! DEFINITION. Transforms and the sine generator (R108, R110, R111). -/

namespace Sys2Proof.Machine

/-- One term after the other of a power series in `x`, 60 fraction bits, divided by the given numbers, signs
alternating. -/
def seriesQ (x2 : Int) (term : Int) : List Nat → Int
  | [] => term
  | n :: t => term - seriesQ x2 (Int.fdiv (Int.fdiv (term * x2) (2 ^ 60)) n) t

/-- Sine and cosine of an angle of 0 to a quarter turn given in 2^−32 turn, 60 fraction bits: the power series with
π/2 = 1811004864519280711 × 2^−60. -/
def quarterX (r : Nat) : Int := Int.fdiv ((r : Int) * 1811004864519280711) (2 ^ 30)
def sinQ (r : Nat) : Int :=
  let x := quarterX r
  seriesQ (Int.fdiv (x * x) (2 ^ 60)) x [6, 20, 42, 72, 110, 156, 210, 272, 342, 420]
def cosQ (r : Nat) : Int :=
  let x := quarterX r
  seriesQ (Int.fdiv (x * x) (2 ^ 60)) (2 ^ 60) [2, 12, 30, 56, 90, 132, 182, 240, 306, 380]

/-- The true sine of a turn32 angle, rounded to pu28 (R5, R111). -/
def sinTrue (th : Word) : Int :=
  let r := th.toNat % 2 ^ 30
  rshRound (match th.toNat / 2 ^ 30 with
    | 0 => sinQ r
    | 1 => cosQ r
    | 2 => -sinQ r
    | _ => -cosQ r) 32

/-- A value of the generator: within 2^−24 pu (16 LSB) of the true value, by an error that the spec leaves open, never
above 1.0 pu; exact at a quarter turn. The true value `t` is itself rounded, by less than 1 LSB, so the error goes to 15
LSB (R111; assumption 2, DESIGN CHOICE). -/
def genValue (t err : Int) : Int := clampInt (-268435456) 268435456 (t + clampInt (-15) 15 err)

/-- Sine and cosine as the generator gives them (R110, R111). -/
def sinGen (th : Word) : Int :=
  if th = 0x40000000 then 268435456 else genValue (sinTrue th) (Config.sinErr th)
def cosGen (th : Word) : Int :=
  if th = 0x40000000 then 0 else genValue (sinTrue (th + 0x40000000)) (Config.cosErr th)

/-- The angle from 0 to half a turn, in 2^−32 turn, of a vector whose y is not negative: bit by bit the largest at which
the vector has not fallen behind. -/
def angleGo (x y : Int) : Nat → Nat → Nat
  | 0, a => a
  | k + 1, a =>
    let b := a + 2 ^ k
    angleGo x y k (if b ≤ 2 ^ 31 ∧ 0 ≤ y * sinTrue (BitVec.ofNat 32 (b + 2 ^ 30)) - x * sinTrue (BitVec.ofNat 32 b) then b
      else a)

/-- The angle of the vector (x, y) as a turn32 value (R5). -/
def angleOf (x y : Int) : Word :=
  if y = 0 then (if 0 ≤ x then 0 else 0x80000000)
  else if 0 < y then BitVec.ofNat 32 (angleGo x y 32 0)
  else -BitVec.ofNat 32 (angleGo x (-y) 32 0)

/-- A signed turn32 angle in `n` parts of a turn, rounded to nearest (R5, R96). -/
def angleIn (n : Nat) (a : Word) : Int := divRound (a.toInt * n) (2 ^ 32)

/-- The phase of the phasor x = Re(X e^jθ) from its products with cos θ and sin θ (R274, R275, R287). -/
def Corr.phase (c : Corr) : Word := angleOf c.c (-c.s)

/-- x² + y². -/
def sqSum (x y : Int) : Nat := x.natAbs * x.natAbs + y.natAbs * y.natAbs

/-- Integer square root, bit by bit. -/
def isqrtGo (n : Nat) : Nat → Nat → Nat
  | 0, r => if (r + 1) * (r + 1) ≤ n then r + 1 else r
  | k + 1, r => isqrtGo n k (if (r + 2 ^ (k + 1)) * (r + 2 ^ (k + 1)) ≤ n then r + 2 ^ (k + 1) else r)

/-- `n / √3` rounded to nearest (R96, R110): the floor of `2n / √3`, then halved upward. -/
def overSqrt3 (n : Int) : Int :=
  let t : Int := isqrtGo (4 * n.natAbs * n.natAbs / 3) 40 0
  if 0 ≤ n then Int.fdiv (t + 1) 2 else Int.fdiv (-t) 2

/-- Write a pair of results, each saturated to pu28 with sat_mul (R110). -/
def State.donePu (s : State) (e : CtxId) (d : VReg) (x y : Int) : State :=
  s.donePair e d (satFlag x fSatMul).1 (satFlag y fSatMul).1 ((satFlag x fSatMul).2 ||| (satFlag y fSatMul).2) 4

/-- A transform: source pair a where `pa`, destination pair d (R108, R110). -/
def State.transform (s : State) (e : CtxId) (d a : VReg) (pa : Bool) (f : Ctx → Int × Int) : State :=
  s.issueIf e (dstPairOk d && (!pa || pairOk a)) fun s =>
    s.donePu e d (f s.ctx[e]).1 (f s.ctx[e]).2

/-- α and β of three phase values (R110). -/
def clarkeA (a b c : Int) : Int := divRound (2 * a - b - c) 3
def clarkeB (b c : Int) : Int := overSqrt3 (b - c)

/-- CLARKE (R110). -/
def execClarke (e : CtxId) (d a b : VReg) (s : State) : Res :=
  .next (s.transform e d a true fun c =>
    (clarkeA (c.rd a).toInt (c.rd (pairHi a)).toInt (c.rd b).toInt, clarkeB (c.rd (pairHi a)).toInt (c.rd b).toInt))

/-- CLARKE2 (R110). -/
def execClarke2 (e : CtxId) (d a : VReg) (s : State) : Res :=
  .next (s.transform e d a true fun c =>
    ((c.rd a).toInt, overSqrt3 ((c.rd a).toInt + 2 * (c.rd (pairHi a)).toInt)))

/-- d and q of α and β at an angle (R110). -/
def parkD (x y : Int) (th : Word) : Int := rshRound (x * cosGen th + y * sinGen th) 28
def parkQ (x y : Int) (th : Word) : Int := rshRound (y * cosGen th - x * sinGen th) 28

/-- PARK (R110). -/
def execPark (e : CtxId) (d a b : VReg) (s : State) : Res :=
  .next (s.transform e d a true fun c =>
    let x := (c.rd a).toInt
    let y := (c.rd (pairHi a)).toInt
    (parkD x y (c.rd b), parkQ x y (c.rd b)))

/-- IPARK (R110). -/
def execIpark (e : CtxId) (d a b : VReg) (s : State) : Res :=
  .next (s.transform e d a true fun c =>
    let x := (c.rd a).toInt
    let y := (c.rd (pairHi a)).toInt
    (rshRound (x * cosGen (c.rd b) - y * sinGen (c.rd b)) 28,
      rshRound (x * sinGen (c.rd b) + y * cosGen (c.rd b)) 28))

/-- SINCOS: sets no flag, since no value exceeds 1.0 pu (R110, R111). -/
def execSincos (e : CtxId) (d a : VReg) (s : State) : Res :=
  .next (s.transform e d a false fun c => (sinGen (c.rd a), cosGen (c.rd a)))

end Sys2Proof.Machine
end

