-- ==== Sys2Proof/Machine/GridRead.lean ====
section
/-! DEFINITION. The quantities of a grid interface and of a metering point as GRID and MTR return them (R120, R121, R247,
R272). -/

namespace Sys2Proof.Machine

/-- A ratio in pu28, rounded to nearest (assumption 20, DEDUCED). -/
def puRatio (x : Int) (d : Nat) : Word := if d = 0 then 0 else (sat32 (divRound (x * 2 ^ 28) d)).1

/-- The tracked frequency relative to nominal: GRD_FREQ ÷ f_nom (R238). -/
def State.gridFpu (s : State) (g : Nat) : Word :=
  puRatio (s.f (F.GRD_FREQ_f g)) (10 * s.f (F.GRD_NOM_f_nom g))

/-- An angle that advances for `dt` taps at frequency `f`: f × Δt turns, with f in 0.1 mHz and 8 × 10^9 taps per
second. -/
def turnsOf (f : Nat) (dt : Int) : Int := divRound ((f : Int) * dt * 2 ^ 32) 80000000000000

/-- θ+ extrapolated at the tracked frequency from the latest evaluation to instant `t`, not reduced to one turn (R120,
R237; assumption 20, DEDUCED). -/
def State.thetaAt (s : State) (g : Fin 4) (t : Nat) : Int :=
  (s.reg (A.GRD_THETA g)).toNat + turnsOf (s.f (F.GRD_FREQ_f g)) ((t : Int) - s.grd[g].tEval)

/-- The injection angle θ_i = h × (θ+ + p × 2^32) of an angle that may lie past the next wrap, where p has toggled
(R272). -/
def injAngle (h : Nat) (th : Int) (p : Bool) : Word :=
  BitVec.ofInt 32 (Int.fdiv (((2 * h + 3 : Nat) : Int) * (th + 2 ^ 32 * b2n p)) 2)

/-- The injection reference at angle `th`: a × cos θ_i, or 0 while injection is off, during a listen interval and
outside RUN (R272, R273). -/
def State.injRef (s : State) (g : Fin 4) (th : Int) : Word :=
  if s.fb (F.ISL_STAT_inj g) && !s.fb (F.ISL_STAT_listen g) && s.mode == mRun then
    let amp := divRound (s.f (F.ISL_INJ_amp g) * 2 ^ 28) 1000
    BitVec.ofInt 32 (rshRound (amp * cosGen (injAngle (s.f (F.ISL_INJ_h g)) th (s.fb (F.ISL_STAT_p g)))) 28)
  else 0

/-- A plausibility check of the entry is live (R149). -/
def State.entLive (s : State) (e : Nat) : Bool :=
  s.fb (F.ADC_PLST_frz_now e) || s.fb (F.ADC_PLST_rng_now e) || s.fb (F.ADC_PLST_xchk_now e)

/-- A plausibility failure of an entry of a metering point is live (R302, R304). -/
def State.mtrEntFail (s : State) (m : Nat) : Bool := (s.mtrEnts m).any s.entLive

/-- A plausibility failure of va, vb or vc is live (R247). -/
def State.entFail (s : State) (g : Nat) : Bool :=
  s.entLive (s.f (F.GRD_SRC_va g)) || s.entLive (s.f (F.GRD_SRC_vb g)) || s.entLive (s.f (F.GRD_SRC_vc g))

/-- The status flags of GRID quantity 10 (R247): locked, hold, sync_ok and cmp_ok as kept, ent_fail and en as they
are. -/
def State.gridFlg (s : State) (g : Nat) : Nat :=
  Nat.land (s.f (F.GRD_STAT_flg g)) 0x27 + 8 * b2n (s.entFail g) + 16 * s.f (F.GRD_CTL_en g)

/-- Quantity `q` of interface `g` with the extrapolated angle `th1` (R120, R247). -/
def State.gridVal (s : State) (g : Fin 4) (th1 : Int) (q : Nat) : Word :=
  match q with
  | 0 => s.reg (A.GRD_THETA g)
  | 1 => BitVec.ofInt 32 th1
  | 2 => s.gridFpu g
  | 3 => puRatio (s.reg (A.GRD_ROCOF g)).toInt (s.f (F.GRD_NOM_f_nom g))
  | 4 => s.grd[g].dq[0]
  | 5 => s.grd[g].dq[1]
  | 6 => s.grd[g].dq[2]
  | 7 => s.grd[g].dq[3]
  | 8 => BitVec.ofNat 32 (s.f (F.GRD_STAT_rt g) + 2 ^ 16 * s.f (F.GRD_STAT_ep_ms g))
  | 9 => s.injRef g th1
  | 10 => BitVec.ofNat 32 (s.gridFlg g)
  | _ => 0

/-- The snapshot of all four interfaces that a stage event takes (R120). -/
def State.gridSnap (s : State) (k : Stage) : Vector GridSnap 4 :=
  Vector.ofFn fun g : Fin 4 =>
    let th1 := s.thetaAt g s.stg[k].next
    Vector.ofFn fun q : Fin 11 => s.gridVal g th1 q

/-- What GRID returns: the snapshot on a Lathe; live values on the Headstock, where quantity 1 is quantity 0 (R109,
R120). -/
def State.gridRead (s : State) (e : CtxId) (g : Fin 4) (q : Fin 11) : Word :=
  if e.val < 12 then s.ctx[e].snap[g][q]
  else s.gridVal g (s.reg (A.GRD_THETA g)).toNat q

/-- What MTR returns (R121). -/
def State.mtrRead (s : State) (m : Nat) (q : Nat) : Word :=
  if q < 3 then s.reg (A.MTR_VRMS m q)
  else if q < 6 then s.reg (A.MTR_IRMS m (q - 3))
  else match q with
  | 6 => s.reg (A.MTR_PT m)
  | 7 => s.reg (A.MTR_QT m)
  | 8 => s.reg (A.MTR_ST m)
  | 9 => s.reg (A.MTR_PFT m)
  | 10 => puRatio (s.f (F.MTR_FREQ_f m)) (10 * s.f (F.MTR_NOM_f_nom m))
  | _ => 0

/-- A device read of 2 slots (R119). -/
def State.devRead (s : State) (e : CtxId) (d : VReg) (f : State → Word) : State :=
  s.issue e fun s => s.done e d (f s, 0) 2

/-- AVG (R119, R143, R144). -/
def execAvg (e : CtxId) (d : VReg) (x : Fin 64) (sel : Fin 4) (s : State) : Res :=
  .next (s.devRead e d fun s => s.avgRead x sel)

/-- SMP: the latest sample, in pu28 or as the raw code (R119, R137). -/
def execSmp (e : CtxId) (d : VReg) (x : Fin 64) (raw : Bool) (s : State) : Res :=
  .next (s.devRead e d fun s =>
    if raw then BitVec.ofNat 32 (s.f (F.ADC_RES_code x)) else s.scale x (s.f (F.ADC_RES_code x)))

/-- GRID; a quantity above 10 is a reserved encoding (R119, R120). -/
def execGrid (e : CtxId) (d : VReg) (g : Fin 4) (q : BitVec 6) (s : State) : Res :=
  .next (s.issue e fun s =>
    if h : q.toNat < 11 then s.done e d (s.gridRead e g ⟨q.toNat, h⟩, 0) 2 else s.engineFault e 1)

/-- MTR; a quantity above 10 is a reserved encoding (R119, R121). -/
def execMtr (e : CtxId) (d : VReg) (m : Fin 4) (q : BitVec 6) (s : State) : Res :=
  .next (s.issueIf e (decide (q.toNat < 11)) fun s => s.done e d (s.mtrRead m q.toNat, 0) 2)

end Sys2Proof.Machine
end

