-- ==== Sys2Proof/Machine/Contexts.lean ====
section
/-! DEFINITION. Engine contexts: starts and stops (R62), stage events and WAIT (R64 to R66, R220), the Headstock's
dispatch, watchdog and timers (R77 to R79), EVT, SFCLR, reserved encodings and instruction repair (R72 to R74, R85,
R126, R128). -/

namespace Sys2Proof.Machine

/-- Lathe and context number of stage or context k (R9). -/
def kn (k : Nat) : Nat := k / 2
def kc (k : Nat) : Nat := k % 2

/-! ### Start and stop -/

/-- Entry address of an engine context. -/
def State.entryOf (s : State) (e : CtxId) : Nat :=
  if e.val < 12 then s.f (F.LTH_ENTRY_entry (kn e) (kc e)) else s.f F.LTH_HS_ENTRY_entry

/-- A start clears the plan of the context's stage that is being built (R122, R123). -/
def State.clearPend (s : State) (e : CtxId) : State :=
  match stageOf e with
  | some k => s.setStg k { s.stg[k] with pend := [] }
  | none => s

/-- A start: an IDLE or FAULT context is cleared and runs from its entry; in any other state nothing happens (R62). -/
def State.startCtx (s : State) (e : CtxId) : State :=
  let c := s.ctx[e]
  if c.st = .idle ∨ c.st = .fault then
    (s.clearPend e).setCtx e { Ctx.init with
      st := .run, pc := s.entryOf e, openF := c.openF, closedT := c.closedT, openedT := c.openedT, snap := c.snap }
  else s

/-- A context becomes IDLE; ramp-tracked set-points of its stage end (R62, R254). A stop drops the latched stage event
that LTH_STAT.pend shows; a fault keeps it (R62, R81; assumption 72, DESIGN CHOICE: the spec does not say). -/
def State.toIdle (s : State) (e : CtxId) : State :=
  let s1 := s.setCtx e { s.ctx[e] with st := .idle, stopReq := false, latch := false }
  if e.val < 12 then s1.endRampsOf e.val else s1.put F.LTH_HS_STAT_in_handler 0

/-- A stop: refused while the context's stage, or for the Headstock any stage, is switching; at once in WAIT, for a
Lathe context also in HALT, at the next WAIT otherwise (R62, R83, R425). -/
def State.stopCtx (s : State) (e : CtxId) : Nat × State :=
  let busy := match stageOf e with
    | some k => s.switching k
    | none => s.anySwitching
  if busy then (rRunning, s)
  else match s.ctx[e].st with
    | .wait => (rOk, s.toIdle e)
    | .run => (rOk, s.setCtx e { s.ctx[e] with stopReq := true })
    | .halt => (rOk, if e.val < 12 then s.toIdle e else s.setCtx e { s.ctx[e] with stopReq := true })
    | _ => (rOk, s)

/-- Clear LTH_RUNMAX, LTH_MARGIN and LTH_OVR of a context (R81). -/
def State.clearStats (s : State) (k : Nat) : State :=
  ((s.setReg (A.LTH_RUNMAX (kn k) (kc k)) 0).setReg (A.LTH_MARGIN (kn k) (kc k)) 0xFFFF).setReg
    (A.LTH_OVR (kn k) (kc k)) 0

/-! ### Stage events and WAIT on a Lathe -/

/-- Divider and phase of loop j (R65). -/
def State.loopDiv (s : State) (k j : Nat) : Nat := getBits (s.reg (A.LTH_DIV (kn k) (kc k))) (6 * j) 6 + 1
def State.loopPhase (s : State) (k j : Nat) : Nat :=
  getBits (s.reg (A.LTH_PHASE (kn k) (kc k))) (6 * j) 6 % s.loopDiv k j

/-- The loops that become due at an event with period count P (R65). -/
def State.dueAt (s : State) (k p : Nat) : Nat :=
  [0, 1, 2, 3].foldl (fun m j =>
    if natBit (s.f (F.LTH_LOOP_en (kn k) (kc k))) j && (p + s.loopDiv k j - s.loopPhase k j) % s.loopDiv k j == 0
    then natSet m j else m) 0

/-- Switching of the stage is stopped: links parted, or the stage not in SWITCHING (R66, R186). -/
def State.swStopped (s : State) (k : Stage) : Bool := !(s.stgSt k == stSwitching && s.linksEn k)

/-- The stage event reaches the context: latch, period counter, due loops, snapshot, overrun (R64, R65, R120). IDLE and
FAULT contexts ignore it. -/
def State.ctxEvent (s : State) (k : Stage) : State :=
  let e := ctxOf k
  let c := s.ctx[e]
  if c.st = .idle ∨ c.st = .fault then s
  else
    let c1 := { c with
      events := c.events + 1, due := Nat.lor c.due (s.dueAt k c.events), snap := s.gridSnap k,
      stopped := s.swStopped k, latch := true, ovr := c.ovr || c.latch }
    let s1 := s.setCtx e c1
    if c.latch then
      ((s1.bump (F.LTH_OVR_count (kn k) (kc k))).raise 120).report (0x6400 + k.val) .C 0
    else s1

/-- The stage event of Sk and EVk (R142, R434). -/
def State.stageEvent (s : State) (k : Stage) : State := (s.raise k).ctxEvent k

/-- The word that WAIT returns on a Lathe (R66): the first WAIT after a start reports every enabled loop (R65). -/
def State.waitWord (s : State) (e : CtxId) : Word :=
  let c := s.ctx[e]
  let due := if c.first then s.f (F.LTH_LOOP_en (kn e) (kc e)) else c.due
  BitVec.ofNat 32 (due % 16 + 16 * b2n c.ovr + 32 * b2n c.stopped + 2 ^ 16 * ((c.events - 1) % 65536))

/-- The loop state word and the transitions it reports (R220): a loop is reported at the first return at which it is
due, one that is not enabled at the next return. -/
def State.loopState (s : State) (e : CtxId) (due : Nat) : State :=
  let n := kn e
  let j := kc e
  if s.fb (F.LTH_LSTW_en n j) then
    let c := s.ctx[e]
    let m := Nat.lor due (Nat.xor 15 (s.f (F.LTH_LOOP_en n j)))
    let w := c.openF % 16 + 16 * (Nat.land c.closedT m % 16) + 256 * (Nat.land c.openedT m % 16)
    (s.setMw (dmemAddr e (s.f (F.LTH_DWIN_base n j) + s.f (F.LTH_LSTW_ofs n j))) (BitVec.ofNat 32 w)).setCtx e
      { c with closedT := Nat.land c.closedT (Nat.xor 15 (m % 16)), openedT := Nat.land c.openedT (Nat.xor 15 (m % 16)) }
  else s

/-- WAIT returns to destination `d` (R64, R66, R82, R220). -/
def State.waitReturn (s : State) (e : CtxId) (d : VReg) : State :=
  let w := s.waitWord e
  let s1 := s.loopState e (w.toNat % 16)
  let c := s1.ctx[e].wr d w
  s1.setCtx e { c with
    st := .run, latch := false, due := 0, ovr := false, first := false, counting := true, slots := 0 }

/-- A WAIT ends the slot count since the previous return (R82, R125). -/
def State.countRun (s : State) (e : CtxId) : State :=
  let n := min 65535 (s.ctx[e].slots + 1)
  if e.val < 12 then
    if s.ctx[e].counting then
      s.put (F.LTH_RUNMAX_slots (kn e) (kc e)) (max n (s.f (F.LTH_RUNMAX_slots (kn e) (kc e))))
    else s
  else if s.fb F.LTH_HS_STAT_in_handler then s.put F.LTH_HS_RUNMAX_slots (max n (s.f F.LTH_HS_RUNMAX_slots))
  else s

/-- The word after the WAIT. -/
def Ctx.pastWait (c : Ctx) : Ctx := { c with pc := c.pc + 1, slots := c.slots + 1 }

/-! ### The Headstock -/

/-- Priority of an event (R83). -/
def State.evPri (s : State) (ev : Nat) : Nat := getBits (s.reg (A.LTH_HS_EVPRI (ev / 16))) (2 * (ev % 16)) 2

/-- An event is pending and enabled (R77). -/
def State.evReady (s : State) (ev : Nat) : Bool :=
  natBit (s.reg (A.LTH_HS_EVPEND (ev / 32))).toNat (ev % 32) && natBit (s.reg (A.LTH_HS_EVEN (ev / 32))).toNat (ev % 32)

/-- The event the dispatcher picks: highest priority, then lowest number (R77). -/
def State.hsPick (s : State) : Option Nat :=
  (List.range 128).foldl (fun best ev =>
    if s.evReady ev then
      match best with
      | none => some ev
      | some b => if s.evPri b < s.evPri ev then some ev else best
    else best) none

/-- Dispatch of an event: its pending bit clears, V31 takes its number, execution goes on at its vector, the watchdog
takes its limit (R77, R78, R89). -/
def State.hsDispatch (s : State) (ev : Nat) : State :=
  let a := A.LTH_HS_EVPEND (ev / 32)
  let s1 := s.setReg a (s.reg a &&& ~~~(1#32 <<< (ev % 32)))
  let s2 := (s1.put F.LTH_HS_STAT_ev ev).put F.LTH_HS_STAT_in_handler 1
  let c := s2.ctx[hs].wr 31 (BitVec.ofNat 32 ev)
  { s2.setCtx hs { c with
      st := .run, pc := s.f F.LTH_HS_VBASE_vbase * 128 + ev, slots := 0, counting := true, first := false } with
    hsLim := s.f F.LTH_HS_WDOG_limit }

/-- WAIT on the Headstock (R77): dispatch, or sleep. -/
def State.hsWait (s : State) : State :=
  let s1 := (s.countRun hs).put F.LTH_HS_STAT_in_handler 0
  let s2 := s1.setCtx hs s1.ctx[hs].pastWait
  if s2.ctx[hs].stopReq then s2.toIdle hs
  else match s2.hsPick with
    | some ev => s2.hsDispatch ev
    | none => s2.setCtx hs { s2.ctx[hs] with st := .wait }

/-- WAIT on a Lathe (R62, R64). -/
def State.latheWait (s : State) (e : CtxId) (d : VReg) : State :=
  let s1 := s.countRun e
  let s2 := s1.setCtx e s1.ctx[e].pastWait
  if s2.ctx[e].stopReq then s2.toIdle e
  else if s2.ctx[e].latch then s2.waitReturn e d
  else s2.setCtx e { s2.ctx[e] with st := .wait, waitD := d }

/-- WAIT (R64, R77, R125); on the Headstock a destination is a reserved encoding (R109). -/
def execWait (e : CtxId) (d : VReg) (s : State) : Res :=
  .next (s.issue e fun s =>
    if e.val < 12 then s.latheWait e d
    else if d = 0 then s.hsWait else s.engineFault e 1)

/-- A sleeping context leaves WAIT after its stage event (R64). -/
def execContextWake (k : Stage) (s : State) : Res :=
  .next (
    let e := ctxOf k
    if s.ctx[e].st = .wait ∧ s.ctx[e].latch then s.waitReturn e s.ctx[e].waitD else s)

/-- The sleeping Headstock continues at the vector of the event picked (R77). -/
def execHsDispatch (s : State) : Res :=
  .next (
    if s.ctx[hs].st = .wait then
      match s.hsPick with
      | some ev => s.hsDispatch ev
      | none => s
    else s)

/-- A handler exceeds its limit: FAULT, cause 6, type 0x2D (R75, R78). -/
def execHsWatchdogExpiry (s : State) : Res :=
  .next (
    if s.fb F.LTH_HS_STAT_in_handler ∧ s.hsLim ≠ 0 ∧ s.ctx[hs].st = .run then
      (s.toFault hs 6).report 0x2D00 .BC (BitVec.ofNat 32 (s.f F.LTH_HS_STAT_ev))
    else s)

/-- A Headstock interval timer expires (R79, R80). -/
def execHsTimerExpiry (i : Fin 2) (s : State) : Res :=
  .next (
    if s.hsTmr[i] then
      let s1 := s.raise (122 + i.val)
      if s.fb (F.LTH_HS_TMR_periodic i) then s1 else { s1 with hsTmr := s1.hsTmr.set i false }
    else s)

/-- Writing a timer register starts or stops the timer at once (R79). -/
def State.hsTimerSet (s : State) (i : Fin 2) (w : Word) : State :=
  { s.setReg (A.LTH_HS_TMR i) w with hsTmr := s.hsTmr.set i (getBits w 0 31 != 0) }

/-! ### Events, flags, fetch -/

/-- EVT: code, pend, ovr and EV(12 + k); illegal on the Headstock (R109, R126). -/
def execEvt (e : CtxId) (imm : BitVec 16) (s : State) : Res :=
  .next (s.issueIf e (decide (e.val < 12)) fun s =>
    let n := kn e
    let j := kc e
    let s1 := if s.fb (F.LTH_EVTCODE_pend n j) then s.set1 (F.LTH_EVTCODE_ovr n j) else s
    let s2 := ((s1.put (F.LTH_EVTCODE_code n j) imm.toNat).set1 (F.LTH_EVTCODE_pend n j)).raise (12 + e.val)
    s2.setCtx e (s2.ctx[e].step 1))

/-- SFCLR: clears the selected flags; a replay of its own fetch (`fp`) sets parity_replay after the clear; imm[15:8]
must be 0 (R128). -/
def execSfclr (e : CtxId) (imm : BitVec 16) (fp : Bool) (s : State) : Res :=
  .next (s.issueIf e (decide (imm.toNat < 256)) fun s =>
    let s1 := s.setCtx e { s.ctx[e] with sf := s.ctx[e].sf &&& ~~~(imm.extractLsb' 0 8) }
    let s2 := if fp then s1.replayOf e else s1
    s2.setCtx e (s2.ctx[e].step 1))

/-- The repair image word of a loaded engine's instruction word is written back: the word as it was loaded, whatever the
bank holds by now. Only a load writes an instruction memory, so the word its memory holds is that word (R68, R73, R414). -/
def State.repairWord (s : State) (m : Fin 7) (a : Nat) : State :=
  if s.imgOf[m].isSome then s.setMw a (s.mw a) else s

/-- Count a repair, with its event (R73, R80). -/
def State.countRepair (s : State) (m : Fin 7) : State :=
  (if m.val < 6 then s.bump (F.LTH_PAR_repairs m) else s.bump F.LTH_HS_PAR_repairs).raise 121

/-- The next instruction word of a running context fails parity (R72, R73): its replay passes; the word is repaired,
after a stall that the spec only bounds; or the repair fails, class A, and is not counted in LTH_PAR.repairs (assumption
67, DESIGN CHOICE: R73 does not say whether a repair that fails is counted). -/
def State.repairFetch (s : State) (e : CtxId) (r : Repair) : State :=
  let a := imemAddr e s.ctx[e].pc
  let s1 := s.replayOf e
  match r with
  | .replayPass => s1
  | .repaired =>
    let s2 := (s1.repairWord (engineOf e) a).countRepair (engineOf e)
    let (n, s3) := s2.freshN
    s3.setCtx e { s3.ctx[e] with slots := s3.ctx[e].slots + n % 251 }
  | .failed => (s1.toFault e 5).report (0x0600 + engineNo e) .A (BitVec.ofNat 32 a)

/-- INSTRUCTION_REPAIR: a fetch of context `e` fails parity; the instruction itself issues after it (R72, R73, R427). -/
def execInstructionRepair (e : CtxId) (r : Repair) (s : State) : Res :=
  .next (s.fetch e fun s => s.repairFetch e r)

/-- Words of engine memory m. -/
def scrubWords (m : Fin 7) : Nat := if m.val < 6 then 16384 else 32768

/-- Whether the scrubber of engine memory m is enabled; the Headstock memory has no enable of its own (R74, R83;
assumption 21, DEDUCED). -/
def State.scrubOn (s : State) (m : Fin 7) : Bool :=
  if m.val < 6 then s.fb (F.LTH_SCRUB_en m) else (List.range 6).any fun n => s.fb (F.LTH_SCRUB_en n)

/-- The scrubber reads the next word of an instruction memory; an error is replayed and, if it stays, repaired (R72 to
R74). EV121 is raised for the replay and again for the repair (assumption 68, DESIGN CHOICE: the spec does not say whether
a scrub repair raises it once or twice). -/
def execScrubRead (m : Fin 7) (r : Option Repair) (s : State) : Res :=
  .next (
    if s.scrubOn m then
      let w := s.scrub[m]
      let a := if m.val < 6 then 0x100000 + 0x10000 * m.val + 4 * w else 0x180000 + 4 * w
      let s1 := { s with scrub := s.scrub.set m ((w + 1) % scrubWords m) }
      let s2 := (if m.val < 6 then s1.bump (F.LTH_PAR_replays m) else s1.bump F.LTH_HS_PAR_replays).raise 121
      match r with
      | none => s1
      | some .replayPass => s2
      | some .repaired => (s2.repairWord m a).countRepair m
      | some .failed => s2.report (0x0600 + m.val) .A (BitVec.ofNat 32 a)
    else s)

end Sys2Proof.Machine
end

