-- ==== Sys2Proof/Machine/Tables.lean ====
section
/-! DEFINITION. The compensation tables: bands, trained entries and donors, lookup and learning (R116 to R118, R226 to
R229). -/

namespace Sys2Proof.Machine

/-- Byte address of entry `i` of band `B` of stage `k` (R116). -/
def tblAddr (k B i : Nat) : Nat := 0x300000 + ((4 * k + B) * 1024 + i) * 2

/-- The value of an entry, in 2^−14 pu, and its count (R116). -/
def State.tblV (s : State) (k B i : Nat) : Int := (BitVec.ofNat 13 (s.mh (tblAddr k B i) / 8)).toInt
def State.tblN (s : State) (k B i : Nat) : Nat := s.mh (tblAddr k B i) % 8

/-- The count from which an entry is trained; 0 acts as 1 (R227, R232). -/
def State.nmin (s : State) (k : Nat) : Nat := max 1 (s.f (F.STG_TBLCTL_nmin k))

/-- Whether an entry counts as trained (R227). -/
def State.trained (s : State) (k B i : Nat) : Bool := decide (s.nmin k ≤ s.tblN k B i)

/-- Lower edge of band `B + 1`, in pu28 LSB (R226). -/
def State.bandEdge (s : State) (k B : Nat) : Nat :=
  65536 * (match B with
    | 0 => s.f (F.STG_BAND0_e1 k)
    | 1 => s.f (F.STG_BAND0_e2 k)
    | _ => s.f (F.STG_BAND1_e3 k))

/-- The band that a current magnitude lies in; on an edge, the upper one (R226). -/
def State.bandOf (s : State) (k mag : Nat) : Nat :=
  if mag < s.bandEdge k 0 then 0 else if mag < s.bandEdge k 1 then 1 else if mag < s.bandEdge k 2 then 2 else 3

/-- The reach of a band in units of 1/128; codes above 128 act as 128 (R227). -/
def State.reach (s : State) (k B : Nat) : Nat := min 128 (getBits (s.reg (A.STG_REACH k)) (8 * B) 8)

/-- The neighbour band that lends an untrained entry: the trained one, the nearer where both are, the lower on a tie
(R117). -/
def State.donor (s : State) (k B i mag : Nat) : Option Nat :=
  let lo := decide (0 < B) && s.trained k (B - 1) i
  let hi := decide (B < 3) && s.trained k (B + 1) i
  if lo && hi then
    if mag - s.bandEdge k (B - 1) ≤ s.bandEdge k B - mag then some (B - 1) else some (B + 1)
  else if lo then some (B - 1)
  else if hi then some (B + 1)
  else none

/-- The value of an entry for TBL, and whether it was borrowed or taken as 0 (R117, R227). -/
def State.tblResolve (s : State) (k B i mag : Nat) : Int × Bool :=
  if s.trained k B i then (s.tblV k B i, false)
  else match s.donor k B i mag with
    | some D => (rshRound (s.tblV k D i * s.reach k B) 7, true)
    | none => (0, true)

/-- The two entries of an angle and the fraction between them in 2^−22 (R116). -/
def tblIdx (th : Word) : Nat := th.toNat / 2 ^ 22
def tblIdx1 (th : Word) : Nat := (tblIdx th + 1) % 1024
def tblFrac (th : Word) : Nat := th.toNat % 2 ^ 22

/-- The stage whose table an engine's TBL reads; none where its literal is reserved (R109). -/
def tblStage (e : CtxId) (lit : BitVec 5) : Option Nat :=
  if e.val < 12 then (if lit = 0 then some e.val else none)
  else if lit.toNat < 12 then some lit.toNat else none

/-- The table entry that failed its parity replay: entry i or i + 1 of band B − 1, B or B + 1, as its unit and byte
address (R72, R332). -/
def State.tblBad (s : State) (k : Nat) (th cur : Word) (bad : Option (Fin 3 × Bool)) : Option (Nat × Nat) :=
  bad.map fun x => (7, tblAddr k (s.bandOf k (absW cur) + x.1.val - 1) (if x.2 then tblIdx1 th else tblIdx th))

/-- TBL, 4 slots (R109, R117, R227). -/
def execTbl (e : CtxId) (d a b : VReg) (lit : BitVec 5) (rp : Fin 7) (bad : Option (Fin 3 × Bool)) (s : State) : Res :=
  .next (s.issue e fun s =>
    match tblStage e lit with
    | none => s.engineFault e 1
    | some k =>
      let th := s.ctx[e].rd a
      let cur := s.ctx[e].rd b
      s.parityBlock e rp (s.tblBad k th cur bad) fun s =>
        let B := s.bandOf k (absW cur)
        let r0 := s.tblResolve k B (tblIdx th) (absW cur)
        let r1 := s.tblResolve k B (tblIdx1 th) (absW cur)
        let v := rshRound (r0.1 * 2 ^ 22 + (tblFrac th : Int) * (r1.1 - r0.1)) 8
        let s1 := if r0.2 || r1.2 then s.bump (F.STG_TBLSTAT_untr k) else s
        s1.done e d (BitVec.ofInt 32 v, flagIf (r0.2 || r1.2) fUntrained) 4)

/-- Whether TBLU may train: learn set, stage SWITCHING, every link of the stage in EN (R228). -/
def State.mayLearn (s : State) (k : Stage) : Bool :=
  s.fb (F.STG_TBLCTL_learn k) && s.stgSt k == stSwitching && s.linksEn k

/-- The new word of an entry that gains `inc` on top of `v`, with its count incremented, and whether it saturated. -/
def tblGain (v inc : Int) (n : Nat) : Nat × Bool :=
  let x := clampInt (-4096) 4095 (v + inc)
  ((BitVec.ofInt 13 x).toNat * 8 + min 7 (n + 1), decide (v + inc < -4096 ∨ 4095 < v + inc))

/-- TBLU, 6 slots: seeds, increments and counts (R118, R228). Illegal on the Headstock (R109); lit[4] must be 0. -/
def execTblu (e : CtxId) (d a b : VReg) (lit : BitVec 5) (rp : Fin 7) (bad : Option (Fin 3 × Bool)) (s : State) : Res :=
  .next (s.issue e fun s =>
    match stageOf e with
    | none => s.engineFault e 1
    | some k =>
      if 16 ≤ lit.toNat then s.engineFault e 1
      else if !s.mayLearn k then
        let s1 := s.bump (F.STG_TBLSTAT_skip k)
        s1.setCtx e (s1.ctx[e].step 6)
      else
        let th := s.ctx[e].rd a
        let cur := s.ctx[e].rd b
        s.parityBlock e rp (s.tblBad k th cur bad) fun s =>
          let B := s.bandOf k (absW cur)
          let err := (s.ctx[e].rd d).toInt
          let f := tblFrac th
          let i := tblIdx th
          let j := tblIdx1 th
          let g0 := tblGain (s.tblResolve k B i (absW cur)).1 (rshRound ((2 ^ 22 - f : Nat) * err) (36 + lit.toNat))
            (s.tblN k B i)
          let g1 := tblGain (s.tblResolve k B j (absW cur)).1 (rshRound ((f : Int) * err) (36 + lit.toNat))
            (s.tblN k B j)
          let s1 := s.setMh (tblAddr k B i) g0.1
          let s2 := if f = 0 then s1 else s1.setMh (tblAddr k B j) g1.1
          s2.setCtx e ((s2.ctx[e].flag (flagIf (g0.2 || (f != 0 && g1.2)) fSatAdd)).step 6))

/-- Entries of a band with n ≥ nmin, as STG_TBLTRN counts them (R232). -/
def State.tblTrained (s : State) (k B : Nat) : Nat := (List.range 1024).foldl (fun c i => c + b2n (s.trained k B i)) 0

/-- Every entry of the bands with bit B set in `m` becomes 0 (R229). -/
def State.tblClear (s : State) (k m : Nat) : State :=
  { s with mem := s.mem.filter fun p =>
      !((List.range 4).any fun B =>
        natBit m B && decide (tblAddr k B 0 ≤ p.1) && decide (p.1 < tblAddr k B 0 + 2048)) }

end Sys2Proof.Machine
end

