-- ==== Sys2Proof/Machine/Scheduler.lean ====
section
/-! DEFINITION. From a committed plan to slots of the links (R173 to R181, R185, R211 to R214). `v` is always the state
as the sampled fields of the stage govern the coming period. -/

namespace Sys2Proof.Machine

/-! ### Intervals of a switch -/

/-- Insert by rising start. -/
def insIv (x : Nat × Nat) : List (Nat × Nat) → List (Nat × Nat)
  | [] => [x]
  | y :: t => if x.1 ≤ y.1 then x :: y :: t else y :: insIv x t

/-- Join the intervals that overlap or touch to a first one, starts rising (R173). -/
def joinFrom (x : Nat × Nat) : List (Nat × Nat) → List (Nat × Nat)
  | [] => [x]
  | y :: t => if y.1 ≤ x.2 then joinFrom (x.1, max x.2 y.2) t else x :: joinFrom y t

/-- Join intervals that overlap or touch, starts rising (R173). -/
def joinIv : List (Nat × Nat) → List (Nat × Nat)
  | [] => []
  | x :: t => joinFrom x t

/-- The union of a switch's pulse slots, limited to the period (R173). -/
def unionOf (p : Plan) (sw T : Nat) : List (Nat × Nat) :=
  let l := ((p.filter fun x => x.1 / 4 == sw).map fun x => (min x.2.1 T, min x.2.2 T)).filter fun x => decide (x.1 < x.2)
  joinIv (l.foldr insIv [])

/-- Intervals per switch. -/
abbrev IvTable := List (Nat × List (Nat × Nat))

/-- The intervals of a switch. -/
def IvTable.at (t : IvTable) (sw : Nat) : List (Nat × Nat) := ((t.find? fun x => x.1 == sw).map (·.2)).getD []

/-- Replace the intervals of a switch. -/
def IvTable.put (t : IvTable) (sw : Nat) (l : List (Nat × Nat)) : IvTable :=
  t.map fun x => if x.1 = sw then (sw, l) else x

/-! ### Legs, masks, dead times -/

/-- The leg partner of a switch: both name each other, lie on one link and belong to one stage (R172). -/
def State.legOf (s : State) (sw : Nat) : Option Nat :=
  let p := s.f (F.STG_SWCFG_partner sw)
  if p < 96 ∧ p ≠ sw ∧ p / 8 = sw / 8 ∧ s.f (F.STG_SWCFG_partner p) = sw ∧ (s.owner sw).isSome ∧
      s.owner p = s.owner sw then some p
  else none

/-- Word i of the effective mask: STG_MASK less the switch sets of the active commutation events (R175). -/
def State.maskEff (v : State) (k : Stage) (i : Nat) : Word :=
  let off (j : Fin 2) (a : Nat) : Word := if v.fb (F.STG_MEV_en k j) && v.stg[k].comm[j] then v.reg a else 0
  v.reg (A.STG_MASK k i) &&& ~~~(off 0 (A.STG_MEVA k i) ||| off 1 (A.STG_MEVB k i))

/-- The switch is permitted by the effective mask. -/
def State.permits (v : State) (k : Stage) (sw : Nat) : Bool := natBit (v.maskEff k (sw / 32)).toNat (sw % 32)

/-- The load band of a switch's edges at a latch (R211). -/
def State.loadBand (v : State) (k : Stage) (sw : Nat) : Nat :=
  if v.fb (F.GL_SWD_cur_v (sw / 8) (sw % 8)) then
    let e := v.f (F.GL_SWD_cur (sw / 8) (sw % 8))
    v.bandOf k (absW (match v.boundTo e with
      | some _ => v.reg (A.ADC_AVG e)
      | none => v.scale e (v.f (F.ADC_RES_code e))))
  else 0

/-- The loops of a switch are enabled (R212, R213). -/
def State.dvOn (v : State) (sw : Nat) : Bool := natBit (v.f (F.GL_ALOOP_dv_en (sw / 8))) (sw % 8)
def State.dtOn (v : State) (sw : Nat) : Bool := natBit (v.f (F.GL_ALOOP_dt_en (sw / 8))) (sw % 8)

/-- GL_ABND0 and GL_ABND1 of a switch in force: as the latest reload instant of its stage took them, and the registers
while no timebase runs for it (R214; assumption 55, DEDUCED). -/
def State.bounds (v : State) (sw : Nat) : Word × Word :=
  if (v.owner sw).any v.tbRuns then
    (v.lnk[(⟨sw / 8 % 12, by omega⟩ : Link)]).bnd[(⟨sw % 8, by omega⟩ : Fin 8)]
  else (v.reg (A.GL_ABND0 (sw / 8) (sw % 8)), v.reg (A.GL_ABND1 (sw / 8) (sw % 8)))

/-- A field of GL_ABND0, of GL_ABND1, in force (R214). -/
def State.bound0 (v : State) (sw : Nat) (x : Fld) : Nat := getBits (v.bounds sw).1 x.lo x.wd
def State.bound1 (v : State) (sw : Nat) (x : Fld) : Nat := getBits (v.bounds sw).2 x.lo x.wd

/-- The bounds of a switch come into force (R214). -/
def State.takeBounds (s : State) (sw : Nat) : State :=
  let n : Link := ⟨sw / 8 % 12, by omega⟩
  let w := (s.reg (A.GL_ABND0 (sw / 8) (sw % 8)), s.reg (A.GL_ABND1 (sw / 8) (sw % 8)))
  s.setLnk n { s.lnk[n] with bnd := s.lnk[n].bnd.set (sw % 8) w (by omega) }

/-- A dead time within the bounds of its switch and not below the pod interlock (R213, R214). -/
def State.dtBound (v : State) (sw x : Nat) : Nat :=
  max (v.f (F.GL_CFG_ilk (sw / 8)))
    (min (max x (v.bound0 sw (F.GL_ABND0_dt_min (sw / 8) (sw % 8)))) (v.bound0 sw (F.GL_ABND0_dt_max (sw / 8) (sw % 8))))

/-- The dead time of a switch with a leg: the loop's value for the band while its loop runs (R176, R213). -/
def State.deadTime (v : State) (k : Stage) (sw : Nat) : Nat :=
  if v.dtOn sw then v.dtBound sw (v.f (F.GL_AST_dt (sw / 8) (sw % 8) (v.loadBand k sw)))
  else v.f (F.STG_SWCFG_dt sw)

/-- The minimum pulse t_min; below 2000 acts as 2000 (R177, R189). -/
def State.tMin (v : State) (k : Stage) : Nat := max 2000 (v.f (F.STG_TMIN_tmin k))

/-- The drive codes of an edge at its latch: step 1, step 2, delay (R194, R212). -/
def State.driveOf (v : State) (sw : Nat) (on : Bool) (band : Nat) : Nat × Nat × Nat :=
  let n := sw / 8
  let i := sw % 8
  if on then
    (v.f (F.GL_DRV_on_s1 n i),
      if v.dvOn sw then v.f (F.GL_AST_on_s2 n i band) else v.f (F.GL_DRV_on_s2 n i), v.f (F.GL_DRV_on_dly n i))
  else
    (v.f (F.GL_DRV_off_s1 n i),
      if v.dvOn sw then v.f (F.GL_AST_off_s2 n i band) else v.f (F.GL_DRV_off_s2 n i), v.f (F.GL_DRV_off_dly n i))

/-- An edge of a switch at EDGE instant `t`. -/
def State.mkEdge (v : State) (k : Stage) (sw : Nat) (on : Bool) (t : Nat) : Edge :=
  let b := v.loadBand k sw
  let c := v.driveOf sw on b
  ⟨sw, on, t, b, c.1, c.2.1, c.2.2⟩

/-! ### The steps of R174 -/

/-- A switch reached the end of the period on and its first interval starts at 0: no on-edge (R173). -/
def contOf (onEnd : List Nat) (t : IvTable) (sw : Nat) : Bool :=
  onEnd.contains sw && (match t.at sw with
    | [] => false
    | x :: _ => x.1 == 0)

/-- Delay the first on-instant at or after `t0` by `d`; an interval that becomes empty goes (R177). -/
def delayFrom (t0 d : Nat) (cont : Bool) : List (Nat × Nat) → List (Nat × Nat)
  | [] => []
  | x :: t =>
    if t0 ≤ x.1 && !cont then (if x.1 + d < x.2 then (x.1 + d, x.2) :: t else t)
    else x :: delayFrom t0 d false t

/-- Step 2 for one switch: the carry lengthens its first interval, up to the period end or the next interval; the
partner's first on-instant at or after the old off-instant moves by the same amount (R177). Intervals that then touch are one
(R173; assumption 50, DEDUCED). -/
def carryStep (v : State) (onEnd : List Nat) (T : Nat) (x : IvTable × List (Nat × Nat)) (sw : Nat) :
    IvTable × List (Nat × Nat) :=
  match x.1.at sw with
  | [] => x
  | a :: rest =>
    let room := (match rest with
      | [] => T
      | b :: _ => b.1) - a.2
    let add := min (nget x.2 sw) room
    let t1 := x.1.put sw (joinIv ((a.1, a.2 + add) :: rest))
    let t2 := match v.legOf sw with
      | none => t1
      | some p => if add = 0 then t1 else t1.put p (delayFrom a.2 add (contOf onEnd t1 p) (t1.at p))
    (t2, nset x.2 sw (nget x.2 sw - add))

/-- Step 3 for one switch: dead time on every on-instant (R176). -/
def deadStep (d : Nat) (cont : Bool) (l : List (Nat × Nat)) : List (Nat × Nat) :=
  match cont, l with
  | true, x :: t => x :: ((t.map fun y => (y.1 + d, y.2)).filter fun y => decide (y.1 < y.2))
  | _, l => (l.map fun y => (y.1 + d, y.2)).filter fun y => decide (y.1 < y.2)

/-- Step 4 for one switch: short on-intervals go; their number and total length (R177). -/
def shortStep (tmin : Nat) (cont : Bool) (l : List (Nat × Nat)) : List (Nat × Nat) × Nat × Nat :=
  let keep (x : Nat × Nat) : Bool := decide (tmin ≤ x.2 - x.1)
  match cont, l with
  | true, x :: t =>
    (x :: t.filter keep, (t.filter fun y => !keep y).length, (t.filter fun y => !keep y).foldl (fun n y => n + (y.2 - y.1)) 0)
  | _, l => (l.filter keep, (l.filter fun y => !keep y).length,
      (l.filter fun y => !keep y).foldl (fun n y => n + (y.2 - y.1)) 0)

/-- Step 5 within the period: off-intervals shorter than t_min are merged (R178). -/
def mergeStep (tmin : Nat) : List (Nat × Nat) → List (Nat × Nat)
  | [] => []
  | x :: t => match mergeStep tmin t with
    | [] => [x]
    | y :: u => if y.1 - x.2 < tmin then (x.1, y.2) :: u else x :: y :: u

/-- Step 5 at the boundary: the withheld edge of a switch and its first on-edge are removed when the off-interval
between them is short (R178). `ts` is the start of the governed period. -/
def absorbs (tmin ts : Nat) (w : Edge) (l : List (Nat × Nat)) : Bool :=
  match l with
  | [] => false
  | x :: _ => decide (ts + x.1 - w.t < tmin)

/-- An on-edge candidate: instant, switch, off instant. -/
abbrev OnCand := Nat × Nat × Nat

/-- Insert a candidate by instant, then switch. -/
def insCand (x : OnCand) : List OnCand → List OnCand
  | [] => [x]
  | y :: t => if x.1 < y.1 ∨ (x.1 = y.1 ∧ x.2.1 < y.2.1) then x :: y :: t else y :: insCand x t

/-- Step 6 (R179): on-edges in timestamp order against the accepted intervals `acc` (switch, on, off) and the latest
off-edges before the period; `all` are the candidates, for equal timestamps. -/
def ilkStep (v : State) (k : Stage) (ts : Nat) (offs : List (Nat × Nat)) (all : List OnCand) :
    List OnCand → List (Nat × Nat × Nat) → List Nat → List (Nat × Nat × Nat) × List Nat
  | [], acc, dr => (acc, dr)
  | x :: t, acc, dr =>
    let keep := ilkStep v k ts offs all t ((x.2.1, x.1, x.2.2) :: acc) dr
    match v.legOf x.2.1 with
    | none => keep
    | some p =>
      let both := all.any fun y => y.2.1 == p && y.1 == x.1
      let pOn := acc.any fun y => y.1 == p && decide (y.2.1 ≤ x.1) && decide (x.1 < y.2.2)
      let recent (o : Nat) : Bool := decide (ts + x.1 < o + v.deadTime k x.2.1)
      let pOff := (acc.any fun y => y.1 == p && decide (y.2.2 ≤ x.1) && recent (ts + y.2.2)) ||
        (offs.any fun o => o.1 == p && recent o.2)
      if both || pOn || pOff then ilkStep v k ts offs all t acc (x.2.1 :: dr) else keep

/-- Insert an edge by instant, then switch (R180). -/
def insEdge (x : Edge) : List Edge → List Edge
  | [] => [x]
  | y :: t => if x.t < y.t ∨ (x.t = y.t ∧ x.sw < y.sw) then x :: y :: t else y :: insEdge x t

/-- Steps 1 to 6 for the stage's plan over the coming period of `T` taps (R173 to R179). -/
def State.build (v : State) (k : Stage) (p : Plan) (T : Nat) : Built :=
  let g := v.stg[k]
  let ts := g.next
  let tmin := v.tMin k
  let sws := v.switchesOf k
  let t1 : IvTable := sws.map fun sw => (sw, if v.permits k sw then unionOf p sw T else [])
  let carryOn := v.fb (F.STG_TMIN_carry k)
  let c0 := if carryOn then g.carry else []
  let (t2, c1) := sws.foldl (carryStep v g.onEnd T) (t1, c0)
  let t3 : IvTable := t2.map fun x =>
    (x.1, if (v.legOf x.1).isSome then deadStep (v.deadTime k x.1) (contOf g.onEnd t2 x.1) x.2 else x.2)
  let t4 := t3.map fun x => (x.1, shortStep tmin (contOf g.onEnd t3 x.1) x.2)
  let c2 := if carryOn then t4.foldl (fun c x => nset c x.1 (min T (nget c x.1 + x.2.2.2))) c1 else []
  let t5 : IvTable := t4.map fun x => (x.1, mergeStep tmin x.2.1)
  let removed (sw : Nat) : Bool := contOf g.onEnd t5 sw ||
    g.withheld.any fun w => w.sw == sw && absorbs tmin ts w (t5.at sw)
  let joined := g.withheld.filter fun w => !removed w.sw
  let start : List (Nat × Nat × Nat) := t5.flatMap fun x => match removed x.1, x.2 with
    | true, y :: _ => [(x.1, 0, y.2)]
    | _, _ => []
  let cands := (t5.flatMap fun x => ((if removed x.1 then x.2.drop 1 else x.2).map fun y =>
    ((y.1, x.1, y.2) : OnCand))).foldr insCand []
  let offs := joined.foldl (fun l w => nset l w.sw w.t) g.lastOff
  let (acc, dr) := ilkStep v k ts offs cands cands start []
  let ons := (acc.filter fun y => cands.any fun c => c.2.1 == y.1 && c.1 == y.2.1).map fun y =>
    v.mkEdge k y.1 true (ts + y.2.1)
  let offE := acc.filter fun y => !decide (T < y.2.2 + tmin)
  let held := acc.filter fun y => decide (T < y.2.2 + tmin)
  let edges := (joined ++ ons ++ offE.map fun y => v.mkEdge k y.1 false (ts + y.2.2)).foldr insEdge []
  { edges := edges
    withheld := held.map fun y => v.mkEdge k y.1 false (ts + y.2.2)
    onEnd := (held.filter fun y => y.2.2 == T).map (·.1)
    cont := start.map fun y => (y.1, ts + y.2.2)
    carry := c2
    lastOff := (edges.filter fun e => !e.on).foldl (fun l e => nset l e.sw e.t) g.lastOff
    ilk := dr
    short := t4.foldl (fun n x => n + x.2.2.1) 0 }

/-! ### Delivery (R180, R181) -/

/-- The reserve of a link in slots: main switches on it of stages in regulator mode with a truncation enabled (R185). -/
def State.reserve (v : State) (n : Nat) : Nat :=
  stages.foldl (fun (r : Nat) (k : Stage) =>
    if v.fb (F.STG_REG_en k) && (v.fb (F.STG_REG_lim_en k) || v.fb (F.STG_REG_ovs_en k)) then
      r + (([v.f (F.STG_REG_main0 k), v.f (F.STG_REG_main1 k)].eraseDups).filter fun sw => sw / 8 == n).length
    else r) 0

/-- Insert a number in rising order. -/
def insNat (x : Nat) : List Nat → List Nat
  | [] => [x]
  | y :: t => if x ≤ y then x :: y :: t else y :: insNat x t

/-- Length of a command slot and of a symbol in taps (R180, R191). -/
def slotTaps : Nat := 3200
def symTaps : Nat := 320

/-- The earliest free slot start at or after `c` among the taken starts, which rise (R180). -/
def freeSlot (c : Nat) : List Nat → Nat
  | [] => c
  | b :: t => if b + slotTaps ≤ c ∨ c + slotTaps ≤ b then freeSlot c t else freeSlot (b + slotTaps) t

/-- First symbol boundary at or after `t`. -/
def symUp (t : Nat) : Nat := (t + symTaps - 1) / symTaps * symTaps

/-- The command of an edge in the slot at `start` arrives in time with `r` slots in reserve (R181). -/
def State.arrives (v : State) (r start : Nat) (e : Edge) : Bool :=
  decide (start + slotTaps + v.f (F.GL_DLINK_dlink (e.sw / 8)) + r * slotTaps + 1600 ≤ e.t)

/-- Assign slots to the edges in order; none where one of them cannot arrive in time (R180, R181). -/
def State.assign (v : State) (k : Stage) (first : Nat) : List Edge → List Slotted → Option (List Slotted)
  | [], l => some l
  | e :: t, l =>
    let n := e.sw / 8
    let busy := ((l.filter fun x => x.link == n).map (·.start)).foldr insNat []
    let c := freeSlot first busy
    if v.arrives (v.reserve n) c e then v.assign k first t (l ++ [⟨k.val, n, c, e, false⟩]) else none

/-- No three of the instants, which fall, lie within 10 µs (R181). -/
def rateOk : List Nat → Bool
  | a :: b :: c :: t => decide (c + 80000 ≤ a) && rateOk (b :: c :: t)
  | _ => true

/-- The instants of a switch's new edges, latest first, before its assigned ones. -/
def edgeTimes (es : List Edge) (hist : List (Nat × Nat)) (sw : Nat) : List Nat :=
  ((es.filter fun e => e.sw == sw).map (·.t)).reverse ++ (hist.filter fun h => h.1 == sw).map (·.2)

/-- A built plan is deliverable: the slots of all links with its commands (R181). -/
def State.deliverable (v : State) (k : Stage) (trl : Nat) (b : Built) : Option (List Slotted) :=
  if (v.switchesOf k).all fun sw => rateOk (edgeTimes b.edges v.stg[k].hist sw) then
    v.assign k (symUp (trl + 640)) b.edges (v.slots.filter fun x => decide (trl < x.start + slotTaps))
  else none

/-- The two latest edge instants of each switch, kept for the rate rule. -/
def newHist (es : List Edge) (hist : List (Nat × Nat)) (sws : List Nat) : List (Nat × Nat) :=
  sws.flatMap fun sw => ((edgeTimes es hist sw).take 2).map fun t => (sw, t)

end Sys2Proof.Machine
end

