-- ==== Sys2Proof/Machine/SyncOut.lean ====
section
/-! DEFINITION. SYNC_OUT (R51, R58): where a period of the output begins, what takes effect there, and the level of the
ball. -/

namespace Sys2Proof.Machine

/-- The source that CLK_SYNCO_CFG asks for; 14 and 15 act as 0 (R58). -/
def State.syncoWant (s : State) : Nat :=
  if s.f F.CLK_SYNCO_CFG_src < 14 then s.f F.CLK_SYNCO_CFG_src else 0

/-- High time in taps that the registers ask for: the width of a stage's pulse, at least 2 REF cycles, or half the
divider's period (R58). -/
def State.syncoHigh (s : State) : Nat :=
  if s.syncoWant = 13 then max 1 (s.f F.CLK_SYNCO_DIV_div / 2) * refTaps else max 2 (s.f F.CLK_SYNCO_CFG_width) * refTaps

/-- One tap towards the new delay; an output that starts takes the new delay whole. While Mandrel is not locked the delay is
held, of an output that is off too (R47, R51). -/
def State.syncoPhase (s : State) : Nat :=
  let want := s.f F.CLK_SYNCO_CFG_phase
  let now := s.synco.phase
  if !s.fb F.CLK_STAT_lock then now
  else if s.synco.src = 0 then want
  else if now < want then now + 1 else if want < now then now - 1 else now

/-- The output is off; the tap multiplexer keeps its last delay (R47, R51). -/
def State.syncoOff (s : State) : State := { s with synco := { SyncO.init with phase := s.synco.phase } }

/-- A SYNC_OUT period ends at the EDGE instant `t`: changes of source, divider and width apply, and the next period
begins if the source in force has its boundary there (R51). -/
def State.syncoPeriod (s : State) (t : Nat) : State :=
  let want := s.syncoWant
  if want = 0 then s.syncoOff
  else
    { s with synco := {
        src := want,
        start := if s.synco.src = want ∨ s.synco.src = 0 ∨ want = 13 then some t else none,
        high := s.syncoHigh,
        len := max 1 (s.f F.CLK_SYNCO_DIV_div / 2) * 2 * refTaps,
        phase := s.syncoPhase } }

/-- The high phase of the current period is over, or none has begun (R51). -/
def State.syncoDone (s : State) : Bool :=
  match s.synco.start with
  | none => true
  | some t => decide (t + s.synco.phase + s.synco.high ≤ s.etime)

/-- The period of stage `k` starts at `t`: a boundary of SYNC_OUT where that stage is its source (R51). -/
def State.syncoStage (s : State) (k : Stage) (t : Nat) : State :=
  if s.synco.src = k.val + 1 ∨ (s.synco.src = 0 ∧ s.syncoWant = k.val + 1) then s.syncoPeriod t else s

/-- The source in force has ended without a boundary: switched off with its high phase complete, or a stage whose
timebase has stopped (R51). -/
def State.syncoEnds (s : State) : Bool :=
  s.syncoDone && (s.syncoWant == 0 || (s.synco.src != s.syncoWant && s.synco.src != 13 &&
    stages.all fun k => s.synco.src != k.val + 1 || !s.tbRuns k))

/-- A REF cycle of SYNC_OUT: the divider's boundary, its start, or the end of an output that is switched off (R51).
Enabled from off, the first period of REF ÷ div begins at the next REF cycle: the spec gives the divider no phase (R51;
assumption 48, DESIGN CHOICE). -/
def State.syncoCycle (s : State) : State :=
  if s.synco.src ≠ 0 ∧ s.syncoEnds then s.syncoOff
  else if s.synco.src = 0 then (if s.syncoWant = 13 ∧ s.eRun then s.syncoPeriod s.etime else s)
  else if s.synco.src = 13 then
    match s.synco.start with
    | none => s
    | some t => if t + s.synco.len ≤ s.etime then s.syncoPeriod (t + s.synco.len) else s
  else s

/-- The level of the ball SYNC_OUT, apart from its output delay (R51). -/
def State.syncoLevel (s : State) : Bool :=
  match s.synco.start with
  | none => false
  | some t => decide (t + s.synco.phase ≤ s.etime) && !s.syncoDone

end Sys2Proof.Machine
end

