-- ==== Sys2Proof/Machine/Stages.lean ====
section
/-! DEFINITION. A stage's periods: sampling, latching and streaming at the reload instant (R166, R173 to R182, R458), period
starts, hiccup (R186), synchronisation (R169, R170), start and stop (R168, R182, R189), windows (R138 to R142). -/

namespace Sys2Proof.Machine

/-! ### Staged register words -/

/-- The loop state of a context takes new open bits and collects the transitions (R218, R220). -/
def State.setOpen (s : State) (k : Stage) (o : Nat) : State :=
  let c := s.ctx[ctxOf k]
  s.setCtx (ctxOf k) { c with
    openF := o, closedT := Nat.lor c.closedT (Nat.land c.openF (Nat.xor 15 o)),
    openedT := Nat.lor c.openedT (Nat.land o (Nat.xor 15 c.openF)) }

/-- The stage whose LTH_LOOP lies at this address. -/
def loopStage (a : Nat) : Option Stage := stages.find? fun k => A.LTH_LOOP (kn k) (kc k) == a

/-- The stage whose STG_REG lies at this address. -/
def regStage (a : Nat) : Option Stage := stages.find? fun k => A.STG_REG k == a

/-- STG_REG.ss has been cleared by a write: soft start ends and the retries clear; in HICCUP the stage will resume with
lim_cmp (R186, R266, R269). -/
def State.ssCleared (s : State) (k : Stage) : State :=
  (s.put (F.STG_REGSTAT_retries k) 0).setStg k { s.stg[k] with hicLim := s.stgSt k == stHiccup }

/-- A word takes effect under its mask: memory whole, also where a loop has closed over it since a SETPOINT to it was
accepted, of which R71 and R252 say nothing (assumption 80, DESIGN CHOICE); a cleared STG_REG.ss ends soft start (R6,
R186). -/
def State.applyWord (s : State) (a : Nat) (val mask : Word) : State :=
  if 0x100000 ≤ a then s.setMw a val
  else
    let s1 := s.setReg a ((s.reg a &&& ~~~mask) ||| (val &&& mask))
    match regStage a with
    | some k => if s.fb (F.STG_REG_ss k) && !s1.fb (F.STG_REG_ss k) then s1.ssCleared k else s1
    | none => s1

/-- The loop state of the context whose LTH_LOOP lies at an address takes the open bits that the register has now (R218). -/
def State.takeOpen (s : State) (a : Nat) : State :=
  match loopStage a with
  | some k => s.setOpen k (getBits (s.reg a) 4 4)
  | none => s

/-- The W1C and WO bits of a stage word act where the word takes effect: bits of STG_EVT clear, STG_TBLCTL clears bands and
its counts (R188, R229, R232, R370). -/
def State.actWord (s : State) (a : Nat) (v : Word) : State :=
  let m := (((regRow? a).map (·.w1c)).getD 0)
  let s1 := if m = 0 then s else s.setReg a (s.reg a &&& ~~~(v &&& BitVec.ofNat 32 m))
  match stages.find? fun (k : Stage) => A.STG_TBLCTL k == a with
  | some k =>
    let s2 := if getBits v 8 4 = 0 then s1 else s1.tblClear k (getBits v 8 4)
    if natBit v.toNat 12 then s2.setReg (A.STG_TBLSTAT k) 0 else s2
  | none => s1

/-- At the reload instant, every word of the stage that arrived before the guard window is sampled (R166). -/
def State.sampleStage (s : State) (k : Stage) : State :=
  { s with staged := s.staged.map fun w =>
      if w.stage = k.val then (if w.late then { w with late := false } else { w with sampled := true }) else w }

/-- The state with the sampled words of a stage in force: what governs the coming period. -/
def State.view (s : State) (k : Stage) : State :=
  (s.staged.filter fun w => w.stage == k.val && w.sampled).foldl (fun s w => s.applyWord w.addr w.val w.mask) s

/-- A set-point that must not be written any more: the mode rules are judged again at the boundary (R252). -/
def State.lapsed (s : State) (w : Staged) : Bool :=
  (s.mode == mSafeStop || s.mode == mHoldup) &&
    s.cmds.any fun c => w.cmd == some c.id && (c.op == opSetpoint || c.op == opSetGroup)

/-- The chosen words take effect, the last one of a register counting (R218); commands whose last word this was complete
(R6, R166, R252, R370). -/
def State.applyStaged (s : State) (p : Staged → Bool) : State :=
  let ids := (s.staged.filter fun w => p w && s.lapsed w).filterMap (·.cmd)
  let s1 := s.endWith fun c => ids.contains c.id
  let ws := s1.staged.filter p
  let s2 := ws.foldl (fun s w => s.takeOpen w.addr)
    (ws.foldl (fun s w => (s.applyWord w.addr w.val w.mask).actWord w.addr w.val) s1)
  ({ s2 with staged := s2.staged.filter fun w => !p w }).settle

/-! ### Stage conditions -/

/-- Set a bit of STG_EVT with EV(12 + k) (R188). -/
def State.stgEvt (s : State) (k : Stage) (b : Nat) : State := s.src ⟨A.STG_EVT k, b, 1⟩ (12 + k.val)

/-! ### Period lengths -/

/-- STG_PER with the words already accepted for the next reload instant. -/
def State.perAhead (s : State) (k : Stage) : Nat :=
  (s.staged.filter fun w => w.stage == k.val && w.addr == A.STG_PER k && !w.late).foldl
    (fun _ w => getBits w.val 0 26) (s.f (F.STG_PER_per k))

/-- φ × T, rounded to the nearest tap (R96, R169, R170). -/
def State.phaseOf (s : State) (k : Stage) (T : Nat) : Nat := (rshRound (s.f (F.STG_SYNC_phase k) * T) 16).toNat

/-- The ring predecessor of a stage (R169). -/
def leaderOf (k : Stage) : Stage := ⟨(k.val + 11) % 12, by omega⟩

/-- The period starts of a stage that are fixed: of its current period, of the coming one, and once its reload instant has
passed of the one after that (R166). -/
def State.fixedStarts (s : State) (k : Stage) : List Nat :=
  let g := s.stg[k]
  [g.ts, g.next] ++ if g.latched then [g.next + s.tNext k] else []

/-- The starts that a leader's period starts `l`, of its periods from number `num` on, give follower k: t_L + φ × T_L, each
with the number of the leader's period (R169). -/
def State.followStarts (s : State) (k : Stage) (num : Nat) (l : List Nat) : List (Nat × Nat) :=
  ((l.zip (l.drop 1)).zipIdx).map fun x => (num + x.2, x.1.1 + s.phaseOf k (x.1.2 - x.1.1))

/-- Period starts of a stage from its current period on: the fixed ones, then `m` more with the lengths in force now; for a
ring follower those that its leader's give, `fuel` leaders deep (R169, R374; assumption 22, DEDUCED). -/
def State.starts (s : State) (m : Nat) : Nat → Stage → List Nat
  | 0, k => s.fixedStarts k
  | fuel + 1, k =>
    let fx := s.fixedStarts k
    let last := fx.getLastD 0
    if s.f (F.STG_SYNC_src k) = 1 then
      fx ++ ((((s.followStarts k s.stg[leaderOf k].num (s.starts (m + 2) fuel (leaderOf k))).filter fun x =>
        decide (s.stg[k].ringL < x.1) && decide (last < x.2)).map (·.2)).take m)
    else fx ++ (List.range m).map fun i => last + (i + 1) * s.perAhead k

/-- The follower's period starts, with the numbers of the leader's periods that they follow (R169). -/
def State.ringStarts (s : State) (k : Stage) : List (Nat × Nat) :=
  s.followStarts k s.stg[leaderOf k].num (s.starts 3 12 (leaderOf k))

/-- The end of the follower's coming period: the start that the leader's period after the one it follows gives (R169). -/
def State.ringNext (s : State) (k : Stage) : Nat × Nat :=
  let g := s.stg[k]
  ((s.ringStarts k).find? fun x => decide (g.ringL < x.1) && decide (g.next < x.2)).getD (g.ringL + 1, g.next + g.tn)

/-- The length of period `num` of stage k is fixed: it begins at `ts` and lasts `len`. A follower whose latest fixed start
follows that period takes the exact place t_L + φ × T_L, where a write of STG_PER has come between its reload instant and the
leader's, and its own followers after it, `fuel` of them, as long as their reload instant for that start lies ahead (R169;
assumption 22, DEDUCED). -/
def State.ringFix (s : State) (num ts len : Nat) : Nat → Stage → State
  | 0, _ => s
  | fuel + 1, k =>
    let j : Stage := ⟨(k.val + 1) % 12, by omega⟩
    let g := s.stg[j]
    let t := ts + s.phaseOf j len
    if s.f (F.STG_SYNC_src j) = 1 ∧ s.tbRuns j ∧ g.ringL = num ∧ s.etime + leadTaps ≤ t then
      if g.latched then
        if g.next < t then
          (s.put (F.STG_PER_NEXT_per j) (t - g.next)).ringFix (g.num + 1) g.next (t - g.next) fuel j
        else s
      else if g.ts < t then
        (s.setStg j { g with tn := t - g.ts }).ringFix g.num g.ts (t - g.ts) fuel j
      else s
    else s

/-- The error e reduced into −T/2 to +T/2 (R170). -/
def centred (x : Int) (T : Nat) : Int :=
  let r := x % (T : Int)
  if (T : Int) < 2 * r then r - T else r

/-- The limit of a correction, STG_SYNC.slew × STG_PER ÷ 4096 (R170, R189). -/
def State.slewLim (s : State) (k : Stage) : Int :=
  ((min 128 (max 1 (s.f (F.STG_SYNC_slew k))) * s.f (F.STG_PER_per k) / 4096 : Nat) : Int)

/-- sync_lock after a period with error `e` (R170). -/
def State.syncNote (s : State) (k : Stage) (e : Int) : State :=
  let n := if e.natAbs ≤ 2 then min 16 (s.stg[k].syncN + 1) else 0
  let s1 := s.setStg k { s.stg[k] with syncN := n }
  if n = 16 then s1.put (F.STG_STAT_sync_lock k) 1
  else if 8 < e.natAbs then s1.put (F.STG_STAT_sync_lock k) 0 else s1

/-- The length of the coming period, fixed at the reload instant, from the sampled fields `v` (R166, R169, R170). -/
def State.fixLen (s v : State) (k : Stage) : Nat × State :=
  let per := v.f (F.STG_PER_per k)
  let g := s.stg[k]
  match v.f (F.STG_SYNC_src k) with
  | 0 => (per, s)
  | 1 => ((s.ringNext k).2 - g.next, s.setStg k { g with ringL := (s.ringNext k).1 })
  | _ => match g.src with
    | some c =>
      let e := centred (((c + v.phaseOf k per : Nat) : Int) - g.next) per
      let lim := v.slewLim k
      ((per + clampInt (-lim) lim e).toNat, ({ s with stg := s.stg.set k { g with src := none, srcAge := 0 } }).syncNote k e)
    | none => (per, s.setStg k { g with srcAge := max g.srcAge (min 16 (g.srcAge + 1)) })

/-! ### Latching -/

/-- Loop states outside their bounds are limited to them at the reload instant (R214). -/
def State.boundLoop (s : State) (sw : Nat) (dv dt : Bool) : State :=
  let n := sw / 8
  let i := sw % 8
  [0, 1, 2, 3].foldl (fun s b =>
    let s1 := if dv then
        (s.put (F.GL_AST_on_s2 n i b) (min (max (s.f (F.GL_AST_on_s2 n i b)) (s.bound1 sw (F.GL_ABND1_src_min n i)))
          (s.bound1 sw (F.GL_ABND1_src_max n i)))).put (F.GL_AST_off_s2 n i b)
            (min (max (s.f (F.GL_AST_off_s2 n i b)) (s.bound1 sw (F.GL_ABND1_snk_min n i)))
              (s.bound1 sw (F.GL_ABND1_snk_max n i)))
      else s
    if dt then s1.put (F.GL_AST_dt n i b) (s1.dtBound sw (s1.f (F.GL_AST_dt n i b))) else s1) s

/-- The codes of GL_DRV and the dead time of STG_SWCFG as a band state, within their bounds (R211 to R214). -/
def State.loopWord (v : State) (n i : Nat) : Word :=
  let sw := 8 * n + i
  let on := min (max (v.f (F.GL_DRV_on_s2 n i)) (v.bound1 sw (F.GL_ABND1_src_min n i))) (v.bound1 sw (F.GL_ABND1_src_max n i))
  let off := min (max (v.f (F.GL_DRV_off_s2 n i)) (v.bound1 sw (F.GL_ABND1_snk_min n i)))
    (v.bound1 sw (F.GL_ABND1_snk_max n i))
  BitVec.ofNat 32 (on + 16 * off + 65536 * v.dtBound sw (v.f (F.STG_SWCFG_dt sw)))

/-- The band states of a switch start from GL_DRV and STG_SWCFG, within their bounds, with no sums: at reset, and where an
adaptive loop is enabled (R211 to R214). `dv` and `dt` say which loops start. -/
def State.loopInit (s : State) (n : Link) (i : Nat) (dv dt : Bool) : State :=
  let w := s.loopWord n i
  let m : Word := (if dv then 0xFF else 0) ||| (if dt then 0xFFFF0000 else 0)
  let s1 := [0, 1, 2, 3].foldl (fun s b => s.mergeReg (A.GL_AST n i b) w m) s
  let l := s1.lnk[n]
  s1.setLnk n { l with
    dv := if dv then l.dv.filter fun x => x.1 / 16 != i else l.dv
    dt := if dt then l.dt.filter fun x => x.1 / 4 != i else l.dt }

/-- The reload instant takes the bounds of a switch and limits the states of its loops to them (R214). -/
def State.reloadLoop (s : State) (sw : Nat) : State :=
  (s.takeBounds sw).boundLoop sw (s.dvOn sw) (s.dtOn sw)

/-- The short on-intervals and the interlock drops of a built plan: counts, event, class C (R177, R179). -/
def State.noteDrops (s : State) (k : Stage) (b : Built) : State :=
  let s1 := s.put (F.STG_DROP_tmin k) (satAdd 16 (s.f (F.STG_DROP_tmin k)) b.short)
  b.ilk.foldl (fun s sw => ((s.bump (F.STG_DROP_ilk k)).stgEvt k 2).report (0x6100 + k.val) .C (BitVec.ofNat 32 sw)) s1

/-- What streaming a built plan leaves: slots, counts, withheld edges, main-switch intervals, of which one that continues
over the boundary is lengthened (R173 to R183). -/
def State.stream (s v : State) (k : Stage) (p : Plan) (b : Built) (slots : List Slotted) : State :=
  let g := s.stg[k]
  let mains := [v.f (F.STG_REG_main0 k), v.f (F.STG_REG_main1 k)]
  let isMain (sw : Nat) : Bool := v.fb (F.STG_REG_en k) && mains.contains sw
  let offAt (sw t : Nat) : Nat := (((b.edges ++ b.withheld).find? fun e => e.sw == sw && !e.on && decide (t < e.t)).map
    (·.t)).getD (g.next + s.tNext k)
  let ons := b.edges.filter fun e => e.on && isMain e.sw
  let on (x : Nat × Nat × Nat) : Nat × Nat × Nat := match b.cont.find? fun c => c.1 == x.1 with
    | some c => if g.next ≤ x.2.2 + v.tMin k then (x.1, x.2.1, c.2) else x
    | none => x
  let s1 := { s with slots := slots, stg := s.stg.set k { g with
    withheld := b.withheld, onEnd := b.onEnd, carry := b.carry, lastOff := b.lastOff,
    hist := newHist b.edges g.hist (v.switchesOf k), cur := p,
    mainIv := g.mainIv.map on ++ ons.map (fun (e : Edge) => (e.sw, e.t, offAt e.sw e.t)),
    mainOn := (g.mainOn.filter fun t => decide (g.ts ≤ t + 160 * 256)) ++ ons.map (fun (e : Edge) => e.t) } }
  s1.noteDrops k b

/-- What the latch of an all-off plan ends: a stop becomes READY; a hiccup becomes HICCUP (R182, R186). -/
def State.allOffDone (s : State) (k : Stage) (stop hic : Bool) : State :=
  if stop then
    (s.put (F.STG_STAT_st k) stReady).setStg k { s.stg[k] with
      stopReq := false, stopLate := false, carry := [], hicArm := false, hicDone := false, hicEnd := none }
  else if hic then
    (((s.put (F.STG_STAT_st k) stHiccup).setStg k { s.stg[k] with
      hicArm := false, hicDone := false, hicEnd := none, hicLim := false }).stgEvt k 3).report (0x6200 + k.val) .C 0
  else s

/-- Latch plan `p` of a switching stage (R174, R181, R458). Where it does not stream, steps 1 to 6 are done, with their carries
and drops, but no switch is on and no edge is sent or withheld. -/
def State.latchPlan (s v : State) (k : Stage) (p : Plan) (stop hic : Bool) : State :=
  let g := s.stg[k]
  let T := s.tNext k
  let trl := g.next - leadTaps
  let b := v.build k p T
  if !s.linksEn k then
    ((s.setStg k { g with cur := p, prevPlan := [], repNext := false, carry := b.carry }).noteDrops k b).allOffDone k stop hic
  else
    match v.deliverable k trl b with
    | some slots =>
      let s1 := s.stream v k p b slots
      (s1.setStg k { s1.stg[k] with prevPlan := p, repNext := false }).allOffDone k stop hic
    | none =>
      let b' := v.build k g.prevPlan T
      match v.deliverable k trl b' with
      | some slots =>
        let s1 := s.stream v k g.prevPlan b' slots
        (((s1.setStg k { s1.stg[k] with repNext := true }).bump (F.STG_LATE_PLAN_count k)).stgEvt k 0).report
          (0x6000 + k.val) .C 0
      | none => (s.stgEvt k 1).report (0x2500 + k.val) .B 0

/-- The ramps that have arrived at a reload instant: blk + 2 reads 1 and blk + 1 equals the commanded value (R252). -/
def State.rampDone (s : State) (t : Track) : Bool :=
  s.mw (t.blk + 8) == 1 && s.mw (t.blk + 4) == t.val

/-- Ramps of this stage that have arrived end; a command completes when its last one has (R252, R376). -/
def State.rampsAt (s : State) (k : Stage) : State :=
  (s.cmds.filter fun c => c.ph == .ramping && c.tracks.any fun t => t.stage == k.val).foldl (fun s c =>
    let left := c.tracks.filter fun t => !(t.stage == k.val && s.rampDone t)
    if left.isEmpty then s.finish c.id c.res c.part c.cause c.word [] else s.updCmd c.id fun c => { c with tracks := left }) s

/-- The off-edges of the main switches with the band and codes that the reload instant fixes (R19, R183). -/
def State.mainEdges (v : State) (k : Stage) : List Edge :=
  if v.fb (F.STG_REG_en k) then
    ([v.f (F.STG_REG_main0 k), v.f (F.STG_REG_main1 k)].filter fun sw => decide (sw < 96)).map fun sw => v.mkEdge k sw false 0
  else []

/-- run, set inside the guard window of the reload instant that has now passed: a stop that this instant has sampled has
been carried out or withdrawn, and the stage switches from here, so that the next instant latches its plan (R166, R168). -/
def State.runLateDone (s : State) (k : Stage) : State :=
  if s.stg[k].runLate then
    (if s.stgSt k = stReady then s.put (F.STG_STAT_st k) stSwitching else s).setStg k
      { s.stg[k] with runLate := false, stopReq := false, stopLate := false }
  else s

/-- The next period of stage k gets its length, and with it the fixed starts of the followers (R168, R169). -/
def State.lenStage (s : State) (k : Stage) : State :=
  let (T, s1) := s.fixLen (s.view k) k
  (s1.put (F.STG_PER_NEXT_per k) T).ringFix (s1.stg[k].num + 1) s1.stg[k].next T 11 k

/-- What the schedulers of stage k read at its reload instant, `t` being the state with the next period's length (R166). -/
def State.lenView (s t : State) (k : Stage) : State :=
  ((s.view k).setStg k t.stg[k]).put (F.STG_PER_NEXT_per k) (t.f (F.STG_PER_NEXT_per k))

/-- The adaptive loops of the switches `l` take the values that they have at a reload instant (R211, R212). -/
def State.reloadLoops (s : State) (l : List Nat) : State := l.foldl (fun s sw => s.reloadLoop sw) s

/-- The stage's own record at its reload instant, `v` being what it reads; a hiccup that is over ends (R124, R175, R186). -/
def State.latchOwn (s v : State) (k : Stage) (resume : Bool) : State :=
  let g := s.stg[k]
  let s1 := s.setStg k { g with
    latched := true, comm := Vector.replicate 2 false, com := g.held.getD g.com, held := none,
    stopLate := false, mainDrv := v.mainEdges k, maskN := #v[v.maskEff k 0, v.maskEff k 1, v.maskEff k 2],
    hicDone := g.hicDone && !resume, hicEnd := if resume then none else g.hicEnd }
  if resume then s1.put (F.STG_STAT_st k) stSwitching else s1

/-- The reload instant of a stage (R17, R166, R169, R173 to R182). -/
def State.reload (s0 : State) (k : Stage) : State :=
  let s := (s0.toInstant (s0.reloadAt k)).sampleStage k
  let s1 := s.lenStage k
  let v0 := s.lenView s1 k
  let sws := v0.switchesOf k
  let v := v0.reloadLoops sws
  let s2 := s1.reloadLoops sws
  let g := s2.stg[k]
  let stop := g.stopReq && !g.stopLate
  let s3 := s2.latchOwn v k (s2.stgSt k == stHiccup && g.hicDone && !stop)
  let p := if stop || g.hicArm || s3.stgSt k == stHiccup then [] else g.com
  let s4 := if s3.switching k && (stop || !g.runLate) then s3.latchPlan v k p stop g.hicArm else s3
  (s4.runLateDone k).rampsAt k

/-! ### Period starts and hiccup -/

/-- The first current-limit truncation of a period makes it a limited one: it counts, and at the limit of the count the
stage goes to HICCUP at its next reload instant, or its retries are exhausted (R186). -/
def State.limitNote (s : State) (k : Stage) : State :=
  if s.stg[k].limited then s
  else
    let n := s.stg[k].limN + 1
    let s1 := (s.put (F.STG_REGSTAT_lim_cnt k) (min 63 n)).setStg k { s.stg[k] with limited := true, limN := n }
    if n = s.f (F.STG_HIC_n k) + 1 then
      if s.f (F.STG_REGSTAT_retries k) < s.f (F.STG_HIC_m k) then
        s1.setStg k { s1.stg[k] with hicArm := s.stgSt k == stSwitching }
      else (s1.stgEvt k 4).report (0x2700 + k.val) .B 0
    else s1

/-- The end of a period: one without a current-limit truncation resets the count (R186). -/
def State.limitCheck (s : State) (k : Stage) : State :=
  if s.stg[k].limited then s.setStg k { s.stg[k] with limited := false }
  else (s.put (F.STG_REGSTAT_lim_cnt k) 0).setStg k { s.stg[k] with limN := 0 }

/-- The leader of a ring sends a carrier phase word at each period start of its source stage; its late field, the delay to
the ball, is open (R400, R401). -/
def State.carrierPhase (s : State) (k : Stage) (tn : Nat) : State :=
  if s.fb F.PRT_PCFG_en && s.f F.PRT_PCFG_pos == 0 && s.f F.PRT_PCFG_stg == k.val then
    let (late, s1) := s.freshN
    { s1 with peerSeq := (s1.peerSeq + 1) % 64 }.emit
      (.peer 1 (leBytes late 2 ++ leBytes (tn % 2 ^ 26 + 2 ^ 26 * s1.peerSeq) 4))
  else s

/-- A new period begins under the latched values (R166, R189). -/
def State.periodStart (s0 : State) (k : Stage) : State :=
  let s := (s0.toInstant s0.stg[k].next).limitCheck k
  let g := s.stg[k]
  let ts := g.next
  let tn := s.tNext k
  let arm := s.stgSt k == stHiccup && g.hicEnd.isNone && !g.hicDone
  let s1 := s.setStg k { g with
    ts := ts, tn := tn, latched := false, num := g.num + 1,
    hicEnd := if arm then some (ts + 800000 * max 1 (s.f (F.STG_HIC_t_hic k))) else g.hicEnd,
    mainIv := g.mainIv.filter fun x => decide (ts < x.2.2) }
  let s2 := ((s1.setReg (A.STG_PSTART_LO k) (loWord ts)).setReg (A.STG_PSTART_HI k) (hiWord ts)).putB
    (F.STG_STAT_plan_rep k) g.repNext
  let s3 := ((s2.setReg (A.STG_MASKEFF k 0) g.maskN[0]).setReg (A.STG_MASKEFF k 1) g.maskN[1]).setReg
    (A.STG_MASKEFF k 2) g.maskN[2]
  ((s3.applyStaged fun w => w.stage == k.val && w.sampled).carrierPhase k tn).syncoStage k ts

/-- PERIOD_START (R166). -/
def execPeriodStart (k : Stage) (s : State) : Res :=
  .next (if s.tbRuns k && s.stg[k].latched then s.periodStart k else s)

/-- T_hic expires: ss set and a retry counted, unless ss was cleared during HICCUP (R269); lim_cnt cleared; the stage
resumes at the next reload instant (R186). -/
def execHiccupEnd (k : Stage) (s : State) : Res :=
  .next (match s.stgSt k == stHiccup, s.stg[k].hicEnd with
    | true, some t =>
      let s1 := s.toInstant t
      let s2 := if s1.stg[k].hicLim then s1
        else (s1.put (F.STG_REG_ss k) 1).put (F.STG_REGSTAT_retries k) (min 15 (s1.f (F.STG_REGSTAT_retries k) + 1))
      (s2.put (F.STG_REGSTAT_lim_cnt k) 0).setStg k { s1.stg[k] with
        hicDone := true, hicEnd := none, hicLim := false, limN := 0 }
    | _, _ => s)

/-- A missing synchronisation source: sync_lock clears, sync_miss, class C (R170, R188). -/
def State.syncMiss (s : State) (k : Stage) : State :=
  ((s.put (F.STG_STAT_sync_lock k) 0).stgEvt k 6).report (0x6300 + k.val) .C 0

/-- SYNC_MISS: 16 periods without a source event (R170). -/
def execSyncMiss (k : Stage) (s : State) : Res :=
  .next (
    if s.tbRuns k && decide (2 ≤ s.f (F.STG_SYNC_src k)) && s.stg[k].srcAge == 16 then
      (s.setStg k { s.stg[k] with srcAge := 17, syncN := 0 }).syncMiss k
    else s)

/-- A source event of instant `c`, which arrives at `arr`, reaches every stage that follows source `src`; a starting stage
takes one that arrives after its start was asked for (R170). -/
def State.syncEvent (s : State) (src c arr : Nat) : State :=
  stages.foldl (fun (s : State) (k : Stage) =>
    if s.f (F.STG_SYNC_src k) = src ∧ s.stgSt k ≠ stOff then
      match s.stg[k].starting with
      | some t => if t < arr then s.setStg k { s.stg[k] with src := some c, srcAge := 0 } else s
      | none => s.setStg k { s.stg[k] with src := some c, srcAge := 0 }
    else s) s

/-! ### Start and stop -/

/-- The first EDGE time that is a whole multiple of 10 REF cycles at or after `t` (R168). -/
def tenCycles (t : Nat) : Nat := (t + 319) / 320 * 320

/-- The first start instant `c` + m × `per` at or after `t`: where the target of the first event lies too early, whole periods
are added to it; R170 does not say whether the next event's target is meant instead (R170; assumption 81, DESIGN CHOICE). -/
def firstFrom (c per t : Nat) : Nat := if t ≤ c then c else c + (t - c + per - 1) / per * per

/-- The instant at which a starting stage begins period 0, its length, whether its source is missing, and the leader's
period that period 1 follows (R168 to R170). -/
def State.startAt (s : State) (k : Stage) (t0 : Nat) : Nat × Nat × Bool × Nat :=
  let per := s.perAhead k
  let t1 := t0 + 8000
  match s.f (F.STG_SYNC_src k) with
  | 0 => (tenCycles t1, per, false, 0)
  | 1 =>
    let l := s.starts 3 12 (leaderOf k)
    let len := l.getLastD 0 - l.dropLast.getLastD 0
    match (s.ringStarts k).filter fun x => decide (t1 ≤ x.2) with
    | a :: b :: _ => (a.2, b.2 - a.2, false, b.1)
    | [a] => (a.2, len, false, a.1 + 1)
    | [] =>
      let x := (s.ringStarts k).getLastD (0, 0)
      let t := firstFrom x.2 len t1
      (t, len, false, x.1 + (t - x.2) / len + 1)
  | _ => match s.stg[k].src with
    | some c => (firstFrom (c + s.phaseOf k per) per t1, per, false, 0)
    | none => (tenCycles (t0 + 16 * per), per, true, 0)

/-- TIMEBASE_START: period 0 of a started stage begins (R168 to R170). -/
def execTimebaseStart (k : Stage) (s : State) : Res :=
  .next (match s.stg[k].starting with
    | none => s
    | some t0 =>
      let (t, len, miss, l) := s.startAt k t0
      let s0 := (s.toInstant t).applyStaged fun w => w.stage == k.val
      let s1 := (s0.switchesOf k).foldl (fun (s : State) sw => s.takeBounds sw) s0
      let s2 := s1.setStg k { s1.stg[k] with
        ts := t, tn := len, latched := false, starting := none, t0 := t, winEnd := none, winDue := false,
        carry := [], withheld := [], onEnd := [], prevPlan := [], hist := [], src := none, srcAge := 0, syncN := 0,
        comm := Vector.replicate 2 false, runLate := false, limited := false, limN := 0, mainIv := [], mainOn := [], mainDrv := [], num := 0, ringL := l }
      let s3 := ((((s2.put (F.STG_PER_NEXT_per k) len).setReg (A.STG_PSTART_LO k) (loWord t)).setReg
        (A.STG_PSTART_HI k) (hiWord t)).carrierPhase k len).syncoStage k t
      if miss then (s3.setStg k { s3.stg[k] with srcAge := 17 }).syncMiss k else s3)

/-- The open bit of loop 0 after the waiting words that `p` picks: the last one counts (R218). -/
def State.openAfter (s : State) (k : Stage) (p : Staged → Bool) (b : Bool) : Bool :=
  (s.staged.filter fun w => w.addr == A.LTH_LOOP (kn k) (kc k) && natBit w.mask.toNat 4 && p w).foldl
    (fun _ w => natBit w.val.toNat 4) b

/-- An opening of loop 0 is pending: it is closed in force, or will be at a boundary, and the words that wait open it at the
coming boundary or at one after that (R218, R219). -/
def State.openingPending (s : State) (k : Stage) : Bool :=
  let b0 := natBit s.ctx[ctxOf k].openF 0
  let b1 := s.openAfter k (fun w => w.sampled) b0
  let b2 := s.openAfter k (fun w => !w.sampled && !w.late) b1
  let b3 := s.openAfter k (fun w => !w.sampled && w.late) b2
  (!b0 && b1) || (!b1 && b2) || (!b2 && b3)

/-- A comparator that a stage watches must exist and trip no stage (R175, R183). -/
def State.watchable (s : State) (c : Nat) : Bool := decide (c < 24) && s.f (F.CMP_CFG_stg c) == 15

/-- A main switch is owned by the stage and has no partner (R182, Regulator mode). -/
def State.mainOk (s : State) (k : Stage) (sw : Nat) : Bool :=
  sw == 127 || (s.owns k sw && s.f (F.STG_SWCFG_partner sw) == 127)

/-- The argument rules of a start: legs, commutation events, regulator, links and interlock (R168, R172, R175, R183,
R184, R205). -/
def State.startArgs (s : State) (k : Stage) : Bool :=
  (s.switchesOf k).all (fun sw =>
    let n := sw / 8
    let leg := (s.legOf sw).isSome
    (s.f (F.STG_SWCFG_partner sw) == 127 || leg) && s.fb (F.GL_CTL_en n) &&
      (!leg || (decide (s.f (F.GL_CFG_ilk n) ≤ s.f (F.STG_SWCFG_dt sw)) &&
        (!s.dtOn sw || decide (s.f (F.GL_CFG_ilk n) ≤ s.f (F.GL_ABND0_dt_min n (sw % 8))))))) &&
  [0, 1].all (fun j => !s.fb (F.STG_MEV_en k j) || s.watchable (s.f (F.STG_MEV_cmp k j))) &&
  (!s.fb (F.STG_REG_en k) ||
    (s.mainOk k (s.f (F.STG_REG_main0 k)) && s.mainOk k (s.f (F.STG_REG_main1 k)) &&
      (!s.fb (F.STG_REG_lim_en k) ||
        (s.watchable (s.f (F.STG_REGCMP_lim_cmp k)) && s.watchable (s.f (F.STG_REGCMP_ss_cmp k)))) &&
      (!s.fb (F.STG_REG_ovs_en k) || s.watchable (s.f (F.STG_REGCMP_ovs_cmp k)))))

/-- Every entry bound to the stage is scanned, and entries 14 and 15 of its ADC are (R134). -/
def State.scanArgs (s : State) (k : Stage) : Bool :=
  (s.boundEntries k).all fun e => s.scanned e && s.scanned (16 * (e.val / 16) + 14) && s.scanned (16 * (e.val / 16) + 15)

/-- The leader of a ring follower has its timebase stopped (R168). -/
def State.leaderStopped (s : State) (k : Stage) : Bool :=
  s.f (F.STG_SYNC_src k) == 1 && s.stgSt (leaderOf k) == stOff

/-- The checks of START_STAGE and of a write of 1 to STG_CTL.run (R62, R134, R168, R205, R219). An accepted stop of the context
that still waits for its WAIT is no ground for a refusal: the spec names none (R62, R82; assumption 82, DESIGN CHOICE). -/
def State.startCheck (s : State) (k : Stage) : Nat :=
  let st := s.ctx[ctxOf k].st
  if (st ≠ .run ∧ st ≠ .wait) ∨ s.leaderStopped k ∨ s.openingPending k then rMode
  else if s.startArgs k && s.scanArgs k then rOk else rBadArg

/-- run is set; a stopped timebase starts. Inside the guard window the coming reload instant still samples the old value: a
stage that was not switching latches nothing there, and a stop that is due there stands (R166, R168). -/
def State.startStage (s : State) (k : Stage) : State :=
  let g := s.stg[k]
  let off := s.stgSt k == stOff
  let due := g.stopReq && !g.stopLate && s.inWindow k
  let st := if s.stgSt k = stHiccup then stHiccup else stSwitching
  let s1 := ((s.put (F.STG_CTL_run k) 1).put (F.STG_CTL_tb k) 1).put (F.STG_STAT_st k) st
  s1.setStg k { g with
    starting := if off then some s.etime else g.starting, src := if off then none else g.src,
    stopReq := due, stopLate := false, runLate := g.runLate || due || (s.inWindow k && !s.switching k) }

/-- run is cleared: the stage stops at its next reload instant, or at once where period 0 has not begun or no reload instant
has sampled run since it was set (R166, R182). -/
def State.stopStage (s : State) (k : Stage) : State :=
  let g := s.stg[k]
  let s1 := s.put (F.STG_CTL_run k) 0
  if !s.switching k then s1
  else if g.starting.isSome then s1.put (F.STG_STAT_st k) stReady
  else if g.runLate then
    (if g.stopReq then s1 else s1.put (F.STG_STAT_st k) stReady).setStg k { g with runLate := false }
  else s1.setStg k { g with stopReq := true, stopLate := s.inWindow k }

/-- A running follower of this stage (R169). -/
def State.followed (s : State) (k : Stage) : Bool :=
  stages.any fun j => leaderOf j == k && s.f (F.STG_SYNC_src j) == 1 && s.stgSt j != stOff

/-- The timebase stops: OFF, the open window is discarded, waiting words apply, ramps of the stage end (R139, R167,
R254). A window that has closed but has not been published is dropped with its stage event, as the open window is
(R139; assumption 75, DESIGN CHOICE: R139 speaks of the open window alone). -/
def State.stopTb (s : State) (k : Stage) : State :=
  let s1 := ((s.put (F.STG_CTL_tb k) 0).put (F.STG_STAT_st k) stOff).put (F.STG_STAT_sync_lock k) 0
  let s2 := (s1.dropWindows k).setStg k { s1.stg[k] with
    starting := none, latched := false, winEnd := none, winDue := false, carry := [], withheld := [], onEnd := [],
    prevPlan := [], com := s1.stg[k].held.getD s1.stg[k].com, held := none }
  (s2.applyStaged fun w => w.stage == k.val).endRampsOf k.val

/-- A write to STG_CTL.tb (R134, R168, R169, R189): RS, so only in OFF and READY. -/
def State.tbWrite (s : State) (k : Stage) (on : Bool) : Nat × State :=
  if on == s.fb (F.STG_CTL_tb k) then (rOk, s)
  else if s.switching k then (rRunning, s)
  else if on then
    if s.leaderStopped k then (rMode, s)
    else if !s.scanArgs k then (rBadArg, s)
    else (rOk, ((s.put (F.STG_CTL_tb k) 1).put (F.STG_STAT_st k) stReady).setStg k { s.stg[k] with
      starting := some s.etime, src := none })
  else if s.followed k then (rRunning, s)
  else (rOk, s.stopTb k)

/-- STG_CTL.clr (R189). -/
def State.stgClr (s : State) (k : Stage) : State :=
  (((s.setReg (A.STG_PLAN_DEFER k) 0).setReg (A.STG_LATE_PLAN k) 0).setReg (A.STG_DROP k) 0).put
    (F.STG_REGSTAT_trunc k) 0

/-! ### Windows and stage events -/

/-- WINDOW_CLOSE: the window of a stage closes; one that began before the timebase is discarded (R138, R139). -/
def execWindowClose (k : Stage) (s : State) : Res :=
  .next (
    if !s.tbRuns k then s
    else match s.nextWin k with
      | none => s
      | some (w, len) =>
        let s1 := s.toInstant w.toNat
        let s2 := s1.setStg k { s1.stg[k] with
          winEnd := some w.toNat, winDue := decide ((s1.stg[k].t0 : Int) ≤ w - len) }
        (s2.boundEntries k).foldl (fun (s : State) (e : Fin 64) =>
          let x := s.ent[e].close (s.f (F.ADC_ECFG_ofs e)) (s.reg (A.ADC_GAIN e))
          { s with ent := s.ent.set e x }) s2)

/-- STAGE_EVENT: the averages of a stage are published together, and its stage event is raised (R13, R140, R142). -/
def execStageEvent (k : Stage) (s : State) : Res :=
  .next (
    if s.stg[k].winDue then
      let s1 := (s.boundEntries k).foldl (fun (s : State) (e : Fin 64) => s.publish e) s
      (s1.setStg k { s1.stg[k] with winDue := false }).stageEvent k
    else s)

end Sys2Proof.Machine
end

