-- ==== Sys2Proof/Machine/Grid.lean ====
section
/-! DEFINITION. Grid interfaces: evaluation, hold, lock and synchronisation (R233 to R240), the ride-through evaluator and
its trips (R241 to R250). -/

namespace Sys2Proof.Machine

/-- Bits of GRD_STAT.rt and GRD_STAT.flg (R247). -/
def rtBit (g b : Nat) : Fld := ⟨A.GRD_STAT g, b, 1⟩
def flgBit (g b : Nat) : Fld := ⟨A.GRD_STAT g, 8 + b, 1⟩

/-- Set a bit of GRD_EVT, EV(64 + g) (R260). -/
def State.grdEvt (s : State) (g : Fin 4) (b : Nat) : State := s.src ⟨A.GRD_EVT g, b, 1⟩ (64 + g.val)

/-- Change an interface's own record. -/
def State.setGrd (s : State) (g : Fin 4) (x : Grd) : State := { s with grd := s.grd.set g x }

/-! ### Decomposition -/

/-- A value of the sample stream kept to pu28. -/
def pu (x : Int) : Int := (sat32 x).1.toInt

/-- α and β as CLARKE gives them (R110, R234). -/
def clarkeOf (v : Vector Int 3) : Int × Int := (pu (clarkeA v[0] v[1] v[2]), pu (clarkeB v[1] v[2]))

/-- Square root of `n ÷ d` in 2^−28, rounded down; the free number `w` where `d` is 0 (assumption 63, DEDUCED). -/
def rootOf (n d w : Nat) : Nat := if d = 0 then w else isqrtGo (n * 2 ^ 56 / d) 90 0

/-- u_nom squared; 0 where u_nom is no amplitude (R234; assumption 63, DEDUCED). -/
def State.unom2 (s : State) (g : Nat) : Nat := (s.reg (A.GRD_UNOM g)).toInt.toNat ^ 2

/-- A 16-bit unsigned field in 0.001 pu from 2^−28 of nominal, rounded to nearest; beyond the field the free word `w`
(assumption 63, DEDUCED). -/
def milli16 (u : Nat) (w : Word) : Nat :=
  let v := (divRound (1000 * u) (2 ^ 28)).toNat
  if v < 65536 then v else w.toNat % 65536

/-- Smallest and largest of three. -/
def min3 (v : Vector Nat 3) : Nat := min v[0] (min v[1] v[2])
def max3 (v : Vector Nat 3) : Nat := max v[0] (max v[1] v[2])

/-- The measure of a code, low (`min3`) or high (`max3`), of U+, the line and the phase magnitudes (R242). -/
def measureOf (code uPos : Nat) (line phase : Vector Nat 3) (f : Vector Nat 3 → Nat) : Nat :=
  match code with
  | 0 => uPos
  | 1 => f line
  | _ => f phase

/-- What one evaluation makes of the phase voltages `v` and their quadrature outputs `q` before the Park transform, which
leaves the magnitudes as they are (R234, R242); `w` stands where the spec gives no value. The phase magnitudes are divided by u_nom, as U+ and the line magnitudes are
(assumption 89, DESIGN CHOICE: R234 states no division for them). -/
def State.decompose (s : State) (g : Fin 4) (v q : Vector Int 3) (w : Nat) : Grd :=
  let a := clarkeOf v
  let b := clarkeOf q
  let ap := pu (divRound (a.1 - b.2) 2)
  let bp := pu (divRound (a.2 + b.1) 2)
  let an := pu (divRound (a.1 + b.2) 2)
  let bn := pu (divRound (a.2 - b.1) 2)
  let u := s.unom2 g
  let line (i j : Fin 3) : Nat := rootOf (sqSum (v[i] - v[j]) (q[i] - q[j])) (3 * u) w
  let lines : Vector Nat 3 := #v[line 0 1, line 1 2, line 2 0]
  let phases : Vector Nat 3 := Vector.ofFn fun i => rootOf (sqSum v[i] q[i]) u w
  let up := rootOf (sqSum ap bp) u w
  { s.grd[g] with
    ab := #v[ap, bp], abn := #v[an, bn], va := a.1, uPos := up, uNeg := rootOf (sqSum an bn) u w
    uLv := measureOf (s.f (F.GRD_CFG_meas_lv g)) up lines phases min3
    uHv := measureOf (s.f (F.GRD_CFG_meas_hv g)) up lines phases max3 }

/-- d+, q+, d− and q− at angle `th` (R234). -/
def Grd.park (x : Grd) (th : Word) : Grd :=
  { x with dq := #v[BitVec.ofInt 32 (pu (parkD x.ab[0] x.ab[1] th)), BitVec.ofInt 32 (pu (parkQ x.ab[0] x.ab[1] th)),
      BitVec.ofInt 32 (pu (parkD x.abn[0] x.abn[1] (-th))), BitVec.ofInt 32 (pu (parkQ x.abn[0] x.abn[1] (-th)))] }

/-- The decomposition takes the latest samples of va, vb and vc (R233, R234, R242). The outputs of the quadrature generator
are free, since the spec does not give the generator (assumption 2, DESIGN CHOICE). -/
def State.measureGrid (s0 : State) (g : Fin 4) : State :=
  let (wa, s1) := s0.fresh
  let (wb, s2) := s1.fresh
  let (wc, s3) := s2.fresh
  let (wu, s) := s3.fresh
  let v := #v[s.latest (s.f (F.GRD_SRC_va g)), s.latest (s.f (F.GRD_SRC_vb g)), s.latest (s.f (F.GRD_SRC_vc g))]
  let x := s.decompose g v #v[wa.toInt, wb.toInt, wc.toInt] wu.toNat
  (((((s.setGrd g x).put (F.GRD_UPN_up g) (milli16 x.uPos wu)).put (F.GRD_UPN_un g)
    (milli16 x.uNeg wu)).put (F.GRD_UMEAS_lv g) (milli16 x.uLv wu)).put (F.GRD_UMEAS_hv g) (milli16 x.uHv wu))

/-! ### Hold, frequency and comparison -/

/-- `u` in 2^−28 of nominal lies below, above `n` × 0.001 pu. -/
def belowM (u n : Nat) : Bool := decide (1000 * u < n * 2 ^ 28)
def aboveM (u n : Nat) : Bool := decide (n * 2 ^ 28 < 1000 * u)

/-- Hold follows U+ (R237). -/
def State.holdCheck (s : State) (g : Fin 4) : State :=
  let up := s.grd[g].uPos
  let th := 10 * s.f (F.GRD_CFG_u_hold g)
  if s.fb (flgBit g 1) then (if aboveM up (th + 50) then s.put (flgBit g 1) 0 else s)
  else if belowM up th then (s.put (flgBit g 1) 1).grdEvt g 2
  else s

/-- θ+ at an evaluation at `t` (R235 to R237): in hold, which this evaluation may have begun, it advances at the frozen
frequency; outside hold it is free, since the spec bounds the tracker's error and does not give the tracker (assumption 2,
DESIGN CHOICE). -/
def State.trackGrid (s0 : State) (g : Fin 4) (t : Nat) : State :=
  let (wt, s) := s0.fresh
  let th := if s.fb (flgBit g 1) then BitVec.ofInt 32 (s.thetaAt g t) else wt
  (s.setGrd g (s.grd[g].park th)).setReg (A.GRD_THETA g) th

/-- One nominal line cycle in taps, f_nom being in mHz (R238). -/
def State.cycleTaps (s : State) (g : Nat) : Nat := 8000000000000 / s.f (F.GRD_NOM_f_nom g)

/-- The average of a history of numbers, rounded to nearest; 0 of none. -/
def meanOf (h : List (Nat × Nat)) : Nat := (divRound (h.foldl (fun n p => n + p.2) 0) h.length).toNat

/-- The entries of a history down to the first that is `n` old at `t`. -/
def trimHist (t n : Nat) : List (Nat × Nat) → List (Nat × Nat)
  | [] => []
  | p :: l => if p.1 + n ≤ t then [p] else p :: trimHist t n l

/-- The ROCOF interval in taps (R238, R256). -/
def State.rocofTaps (s : State) (g : Nat) : Nat := s.f (F.GRD_CFG_rocof_win g) * 80000000

/-- GRD_FREQ is the average over one nominal line cycle of the tracker's frequency, now `a`, over what there is of it after
the interface starts; GRD_ROCOF in mHz/s is the change of GRD_FREQ over rocof_win × 10 ms, and `b` while the interface has
run for less (R238). -/
def State.freqAt (s0 : State) (g : Fin 4) (t : Nat) (a b : Word) : State :=
  let l := ((t, a.toNat % 2 ^ 20) :: s0.grd[g].thist).filter fun p => decide (t < p.1 + s0.cycleTaps g) || p.1 == t
  let s := (s0.setGrd g { s0.grd[g] with thist := l }).put (F.GRD_FREQ_f g) (meanOf l)
  let f := s.f (F.GRD_FREQ_f g)
  let h := trimHist t (s.rocofTaps g) ((t, f) :: s.grd[g].fhist)
  let slope : Word := match h.getLast? with
    | some p => if p.1 + s.rocofTaps g ≤ t then
        BitVec.ofInt 32 (divRound (((f : Int) - p.2) * 10) (s.f (F.GRD_CFG_rocof_win g))) else b
    | none => b
  (s.setGrd g { s.grd[g] with fhist := h }).setReg (A.GRD_ROCOF g) slope

/-- The tracker's frequency is only bounded by the spec and free, and so is GRD_ROCOF before its interval has passed
(assumption 2, DESIGN CHOICE); GRD_FREQ and GRD_ROCOF are frozen in hold (R237, R238). -/
def State.trackFreq (s : State) (g : Fin 4) (t : Nat) : State :=
  if s.fb (flgBit g 1) then s else s.fresh.2.fresh.2.freqAt g t s.fresh.1 s.fresh.2.fresh.1

/-- The interface that GRD_SYNC2 names (R240). -/
def State.cmpG (s : State) (g : Nat) : Fin 4 := ⟨s.f (F.GRD_SYNC2_cmp_g g) % 4, by omega⟩

/-- GRD_DIFF and cmp_ok, which judges Δθ and ΔU before they are rounded (R240); a ΔU beyond the field is free. -/
def State.compareGrid (s0 : State) (g : Fin 4) : State :=
  if s0.fb (F.GRD_SYNC2_cmp_en g) then
    let (w, s) := s0.fresh
    let c := s.cmpG g
    let dt := (s.reg (A.GRD_THETA g) - s.reg (A.GRD_THETA c)).toInt
    let du : Int := (s.grd[g].uPos : Int) - s.grd[c].uPos
    let m := divRound (1000 * du) (2 ^ 28)
    let ok := decide (3600 * dt.natAbs ≤ s.f (F.GRD_SYNC2_ang_win g) * 2 ^ 32) &&
      decide (1000 * du.natAbs ≤ s.f (F.GRD_SYNC2_du_win g) * 2 ^ 28)
    ((s.put (F.GRD_DIFF_dphi g) (angleIn 36000 (BitVec.ofInt 32 dt) % 65536).toNat).put (F.GRD_DIFF_du g)
      (if -32768 ≤ m ∧ m ≤ 32767 then (m % 65536).toNat else w.toNat)).putB (flgBit g 5) ok
  else s0.put (flgBit g 5) 0

/-! ### Lock and synchronisation -/

/-- GRD_FREQ less f_nom, in 0.1 mHz. -/
def State.freqDev (s : State) (g : Nat) : Int := (s.f (F.GRD_FREQ_f g) : Int) - 10 * s.f (F.GRD_NOM_f_nom g)

/-- The frequency lies in the tracking range, f_nom ± 20 % (R236). -/
def State.inRange (s : State) (g : Nat) : Bool := decide ((s.freqDev g).natAbs ≤ 2 * s.f (F.GRD_NOM_f_nom g))

/-- The conditions of sync_ok (R239). -/
def State.syncCond (s : State) (g : Fin 4) : Bool :=
  let x := s.grd[g]
  s.fb (F.GRD_CTL_en g) && s.fb (flgBit g 0) && !s.fb (flgBit g 1) &&
    decide ((s.freqDev g).natAbs ≤ 10 * s.f (F.GRD_SYNC0_f_win g)) &&
    !belowM x.uPos (s.f (F.GRD_SYNC1_u_lo g)) && !aboveM x.uPos (s.f (F.GRD_SYNC1_u_hi g)) &&
    decide (x.uNeg < x.uPos) && !s.fb (rtBit g 0) && !s.fb (rtBit g 1) && !s.fb (rtBit g 3) &&
    (!s.fb (F.GRD_SYNC2_cmp_en g) || s.fb (flgBit g 5))

/-- A condition of sync_ok is broken: sync_ok clears (R239), and then the reconnect timer restarts (R278). -/
def State.syncCheck (s : State) (g : Fin 4) : State :=
  if s.syncCond g then s
  else
    let s1 := s.setGrd g { s.grd[g] with syncAt := none }
    if s1.fb (flgBit g 2) then (s1.put (flgBit g 2) 0).rcRestart g else s1

/-- Since when a condition holds. -/
def since (c : Bool) (t : Nat) (o : Option Nat) : Option Nat := if c then some (o.getD t) else none

/-- Since when q+ has been inside the lock limit, beyond the limit of lost lock outside hold, and the conditions of
sync_ok have held (R236, R237, R239). -/
def State.gridTimes (s : State) (g : Fin 4) (t : Nat) : State :=
  let x := s.grd[g]
  let d := x.dq[0].toInt
  let q : Int := absW x.dq[1]
  s.setGrd g { x with
    inLock := since (decide (50 * q ≤ d)) t x.inLock
    outLock := since (decide (d < 10 * q) && !s.fb (flgBit g 1)) t x.outLock
    syncAt := since (s.syncCond g) t x.syncAt, tEval := t }

/-- The lock is qualified once |q+| ≤ 0.02 d+ has held for 40 ms, in the tracking range; the flag keeps its value in hold
(R236, R237). -/
def State.lockNow (s : State) (g : Fin 4) : State :=
  if s.fb (F.GRD_CTL_en g) && !s.fb (flgBit g 0) && !s.fb (flgBit g 1) && s.inRange g &&
      s.grd[g].inLock.any fun t => decide (t + 320000000 ≤ s.etime) then (s.put (flgBit g 0) 1).grdEvt g 0
  else s

/-- The lock is lost, outside hold, once |q+| > 0.1 d+ has held for 5 ms, or outside the tracking range (R236, R237). -/
def State.unlockNow (s : State) (g : Fin 4) : State :=
  if s.fb (flgBit g 0) && !s.fb (flgBit g 1) &&
      (!s.inRange g || s.grd[g].outLock.any fun t => decide (t + 40000000 ≤ s.etime)) then
    ((s.put (flgBit g 0) 0).grdEvt g 1).syncCheck g
  else s

/-- sync_ok is set once every condition has held for t_q (R239). -/
def State.syncNow (s : State) (g : Fin 4) : State :=
  if s.syncCond g && !s.fb (flgBit g 2) &&
      s.grd[g].syncAt.any fun t => decide (t + 8000000 * s.f (F.GRD_SYNC0_t_q g) ≤ s.etime) then
    (s.put (flgBit g 2) 1).grdEvt g 3
  else s

/-- The evaluation of an interface at a sample of va taken at `t` (R233 to R240). -/
def State.gridEval (s : State) (g : Fin 4) (t : Nat) : State :=
  let s1 := ((((s.measureGrid g).holdCheck g).trackGrid g t |>.trackFreq g t).compareGrid g).gridTimes g t
  (((s1.unlockNow g).lockNow g).syncCheck g).syncNow g

/-- GRID_LOCK (R236). -/
def execGridLock (g : Fin 4) (s : State) : Res := .next (s.lockNow g)

/-- GRID_UNLOCK (R236, R237). -/
def execGridUnlock (g : Fin 4) (s : State) : Res := .next (s.unlockNow g)

/-- SYNC_OK (R239). -/
def execSyncOk (g : Fin 4) (s : State) : Res := .next (s.syncNow g)

/-! ### Envelopes -/

/-- A persistent curve word as a point: unused, or time in ticks of 20 µs and voltage in 0.001 pu (R245, R258). -/
def curvePoint (w : Word) : Option (Nat × Nat) :=
  match getBits w 30 2 with
  | 0 => some (50 * getBits w 16 14, getBits w 0 16)
  | 1 => some (500 * getBits w 16 14, getBits w 0 16)
  | 2 => some (5000 * getBits w 16 14, getBits w 0 16)
  | _ => none

/-- The points up to the first unused one (R245). -/
def curveOf : List Word → List (Nat × Nat)
  | [] => []
  | w :: t => match curvePoint w with
    | some p => p :: curveOf t
    | none => []

/-- The LV and HV curves of an interface. -/
def State.lvCurve (s : State) (g : Nat) : List (Nat × Nat) := curveOf ((List.range 16).map fun i => s.reg (A.GRD_LV g i))
def State.hvCurve (s : State) (g : Nat) : List (Nat × Nat) := curveOf ((List.range 16).map fun i => s.reg (A.GRD_HV g i))

/-- The curve at time `t` as numerator and denominator (R245). -/
def curveAt (t : Nat) : List (Nat × Nat) → Int × Nat
  | [] => (0, 1)
  | [p] => (p.2, 1)
  | p :: q :: r =>
    if t < q.1 then ((p.2 : Int) * (q.1 - p.1 : Nat) + ((q.2 : Int) - p.2) * (t - p.1 : Nat), q.1 - p.1)
    else curveAt t (q :: r)

/-- The measure, in 2^−28 of nominal, lies below, above the curve at `t` (R245). -/
def belowCurve (u t : Nat) (c : List (Nat × Nat)) : Bool :=
  decide ((1000 * u : Int) * (curveAt t c).2 < (curveAt t c).1 * 2 ^ 28)
def aboveCurve (u t : Nat) (c : List (Nat × Nat)) : Bool :=
  decide ((curveAt t c).1 * 2 ^ 28 < (1000 * u : Int) * (curveAt t c).2)

/-- Times do not decrease. -/
def risingTimes : List (Nat × Nat) → Bool
  | p :: q :: r => decide (p.1 ≤ q.1) && risingTimes (q :: r)
  | _ => true

/-- Point 0 is used with time 0 and times do not decrease (R245). -/
def curveOk (c : List (Nat × Nat)) : Bool :=
  match c with
  | [] => false
  | p :: _ => p.1 == 0 && risingTimes c

/-! ### Episodes -/

/-- Episode time in ms of the oldest active episode (R247). -/
def State.epMs (s : State) (g : Fin 4) : Nat :=
  let a := if s.fb (rtBit g 0) then s.grd[g].ep else 0
  let b := if s.fb (rtBit g 1) then s.grd[g].epHv else 0
  min 65535 (max a b / 50)

/-- An LV (or HV) episode is declared (R243, R247, R249): state, count, event; RUN becomes RIDE-THROUGH. -/
def State.declare (s : State) (g : Fin 4) (hv : Bool) : State :=
  let s1 := ((s.put (rtBit g (b2n hv)) 1).put (rtBit g 2) 0).bump (F.GRD_RTCNT_episodes g)
  let n := s.f (F.GRD_RTQ_q_in g) - 1
  let s2 := s1.setGrd g (if hv then { s1.grd[g] with epHv := n } else { s1.grd[g] with ep := n })
  let s3 := ((s2.put (F.GRD_STAT_ep_ms g) (s2.epMs g)).grdEvt g 4).syncCheck g
  if s3.mode = mRun ∧ s3.fb (F.GRD_CTL_rt_en g) then s3.changeMode mRide else s3

/-- Every enabled interface whose episodes change the mode is in NORMAL (R249). -/
def State.allNormal (s : State) : Bool :=
  (List.finRange 4).all fun g => !(s.fb (F.GRD_CTL_en g) && s.fb (F.GRD_CTL_rt_en g)) ||
    (!s.fb (rtBit g 0) && !s.fb (rtBit g 1) && !s.fb (rtBit g 2))

/-- RIDE-THROUGH returns to RUN when every such interface is in NORMAL (R249). -/
def State.rideEnd (s : State) : State := if s.mode = mRide ∧ s.allNormal then s.changeMode mRun else s

/-- Runs of ticks below lv_in and above hv_in, and episode times (R243). -/
def State.rtCounts (s : State) (g : Fin 4) : State :=
  let x := s.grd[g]
  let lo := belowM x.uLv (s.f (F.GRD_RTV_lv_in g))
  let hi := aboveM x.uHv (s.f (F.GRD_RTH_hv_in g))
  s.setGrd g { x with
    qLv := if lo then x.qLv + 1 else 0, qHv := if hi then x.qHv + 1 else 0,
    ep := if s.fb (rtBit g 0) then x.ep + 1 else 0, epHv := if s.fb (rtBit g 1) then x.epHv + 1 else 0 }

/-- A run of q_in ticks declares its episode (R243). -/
def State.rtDeclare (s : State) (g : Fin 4) (hv : Bool) : State :=
  let n := if hv then s.grd[g].qHv else s.grd[g].qLv
  if !s.fb (rtBit g (b2n hv)) && decide (s.f (F.GRD_RTQ_q_in g) ≤ n) && n != 0 then s.declare g hv else s

/-- An episode ends where its measure is back in range (R243). -/
def State.rtLeave (s : State) (g : Fin 4) (b : Nat) (back : Bool) : State :=
  if s.fb (rtBit g b) && back then s.put (rtBit g b) 0 else s

/-- The last episode has ended: RECOVERY begins; ep_ms is not stated there (R243, R247; assumption 2, DESIGN CHOICE). -/
def State.rtRecover (s : State) (g : Fin 4) : State :=
  let (w, s1) := s.fresh
  ((s1.put (rtBit g 2) 1).put (F.GRD_STAT_ep_ms g) w.toNat).setGrd g { s1.grd[g] with recN := 0 }

/-- One tick of RECOVERY, which ends in NORMAL once the measures have stayed in range for t_rec (R243). -/
def State.rtBackStep (s : State) (g : Fin 4) (back : Bool) : State :=
  let n := if back then s.grd[g].recN + 1 else 0
  let s1 := s.setGrd g { s.grd[g] with recN := n }
  if back && decide (50 * s.f (F.GRD_RTQ_t_rec g) ≤ n) then
    ((s1.put (rtBit g 2) 0).put (F.GRD_STAT_ep_ms g) 0).grdEvt g 5
  else s1

/-- The episode runs on, has just ended, or RECOVERY runs (R243). -/
def State.rtSettle (s : State) (g : Fin 4) (was back : Bool) : State :=
  if s.fb (rtBit g 0) || s.fb (rtBit g 1) then s.put (F.GRD_STAT_ep_ms g) (s.epMs g)
  else if was then s.rtRecover g
  else if s.fb (rtBit g 2) then s.rtBackStep g back
  else s

/-- Declarations, low voltage before high, ends of episodes and RECOVERY at a tick (R243). -/
def State.rtStates (s : State) (g : Fin 4) : State :=
  let t := (s.rtDeclare g false).rtDeclare g true
  let lvIn := !belowM t.grd[g].uLv (t.f (F.GRD_RTV_lv_out g))
  let hvIn := !aboveM t.grd[g].uHv (t.f (F.GRD_RTH_hv_out g))
  ((t.rtLeave g 0 lvIn).rtLeave g 1 hvIn).rtSettle g (t.fb (rtBit g 0) || t.fb (rtBit g 1)) (lvIn && hvIn)

/-! ### Trips -/

/-- A voltage (bit 3) or frequency (bit 6) trip of interface g with its cause and stage, as GRD_TRIP records them. -/
structure GTrip where
  bit : Nat
  cause : Nat
  stage : Nat
  deriving DecidableEq, Repr

/-- Trips act on this interface now: in SYNCHRONISE, RUN and RIDE-THROUGH (R250), and in a fault-hold window (R255). -/
def State.tripsAct (s : State) (g : Nat) : Bool :=
  s.fb (F.GRD_CTL_trip_en g) && (isSwitchMode s.mode || s.mode == mFaultHold)

/-- The trips that a tick decides, in order of precedence: latched and reported, and GRD_TRIP names the first (R247, R255,
R260). -/
def State.noteTrips (s : State) (g : Fin 4) (l : List GTrip) : State :=
  match l with
  | [] => s
  | d :: _ =>
    let s1 := l.foldl (fun s d => (s.put (rtBit g d.bit) 1).grdEvt g (if d.bit = 3 then 6 else 7)) s
    (((s1.put (F.GRD_TRIP_cause g) d.cause).put (F.GRD_TRIP_stage g) d.stage).put (F.GRD_TRIP_ep_ms g) (s1.epMs g)).syncCheck g

/-- A grid trip is counted (R250). ISL_TRIP's code of a grid trip is not given and is free (R277; assumption 2, DESIGN
CHOICE). -/
def State.countTrip (s : State) (g : Fin 4) : State :=
  let (w, s1) := s.fresh
  (s1.bump (F.GRD_RTCNT_trips g)).setReg (A.ISL_TRIP g) (w &&& 0xFFFF000F)

/-- The grid trips of one tick: each is counted and followed by one trip sequence for all of them (R250, R255). -/
def State.gridTrips (s : State) (gs : List (Fin 4)) : State :=
  (gs.foldl (fun s g => s.countTrip g) s).tripSequence gs

/-- The ticks outside the envelopes of declared or qualifying episodes (R245). -/
def State.rtEnvelope (s : State) (g : Fin 4) : State :=
  let x := s.grd[g]
  let lv := s.fb (rtBit g 0)
  let hv := s.fb (rtBit g 1)
  let nl := if (lv || x.qLv != 0) && belowCurve x.uLv (if lv then x.ep else x.qLv - 1) (s.lvCurve g) then x.qTrip + 1
    else 0
  let nh := if (hv || x.qHv != 0) && aboveCurve x.uHv (if hv then x.epHv else x.qHv - 1) (s.hvCurve g) then x.qTripHv + 1
    else 0
  s.setGrd g { x with
    qTrip := nl, qTripHv := nh, dTrip := x.dTrip && nl != 0, dTripHv := x.dTripHv && nh != 0 }

/-- The word of frequency stage j: under-frequency 0 to 3, over-frequency 4 to 7. -/
def State.freqWord (s : State) (g j : Nat) : Word := s.reg (if j < 4 then A.GRD_UF g j else A.GRD_OF g (j - 4))

/-- A frequency stage is active (R246). -/
def State.freqActive (s : State) (g j : Nat) : Bool :=
  let w := s.freqWord g j
  let l : Int := 10 * getBits w 0 16
  getBits w 30 2 != 3 && (if j < 4 then decide (s.freqDev g < -l) else decide (l < s.freqDev g))

/-- Duration of a frequency stage in ticks (R258). -/
def freqTicks (w : Word) : Nat :=
  getBits w 16 14 * (match getBits w 30 2 with
    | 0 => 500
    | 1 => 5000
    | _ => 50000)

/-- The ticks for which each frequency stage has been active; held in hold (R246). -/
def State.rtFreq (s : State) (g : Fin 4) : State :=
  if s.fb (flgBit g 1) then s
  else s.setGrd g { s.grd[g] with
    fq := Vector.ofFn fun j : Fin 8 => if s.freqActive g j then s.grd[g].fq[j] + 1 else 0 }

/-- The low-voltage, high-voltage trip is decided at this tick: q_trip ticks outside the envelope of a declared episode,
once per run (R245). -/
def State.lvTrips (s : State) (g : Fin 4) : Bool :=
  s.fb (rtBit g 0) && !s.grd[g].dTrip && s.grd[g].qTrip != 0 && decide (s.f (F.GRD_RTQ_q_trip g) ≤ s.grd[g].qTrip)
def State.hvTrips (s : State) (g : Fin 4) : Bool :=
  s.fb (rtBit g 1) && !s.grd[g].dTripHv && s.grd[g].qTripHv != 0 && decide (s.f (F.GRD_RTQ_q_trip g) ≤ s.grd[g].qTripHv)

/-- A live entry failure decides a voltage trip (R248): once while the failure lasts and its trip stays latched, but at
every tick in SYNCHRONISE, RUN and RIDE-THROUGH, modes that the trip ends. -/
def State.entTrips (s : State) (g : Fin 4) : Bool :=
  s.fb (F.GRD_CTL_rt_en g) && s.fb (F.GRD_CTL_trip_en g) && s.entFail g &&
    (!s.fb (rtBit g 3) || !s.grd[g].dEnt || isSwitchMode s.mode)

/-- Frequency stage j has been active for its whole duration at this tick (R246). -/
def State.freqTrips (s : State) (g : Fin 4) (j : Fin 8) : Bool :=
  !s.fb (flgBit g 1) && s.grd[g].fq[j] == max 1 (freqTicks (s.freqWord g j))

/-- The trips decided at this tick: low voltage, high voltage, entry failure, then the frequency stages (R255). -/
def State.decided (s : State) (g : Fin 4) : List GTrip :=
  (if s.lvTrips g then [⟨3, 1, 0⟩] else []) ++ (if s.hvTrips g then [⟨3, 2, 0⟩] else []) ++
    (if s.entTrips g then [⟨3, 5, 0⟩] else []) ++
    ((List.finRange 8).filter (s.freqTrips g)).map fun j => ⟨6, if j.val < 4 then 3 else 4, j % 4⟩

/-- The trips of a tick; a run outside an envelope and a live entry failure decide once. -/
def State.rtTrips (s : State) (g : Fin 4) : State :=
  let l := s.decided g
  (s.setGrd g { s.grd[g] with
    dTrip := s.grd[g].dTrip || s.lvTrips g, dTripHv := s.grd[g].dTripHv || s.hvTrips g
    dEnt := s.entFail g && (s.grd[g].dEnt || s.entTrips g) }).noteTrips g l

/-- A trip decided at this tick on interface g is a grid trip (R250). -/
def State.gridTripped (s : State) (g : Fin 4) : Bool := !(s.decided g).isEmpty && s.tripsAct g

/-- f_low and f_high (R246, R247, R260). -/
def State.rtBand (s : State) (g : Fin 4) : State :=
  let low := decide (s.freqDev g < -(10 * s.f (F.GRD_FCONT_lo g) : Nat))
  let high := decide (((10 * s.f (F.GRD_FCONT_hi g) : Nat) : Int) < s.freqDev g)
  let rise := (low && !s.fb (rtBit g 4)) || (high && !s.fb (rtBit g 5))
  let s1 := (s.putB (rtBit g 4) low).putB (rtBit g 5) high
  if rise then s1.grdEvt g 8 else s1

/-- A 20 µs tick of one interface up to its counts (R241 to R246). -/
def State.rtCounted (s : State) (g : Fin 4) : State := (((s.rtCounts g).rtStates g).rtEnvelope g).rtFreq g

/-- A 20 µs tick of the interfaces `gs`: every one counts and declares, then the trips of all are decided in the mode that
this leaves, then they act together, and last RIDE-THROUGH may end (R241 to R250, R255). -/
def State.rtTick (s : State) (gs : List (Fin 4)) : State :=
  let s1 := gs.foldl (fun s g => s.rtCounted g) s
  let s2 := gs.foldl (fun s g => (s.rtTrips g).rtBand g) s1
  (s2.gridTrips (gs.filter s1.gridTripped)).rideEnd

/-- RT_TICK: one 20 µs tick of every enabled interface (R241 to R250). -/
def execRtTick (s : State) : Res := .next (s.rtTick ((List.finRange 4).filter fun g => s.fb (F.GRD_CTL_en g)))

/-- A tick of interface g alone where `b` holds, for the rows that name what a tick brings about (assumption 6, DESIGN
CHOICE). -/
def State.tickIf (s : State) (g : Fin 4) (b : Bool) : State := if s.fb (F.GRD_CTL_en g) && b then s.rtTick [g] else s

/-- EPISODE_DECLARED: the q_in-th tick of a run (R243, R249). -/
def execEpisodeDeclared (g : Fin 4) (hv : Bool) (s : State) : Res :=
  .next (s.tickIf g (!s.fb (rtBit g (b2n hv)) && (s.rtCounted g).fb (rtBit g (b2n hv))))

/-- RECOVERY_END: the tick at which the measures have stayed in range for t_rec (R243, R249). -/
def execRecoveryEnd (g : Fin 4) (s : State) : Res :=
  .next (s.tickIf g (s.fb (rtBit g 2) && !([0, 1, 2].any fun b => (s.rtCounted g).fb (rtBit g b))))

/-- VOLTAGE_TRIP: the tick that decides a trip below (1) or above (2) the envelope, or for a failed entry (5) (R245, R248,
R250). -/
def execVoltageTrip (g : Fin 4) (hv : Option Bool) (s : State) : Res :=
  .next (s.tickIf g (match hv with
    | some false => (s.rtCounted g).lvTrips g
    | some true => (s.rtCounted g).hvTrips g
    | none => (s.rtCounted g).entTrips g))

/-- FREQUENCY_TRIP: the tick at which stage j of the under- or over-frequency stages has been active for its duration
(R246, R250). -/
def execFrequencyTrip (g : Fin 4) (hi : Bool) (j : Fin 4) (s : State) : Res :=
  .next (s.tickIf g ((s.rtCounted g).freqTrips g ⟨4 * b2n hi + j, by have := j.isLt; cases hi <;> simp [b2n] <;> omega⟩))

/-- The checks of a write that sets GRD_CTL.en (R233, R245, R257), on the state with the written registers. -/
def State.gridOk (s : State) (g : Fin 4) : Bool :=
  let a := s.f (F.GRD_SRC_va g)
  let b := s.f (F.GRD_SRC_vb g)
  let c := s.f (F.GRD_SRC_vc g)
  let fn := s.f (F.GRD_NOM_f_nom g)
  [a, b, c].all (fun e => extEntry e && s.scanned e) && a != b && b != c && a != c &&
    decide (15000 ≤ fn) && decide (fn ≤ 70000) && curveOk (s.lvCurve g) && curveOk (s.hvCurve g) &&
    decide (s.f (F.GRD_RTV_lv_in g) ≤ s.f (F.GRD_RTV_lv_out g)) &&
    decide (s.f (F.GRD_RTH_hv_out g) ≤ s.f (F.GRD_RTH_hv_in g)) && s.fb (F.GRD_RTQ_q_in g) && s.fb (F.GRD_RTQ_q_trip g)
    && (!s.fb (F.GRD_SYNC2_cmp_en g) ||
      (decide (s.f (F.GRD_SYNC2_cmp_g g) < 4) && s.f (F.GRD_SYNC2_cmp_g g) != g.val &&
        s.fb (F.GRD_CTL_en (s.f (F.GRD_SYNC2_cmp_g g)))))

/-- An interface starts or stops: its counts, flags and states of a run that is over clear, the reconnect timer restarts
where sync_ok clears, and trips stay latched (R247, R256, R278). -/
def State.gridSwitch (s : State) (g : Fin 4) (on : Bool) : State :=
  let s0 := if s.fb (flgBit g 2) then s.rcRestart g else s
  let s1 := ((s0.putB (F.GRD_CTL_en g) on).put (F.GRD_STAT_flg g) 0).put (F.GRD_STAT_ep_ms g) 0
  (s1.put (F.GRD_STAT_rt g) (Nat.land (s1.f (F.GRD_STAT_rt g)) 0x48)).setGrd g { Grd.init with
    dq := s.grd[g].dq, tEval := s.etime }

end Sys2Proof.Machine
end

