-- ==== Sys2Proof/Machine/Island.lean ====
section
/-! DEFINITION. Islanding units and the grid contactor (R271 to R284). -/

namespace Sys2Proof.Machine

/-- Change a unit. -/
def State.setIsl (s : State) (g : Fin 4) (x : Isl) : State := { s with isl := s.isl.set g x }

/-! ### Parity and injection -/

/-- The unit chooses its parity by listening: mode 1, or mode 2 without its peer (R274). -/
def State.listens (s : State) (g : Fin 4) : Bool :=
  s.f (F.ISL_COH_mode g) == 1 || (s.f (F.ISL_COH_mode g) == 2 && s.fb (F.ISL_STAT_peer_lost g))

/-- Active injection runs but for listening: enabled, in RUN (R273). -/
def State.injMode (s : State) (g : Fin 4) : Bool :=
  s.fb (F.ISL_CTL_en g) && s.fb (F.ISL_CTL_inj_en g) && s.mode == mRun

/-- Injection runs: outside listen intervals, and after the first one where the unit listens (R273, R274). -/
def State.injecting (s : State) (g : Fin 4) : Bool :=
  s.injMode g && !s.fb (F.ISL_STAT_listen g) && (!s.listens g || s.isl[g].listened)

/-- The parity of a unit changes by choice (R274). -/
def State.setParity (s : State) (g : Fin 4) (p : Bool) : State :=
  if s.fb (F.ISL_STAT_p g) = p then s
  else ((s.putB (F.ISL_STAT_p g) p).bump (F.ISL_CNT_flips g)).islEvt g 2

/-! ### The correlator -/

/-- A value times cos θ_i and sin θ_i joins the sums (R274, R275). -/
def Corr.add (c : Corr) (x : Int) (th : Word) : Corr := ⟨c.c + x * cosGen th, c.s + x * sinGen th, c.n + 1⟩

/-- Sums of several windows together. -/
def Corr.join (a b : Corr) : Corr := ⟨a.c + b.c, a.s + b.s, a.n + b.n⟩
def joinAll (l : List Corr) : Corr := l.foldl Corr.join Corr.init

/-- The magnitude of the summed products: n ÷ 2 times that of the phasor, and 2^28 from the generator. -/
def Corr.mag (c : Corr) : Nat := isqrtGo (sqSum c.c c.s) 130 0

/-- θ_i of unit g at angle `th` and parity `p` (R272). -/
def State.thetaI (s : State) (g : Fin 4) (th : Int) (p : Bool) : Word := injAngle (s.f (F.ISL_INJ_h g)) th p

/-- A window may count: in RUN, the interface not in hold, no listen interval (R275). -/
def State.winOk (s : State) (g : Fin 4) : Bool :=
  !s.fb (F.ISL_STAT_listen g) && !s.fb (flgBit g 1) && s.mode == mRun

/-- The open window and the listen interval take vα of the evaluation (R274, R275). -/
def State.islVolt (s : State) (g : Fin 4) : State :=
  let x := s.isl[g]
  let th : Int := (s.reg (A.GRD_THETA g)).toNat
  let v := s.grd[g].va
  s.setIsl g { x with
    win := x.win.map fun w => { w with ok := w.ok && s.winOk g, v := w.v.add v (s.thetaI g th (s.fb (F.ISL_STAT_p g))) }
    heard := if x.lAt.isSome && !x.lDue then x.heard.add v (s.thetaI g th x.lp) else x.heard }

/-- The interval t_listen in taps (R274, R283). -/
def State.listenTaps (s : State) (g : Nat) : Nat := s.f (F.ISL_COH_t_listen g) * 80000000

/-- A wrap of θ+ in a listen interval: the first begins its line cycles, with reference parity 0; the first at or after
t_listen ends them. The reference toggles at each wrap, as p does (R272, R274; assumption 64, DEDUCED). -/
def State.listenWrap (s : State) (g : Fin 4) (t : Nat) : State :=
  let x := s.isl[g]
  if s.fb (F.ISL_STAT_listen g) then
    s.setIsl g (match x.lAt with
      | none => { x with lAt := some t, lp := false, heard := Corr.init }
      | some b => { x with lp := !x.lp, lDue := x.lDue || decide (b + s.listenTaps g ≤ t) })
  else s

/-- A wrap of θ+ at p = 0 closes the open window and opens the next; a window that still waits for its evaluation stays
among the latest (R275). -/
def State.windowWrap (s : State) (g : Fin 4) : State :=
  let x := s.isl[g]
  if s.fb (F.ISL_CTL_inj_en g) && !s.fb (F.ISL_STAT_p g) then
    s.setIsl g { x with
      win := some Win.init
      done := if x.win.isSome then x.win else x.done
      wins := if x.win.isSome then (x.done.toList ++ x.wins).take 8 else x.wins }
  else s

/-- A wrap of θ+: p toggles, and in mode 0 becomes 0 at the first one after injection starts; the leader of a ring sends its
parity (R272, R274, R400). -/
def State.parityWrap (s : State) (g : Fin 4) : State :=
  let first := s.fb (F.ISL_STAT_inj g) && s.isl[g].first
  let s1 := s.putB (F.ISL_STAT_p g) (!s.fb (F.ISL_STAT_p g))
  let s2 := if first && s1.f (F.ISL_COH_mode g) == 0 then s1.setParity g false else s1
  let s3 := if s.fb (F.ISL_STAT_inj g) then s2.setIsl g { s2.isl[g] with first := false } else s2
  if s.fb (F.ISL_STAT_inj g) && s3.fb F.PRT_PCFG_en && s3.f F.PRT_PCFG_pos == 0 then
    s3.emit (.peer 2 [BitVec.ofNat 8 (g.val + 4 * s3.f (F.ISL_STAT_p g))])
  else s3

/-! ### Passive detectors -/

/-- The passive detectors are evaluated: no episode is declared, and the conditions of R271 hold. -/
def State.passiveOn (s : State) (g : Fin 4) : Bool :=
  s.fb (F.ISL_CTL_en g) && s.fb (F.GRD_CTL_en g) && s.fb (flgBit g 0) && !s.fb (flgBit g 1) &&
    !s.fb (rtBit g 0) && !s.fb (rtBit g 1) && (s.mode == mSync || s.mode == mRun)

/-- The limits are exceeded: ROCOF, voltage window, frequency window; a limit of 0 turns one off (R271). -/
def State.rocHit (s : State) (g : Fin 4) : Bool :=
  s.fb (F.ISL_ROCOF_lim g) && decide (s.f (F.ISL_ROCOF_lim g) < absW (s.reg (A.GRD_ROCOF g)))
def State.voltHit (s : State) (g : Fin 4) : Bool :=
  s.fb (F.ISL_VF_du g) &&
    decide (s.f (F.ISL_VF_du g) * 2 ^ 28 < 100 * ((s.grd[g].uPos : Int) - 2 ^ 28).natAbs)
def State.freqHit (s : State) (g : Fin 4) : Bool :=
  s.fb (F.ISL_VF_df g) && decide (100 * s.f (F.ISL_VF_df g) < (s.freqDev g).natAbs)

/-- A run of a detector: 0 outside, else 1 more than its time in taps. -/
def runOf (hit : Bool) (c dt : Nat) : Nat := if hit then (if c = 0 then 1 else c + dt) else 0

/-- The run reaches its time at this evaluation. -/
def reaches (old new lim : Nat) : Bool := decide (lim < new) && decide (old ≤ lim)

/-- The runs of the passive detectors at an evaluation `dt` after the one before; those that reach their time decide a trip.
The runs are held in hold and in RIDE-THROUGH, and start over where the detectors are off for another cause (R271; assumption
64, DEDUCED). -/
def State.passiveStep (s : State) (g : Fin 4) (dt : Nat) : State :=
  let x := s.isl[g]
  if s.passiveOn g then
    let r := runOf (s.rocHit g) x.cRoc dt
    let v := runOf (s.voltHit g) x.cVolt dt
    let f := runOf (s.freqHit g) x.cFreq dt
    let tv := s.f (F.ISL_VF_t g) * 8000000
    s.setIsl g { x with
      cRoc := r, cVolt := v, cFreq := f
      due := Nat.lor x.due (4 * b2n (reaches x.cRoc r (s.f (F.ISL_ROCOF_t g) * 80000000)) +
        16 * b2n (reaches x.cVolt v tv) + 32 * b2n (reaches x.cFreq f tv)) }
  else if s.fb (flgBit g 1) || s.mode == mRide then s
  else s.setIsl g { x with cRoc := 0, cVolt := 0, cFreq := 0 }

/-- The angle of (α+, β+) at a wrap differs from the one predicted at the previous wrap by the limit or more (R271). -/
def State.shifted (s : State) (g : Fin 4) (t : Nat) (now : Word) : Bool :=
  match s.isl[g].vsRef with
  | some (a, t0, f) =>
    let d := (now - a - BitVec.ofInt 32 (turnsOf f ((t : Int) - t0))).toInt.natAbs
    s.fb (F.ISL_VS_lim g) && decide (s.f (F.ISL_VS_lim g) * 2 ^ 32 ≤ 3600 * d)
  | none => false

/-- The vector shift detector at a wrap of θ+ (R271). -/
def State.shiftWrap (s : State) (g : Fin 4) (t : Nat) : State :=
  let x := s.isl[g]
  let now := angleOf s.grd[g].ab[0] s.grd[g].ab[1]
  s.setIsl g { x with
    vsRef := some (now, t, s.f (F.GRD_FREQ_f g))
    due := if s.passiveOn g && s.shifted g t now then Nat.lor x.due 8 else x.due }

/-- θ+ has gone from `old` forward past 2^32 (R271, R272). -/
def wraps (old new : Word) : Bool := decide (new.toNat < old.toNat) && decide (0 ≤ (new - old).toInt)

/-- An enabled unit at the evaluation of its interface at `t`, the one before at `t0` with angle `old` (R271 to R275). -/
def State.islSample (s : State) (g : Fin 4) (t t0 : Nat) (old : Word) : State :=
  let inj := s.injecting g
  let x := s.isl[g]
  let s1 := ((s.putB (F.ISL_STAT_inj g) inj).setIsl g { x with
    injWas := inj, first := if inj && !x.injWas then true else x.first }).passiveStep g (t - t0)
  let s2 := if wraps old (s.reg (A.GRD_THETA g)) then
      (((s1.shiftWrap g t).parityWrap g).listenWrap g t).windowWrap g
    else s1
  s2.islVolt g

/-- Interfaces and units at a sample of entry `e` taken at `t` (R233, R275). -/
def State.gridIslSample (s : State) (e t : Nat) : State :=
  (List.finRange 4).foldl (fun (s : State) (g : Fin 4) =>
    if s.fb (F.GRD_CTL_en g) && s.f (F.GRD_SRC_va g) == e then
      let s1 := s.gridEval g t
      if s1.fb (F.ISL_CTL_en g) then s1.islSample g t s.grd[g].tEval (s.reg (A.GRD_THETA g)) else s1
    else s) s

/-- The units whose current entry ia is `e` take iα of the latest samples into the open window (R273, R275; assumption 64,
DEDUCED). -/
def State.islCurrents (s : State) (e t : Nat) : State :=
  (List.finRange 4).foldl (fun (s : State) (g : Fin 4) =>
    if s.fb (F.ISL_CTL_en g) && s.f (F.ISL_ISRC_ia g) == e then
      let i := (clarkeOf #v[s.latest (s.f (F.ISL_ISRC_ia g)), s.latest (s.f (F.ISL_ISRC_ib g)),
        s.latest (s.f (F.ISL_ISRC_ic g))]).1
      s.setIsl g { s.isl[g] with win := s.isl[g].win.map fun w =>
        { w with i := w.i.add i (s.thetaI g (s.thetaAt g t) (s.fb (F.ISL_STAT_p g))) } }
    else s) s

/-! ### Islanding trips -/

/-- The lowest detector of a mask. -/
def lowestOf (m : Nat) : Nat := ((List.range 6).find? (natBit m)).getD 0

/-- An islanding trip of detector `cause` is decided: recorded with the lowest cause that has decided, and the trip sequence
where it acts. ISL_TRIP.zmag, which belongs to cause 1, keeps its value for the others (R277, R282; assumption 64, DEDUCED). -/
def State.islTrip (s : State) (g : Fin 4) (cause zmag : Nat) : State :=
  let c := lowestOf (Nat.lor s.isl[g].due (2 ^ cause))
  let s1 := (s.setIsl g { s.isl[g] with due := 0 }).put (F.ISL_TRIP_cause g) c
  let s2 := if c = 1 then s1.put (F.ISL_TRIP_zmag g) zmag else s1
  if s2.fb (F.ISL_CTL_trip_en g) && (isSwitchMode s2.mode || s2.mode == mFaultHold) then s2.tripSequence [g]
  else (s2.put (F.ISL_STAT_island g) 1).islEvt g 0

/-- ISLAND_PASSIVE_TRIP: the trip that detector 2 + i has decided at the latest evaluation is carried out (R271, R277,
R282). -/
def execIslandPassiveTrip (g : Fin 4) (i : Fin 4) (s : State) : Res :=
  .next (if s.fb (F.ISL_CTL_en g) && natBit s.isl[g].due (2 + i) then s.islTrip g (2 + i) 0 else s)

/-- V and I of the latest windows, |Z| = (|V| ÷ u_nom) ÷ |I| as numerator and denominator (R275). -/
def State.zRatio (s : State) (g : Nat) (v i : Corr) : Nat × Nat :=
  (v.mag * i.n * 2 ^ 28, i.mag * v.n * (s.reg (A.GRD_UNOM g)).toInt.toNat)

/-- |I| is below 0.25 × a (R272, R275). -/
def State.lowCurrent (s : State) (g : Nat) (i : Corr) : Bool :=
  decide (8000 * i.mag < s.f (F.ISL_INJ_amp g) * i.n * 2 ^ 56) || i.n == 0

/-- |Z| in 0.001 pu; free where the spec gives no value: no nominal voltage, or beyond the field (assumption 2, DESIGN
CHOICE). -/
def zMilli (z : Nat × Nat) (w : Nat) : Nat :=
  if z.2 = 0 then w % 65536
  else
    let m := (divRound (1000 * z.1) z.2).toNat
    if m < 65536 then m else w % 65536

/-- A valid evaluation (R275): ISL_Z, the count of those at or above the threshold, and the trip of the active detector. -/
def State.islJudge (s0 : State) (g : Fin 4) (v i : Corr) : State :=
  let (w, s) := s0.freshN
  let z := s.zRatio g v i
  let m := zMilli z w
  let s1 := ((s.put (F.ISL_STAT_inj_low g) 0).put (F.ISL_Z_zmag g) m).put (F.ISL_Z_zang g)
    (angleIn 3600 (v.phase - i.phase) % 65536).toNat
  if s1.f (F.ISL_CORR_z_thr g) * z.2 ≤ 1000 * z.1 then
    let q := s1.isl[g].qz + 1
    let s2 := (s1.setIsl g { s1.isl[g] with qz := q }).islEvt g 1
    if s2.f (F.ISL_CORR_q_z g) ≤ q then (s2.setIsl g { s2.isl[g] with qz := 0 }).islTrip g 1 m else s2
  else s1.setIsl g { s1.isl[g] with qz := 0 }

/-- The evaluation of the last nwin windows together (R275): invalid, of low current, or valid. -/
def State.islEvaluate (s : State) (g : Fin 4) : State :=
  let n := s.f (F.ISL_CORR_nwin g)
  let l := s.isl[g].wins.take n
  let v := joinAll (l.map (·.v))
  let i := joinAll (l.map (·.i))
  if l.length < n then s
  else if l.any fun w => !w.ok then s.put (F.ISL_STAT_inj_low g) 0
  else if s.lowCurrent g i then (s.put (F.ISL_STAT_inj_low g) 1).islEvt g 3
  else s.islJudge g v i

/-- CORRELATION_WINDOW_END: the window that has closed joins the latest ones and they are evaluated (R275). -/
def execCorrelationWindowEnd (g : Fin 4) (_zmag _zang _low : Unit) (s : State) : Res :=
  .next (match s.isl[g].done with
    | some w =>
      let x := s.isl[g]
      (s.setIsl g { x with done := none, wins := (w :: x.wins).take 8 }).islEvaluate g
    | none => s)

/-! ### Listen intervals -/

/-- A listen interval begins: nothing is injected; the next one is due t_rel and a delay of 0 ms to 1000 ms later, counted
from here (R274; assumption 64, DEDUCED). The draw is free (assumption 2, DESIGN CHOICE). -/
def State.listenStart (s0 : State) (g : Fin 4) : State :=
  if s0.injMode g && s0.listens g && !s0.fb (F.ISL_STAT_listen g) then
    let (n, s) := s0.freshN
    ((s.put (F.ISL_STAT_listen g) 1).put (F.ISL_STAT_inj g) 0).setIsl g { s.isl[g] with
      injWas := false, lAt := none, lp := false, heard := Corr.init, lDue := false
      relAt := s.etime + s.f (F.ISL_COH_t_rel g) * 8000000000 + n % 8000000001 }
  else s0

/-- LISTEN_START: before the first injection, and at each re-listen interval (R274). -/
def execListenStart (g : Fin 4) (s : State) : Res :=
  .next (if !s.isl[g].listened || s.isl[g].relAt ≤ s.etime then s.listenStart g else s)

/-- The voltage heard reaches v_det × 0.0001 pu (R274). -/
def State.detects (s : State) (g : Nat) (c : Corr) : Bool :=
  decide (s.f (F.ISL_CORR_v_det g) * c.n * 2 ^ 56 ≤ 20000 * c.mag)

/-- cos(φ_v − z_ang) ≥ 0 for the phasor heard (R274). -/
def State.aligned (s : State) (g : Nat) (c : Corr) : Bool :=
  let z : Word := BitVec.ofInt 32 (divRound ((BitVec.ofNat 8 (s.f (F.ISL_COH_z_ang g))).toInt * 2 ^ 32) 360)
  decide (0 ≤ c.c * sinTrue (z + 0x40000000) - c.s * sinTrue z)

/-- LISTEN_END: the line cycles of the interval are over; p is chosen (R274). The reference of parity 0 is the one at the end
of the interval (assumption 64, DEDUCED). -/
def execListenEnd (g : Fin 4) (_mag _aligned : Unit) (s : State) : Res :=
  .next (
    let x := s.isl[g]
    if s.fb (F.ISL_STAT_listen g) && x.lDue then
      let s1 := (s.put (F.ISL_STAT_listen g) 0).setIsl g { x with listened := true, lAt := none, lDue := false }
      if s1.detects g x.heard then s1.setParity g (s1.aligned g x.heard == x.lp) else s1
    else s)

/-- A unit in mode 2 that has its peer (R274). -/
def State.peered (s : State) (g : Fin 4) : Bool :=
  s.fb (F.ISL_CTL_en g) && s.f (F.ISL_COH_mode g) == 2 && !s.fb (F.ISL_STAT_peer_lost g)

/-- A unit in mode 2 loses its peer: mode 1 from now on, listening at once (R274, R282). -/
def State.peerLostAt (s : State) (g : Fin 4) : State :=
  if s.peered g then (s.put (F.ISL_STAT_peer_lost g) 1).listenStart g else s

/-- Every unit in mode 2 loses its peer: the ring is down (R274, R402). -/
def State.peerLost (s : State) : State := (List.finRange 4).foldl (fun s g => s.peerLostAt g) s

/-- The parity of a unit in mode 2 is to be `p` from the wrap of θ+ nearest to EDGE time `c`: set at once where that wrap
has been seen, and to its opposite where the wrap is still to come and will toggle it (R272, R274, R401). -/
def State.peerParity (s : State) (g : Fin 4) (p : Bool) (c : Nat) : State :=
  let a := (BitVec.ofInt 32 (s.thetaAt g c)).toInt + turnsOf (s.f (F.GRD_FREQ_f g)) ((s.grd[g].tEval : Int) - c)
  s.setParity g (if 0 ≤ a then p else !p)

/-! ### Enabling -/

/-- T_det at 0.8 × f_nom is at most 500 ms (R276). -/
def State.detOk (s : State) (g : Nat) : Bool :=
  let f := s.f (F.GRD_NOM_f_nom g)
  let tl := if s.f (F.ISL_COH_mode g) = 1 then 10 * s.f (F.ISL_COH_t_listen g) else 0
  decide (tl * f + (s.f (F.ISL_CORR_nwin g) + s.f (F.ISL_CORR_q_z g)) * 2500000 ≤ 500 * f)

/-- The checks of a write that sets ISL_CTL.en (R276, R283), on the state with the written registers. -/
def State.islOk (s : State) (g : Nat) : Bool :=
  s.fb (F.GRD_CTL_en g) && [s.f (F.ISL_ISRC_ia g), s.f (F.ISL_ISRC_ib g), s.f (F.ISL_ISRC_ic g)].all
    (fun e => extEntry e && s.scanned e) && s.detOk g

/-- A unit starts or stops; one that starts in mode 2 while the ring is down has no peer (R274). -/
def State.islSwitch (s : State) (g : Fin 4) (on : Bool) : State :=
  let s1 := (((s.putB (F.ISL_CTL_en g) on).put (F.ISL_STAT_inj g) 0).put (F.ISL_STAT_listen g) 0).put
    (F.ISL_STAT_peer_lost g) 0
  let s2 := s1.setIsl g { Isl.init with recon := s.isl[g].recon }
  if s2.fb F.PRT_PSTAT_up then s2 else s2.peerLostAt g

/-! ### Reconnection -/

/-- `n` milliseconds counted are the t_rc seconds of the reconnect timer (R278; assumption 92, DEDUCED). -/
def State.rcEnds (s : State) (g : Fin 4) (n : Nat) : Bool := decide (1000 * s.f (F.ISL_RECON_t_rc g) ≤ n)

/-- One millisecond of a reconnect timer, which runs only while sync_ok is set; at its end rc_done (R278). -/
def State.rcStep (s : State) (g : Fin 4) : State :=
  if s.fb (flgBit g 2) && !s.fb (F.ISL_STAT_rc_done g) then
    let n := s.isl[g].recon + 1
    let s1 := s.setIsl g { s.isl[g] with recon := n }
    if s.rcEnds g n then (s1.put (F.ISL_STAT_rc_done g) 1).islEvt g 4 else s1
  else s

/-- One millisecond of the reconnect timers (R278). -/
def State.rcTick (s : State) : State := (List.finRange 4).foldl (fun s g => s.rcStep g) s

/-- RECONNECT_DONE: the last millisecond of the timer (R278). -/
def execReconnectDone (g : Fin 4) (s : State) : Res := .next (if s.rcEnds g (s.isl[g].recon + 1) then s.rcStep g else s)

/-! ### The contactor -/

/-- A write of 1 to ISL_KCTL.close (R280, R284): both drives rise. -/
def State.kClose (s : State) : Nat × State :=
  if s.fb F.ISL_KCFG_en && s.mode == mSync && s.fb (flgBit s.kg 2) && s.fb (F.ISL_STAT_rc_done s.kg) &&
      s.f F.ISL_KSTAT_st == 0 then
    (rOk, s.kDrive 1 1)
  else (rMode, s)

/-- A channel opens in CLOSED: OPENING, drop-out (R279, R281). -/
def State.kDrop (s : State) : State := s.kOpen.report 0x2E00 .BC 0

/-- The contactor follows its filtered channels (R279). -/
def State.kFollow (s : State) : State :=
  if s.f F.ISL_KSTAT_st = 2 ∧ ¬(s.fb F.ISL_KSTAT_fba ∧ s.fb F.ISL_KSTAT_fbb) then s.kDrop else s.kSettle

/-- KFB_CHANGE: the latest ten samples of KFB_B (or KFB_A), the last at EDGE time `t`; ten equal ones set the channel, with
the level that its polarity bit says means closed (R279, R284). In reset no input is heard (R24). -/
def execKfbChange (b : Bool) (w : BitVec 10) (t : Nat) (s0 : State) : Res :=
  .next <| s0.heard (
    if w = 0 ∨ w = 0x3FF then
      let s := s0.toInstant t
      let inv := s.fb (if b then F.ISL_KCFG_fbb_pol else F.ISL_KCFG_fba_pol)
      (s.putB (if b then F.ISL_KSTAT_fbb else F.ISL_KSTAT_fba) ((w != 0) != inv)).kFollow
    else s0)

/-- A write of ISL_KCFG that changes a polarity changes what its filtered level shows (R279, R284). -/
def State.kcfgPol (s t : State) : State :=
  let a := s.fb F.ISL_KCFG_fba_pol != t.fb F.ISL_KCFG_fba_pol
  let b := s.fb F.ISL_KCFG_fbb_pol != t.fb F.ISL_KCFG_fbb_pol
  (t.putB F.ISL_KSTAT_fba (s.fb F.ISL_KSTAT_fba != a)).putB F.ISL_KSTAT_fbb (s.fb F.ISL_KSTAT_fbb != b)

/-- CONTACTOR_TIMEOUT: 50 ms after the drive change without the confirming feedback: a close failure, or a welded contactor
(R279, R281). -/
def execContactorTimeout (s : State) : Res :=
  .next (if s.kT0 + 400000000 ≤ s.etime then
    match s.f F.ISL_KSTAT_st with
    | 1 => s.kOpen.report 0x6800 .C 0
    | 3 =>
      let s1 := (s.put F.ISL_KSTAT_st 4).islEvt s.kg 7
      s1.report 0x0900 .A (s1.reg A.ISL_KSTAT)
    | _ => s
  else s)

end Sys2Proof.Machine
end

