-- ==== Sys2Proof/Machine/Precharge.lean ====
section
/-! DEFINITION. Precharge (R262 to R265, R269, R270). -/

namespace Sys2Proof.Machine

/-- V_dc (R263). -/
def State.vDc (s : State) : Int := s.latest (s.f F.SYS_PCH_CFG_dc_ent)

/-- Set a bit of SYS_EVT with its event (R434). -/
def State.sysEvt (s : State) (b ev : Nat) : State := s.src ⟨A.SYS_EVT, b, 1⟩ ev

/-- Precharge is done: SYS_PCH_STAT.done, EV116 (R263). -/
def State.pchDone (s : State) : State :=
  ((s.put F.SYS_PCH_STAT_done 1).put F.SYS_PCH_STAT_t_ms (min 65535 (s.pchN / 10))).sysEvt 0 116

/-- Entry to PRECHARGE (R262, R263): the drive and the timers, or done at once where the unit is not in use. -/
def State.pchEnter (s : State) : State :=
  let s1 := { (s.put F.SYS_PCH_STAT_done 0).put F.SYS_PCH_STAT_t_ms 0 with
    pchOk := 0, pchN := 0, pchOv := 0, pchV0 := s.vDc, pchChk := 0, pchOverlap := false }
  if s1.fb F.SYS_PCH_CFG_en then s1.put F.SYS_PCH_STAT_drive 1 else s1.pchDone

/-- Precharge fails with a cause (R264): drive inactive, EV117, class C, STANDBY. -/
def State.pchFail (s : State) (cause : Nat) : State :=
  let s1 := (((s.put F.SYS_PCH_STAT_drive 0).put F.SYS_PCH_STAT_fail 1).put F.SYS_PCH_STAT_cause cause).put
    F.SYS_PCH_STAT_t_ms (min 65535 (s.pchN / 10))
  ((s1.sysEvt 1 117).report (0x6700 + cause) .C (BitVec.ofNat 32 (s1.f F.SYS_PCH_STAT_t_ms))).enterStandby

/-- The precharge unit works (R263). -/
def State.pchOn (s : State) : Bool := s.mode == mPrecharge && s.fb F.SYS_PCH_CFG_en

/-- The done conditions on the latest samples (R263). -/
def State.pchCond (s : State) : Bool :=
  let src := s.f F.SYS_PCH_CFG_src_ent
  decide ((s.f F.SYS_PCH_THR_v_done * 2 ^ 28 : Nat) ≤ s.vDc * 1000) &&
    (src == 63 || !s.fb F.SYS_PCH_THR_ratio || decide (s.f F.SYS_PCH_THR_ratio * s.latest src ≤ 256 * s.vDc))

/-- An entry of the unit fails a plausibility check (R264). -/
def State.pchEntFail (s : State) : Bool :=
  s.entLive (s.f F.SYS_PCH_CFG_dc_ent) || (s.f F.SYS_PCH_CFG_src_ent != 63 && s.entLive (s.f F.SYS_PCH_CFG_src_ent))

/-- V_dc rises by less than dv_min since the interval began, where the check is on (R264). -/
def State.pchFlat (s : State) : Bool :=
  s.fb F.SYS_PCH_THR_dv_min && decide ((s.vDc - s.pchV0) * 1000 < (s.f F.SYS_PCH_THR_dv_min * 2 ^ 28 : Nat))

/-- What one evaluation measures: V_dc, and the runs of passing and of over-voltage evaluations (R263, R264). -/
def State.pchSample (s : State) : State :=
  let hi := decide ((s.f F.SYS_PCH_VMEAS_v_max * 2 ^ 28 : Nat) < s.vDc * 1000)
  { s.put F.SYS_PCH_VMEAS_vdc (clampInt 0 65535 (divRound (s.vDc * 1000) (2 ^ 28))).toNat with
    pchN := s.pchN + 1, pchOk := if s.pchCond then s.pchOk + 1 else 0, pchOv := if hi then s.pchOv + 1 else 0 }

/-- `n` passing evaluations in a row span t_settle (R263, R270). -/
def State.settled (s : State) (n : Nat) : Bool := decide (10 * max 1 (s.f F.SYS_PCH_TIME_t_settle) < n)

/-- `n` evaluations after entry span t_max (R264). -/
def State.pchLate (s : State) (n : Nat) : Bool := decide (10 * s.f F.SYS_PCH_TIME_t_max ≤ n)

/-- Done once the conditions have held for t_settle (R263, R269). -/
def State.pchSettle (s : State) : State :=
  if !s.fb F.SYS_PCH_STAT_done && s.settled s.pchOk then s.pchDone else s

/-- `n` evaluations after entry end a progress interval of t_chk × 10 ms, which is 100 evaluations each (R264). -/
def State.pchEnds (s : State) (n : Nat) : Bool := decide (s.pchChk + 100 * max 1 (s.f F.SYS_PCH_TIME_t_chk) ≤ n)

/-- The failures of an evaluation, of which the lowest cause is recorded (R264, R269); a progress interval that ends with
it is judged by it, and the next one begins at its V_dc. -/
def State.pchJudge (s : State) : State :=
  let undone := !s.fb F.SYS_PCH_STAT_done
  let ends := s.pchEnds s.pchN
  if undone && s.pchLate s.pchN then s.pchFail 1
  else if undone && ends && s.pchFlat then s.pchFail 2
  else if s.pchEntFail then s.pchFail 3
  else if 2 ≤ s.pchOv then s.pchFail 4
  else if ends then { s with pchChk := s.pchN, pchV0 := s.vDc }
  else s

/-- One 100 µs evaluation: what it measures, done, then the failures, so that done comes before a timeout (R263, R264,
R269). -/
def State.pchEval (s : State) : State := s.pchSample.pchSettle.pchJudge

/-- PRECHARGE_EVALUATE (R263). -/
def execPrechargeEvaluate (s : State) : Res := .next (if s.pchOn then s.pchEval else s)

/-- The next evaluation completes t_settle on the latest samples (R263). -/
def State.doneDue (s : State) : Bool := s.pchCond && s.settled (s.pchOk + 1)

/-- PRECHARGE_DONE: the evaluation that is due completes t_settle (R263); the failures of that evaluation follow it
(R264). -/
def execPrechargeDone (s : State) : Res :=
  .next (if s.pchOn && !s.fb F.SYS_PCH_STAT_done && s.doneDue then s.pchEval else s)

/-- PRECHARGE_TIMEOUT: the evaluation that is due lies t_max after entry and does not complete t_settle (R264, R269). -/
def execPrechargeTimeout (s : State) : Res :=
  .next (if s.pchOn && !s.fb F.SYS_PCH_STAT_done && !s.doneDue && s.pchLate (s.pchN + 1) then s.pchEval else s)

/-- PRECHARGE_PROGRESS_CHECK: the evaluation that is due ends a progress interval (R264). -/
def execPrechargeProgressCheck (s : State) : Res :=
  .next (if s.pchOn && s.pchEnds (s.pchN + 1) then s.pchEval else s)

/-- The overlap has lasted SYS_PCH_CFG.overlap ms (R265). -/
def State.overlapDone (s : State) : Bool := decide (s.pchExit + 8000000 * s.f F.SYS_PCH_CFG_overlap ≤ s.etime)

/-- PRECHARGE_OVERLAP_END (R265). -/
def execPrechargeOverlapEnd (s : State) : Res := .next (if s.pchOverlap && s.overlapDone then s.pchEnd else s)

end Sys2Proof.Machine
end

