-- ==== Sys2Proof/Machine/Store.lean ====
section
/-! DEFINITION. The persistent word store's write unit (R406 to R412, R417): counters, limits and the order of requests. -/

namespace Sys2Proof.Machine

/-- The write counter of the word at byte address `a` of the store (R410). -/
def ctrAddr (a : Nat) : Nat := 0xB8000 + (a - 0xB0000)

/-- Endurance units used by a word. -/
def State.units (s : State) (a : Nat) : Nat := getBits (s.reg (ctrAddr a)) 0 20

/-- A word at its endurance limit (R410). -/
def State.atLimit (s : State) (a : Nat) : Bool := decide (1000000 ≤ s.units a)

/-- Set a bit of PRS_EVT with EV119 (R417). -/
def State.prsEvt (s : State) (b : Nat) : State := s.src ⟨A.PRS_EVT, b, 1⟩ 119

/-- PRS_LASTREF names a word that was refused or warned of (R417). -/
def State.noteRef (s : State) (a : Nat) : State := s.put F.PRS_LASTREF_word ((a - 0xB0000) / 4)

/-- A write counts 1 unit, or 4 above 105 °C; the warning comes once for a word (R410). -/
def State.countWrite (s : State) (a : Nat) (hot : Bool) : State :=
  let old := s.units a
  let n := satAdd 20 old (if hot then 4 else 1)
  let s1 := s.setReg (ctrAddr a) (BitVec.ofNat 32 (n + 2 ^ 31 * b2n (decide (1000000 ≤ n))))
  if old < 900000 ∧ 900000 ≤ n then (s1.noteRef a).prsEvt 0 else s1

/-- A write refused with ENDURANCE: the value stays (R410). -/
def State.refuseWord (s : State) (a : Nat) : State := (s.noteRef a).prsEvt 1

/-- Complete every PERSIST_WRITE whose words are all written (R371). -/
def State.persistDone (s : State) : State :=
  (s.cmds.filter fun c => c.ph == .writing && c.op == opPersist && !s.wq.any fun q => q.cmd == some c.id).foldl
    (fun s c => s.finish c.id c.res c.part c.cause c.word []) s

/-- The words of a command's PERSIST_WRITE that wait in the write unit. -/
def State.wordsLeft (s : State) (id : Nat) : List WReq := s.wq.filter fun q => q.kind == 0 && q.cmd == some id

/-- The word at the head of the unit cannot be written, nor any word after it of its request: a request is refused whole as it
starts where one of its words is at its limit (R371, R410). The index of that word. -/
def State.limitWord (s : State) (c : Cmd) : Option Nat :=
  let l := s.wordsLeft c.id
  if l.length = c.todo.length then (List.range l.length).find? fun i => (l[i]?).any fun q => s.atLimit q.addr else none

/-- What waits at the head of the write unit, `n` steps of it: a PERSIST_WRITE with a word at its limit is refused whole as it
starts; a word equal to its stored value is skipped (R371, R409, R410). -/
def State.storeTake (s : State) : Nat → State
  | 0 => s
  | n + 1 =>
    match s.wq with
    | [] => s
    | q :: t =>
      if q.kind ≠ 0 then s
      else match (q.cmd.bind s.cmd?).bind fun c => (s.limitWord c).map fun i => (c, i) with
        | some (c, i) =>
          let a := (((s.wordsLeft c.id)[i]?).map (·.addr)).getD q.addr
          ((({ s with wq := s.wq.filter fun r => !(r.kind == 0 && r.cmd == q.cmd) }).refuseWord a).finish c.id rEndurance 0xFF
            rEndurance i []).storeTake n
        | none => if s.reg q.addr = q.val then { s with wq := t }.storeTake n else s

/-- The write unit takes its next word (R409). -/
def State.storeNext (s : State) : State := (s.storeTake s.wq.length).persistDone

/-- Requests in the write unit, after word `p`: runs of one kind and one command, each save by itself (R409). -/
def requestsOf : Option WReq → List WReq → Nat
  | _, [] => 0
  | p, q :: t =>
    let new := p.all fun r => r.kind != q.kind || r.cmd != q.cmd || (q.kind == 2 && q.addr % 0x100 == 0)
    b2n new + requestsOf (some q) t

end Sys2Proof.Machine
end

