-- ==== Sys2Proof/Machine/Metering.lean ====
section
/-! DEFINITION. Metering points, energy registers, power-quality events, and saves of energy (R285 to R305, R412). -/

namespace Sys2Proof.Machine

/-! ### Samples -/

/-- A point evaluates at a sample of its reference voltage entry taken at `t`, on the latest samples of the six entries
(R285); whether the reference voltage has passed beyond ±zc_hys (R286). -/
def State.meterSample (s : State) (e t : Nat) : State :=
  (List.finRange 4).foldl (fun (s : State) (m : Fin 4) =>
    if s.fb (F.MTR_CTL_en m) && s.vEnt m (s.f (F.MTR_CFG_ref m)) == e then
      let x := s.mtr[m]
      let r := 1000 * s.latest e
      let h : Int := s.f (F.MTR_CFG_zc_hys m) * 2 ^ 28
      s.setMtr m { x with
        smp := ⟨t, Vector.ofFn fun i : Fin 3 => s.latest (s.vEnt m i), Vector.ofFn fun i : Fin 3 => s.latest (s.iEnt m i)⟩ ::
          x.smp
        low := x.low || decide (r < -h), high := x.high || decide (h < r) }
    else s) s

/-- The samples of a point from `a` up to but not at `b` (R286). -/
def Mtr.span (x : Mtr) (a b : Nat) : List MSmp := x.smp.filter fun p => decide (a ≤ p.t) && decide (p.t < b)

/-- The sum of a quantity over samples. -/
def sumOf (l : List MSmp) (f : MSmp → Int) : Int := l.foldl (fun n p => n + f p) 0

/-! ### Quantities of a cycle -/

/-- The nominal period as a number of taps, over f_nom in mHz (R290). -/
def nomTaps : Nat := 8000000000000

/-- Largest r with r² ≤ n, for n below 2^80. -/
def isqrt (n : Nat) : Nat := isqrtGo n 40 0

/-- A quantity whose definition gives `x`: within 0.01 % of reading, saturated to pu28 (R287; assumption 94, DESIGN CHOICE
below 1000 samples). -/
def State.near (s : State) (x : Int) : Word × State :=
  let (w, s1) := s.fresh
  let d : Int := (x.natAbs / 10000 : Nat)
  ((sat32 (x + clampInt (-d) d w.toInt)).1, s1)

/-- A line cycle that ends: its samples, its start, and its length as numerator and denominator in taps (R286, R290). -/
structure Cycle where
  l : List MSmp
  start : Nat
  num : Nat
  den : Nat

/-- Harmonic `h` of a quantity over a cycle by a single-bin DFT at multiples of 1 ÷ T_c: its products with cosine and sine
(R287). -/
def Cycle.bin (c : Cycle) (h : Nat) (f : MSmp → Int) : Corr :=
  c.l.foldl (fun (a : Corr) p =>
    let th := BitVec.ofInt 32 (h * divRound (((p.t : Int) - c.start) * c.den * 2 ^ 32) c.num)
    ⟨a.c + f p * sinTrue (th + 0x40000000), a.s + f p * sinTrue th, a.n + 1⟩) Corr.init

/-- The phase of the fundamental of a quantity; positive leads (R287). -/
def Cycle.phase (c : Cycle) (f : MSmp → Int) : Word := (c.bin 1 f).phase

/-- Harmonics 1 to 25 of a voltage and a current (R288). -/
def Cycle.harmonics (c : Cycle) (v i : MSmp → Int) : List (Corr × Corr) :=
  (List.range 25).map fun h => (c.bin (h + 1) v, c.bin (h + 1) i)

/-- Q_x over `n` samples in pu28: each harmonic with an exact lag of 90°, so that a lagging current counts positive (R287,
R288). -/
def reactive (hs : List (Corr × Corr)) (n : Nat) : Int :=
  divRound (hs.foldl (fun a p => a + (p.1.c * p.2.s - p.1.s * p.2.c)) 0) (n * n * 2 ^ 83)

/-- What the tolerance of the lag leaves open of Q_x, in pu28: 0.1° of the fundamental, 1° of the harmonics, and what the
voltage holds beyond them, for which the spec gives no lag (R288; assumption 65, DEDUCED). -/
def reactiveTol (hs : List (Corr × Corr)) (n : Nat) (v2 i2 : Int) : Nat :=
  let share (p : Corr × Corr) : Nat := isqrtGo (sqSum p.1.c p.1.s * sqSum p.2.c p.2.s) 200 0
  let parts := (hs.mapIdx fun k p => share p * (if k = 0 then 1746 else 17456)).foldl (· + ·) 0
  let inBand := hs.foldl (fun a p => a + sqSum p.1.c p.1.s) 0
  let rest := (v2 - ((2 * inBand / (n * 2 ^ 56) : Nat) : Int)).toNat
  parts / (1000000 * n * n * 2 ^ 83) + isqrtGo (rest * i2.toNat) 120 0 / (n * 2 ^ 28) + 1

/-- Q_x as the point computes it: within the tolerance of the lag and 0.01 % of reading at a frequency from 0.8 f_nom to
1.2 f_nom (assumption 94, DESIGN CHOICE below 1000 samples); free elsewhere, where the spec gives no lag (R287, R288;
assumption 2, DESIGN CHOICE). -/
def State.nearQ (s : State) (m : Fin 4) (c : Cycle) (x : Fin 3) (v2 i2 : Int) : Word × State :=
  let (w, s1) := s.fresh
  let n := c.l.length
  let fn := s.f (F.MTR_NOM_f_nom m)
  let inBand := decide (8 * fn * c.num ≤ 10 * nomTaps * c.den) && decide (10 * nomTaps * c.den ≤ 12 * fn * c.num)
  if inBand then
    let hs := c.harmonics (fun p => p.v[x]) (fun p => p.i[x])
    let q := reactive hs n
    let d : Int := (reactiveTol hs n v2 i2 + q.natAbs / 10000 : Nat)
    ((sat32 (q + clampInt (-d) d w.toInt)).1, s1)
  else (w, s1)

/-- The quantities of phase x over the cycle (R287, R288). -/
def State.phaseQuantities (s : State) (m : Fin 4) (c : Cycle) (x : Fin 3) : State :=
  let n := c.l.length
  let v2 := sumOf c.l fun p => p.v[x] * p.v[x]
  let i2 := sumOf c.l fun p => p.i[x] * p.i[x]
  let (v, s1) := s.near (isqrt (v2.toNat / n))
  let (i, s2) := s1.near (isqrt (i2.toNat / n))
  let (a, s3) := s2.near (divRound (sumOf c.l fun p => p.v[x] * p.i[x]) (n * 2 ^ 28))
  let (q, s4) := s3.nearQ m c x v2 i2
  let (t, s5) := s4.near (rshRound (v.toInt * i.toInt) 28)
  (((((s5.setReg (A.MTR_VRMS m x) v).setReg (A.MTR_IRMS m x) i).setReg (A.MTR_P m x) a).setReg (A.MTR_Q m x) q).setReg
    (A.MTR_S m x) t).setReg (A.MTR_PF m x) (puRatio a.toInt (absW t))

/-- The sum of three registers, saturated. -/
def State.sum3 (s : State) (r : Nat → Nat) : Word :=
  (sat32 ((s.reg (r 0)).toInt + (s.reg (r 1)).toInt + (s.reg (r 2)).toInt)).1

/-- An angle in 0.01° as a 16-bit field (R304). -/
def centi16 (a : Word) : Nat := (angleIn 36000 a % 65536).toNat

/-- The angles of the cycle: voltages b and c to a, each current to its own phase voltage (R287, R304). -/
def State.angles (s : State) (m : Fin 4) (c : Cycle) : State :=
  let v (x : Fin 3) : Word := c.phase fun p => p.v[x]
  let i (x : Fin 3) : Word := c.phase (fun p => p.i[x]) - v x
  ((((s.put (F.MTR_ANG0_vb m) (centi16 (v 1 - v 0))).put (F.MTR_ANG0_vc m) (centi16 (v 2 - v 0))).put (F.MTR_ANG1_ia m)
    (centi16 (i 0))).put (F.MTR_ANG1_ib m) (centi16 (i 1))).put (F.MTR_ANG2_ic m) (centi16 (i 2))

/-- Totals and frequency of the cycle, 1 ÷ T_c in 0.1 mHz (R287). -/
def State.totals (s : State) (m : Fin 4) (c : Cycle) : State :=
  let s1 := ((s.setReg (A.MTR_PT m) (s.sum3 (A.MTR_P m))).setReg (A.MTR_QT m) (s.sum3 (A.MTR_Q m))).setReg (A.MTR_ST m)
    (s.sum3 (A.MTR_S m))
  (s1.setReg (A.MTR_PFT m) (puRatio (s1.reg (A.MTR_PT m)).toInt (absW (s1.reg (A.MTR_ST m))))).put
    (F.MTR_FREQ_f m) (min (divRound (10 * nomTaps * c.den) c.num).toNat 1048575)

/-- Phase x passes the creep test (R291). -/
def State.creepOk (s : State) (m x : Nat) : Bool :=
  decide ((s.f (F.MTR_CREEP_start m) : Int) * (s.reg (A.MTR_IRATED m)).toInt ≤ 10000 * (s.reg (A.MTR_IRMS m x)).toInt)

/-- The energy increment of power `p` over num ÷ den taps, in 2^−24 of the register LSB (R290, R292). -/
def energyInc (p : Int) (num den lsb : Nat) : Nat :=
  (divRound (p.natAbs * num * 2 ^ (20 - 4 * lsb)) (den * 8000000000)).toNat

/-- The registers take the energy of a cycle of num ÷ den taps (R290, R291); none in HOLDUP (R298). -/
def State.accumulate (s : State) (m : Fin 4) (num den : Nat) : State :=
  let ok := [0, 1, 2].filter (s.creepOk m)
  let s1 := s.put (F.MTR_STAT_creep m) (7 - (ok.foldl (fun n x => n + 2 ^ x) 0))
  if s1.mode = mHoldup then s1
  else
    let tot (r : Nat → Nat) : Int := (sat32 ((ok.map fun x => (s.reg (r x)).toInt).foldl (· + ·) 0)).1.toInt
    let p := tot (A.MTR_P m)
    let q := tot (A.MTR_Q m)
    let l := s.f (F.MTR_CFG_lsb m)
    let a : Fin 6 := if 0 ≤ p then 0 else 1
    let r : Fin 6 := if 0 ≤ p then (if 0 ≤ q then 2 else 5) else if 0 ≤ q then 3 else 4
    let e := s.mtr[m].e
    let e1 := e.set a ((e[a] + energyInc p num den l) % 2 ^ 88)
    let e2 := e1.set r ((e1[r] + energyInc q num den l) % 2 ^ 88)
    s1.setMtr m { s1.mtr[m] with e := e2 }

/-! ### Latches -/

/-- Bit m of MTR_EVT.latch, pq. -/
def mtrEvt (g m : Nat) : Fld := ⟨A.MTR_EVT, 4 * g + m, 1⟩

/-- The LATCH_METER commands that wait for point m (R293). -/
def State.latchCmds (s : State) (m : Nat) (ok : Bool) : State :=
  (s.cmds.filter fun c => c.ph == .latching && natBit c.points m).foldl (fun s c =>
    if !ok then s.finishR c.id rMode
    else if natClr c.points m = 0 then s.finish c.id rOk 0xFF rOk 0 []
    else s.updCmd c.id fun c => { c with points := natClr c.points m }) s

/-- The latch of a point's registers; the conditions of the next interval start from what holds now (R292, R293, R299,
R302, R304). -/
def State.meterLatch (s : State) (m : Fin 4) : State :=
  let x := s.mtr[m]
  let s1 := (s.setReg (A.MTR_LSEQ m) (BitVec.ofNat 32 ((s.f (F.MTR_LSEQ_seq m) + 1) % 65536 + 2 ^ 16 * b2n x.lFail +
    2 ^ 17 * b2n x.lFree + 2 ^ 18 * b2n x.lRest + 2 ^ 19 * b2n x.lGap))).put (F.MTR_STAT_cyc m) 0
  let s2 := s1.setMtr m { x with
    el := x.e.map (· / 2 ^ 24), lFail := s.mtrEntFail m, lFree := s.fb (F.MTR_STAT_free m), lRest := false, lGap := false }
  (s2.src (mtrEvt 0 m) 72).latchCmds m true

/-- A LATCH_METER waits for the point (R293). -/
def State.latchWaits (s : State) (m : Fin 4) : Bool := s.cmds.any fun c => c.ph == .latching && natBit c.points m

/-- The end of a line cycle (R287 to R293). -/
def State.cycleEnd (s : State) (m : Fin 4) (c : Cycle) : State :=
  let s1 := (((List.finRange 3).foldl (fun (s : State) (x : Fin 3) => s.phaseQuantities m c x) s).totals m c).angles m c
  let s2 := s1.accumulate m c.num c.den
  let n := s2.f (F.MTR_STAT_cyc m) + 1
  let s3 := s2.put (F.MTR_STAT_cyc m) n
  if s3.f (F.MTR_CFG_nlat m) + 1 ≤ n || s3.latchWaits m then s3.meterLatch m else s3

/-! ### Power-quality events -/

/-- The byte address of event record r of point m (R296). -/
def pqAddr (m r : Nat) : Nat := 0x81000 + m * 0x400 + r * 0x10

/-- `u` lies below, above (th ± h) of u_decl, with thresholds in 0.1 % (R295). -/
def State.uBelow (s : State) (m th : Nat) (u : Int) : Bool :=
  decide (u * 1000000 < (th * s.f (F.MTR_PQ0_u_decl m) * 2 ^ 28 : Nat))
def State.uAbove (s : State) (m : Nat) (th u : Int) : Bool :=
  decide (th * (s.f (F.MTR_PQ0_u_decl m) * 2 ^ 28 : Nat) < u * 1000000)

/-- U_hc in 0.001 of u_decl, in 16 bits (R296). -/
def State.uRel (s : State) (m : Nat) (u : Int) : Nat :=
  let d := s.f (F.MTR_PQ0_u_decl m)
  if d = 0 then 65535 else (clampInt 0 65535 (divRound (u * 1000000) (d * 2 ^ 28))).toNat

/-- A record is opened in the next slot (R296). -/
def State.pqOpen (s : State) (m : Fin 4) (typ phases ext : Nat) : Nat × State :=
  let r := s.f (F.MTR_PQSTAT_next m)
  let n := s.f (F.MTR_PQSTAT_total m)
  let a := pqAddr m r
  let s1 := (((s.setMw a (BitVec.ofNat 32 (n % 256 + 2 ^ 8 * typ + 2 ^ 10 * phases + 2 ^ 13 + 2 ^ 16 * ext))).setMw (a + 4)
    (s.reg A.SYS_RTC_SEC)).setMw (a + 8) 0).setMw (a + 12) (BitVec.ofNat 32 s.rtcMs)
  (r, ((s1.put (F.MTR_PQSTAT_next m) (r + 1)).put (F.MTR_PQSTAT_total m) (n + 1)).src (mtrEvt 1 m) 73)

/-- A record takes an update: type, phases, extreme, and one half cycle more (R296). -/
def State.pqUpdate (s : State) (a typ phases ext : Nat) : State :=
  let w := s.mw a
  let w1 := putBits (putBits (putBits w 8 2 typ) 10 3 (Nat.lor (getBits w 10 3) phases)) 16 16 ext
  (s.setMw a w1).setMw (a + 8) (BitVec.ofNat 32 (min (getBits (s.mw (a + 8)) 0 24 + 1) (2 ^ 24 - 1)))

/-- A record is closed. -/
def State.pqClose (s : State) (m : Fin 4) (a : Nat) : State := (s.setMw a (putBits (s.mw a) 13 1 0)).src (mtrEvt 1 m) 73

/-- The mask of the phases that satisfy `p`. -/
def phaseMask (u : Vector Int 3) (p : Int → Bool) : Nat := b2n (p u[0]) + 2 * b2n (p u[1]) + 4 * b2n (p u[2])

/-- Sags and interruptions at an update (R295). -/
def State.sagStep (s : State) (m : Fin 4) (u : Vector Int 3) : State :=
  let th := 10 * s.f (F.MTR_PQ1_sag_th m)
  let h := s.f (F.MTR_PQ0_hys m)
  let low := phaseMask u (s.uBelow m th)
  let intr := phaseMask u (s.uBelow m (10 * s.f (F.MTR_PQ1_int_th m))) == 7
  let ext := s.uRel m (min u[0] (min u[1] u[2]))
  match s.mtr[m].sag with
  | none =>
    if low = 0 then s
    else
      let (r, s1) := s.pqOpen m (if intr then 3 else 1) low ext
      s1.setMtr m { s1.mtr[m] with sag := some r }
  | some r =>
    let a := pqAddr m r
    let s1 := s.pqUpdate a (if intr then 3 else getBits (s.mw a) 8 2) low (min ext (getBits (s.mw a) 16 16))
    if phaseMask u (s.uBelow m (th + h)) = 0 then (s1.pqClose m a).setMtr m { s1.mtr[m] with sag := none } else s1

/-- Swells at an update (R295). -/
def State.swellStep (s : State) (m : Fin 4) (u : Vector Int 3) : State :=
  let th : Int := (10 * s.f (F.MTR_PQ1_swell_th m) : Nat)
  let h : Int := s.f (F.MTR_PQ0_hys m)
  let high := phaseMask u (s.uAbove m th)
  let ext := s.uRel m (max u[0] (max u[1] u[2]))
  match s.mtr[m].swell with
  | none =>
    if high = 0 then s
    else
      let (r, s1) := s.pqOpen m 2 high ext
      s1.setMtr m { s1.mtr[m] with swell := some r }
  | some r =>
    let a := pqAddr m r
    let s1 := s.pqUpdate a 2 high (max ext (getBits (s.mw a) 16 16))
    if phaseMask u (s.uAbove m (th - h)) = 0 then (s1.pqClose m a).setMtr m { s1.mtr[m] with swell := none } else s1

/-- RMS of v_x over samples (R295). -/
def State.rmsOf (s : State) (l : List MSmp) (x : Fin 3) : Word × State :=
  s.near (isqrt ((sumOf l fun p => p.v[x] * p.v[x]).toNat / l.length))

/-- The length of a nominal line cycle in taps. -/
def State.nomCycle (s : State) (m : Fin 4) : Nat := (divRound nomTaps (s.f (F.MTR_NOM_f_nom m))).toNat

/-- The start of the most recent full line cycle that ends at the half-cycle end `t` (R295): one nominal period back in
free-run; the start of the running cycle where `t` ends it; else the previous end within a cycle, and where that lies
further back than one cycle, the length of the latest line cycle back. None before a full cycle has passed. -/
def State.cycleBefore (s : State) (m : Fin 4) (t : Nat) (full : Bool) : Option Nat :=
  let x := s.mtr[m]
  if s.fb (F.MTR_STAT_free m) then some (t - s.nomCycle m)
  else if full then x.zc
  else match x.half, x.zp, x.zc with
    | some h, some p, some c => some (if p ≤ h then h else t - (c - p))
    | none, some p, some c => some (t - (c - p))
    | h, none, _ => h
    | h, _, none => h

/-- The update of a point's events at a half-cycle end `t`, which ends a cycle where `full` says so: U_hc over the full line
cycle that ends there, once there has been one; a sag comes before a swell (R295, R296). -/
def State.pqStep (s : State) (m : Fin 4) (t : Nat) (full : Bool) : State :=
  match s.cycleBefore m t full with
  | some b =>
    let l := s.mtr[m].span b t
    if s.fb (F.MTR_CFG_pq_en m) && decide (3 ≤ s.mode) && !l.isEmpty then
      let (p, s1) := s.rmsOf l 0
      let (q, s2) := s1.rmsOf l 1
      let (r, s3) := s2.rmsOf l 2
      let u : Vector Int 3 := #v[p.toInt, q.toInt, r.toInt]
      let s4 := (s3.sagStep m u).swellStep m u
      s4.putB (F.MTR_STAT_pq_open m) (s4.mtr[m].sag.isSome || s4.mtr[m].swell.isSome)
    else s
  | none => s

/-! ### Crossings and free-run -/

/-- Samples older than the latest line cycle go, and before there has been one those older than the running cycle and the
latest half-cycle end (R286, R295). -/
def Mtr.trim (x : Mtr) (t : Nat) : Mtr :=
  let old := x.zp.getD (min (x.zc.getD t) (x.half.getD t))
  { x with smp := x.smp.filter fun p => decide (old ≤ p.t) }

/-- A line cycle ends at `t`, where one is under way with a sample in it, of `num ÷ den` taps where given and of its own
length otherwise (R286, R287). -/
def State.endCycle (s : State) (m : Fin 4) (t : Nat) (nominal : Bool) : State :=
  match s.mtr[m].zc with
  | some c =>
    let l := s.mtr[m].span c t
    if l.isEmpty then s
    else s.cycleEnd m (if nominal then ⟨l, c, nomTaps, s.f (F.MTR_NOM_f_nom m)⟩ else ⟨l, c, t - c, 1⟩)
  | none => if s.latchWaits m then s.meterLatch m else s

/-- The instant at which the straight line between two samples of the reference voltage crosses 0, to the nearest tap
(R286; assumption 65, DEDUCED). -/
def crossAt (t0 t1 : Nat) (v0 v1 : Int) : Nat :=
  t0 + (divRound (v0.natAbs * (t1 - t0 : Nat)) (v1 - v0).natAbs).toNat

/-- The crossing between the latest two samples, where there is one of the given direction (R286). -/
def State.crossing (s : State) (m : Fin 4) (pos : Bool) : Option Nat :=
  match s.mtr[m].smp with
  | b :: a :: _ =>
    let r : Fin 3 := ⟨s.f (F.MTR_CFG_ref m) % 3, by omega⟩
    let u := a.v[r]
    let w := b.v[r]
    if if pos then u < 0 ∧ 0 ≤ w else 0 ≤ u ∧ w < 0 then some (crossAt a.t b.t u w) else none
  | _ => none

/-- A crossing is accepted: its hysteresis, and 0.35 ÷ f_nom after the previous accepted one (R286). -/
def State.accepts (s : State) (m : Fin 4) (pos : Bool) (c : Nat) : Bool :=
  let x := s.mtr[m]
  (if pos then x.low else x.high) &&
    (!x.any || decide (35 * nomTaps ≤ 100 * s.f (F.MTR_NOM_f_nom m) * (c - x.base)) && decide (x.base ≤ c))

/-- The latest sample of the reference voltage lies beyond ±zc_hys (R286). -/
def State.beyondHys (s : State) (m : Fin 4) : Bool :=
  (s.mtr[m].smp.head?).any fun p =>
    decide (s.f (F.MTR_CFG_zc_hys m) * 2 ^ 28 < 1000 * p.v[(⟨s.f (F.MTR_CFG_ref m) % 3, by omega⟩ : Fin 3)].natAbs)

/-- What an accepted crossing leaves for the next one; `beyond` says whether its latest sample has passed ±zc_hys already
(R286). -/
def Mtr.crossed (x : Mtr) (pos : Bool) (c : Nat) (beyond : Bool) : Mtr :=
  { x with
    base := c, any := true, fr := 0, second := !pos
    zc := if pos then some c else x.zc, zp := if pos then x.zc else x.zp
    half := if pos then x.half else some c, pos := if pos then c else x.pos
    low := if pos then x.low else beyond, high := if pos then beyond else x.high }

/-- An accepted crossing: the half cycle ends; a positive one ends the cycle, and free-run (R286). -/
def State.cross (s : State) (m : Fin 4) (pos : Bool) (c : Nat) : State :=
  let s1 := s.pqStep m c pos
  let free := s1.fb (F.MTR_STAT_free m)
  let s2 := if pos then (s1.put (F.MTR_STAT_free m) 0).endCycle m c free else s1
  s2.setMtr m ((s2.mtr[m].crossed pos c (s.beyondHys m)).trim c)

/-- ZERO_CROSSING: the latest two samples of the reference voltage show a crossing, positive or negative (R286). -/
def execZeroCrossing (m : Fin 4) (pos : Bool) (_t : Unit) (s : State) : Res :=
  .next (match s.crossing m pos with
    | some c => if s.fb (F.MTR_CTL_en m) && s.accepts m pos c then s.cross m pos c else s
    | none => s)

/-- FREE_RUN: no positive crossing for 2 ÷ f_nom; where there has been none since the point started, a cycle begins at the
last accepted crossing, from which free-run counts (R286). -/
def execFreeRun (m : Fin 4) (s : State) : Res :=
  .next (
    let x := s.mtr[m]
    if s.fb (F.MTR_CTL_en m) && !s.fb (F.MTR_STAT_free m) &&
        decide (2 * nomTaps ≤ (s.etime - x.pos) * s.f (F.MTR_NOM_f_nom m)) then
      (s.put (F.MTR_STAT_free m) 1).setMtr m { x with
        lFree := true, zc := some (x.zc.getD x.base), second := x.second && x.zc.isSome }
    else s)

/-- The end of the k-th nominal half cycle after the last accepted crossing (R286). -/
def State.nomHalf (s : State) (m : Fin 4) (k : Nat) : Nat :=
  s.mtr[m].base + (divRound (k * nomTaps) (2 * s.f (F.MTR_NOM_f_nom m))).toNat

/-- FREE_RUN_HALF_CYCLE: a nominal half cycle ends in free-run, the second one of a cycle with the cycle (R286, R295). -/
def execFreeRunHalfCycle (m : Fin 4) (s : State) : Res :=
  .next (
    let k := s.mtr[m].fr + 1
    let t := s.nomHalf m k
    if s.fb (F.MTR_CTL_en m) && s.fb (F.MTR_STAT_free m) && decide (t ≤ s.etime) then
      let last := s.mtr[m].second
      let s1 := s.pqStep m t last
      let s2 := if last then s1.endCycle m t true else s1
      let x := s2.mtr[m]
      s2.setMtr m ({ x with
        fr := k, second := !last, zc := if last then some t else x.zc, zp := if last then x.zc else x.zp
        half := if last then x.half else some t }.trim t)
    else s)

/-! ### Reads that latch -/

/-- The quantity registers that a read of MTR_VRMS0 latches: all of the point's but MTR_VRMS0 (R289). -/
def mtrQuantities (m : Nat) : List Nat := (List.range 25).map fun i => A.MTR_VRMS m 0 + 4 + 4 * i

/-- A read of MTR_VRMS0 latches the set (R289). -/
def State.latchQuantities (s : State) (m : Fin 4) : State :=
  s.setMtr m { s.mtr[m] with q := (mtrQuantities m).map fun a => (a, s.reg a) }

/-- A read of MTR_LSEQ copies the latched energy words into the read buffer, which MTR_En_LO and MTR_En_HI show
(R293). -/
def State.fillReadBuffer (s : State) (m : Fin 4) : State :=
  (List.finRange 6).foldl (fun (s : State) (r : Fin 6) =>
    (s.setReg (A.MTR_E_LO m r) (BitVec.ofNat 32 s.mtr[m].el[r])).setReg (A.MTR_E_HI m r)
      (BitVec.ofNat 32 (s.mtr[m].el[r] / 2 ^ 32))) s

/-! ### Saves -/

/-- Byte address of slot j (R297). -/
def slotAddr (j : Nat) : Nat := 0xB1000 + 0x100 * j

/-- A slot is retired (R301). -/
def State.retired (s : State) (j : Nat) : Bool := s.fb ⟨A.MTR_SAVESTAT, 16 + j, 1⟩

/-- The slot of the next save: the first after the latest one's that is not retired (R412). -/
def State.nextSlot (s : State) : Option Nat :=
  let b := match s.saveLast with
    | some (j, _) => j + 1
    | none => 0
  ((List.range 16).map fun i => (b + i) % 16).find? fun j => !s.retired j

/-- What a save holds of a point: the running E and W of an enabled one, its pending restored values, or 0 (R297). -/
def State.savedOf (s : State) (m : Fin 4) : Vector Nat 6 :=
  if s.fb (F.MTR_CTL_en m) then s.mtr[m].e.map (· / 2 ^ 24)
  else match s.mtr[m].restored with
    | some (v, _) => v
    | none => Vector.replicate 6 0

/-- The lsb code that goes with it (R297). -/
def State.savedLsb (s : State) (m : Fin 4) : Nat :=
  if s.fb (F.MTR_CTL_en m) then s.f (F.MTR_CFG_lsb m)
  else match s.mtr[m].restored with
    | some (_, l) => l
    | none => s.f (F.MTR_CFG_lsb m)

/-- Words 0 to 62 of a save (R297). -/
def State.saveWords (s : State) (seq : Nat) (final : Bool) : List Word :=
  let ms := List.finRange 4
  let lsbs := ms.foldl (fun (n : Nat) (m : Fin 4) => n + s.savedLsb m * 4 ^ m.val) 0
  let ens := ms.foldl (fun (n : Nat) (m : Fin 4) => n + s.f (F.MTR_CTL_en m) * 2 ^ m.val) 0
  [BitVec.ofNat 32 seq, s.reg A.SYS_RTC_SEC,
    BitVec.ofNat 32 (s.rtcMs + 2 ^ 16 * lsbs + 2 ^ 24 * ens + 2 ^ 28 * b2n final)] ++
    (ms.flatMap fun m => (s.savedOf m).toList.flatMap fun e => [BitVec.ofNat 32 e, BitVec.ofNat 32 (e / 2 ^ 32)]) ++
    List.replicate 12 0

/-- The 64 words of a save in slot j: the accumulators are copied (R297). -/
def State.saveReqs (s : State) (j seq : Nat) (final : Bool) : List WReq :=
  let ws := s.saveWords seq final
  (ws ++ [crc32 (ws.flatMap wordBytes)]).mapIdx fun i w => ⟨slotAddr j + 4 * i, w, 2, none⟩

/-- A save starts in slot j with the queue `q` of the write unit (R297, R409). -/
def State.saveWith (s : State) (j seq : Nat) (final : Bool) (q : List WReq) : State :=
  { s.put F.MTR_SAVESTAT_busy 1 with saveLast := some (j, seq), finalSave := s.finalSave || final, wq := q }

/-- A save: its words wait for the write unit behind the others (R297, R409). -/
def State.saveAt (s : State) (j seq : Nat) (final : Bool) : State := s.saveWith j seq final (s.wq ++ s.saveReqs j seq final)

/-- The sequence of the next save (R297). -/
def State.saveSeq (s : State) : Nat := ((s.saveLast.map (·.2)).getD 0 + 1) % 2 ^ 32

/-- Set a bit of MTR_EVT from 8 to 12 with its event (R303, R305). -/
def State.mtrBlockEvt (s : State) (b : Nat) : State := s.src ⟨A.MTR_EVT, b, 1⟩ (if b < 11 then 74 else 75)

/-- Start a save in the next slot; with all slots retired it is refused, and a final save is then incomplete (R297, R298,
R301, R305). -/
def State.saveStart (s : State) (final : Bool) : State :=
  match s.nextSlot with
  | some j => s.saveAt j s.saveSeq final
  | none => { s.mtrBlockEvt 11 with saveCut := s.saveCut || final }

/-- Any point is enabled or holds pending restored values (R297). -/
def State.saveWanted (s : State) : Bool :=
  (List.finRange 4).any fun m => s.fb (F.MTR_CTL_en m) || s.mtr[m].restored.isSome

/-- ENERGY_SAVE_START: the save period has expired (R297). -/
def execEnergySaveStart (s : State) : Res :=
  .next (if s.saveWanted && s.mode != mHoldup && !s.fb F.MTR_SAVESTAT_busy then s.saveStart false else s)

/-- A write of MTR_SAVE.now (R297, R301, R409). -/
def State.saveNow (s : State) : Nat × State :=
  if s.mode = mHoldup then (rMode, s)
  else if s.nextSlot.isNone then (rEndurance, s)
  else (rOk, s.saveStart false)

/-- Whether a save has words in the write unit. -/
def State.saving (s : State) : Bool := s.wq.any fun q => q.kind == 2

/-- A save completes in slot j (R297). -/
def State.saveDone (s : State) (j : Nat) : State :=
  ((((s.put F.MTR_SAVESTAT_slot j).putB F.MTR_SAVESTAT_busy s.saving).setReg A.MTR_SAVESEQ (s.reg (slotAddr j)))).mtrBlockEvt 8

/-- A save refused in slot j is repeated at once, before whatever waits, on the next slot that is not retired (R301). It
takes the refused save's sequence, and the next one where a later save has taken a sequence since (assumption 95, DESIGN
CHOICE). -/
def State.repeatSave (s0 : State) (j : Nat) : State :=
  let s := if s0.saveLast.any fun x => x.1 == j then
      { s0 with saveLast := s0.saveLast.map fun (x : Nat × Nat) => (x.1, (x.2 + 2 ^ 32 - 1) % 2 ^ 32) }
    else s0
  match s.nextSlot with
  | some i => s.saveWith i s.saveSeq false (s.saveReqs i s.saveSeq false ++ s.wq)
  | none => s.mtrBlockEvt 11

/-- A word of a save in slot j is refused: the slot retires; a periodic save is repeated, the final save is left incomplete
(R298, R301, R302). -/
def State.slotRefused (s : State) (j : Nat) : State :=
  let final := s.finalSave && s.saveLast.any fun x => x.1 == j
  let s1 := { s with wq := s.wq.filter fun q => !(q.kind == 2 && decide (slotAddr j ≤ q.addr) &&
    decide (q.addr < slotAddr j + 0x100)) }
  let s2 := (((s1.set1 ⟨A.MTR_SAVESTAT, 16 + j, 1⟩).mtrBlockEvt 12).mtrBlockEvt 11).report (0x6C00 + j) .C 0
  let s3 := s2.putB F.MTR_SAVESTAT_busy s2.saving
  if final then { s3 with saveCut := true }
  else if s3.mode = mHoldup then s3
  else s3.repeatSave j

/-! ### Restore, discard, enable -/

/-- The words of a slot. -/
def State.slotWords (s : State) (j : Nat) : List Word := (List.range 63).map fun i => s.reg (slotAddr j + 4 * i)

/-- A slot is valid if its CRC is correct (R299). -/
def State.slotValid (s : State) (j : Nat) : Bool := crc32 ((s.slotWords j).flatMap wordBytes) == s.reg (slotAddr j + 252)

/-- The newest valid slot: the largest sequence; the lower slot number of two (R299, R412). -/
def State.newestSlot (s : State) : Option Nat :=
  (List.range 16).foldl (fun b j =>
    if s.slotValid j then
      match b with
      | some i => if (s.reg (slotAddr i)).toNat < (s.reg (slotAddr j)).toNat then some j else b
      | none => some j
    else b) none

/-- The value of register r of point m in slot j, E and W. -/
def State.slotValue (s : State) (j m r : Nat) : Nat :=
  let a := slotAddr j + 4 * (3 + 12 * m + 2 * r)
  (s.reg a).toNat + 2 ^ 32 * (s.reg (a + 4)).toNat

/-- gap_s (R299): t_stop less the slot's time, rounded up to seconds, or period + 1. -/
def State.gapSeconds (s : State) (j : Nat) : Nat :=
  let ts := 1000 * (s.reg (slotAddr j + 4)).toNat + getBits (s.reg (slotAddr j + 8)) 0 10
  let te := 1000 * s.tStop.1 + s.tStop.2
  if s.fb F.SYS_RTC_SUB_valid && decide (ts < te) then min 65535 ((te - ts + 999) / 1000)
  else s.f F.MTR_SAVE_period + 1

/-- The slots with a word at its endurance limit are retired (R301, R410). -/
def State.retiredMask (s : State) : Nat :=
  ((List.range 16).filter fun j => (List.range 64).any fun i => s.atLimit (slotAddr j + 4 * i)).foldl (fun n j => n + 2 ^ j) 0

/-- ENERGY_GAP with its length (R299). -/
def State.energyGap (s : State) (n : Nat) : State :=
  let s1 := ((s.put F.MTR_RESTORE_gap 1).put F.MTR_RESTORE_gap_s n).mtrBlockEvt 10
  { s1 with mtr := s1.mtr.map fun x => { x with lGap := true } }

/-- BOOT finds the retired slots, checks all of them and takes the newest valid one. ENERGY_GAP is reported where that is no
final save, or a final save was left incomplete since (R36, R299, R301, R302, R412). -/
def State.restoreEnergy (s0 : State) : State :=
  let s := { s0.put ⟨A.MTR_SAVESTAT, 16, 16⟩ s0.retiredMask with saveCut := false }
  match s.newestSlot with
  | none => ({ s with saveLast := none }.put F.MTR_RESTORE_none 1).energyGap 65535
  | some j =>
    let w2 := s.reg (slotAddr j + 8)
    let s1 := { s with
      saveLast := some (j, (s.reg (slotAddr j)).toNat)
      mtr := Vector.ofFn fun m : Fin 4 => { s.mtr[m] with
        restored := some (Vector.ofFn fun r : Fin 6 => s.slotValue j m r, getBits w2 (16 + 2 * m.val) 2) } }
    let s2 := ((((s1.put F.MTR_RESTORE_valid 1).put F.MTR_RESTORE_slot j).put F.MTR_RESTORE_pend 15).setReg
      A.MTR_RESTORE_SEQ (s.reg (slotAddr j))).mtrBlockEvt 9
    if getBits w2 28 1 = 1 && !s0.saveCut then s2 else s2.energyGap (s2.gapSeconds j)

/-- MTR_CTL.discard (R299, R304). -/
def State.meterDiscard (s : State) (m : Fin 4) : Nat × State :=
  if s.fb (F.MTR_CTL_en m) then (rRunning, s)
  else (rOk, (s.put ⟨A.MTR_RESTORE, 8 + m.val, 1⟩ 0).setMtr m { s.mtr[m] with restored := none })

/-- The checks of a write that sets MTR_CTL.en (R285), on the state with the written registers. -/
def State.meterOk (s : State) (m : Fin 4) : Bool :=
  let es := s.mtrEnts m
  es.all (fun e => extEntry e && s.scanned e) && es.eraseDups.length == 6 &&
    decide (15000 ≤ s.f (F.MTR_NOM_f_nom m)) && decide (s.f (F.MTR_NOM_f_nom m) ≤ 70000) &&
    (match s.mtr[m].restored with
    | some (_, l) => l == s.f (F.MTR_CFG_lsb m)
    | none => true)

/-- A point starts, from its pending values where it has some, or stops; a LATCH_METER that waits for a stopped point
ends (R293, R299; assumption 27, DEDUCED). -/
def State.meterSwitch (s : State) (m : Fin 4) (on : Bool) : State :=
  let s1 := (((s.putB (F.MTR_CTL_en m) on).putB (F.MTR_STAT_run m) on).put (F.MTR_STAT_free m) 0).put (F.MTR_STAT_cyc m) 0
  let x := s1.mtr[m]
  let y := { Mtr.init with
    e := x.e, el := x.el, q := x.q, restored := x.restored, lRest := x.lRest, lGap := x.lGap
    lFail := on && s.mtrEntFail m, base := s.etime, pos := s.etime }
  if on then
    match x.restored with
    | some (v, _) =>
      (s1.put ⟨A.MTR_RESTORE, 8 + m.val, 1⟩ 0).setMtr m { y with e := v.map (· * 2 ^ 24), restored := none, lRest := true }
    | none => s1.setMtr m y
  else ((s1.put (F.MTR_STAT_pq_open m) 0).setMtr m y).latchCmds m false

end Sys2Proof.Machine
end

