-- ==== Sys2Proof/Machine/Samples.lean ====
section
/-! DEFINITION. The converters (R132 to R135, R144, R146 to R152): samples, passes, checks, calibration. -/

namespace Sys2Proof.Machine

/-! ### Passes -/

/-- The entry that an ADC converts after `last` under `mask`: the next enabled one, or the lowest of a new pass (R133). -/
def nextConv (mask last : Nat) : Option Nat :=
  match (List.range 16).find? fun n => decide (last < n) && decide (last < 16) && natBit mask n with
  | some n => some n
  | none => (List.range 16).find? (natBit mask)

/-- ADC a converts: the calibration is complete, not running, and the mask is not empty (R133, R152, R155). -/
def State.converting (s : State) (a : Fin 4) : Bool := s.calDone && !s.calRun && s.f (F.ADC_SCAN_mask a) != 0

/-- The first CONV edge, every 5 REF cycles, at or after `t` (R132). -/
def convAt (t : Nat) : Nat := (t + 159) / 160 * 160

/-- The mask that waits comes into force (R134). -/
def State.applyScan (s : State) (a : Fin 4) : State :=
  match s.scanPend[a] with
  | some (m, _) => { s.put (F.ADC_SCAN_mask a) m with scanPend := s.scanPend.set a none }
  | none => s

/-- A waiting mask is in force for a pass that begins at `t`, since its CONV edge has come. Where that edge is the very first
edge of a pass, R134 does not say whether the pass is under way there: it runs under the new mask (R134; assumption 79,
DESIGN CHOICE). -/
def State.scanDue (s : State) (a : Fin 4) (t : Nat) : State :=
  if s.scanPend[a].any fun p => decide (p.2 ≤ t) then s.applyScan a else s

/-- After entry `n`, converted at `t`, a pass that is complete lets the waiting mask in (R133, R134). -/
def State.passStep (s : State) (a : Fin 4) (n t : Nat) : State :=
  let s1 := { s with adcDue := s.adcDue.set a (t + 160) }
  let last := (List.range 16).all fun i => decide (i ≤ n) || !natBit (s.f (F.ADC_SCAN_mask a)) i
  if last then { s1.scanDue a (t + 160) with adcLast := s.adcLast.set a 16 } else { s1 with adcLast := s.adcLast.set a n }

/-- The entry is in use by a stage whose timebase runs, a running grid interface or a running metering point (R134). -/
def State.entryUsed (s : State) (e : Nat) : Bool :=
  ((s.boundTo e).any fun k => s.stgSt k != stOff) ||
    ((List.range 4).any fun g => s.fb (F.GRD_CTL_en g) &&
      [s.f (F.GRD_SRC_va g), s.f (F.GRD_SRC_vb g), s.f (F.GRD_SRC_vc g)].contains e) ||
    (List.range 4).any fun m => s.fb (F.MTR_CTL_en m) && (s.mtrEnts m).contains e

/-- A write of ADC_SCAN (R134): refused whole where it drops an entry in use, or entry 14 or 15 of an ADC that converts
for a running stage. It is taken at the first CONV edge 40 ns or more later, where an ADC that did not convert begins its
first pass; until the pass under way there is over, ADC_SCAN reads the mask in force (assumption 60, DESIGN CHOICE). -/
def State.scanWrite (s : State) (a : Fin 4) (m : Nat) : Nat × State :=
  let gone (n : Nat) : Bool := natBit (s.scanMask a) n && !natBit m n
  let bound := (List.range 16).any fun n => (s.boundTo (16 * a.val + n)).any fun k => s.stgSt k != stOff
  if (List.range 16).any (fun n => gone n && s.entryUsed (16 * a.val + n)) || (bound && (gone 14 || gone 15)) then
    (rRunning, s)
  else
    let s1 := { s with scanPend := s.scanPend.set a (some (m, convAt (s.etime + 320))) }
    (rOk, if s.converting a then s1
      else { s1.applyScan a with adcDue := s1.adcDue.set a (max (convAt (s.etime + 320)) s1.adcDue[a]) })

/-- The named ADCs start a pass with their lowest enabled entry, on the first CONV edge 100 ns or more from now (R135). -/
def State.passStart (s : State) (mask : Nat) : State :=
  (List.finRange 4).foldl (fun (s : State) (a : Fin 4) =>
    if natBit mask a then { s with
      adcLast := s.adcLast.set a 16, adcDue := s.adcDue.set a (convAt (s.etime + 800)) } else s) s

/-- ADC_CTL.restart; while the calibration runs it takes effect after its end, where all four ADCs start together
(R135). -/
def State.adcRestart (s : State) (mask : Nat) : State := if s.calRun then s else s.passStart mask

/-- ADC_CTL.cal: only in CONFIGURE and STANDBY (R152). -/
def State.adcCal (s : State) : Nat × State :=
  if s.mode = mConfigure ∨ s.mode = mStandby then (rOk, { s with calRun := true }) else (rMode, s)

/-- What a calibration finds of each ADC: whether it passed, and its gain trim, which is free (R151; assumption 2, DESIGN
CHOICE). -/
def State.calResults (s : State) (ok : BitVec 4) : State :=
  (List.finRange 4).foldl (fun (s : State) (a : Fin 4) =>
    (s.fresh.2.putB ⟨A.ADC_STAT, 4 + a.val, 1⟩ (natBit ok.toNat a)).put (F.ADC_CAL_gain_trim a) s.fresh.1.toNat) s

/-- ADC_CAL_DONE: the calibration ends, with its success per ADC; all ADCs start passes together and the loopback rotation
starts over. One of SELFTEST that fails ends SELFTEST at once (R135, R151, R152, R351). The trims are free (assumption 2,
DESIGN CHOICE). -/
def execAdcCalDone (ok : BitVec 4) (s : State) : Res :=
  .next (
    if s.calRun then
      let s1 := { (s.calResults ok).passStart 15 with calRun := false }
      let s2 := { s1 with calDone := true, dacIdx := Vector.replicate 4 0 }
      if s2.mode = mSelftest ∧ ok ≠ 15 then s2.selftestFailed 6 ((s2.cyc - s2.stestCyc) / 250000) 0 else s2
    else s)

/-! ### Running extremes -/

/-- ADC_PLST.mm_clr (R144). -/
def State.mmClear (s : State) (e : Nat) : State := (s.put (F.ADC_MM_min e) 0x3FFF).put (F.ADC_MM_max e) 0

/-- A read of ADC_AVG latches ADC_AVGN and ADC_WMM (R143). -/
def State.avgLatch (s : State) (e : Nat) : State :=
  { s with hiLatch := smIns (smIns s.hiLatch (A.ADC_AVGN e) (s.reg (A.ADC_AVGN e))) (A.ADC_WMM e) (s.reg (A.ADC_WMM e)) }

/-! ### Checks of a sample -/

/-- The freeze check (R146, R149). -/
def State.freezeStep (s : State) (e : Fin 64) (code : Nat) : State :=
  if s.fb (F.ADC_ECFG_frz_en e) then
    let x := s.ent[e]
    let same := x.seen && x.code == code
    let n := if same then x.frz + 1 else 1
    let s1 := s.setEnt e { x with frz := if s.frzN e ≤ n then 0 else n }
    let s2 := if same then s1 else s1.plausClear e 0
    if s.frzN e ≤ n then s2.plausFail e 0 code else s2
  else s

/-- The code is out of the entry's range (R147). -/
def State.outOfRange (s : State) (e code : Nat) : Bool :=
  decide (code < s.f (F.ADC_RNG_lo e)) || decide (s.f (F.ADC_RNG_hi e) < code)

/-- A midscale or loopback failure persists on ADC a, or its background correction is at its limit (R151, R152). -/
def State.adcBad (s : State) (a : Fin 4) : Bool :=
  s.dacFail[a] != 0 || s.midFail[a] || s.fb ⟨A.ADC_STAT, 8 + a.val, 1⟩

/-- Where no internal failure persists on ADC a, only the entries whose own range check fails keep their live bit (R149,
R151). -/
def State.rangeEnd (s : State) (a : Fin 4) : State :=
  if s.adcBad a then s
  else (List.finRange 16).foldl (fun (s : State) (n : Fin 16) =>
    let e : Fin 64 := ⟨16 * a.val + n.val, by omega⟩
    if s.ent[e].rngOwn then s else s.plausClear e 1) s

/-- The range check (R147, R149). -/
def State.rangeStep (s : State) (e : Fin 64) (code : Nat) : State :=
  if s.fb (F.ADC_ECFG_rng_en e) then
    let x := s.ent[e]
    if s.outOfRange e code then
      let n := x.rng + 1
      if s.rngN e ≤ n then (s.setEnt e { x with rng := 0, rngOwn := true }).plausFail e 1 code
      else s.setEnt e { x with rng := n }
    else
      let s1 := s.setEnt e { x with rng := 0, rngOwn := false }
      if s1.adcBad ⟨e / 16, by omega⟩ && (s1.boundTo e).isSome then s1 else s1.plausClear e 1
  else s

/-- A sample disagrees with a comparator's decision under thresholds `w` (R148). -/
def State.disagrees (s : State) (e code : Nat) (w : Word) (out : Bool) : Bool :=
  let x : Int := code
  let l : Int := 16 * getBits w 0 10 + 8
  let h : Int := 16 * getBits w 16 10 + 8
  let tol : Int := s.f (F.ADC_XCHK_tol e)
  if out then decide (l + tol ≤ x) && decide (x ≤ h - tol) else decide (x ≤ l - tol) || decide (h + tol ≤ x)

/-- The cross-check of a sample taken at `t`, with the decision of the tick around it, where the comparator has decided
(R148, R149). -/
def State.xchkStep (s : State) (e : Fin 64) (t code : Nat) : State :=
  let c := s.f (F.ADC_XCHK_cmp e)
  match s.decisionAt c (tickAround t) with
  | none => s
  | some out =>
    if s.fb (F.ADC_ECFG_xchk_en e) then
      let x := s.ent[e]
      if s.disagrees e code (s.thrAt c (tickAround t)) out then
        let n := x.xchk + 1
        if s.xchkN e ≤ n then (s.setEnt e { x with xchk := 0 }).plausFail e 2 c else s.setEnt e { x with xchk := n }
      else (s.setEnt e { x with xchk := 0 }).plausClear e 2
    else s

/-- An internal code outside its limits: die temperature, VDDA, midscale (R151). -/
def State.internalBad (s : State) (n code raw : Nat) : Bool :=
  match n with
  | 12 => decide (((8192 + 50 * ((s.f F.ADC_ILIM_tj_max : Int) - 25) : Int)) < code)
  | 13 => decide (code * 1953 < 17000000) || decide (19000000 < code * 1953)
  | 14 => decide (raw < 8160) || decide (8224 < raw)
  | _ => false

/-- Entries x.12 to x.14: 16 consecutive samples outside the limits fail; a midscale failure persists until a sample
inside them (R149, R151). -/
def State.internalStep (s : State) (e : Fin 64) (code raw : Nat) : State :=
  let n := e.val % 16
  let a : Fin 4 := ⟨e / 16, by omega⟩
  let x := s.ent[e]
  if s.internalBad n code raw then
    let s1 := s.setEnt e { x with int := x.int + 1 }
    if (x.int + 1) % 16 = 0 then { s1 with midFail := s1.midFail.set a (s1.midFail[a] || n == 14) }.internalFail a n code
    else s1
  else
    let s1 := s.setEnt e { x with int := 0 }
    if n = 14 then { s1 with midFail := s1.midFail.set a false }.rangeEnd a else s1

/-- The DAC of the next sample of x.15 on ADC a reads wrong (R151). -/
def State.dacWrong (s : State) (a : Fin 4) (code : Nat) : Bool :=
  let i := s.dacIdx[a]
  let c := 6 * a.val + i / 2
  let th := if i % 2 = 0 then s.f (F.CMP_THR_lo c) else s.f (F.CMP_THR_hi c)
  decide (48 < ((code : Int) - (16 * th + 8 : Nat)).natAbs)

/-- Entry x.15: the next DAC of the rotation; one DAC outside its code on 2 consecutive visits fails, until a visit inside
it. The rotation starts after SELFTEST (R149, R151). -/
def State.loopback (s : State) (a : Fin 4) (code : Nat) : State :=
  if s.mode ≤ 2 then s
  else
    let i := s.dacIdx[a]
    let bad := s.dacWrong a code
    let fail := bad && natBit s.dacBad[a] i
    let put (m : Nat) (b : Bool) : Nat := if b then natSet m i else natClr m i
    let s1 := { s with
      dacIdx := s.dacIdx.set a ((i + 1) % 12)
      dacBad := s.dacBad.set a (put s.dacBad[a] bad)
      dacFail := s.dacFail.set a (put s.dacFail[a] fail) }
    if fail then s1.internalFail a 15 code else s1.rangeEnd a

/-- The background offset correction takes a midscale sample, and is held at ±32 codes (R152; assumption 23, DEDUCED). -/
def State.midscale (s : State) (a : Fin 4) (raw : Nat) : State :=
  let m := s.midAcc[a]
  let n := clampInt (-131072) 131072 (m + ((raw : Int) - 8192) - divRound m 4096)
  let s1 := { s with midAcc := s.midAcc.set a n }.put (F.ADC_CAL_ofs_corr a) (divRound n 256 % 65536).toNat
  let lim := n == 131072 || n == -131072
  let was := s1.fb ⟨A.ADC_STAT, 8 + a.val, 1⟩
  let s2 := s1.putB ⟨A.ADC_STAT, 8 + a.val, 1⟩ lim
  if lim && !was then s2.internalFail a 14 raw else s2.rangeEnd a

/-- The corrected code of a raw one: less the background correction, in 2^−4 code, rounded to nearest and kept to 14 bits; a
clamped sample keeps 0 or 16 383 (R137, R152; assumption 23, DEDUCED). -/
def State.corrected (s : State) (a : Fin 4) (raw : Nat) (clamp : Bool) : Nat :=
  if clamp then (if raw < 8192 then 0 else 16383)
  else (clampInt 0 16383 (divRound (16 * (raw : Int) - (BitVec.ofNat 16 (s.f (F.ADC_CAL_ofs_corr a))).toInt) 16)).toNat

/-! ### The sample -/

/-- The sample joins the window of its stage (R138): the closed one where its instant lies before the window end. -/
def State.joinWindow (s : State) (e : Fin 64) (t code : Nat) : State :=
  match s.boundTo e with
  | none => s
  | some k =>
    if s.tbRuns k then
      match s.stg[k].winEnd with
      | some w =>
        if t < w then (if s.stg[k].winDue then s.setEnt e (addClosed s.ent[e] code) else s)
        else s.setEnt e (addOpen s.ent[e] code)
      | none => s.setEnt e (addOpen s.ent[e] code)
    else s

/-- ADC_RES and ADC_MM (R137, R144). -/
def State.latestSample (s : State) (e code : Nat) (clamp : Bool) : State :=
  let s1 := ((s.put (F.ADC_RES_code e) code).putB (F.ADC_RES_clamp e) clamp).put (F.ADC_RES_seq e)
    (s.f (F.ADC_RES_seq e) + 1)
  (s1.put (F.ADC_MM_min e) (min code (s1.f (F.ADC_MM_min e)))).put (F.ADC_MM_max e) (max code (s1.f (F.ADC_MM_max e)))

/-- A sample of entry `e`, taken at `t` on ADC `a`, goes through the latest-sample register, its window, the checks and the
units that take the raw stream (R132 to R152, R233, R275, R285). -/
def State.takeSample (s : State) (a : Fin 4) (e : Fin 64) (t raw : Nat) (clamp : Bool) : State :=
  let n := e.val % 16
  let c := s.corrected a raw clamp
  let s1 := ((s.passStep a n t).latestSample e c clamp).joinWindow e t c
  let s2 := ((s1.freezeStep e c).rangeStep e c).xchkStep e t c
  let s3 := s2.setEnt e { s2.ent[e] with code := c, seen := true }
  let s4 := if n < 12 then s3
    else if n = 15 then s3.loopback a c
    else if n = 14 then (s3.internalStep e c raw).midscale a raw
    else s3.internalStep e c raw
  ((s4.gridIslSample e t).islCurrents e t).meterSample e t

/-- ADC_SAMPLE: entry `e`, sampled at EDGE time `t`, delivers `raw`, its code before the background correction; `clamp` says
whether the input lay beyond the range. Instants lie on CONV edges, one conversion per edge and ADC; an entry whose turn
it is not delivers nothing (R132, R133). -/
def execAdcSample (e : Fin 64) (t : Nat) (raw : BitVec 14) (clamp : Bool) (_code _out : Unit) (s0 : State) : Res :=
  .next (
    let a : Fin 4 := ⟨e / 16, by omega⟩
    let s := if s0.adcLast[a] = 16 then s0.scanDue a t else s0
    if s.converting a && t % 160 == 0 && s.adcDue[a] == t &&
        nextConv (s.f (F.ADC_SCAN_mask a)) s.adcLast[a] == some (e.val % 16) then
      (s.toInstant t).takeSample a e t raw.toNat clamp
    else s0)

/-- FREEZE_FAIL, RANGE_FAIL: the sample of code `code` that completes the count of a check (R146, R147, R149). -/
def execFreezeFail (e : Fin 64) (code : BitVec 14) (s : State) : Res :=
  .next (
    let x := s.ent[e]
    if x.seen && x.code == code.toNat && decide (s.frzN e ≤ x.frz + 1) then s.freezeStep e code.toNat else s)
def execRangeFail (e : Fin 64) (code : BitVec 14) (s : State) : Res :=
  .next (
    if s.outOfRange e code.toNat && decide (s.rngN e ≤ s.ent[e].rng + 1) then s.rangeStep e code.toNat else s)

/-- XCHK_FAIL: the disagreement that completes the count; the argument is the comparator (R148, R149, R332). -/
def execXchkFail (e : Fin 64) (s : State) : Res :=
  .next (
    let x := s.ent[e]
    if s.fb (F.ADC_ECFG_xchk_en e) && decide (s.xchkN e ≤ x.xchk + 1) then
      (s.setEnt e { x with xchk := 0 }).plausFail e 2 (s.f (F.ADC_XCHK_cmp e))
    else s)

/-- INTERNAL_ENTRY_FAIL: the sample of entry 12 + n of ADC a that completes its count outside the limits, for x.14 with its
raw code (R151). -/
def execInternalEntryFail (a n : Fin 4) (code : BitVec 14) (s : State) : Res :=
  .next (
    let e : Fin 64 := ⟨16 * a.val + 12 + n.val, by omega⟩
    if n = 3 then
      if s.dacWrong a code.toNat && natBit s.dacBad[a] s.dacIdx[a] then s.loopback a code.toNat else s
    else if s.internalBad (12 + n.val) code.toNat code.toNat && (s.ent[e].int + 1) % 16 == 0 then
      s.internalStep e code.toNat code.toNat
    else s)

end Sys2Proof.Machine
end

