-- ==== Sys2Proof/Machine/SafetyIo.lean ====
section
/-! DEFINITION. Safety inputs, safe outputs and safety telegrams (R306 to R327). -/

namespace Sys2Proof.Machine

/-- Set a bit of SAF_EVT with EV(76 + bit) (R326). -/
def State.safEvt (s : State) (b : Nat) : State := s.src ⟨A.SAF_EVT, b, 1⟩ (76 + b)

/-! ### Force and outputs -/

/-- The force follows the units: on its first appearance the links part, the contactor opens and the precharge drive ends,
in its overlap too; PRECHARGE, SYNCHRONISE, RUN and RIDE-THROUGH become STANDBY; in FAULT-HOLD it is recorded for RESUME
(R265, R280, R316; assumption 69, DEDUCED: the forced opening of a safety demand holds in every mode, FAULT-HOLD among
them). When it ends in STANDBY, the links start their sequences (R347). -/
def State.safUpdate (s : State) : State :=
  let f := s.forceOf 0 || s.forceOf 1
  if f && !s.safForce then
    let s1 := ({ s with safForce := true }.partAll s.anySwitching).kOpen.pchEnd
    let s2 := if s1.mode = mPrecharge ∨ isSwitchMode s1.mode then s1.enterStandby
      else if s1.mode = mFaultHold then { s1 with holdTrip := true }
      else s1
    s2.soCheck
  else
    let s1 := { s with safForce := f }
    (if s.safForce && !f && s.mode == mStandby then s1.startSeqs else s1).soCheck

/-- The drive of a safe output changes: EV83 (R317, R326). SAF_STAT shows what the ball reads back at a tick. -/
def State.soSet (s : State) (ch : Fin 2) (on : Bool) : State :=
  if s.so[ch] = on then s else { s.safEvt 7 with so := s.so.set ch on }

/-- The channels energise their outputs where they may (R317). -/
def State.soEnergise (s : State) : State :=
  [(0 : Fin 2), 1].foldl (fun (s : State) (ch : Fin 2) => if s.soMay ch && !s.soDrop[ch] then s.soSet ch true else s) s

/-- SAFE_OUTPUT_DROP: 50 µs after the force (R317). -/
def execSafeOutputDrop (ch : Fin 2) (s : State) : Res :=
  .next (if s.soDrop[ch] then { s.soSet ch false with soDrop := s.soDrop.set ch false } else s)

/-! ### Pairs -/

/-- Demand levels of a profile: ANTIV asks the B ball for the opposite level (R307). -/
def State.antiv (s : State) (p : Nat) : Bool := s.f (F.SAF_PCFG_prof p) == 1

/-- Release, demand on both channels, agreement of the filtered levels (R307). -/
def State.shows (s : State) (p : Nat) (x : Pair) : Bool := x.fa && (x.fb != s.antiv p)
def State.bothDemand (s : State) (p : Nat) (x : Pair) : Bool := !x.fa && (x.fb == s.antiv p)
def State.agrees (s : State) (p : Nat) (x : Pair) : Bool := (x.fa == x.fb) != s.antiv p

/-- The filter of one ball: level, consecutive samples at the other level, new sample (R308). -/
def filterStep (nf : Nat) (f : Bool) (n : Nat) (r : Bool) : Bool × Nat :=
  if r = f then (f, 0) else if nf ≤ n + 1 then (r, 0) else (f, n + 1)

/-- Filters and, of an enabled pair, the disagreement count at a tick (R308, R312). -/
def State.pairFilter (s : State) (p : Nat) (x : Pair) (a b : Bool) : Pair :=
  let nf := 10 * s.f (F.SAF_PCFG_filt p)
  let u := filterStep nf x.fa x.na a
  let v := filterStep nf x.fb x.nb b
  let y := { x with fa := u.1, na := u.2, fb := v.1, nb := v.2 }
  { y with disc := if s.agrees p y || !s.fb (F.SAF_PCFG_en p) then 0 else x.disc + 1 }

/-- The state of a pair after the tick (R311, R312): LOCKED at the discrepancy limit. -/
def State.pairNext (s : State) (p : Nat) (x : Pair) : Nat :=
  let k := 10 * s.f (F.SAF_PCFG_disc p)
  if x.st = 3 then (if s.bothDemand p x then 0 else 3)
  else if k ≤ x.disc then 3
  else if !s.shows p x then 0
  else if x.st = 0 then 1
  else x.st

/-- Change a pair in a channel. -/
def State.setPair (s : State) (ch : Fin 2) (p : Fin 8) (x : Pair) : State :=
  if ch = 0 then { s with pairA := s.pairA.set p x } else { s with pairB := s.pairB.set p x }

/-- A unit's state changes as SAF_EVT shows it: left RELEASE, entered ACK_WAIT, entered RELEASE (R326). -/
def State.unitEvents (s : State) (old new : Nat) : State :=
  let s1 := if old = 2 ∧ new ≠ 2 then s.safEvt 0 else s
  let s2 := if new = 1 ∧ old ≠ 1 then s1.safEvt 1 else s1
  if new = 2 ∧ old ≠ 2 then s2.safEvt 2 else s2

/-- A discrepancy fault: cause 1, EV79, class C (R312, R324). -/
def State.discFault (s : State) (p : Fin 8) (n : Nat) : State :=
  ((s.put (F.SAF_PSTAT_cause p) 1).safEvt 3).report (0x6900 + p.val) .C (BitVec.ofNat 32 n)

/-- Record a disagreement of `n` ticks in SAF_PSTAT.dmax (R312). -/
def State.noteDisc (s : State) (p : Fin 8) (n : Nat) : State :=
  s.put (F.SAF_PSTAT_dmax p) (min 65535 (max n (s.f (F.SAF_PSTAT_dmax p))))

/-- Pair p at a tick, with the samples of its balls: the filters run whether it is enabled or not (R306 to R312). -/
def State.pairTick (s : State) (p : Fin 8) (a b : Bool) : State :=
  let s1 := (s.putB (F.SAF_PSTAT_ra p) a).putB (F.SAF_PSTAT_rb p) b
  let x := s1.pairFilter p s1.pairA[p] a b
  let y := s1.pairFilter p s1.pairB[p] a b
  if s1.fb (F.SAF_PCFG_en p) then
    let nx := s1.pairNext p x
    let s2 := (s1.noteDisc p x.disc).setPair 0 p { x with st := nx }
    let s3 := (s2.setPair 1 p { y with st := s1.pairNext p y }).unitEvents x.st nx
    if nx = 3 ∧ x.st ≠ 3 then s3.discFault p x.disc else s3
  else (s1.setPair 0 p x).setPair 1 p y

/-- The filtered state of a ball takes the level at its next sample there: it has had all but one of the samples (R308). -/
def filterDue (nf : Nat) (f : Bool) (n : Nat) (level : Bool) : Bool := level != f && decide (nf ≤ n + 1)

/-- FILTER_CHANGE: the filtered state of a ball takes a new level, in each channel that counts its last sample (R308). -/
def execFilterChange (p : Fin 8) (b level : Bool) (s : State) : Res :=
  .next (
    let nf := 10 * s.f (F.SAF_PCFG_filt p)
    let upd (x : Pair) : Pair :=
      if b then (if filterDue nf x.fb x.nb level then { x with fb := level, nb := 0 } else x)
      else if filterDue nf x.fa x.na level then { x with fa := level, na := 0 } else x
    (s.setPair 0 p (upd s.pairA[p])).setPair 1 p (upd s.pairB[p]))

/-- A pair enters LOCKED in both channels. -/
def State.lockPair (s : State) (p : Fin 8) : State :=
  ((s.setPair 0 p { s.pairA[p] with st := 3 }).setPair 1 p { s.pairB[p] with st := 3 }).unitEvents s.pairA[p].st 3

/-- The count of a disagreeing pair reaches K at the next tick: the filtered levels disagree and it lacks one (R312). -/
def State.discDue (s : State) (p : Fin 8) : Bool :=
  s.fb (F.SAF_PCFG_en p) && s.pairA[p].st != 3 && !s.agrees p s.pairA[p] &&
    decide (10 * s.f (F.SAF_PCFG_disc p) ≤ s.pairA[p].disc + 1)

/-- DISCREPANCY_FAULT: the disagreement count reaches K, and the pair is LOCKED with cause 1 (R312). -/
def execDiscrepancyFault (p : Fin 8) (s : State) : Res :=
  .next (
    if s.discDue p then
      let n := s.pairA[p].disc + 1
      let s1 := (s.setPair 0 p { s.pairA[p] with disc := n }).setPair 1 p { s.pairB[p] with disc := n }
      (((s1.noteDisc p n).lockPair p).discFault p n).safUpdate
    else s)

/-! ### Test pulses -/

/-- An enabled pair is fed from the test-pulse outputs (R310). -/
def State.tested (s : State) (p : Nat) : Bool := s.fb (F.SAF_PCFG_en p) && s.fb (F.SAF_PCFG_tp p)

/-- A pulse may start at an output: TPA's every SAF_TP.period ms, TPB's once half a period after the start of the latest
pulse at TPA; neither while the other is low (R310). -/
def State.pulseMay (s : State) (ch : Fin 2) : Bool :=
  let half := 5 * s.f F.SAF_TP_period
  s.tp[0].left == 0 && s.tp[1].left == 0 &&
    if ch = 0 then s.tp[0].since.all fun n => decide (2 * half ≤ n)
    else match s.tp[0].since with
      | some a => decide (half ≤ a) && s.tp[1].since.all fun b => decide (a < b)
      | none => false

/-- TEST_PULSE_START: an output goes low at a tick for 300 µs, which is 3 ticks (R310). -/
def execTestPulseStart (ch : Fin 2) (s : State) : Res :=
  .next (
    if (List.range 8).any s.tested && decide (3 ≤ s.mode) && s.pulseMay ch then
      { s with tp := s.tp.set ch ⟨false, 3, true, some 0⟩ }
    else s)

/-- A test fault of a pair: LOCKED with cause 2, unless it is LOCKED already (R310, R325). -/
def State.testFault (s : State) (p : Fin 8) (ch : Fin 2) : State :=
  if s.fb (F.SAF_PCFG_en p) && s.pairA[p].st != 3 then
    ((((s.lockPair p).put (F.SAF_PSTAT_cause p) 2).safEvt 4).report (0x6A00 + p.val) .C (BitVec.ofNat 32 ch)).safUpdate
  else s

/-- The test of one ball: a second consecutive failure is a test fault of its pair (R310). -/
def State.testBall (s : State) (p : Fin 8) (ch : Fin 2) (high : Bool) : State :=
  let i : Fin 16 := ⟨8 * ch.val + p.val, by omega⟩
  let s1 : State := { s with tpBad := s.tpBad.set i high }
  if high && s.tpBad[i] then s1.testFault p ch else s1

/-- The tick 200 µs after the start of a pulse, whose test is still to come (R310). -/
def State.testDue (s : State) (ch : Fin 2) : Bool := s.tp[ch].left == 1 && s.tp[ch].due

/-- TEST_PULSE_CHECK: every ball of a tested pair on the side of the pulse must read low (R310). -/
def execTestPulseCheck (ch : Fin 2) (balls : BitVec 8) (s : State) : Res :=
  .next (
    if s.testDue ch then
      (List.finRange 8).foldl (fun (s : State) (p : Fin 8) =>
        if s.tested p then s.testBall p ch (natBit balls.toNat p) else s)
        { s with tp := s.tp.set ch { s.tp[ch] with due := false } }
    else s)

/-- TEST_FAULT: the second of two consecutive failed tests on one ball (R310). -/
def execTestFault (p : Fin 8) (ch : Fin 2) (s : State) : Res :=
  .next (if s.tested p && s.testDue ch && s.tpBad[8 * ch.val + p.val] then s.testFault p ch else s)

/-! ### Telegram inputs -/

/-- An input under one telegram effect (R322). -/
def lsStep (i : Nat) (st : Nat) : TgFx → Nat
  | .accept bits => if natBit bits i then (if st = 0 then 1 else st) else 0
  | _ => 0

/-- An acceptance waits for the tick. -/
def accepted (l : List TgFx) : Bool := l.any fun x => match x with
  | .accept _ => true
  | _ => false

/-- The class C report of a mismatch, and the expiry of the watchdog: wd_exp, seq_v, EV81 and its report, made as the inputs
go to DEMAND (R321, R322, R324). -/
def State.tgReport (s : State) : TgFx → State
  | .accept _ => s
  | .mismatch q => s.report 0x6B00 .C (BitVec.ofNat 32 q)
  | .expired => (((s.put F.SAF_TGSTAT_wd_exp 1).put F.SAF_TGSTAT_seq_v 0).safEvt 5).report 0x6B01 .C
      (BitVec.ofNat 32 (s.f F.SAF_TGSTAT_last_seq))

/-- The inputs take the waiting effects at a tick; an acceptance at the same tick as the watchdog's expiry leaves no expiry
(R322, R325). -/
def State.inputsTick (s : State) : State :=
  let fx := if accepted s.tgFx then s.tgFx.filter (· != .expired) else s.tgFx
  let s1 := (List.finRange 8).foldl (fun (s : State) (i : Fin 8) =>
    if natBit (s.f F.SAF_TGCTL_ls_en) i then
      let a := fx.foldl (lsStep i) s.lsA[i]
      let b := fx.foldl (lsStep i) s.lsB[i]
      let s1 := { s with lsA := s.lsA.set i a, lsB := s.lsB.set i b }.unitEvents s.lsA[i] a
      if a = 0 ∧ s.lsA[i] ≠ 0 then s1.safEvt 5 else s1
    else s) s
  fx.foldl State.tgReport { s1 with tgFx := [] }

/-! ### Acknowledgement -/

/-- The state of unit u in a channel: pairs 0 to 7, telegram inputs from 8 (R315). -/
def State.unitSt (s : State) (ch : Fin 2) (u : Nat) : Nat :=
  if u < 8 then (s.pairsOf ch)[u % 8].st else (s.inputsOf ch)[u % 8]

/-- A unit waits for its acknowledgement before and after the tick's evaluation, in both channels (R315). -/
def State.ackReady (s old : State) (u : Nat) : Bool :=
  s.unitSt 0 u == 1 && s.unitSt 1 u == 1 && old.unitSt 0 u == 1 && old.unitSt 1 u == 1

/-- A unit enters RELEASE in both channels. -/
def State.releaseUnit (s : State) (u : Fin 16) : State :=
  let s1 := if h : u.val < 8 then
      (s.setPair 0 ⟨u, h⟩ { s.pairA[u.val] with st := 2 }).setPair 1 ⟨u, h⟩ { s.pairB[u.val] with st := 2 }
    else { s with lsA := s.lsA.set (u.val - 8) 2, lsB := s.lsB.set (u.val - 8) 2 }
  s1.unitEvents (s.unitSt 0 u) 2

/-- A SAFETY_ACK at the tick (R314, R315). -/
def State.ackTick (s old : State) (c : Cmd) : State :=
  let us := (List.finRange 16).filter fun (u : Fin 16) => natBit (bytesAt c.pl 0 2) u.val
  match us.find? fun (u : Fin 16) => !s.ackReady old u.val with
  | some u => s.finish c.id rPartFailed u.val rMode 0 []
  | none =>
    let lk := us.flatMap fun (u : Fin 16) =>
      let q := s.f (F.SAF_PCFG_link u) % 8
      if u.val < 8 ∧ s.fb (F.SAF_PCFG_link_en u) ∧ s.ackReady old q then [(⟨q, by omega⟩ : Fin 16)] else []
    ((us ++ lk).foldl (fun (s : State) (u : Fin 16) => s.releaseUnit u) s).finish c.id rOk 0xFF rOk 0 []

/-! ### The tick -/

/-- The lowest unit in which the channels differ, counting RELEASE against not RELEASE (R319). -/
def State.differ (s : State) : Option Nat :=
  (List.range 16).find? fun u => (s.unitSt 0 u == 2) != (s.unitSt 1 u == 2)

/-- The comparison of the channels and of the outputs' readbacks (R319). -/
def State.channelCheck (s : State) (rb : Vector Bool 2) : State :=
  let s1 := match s.differ with
    | some u =>
      let s1 := { s with chDiff := s.chDiff + 1 }
      if s1.chDiff = 3 then s1.report (0x0200 + u) .A 0 else s1
    | none => { s with chDiff := 0 }
  [(0 : Fin 2), 1].foldl (fun (s : State) (ch : Fin 2) =>
    let s1 := s.putB (if ch = 0 then F.SAF_STAT_soa else F.SAF_STAT_sob) rb[ch]
    if rb[ch] != s.so[ch] then
      let s2 : State := { s1 with soDiff := s1.soDiff.set ch (s1.soDiff[ch] + 1) }
      if s2.soDiff[ch] = 3 then s2.report (0x0300 + ch.val) .A 0 else s2
    else { s1 with soDiff := s1.soDiff.set ch 0 }) s1

/-- SAFETY_TICK: the samples of the A and of the B balls, and what SOA and SOB read back (R306 to R319, R322). -/
def execSafetyTick (a b : BitVec 8) (rbA rbB : Bool) (s : State) : Res :=
  .next <| s.heard (
    let s0 := { s with tp := s.tp.map TestPulse.tick }
    let s1 := (List.finRange 8).foldl (fun (s : State) (p : Fin 8) => s.pairTick p a[p] b[p]) s0
    let s2 := s1.inputsTick
    let s3 := (s2.cmds.filter fun c => c.ph == .tick).foldl (fun x c => x.ackTick s c) s2
    ((s3.channelCheck #v[rbA, rbB]).safUpdate).soEnergise)

/-- STROBE_INTERVAL_FAULT: an interval of `n` SAFE cycles, where that is outside 90 µs to 110 µs of the 16 MHz oscillator:
SOB falls at once, class A (R306). -/
def execStrobeIntervalFault (n : Nat) (s : State) : Res :=
  .next <| s.heard (
    if 1440 ≤ n ∧ n ≤ 1760 then s
    else { s.soSet 1 false with soDrop := s.soDrop.set 1 false }.report 0x0400 .A (BitVec.ofNat 32 n))

/-- CHANNEL_DISAGREEMENT: unit u differs between the channels, or output u − 16 reads back wrong, for 3 ticks, by a failure
of a channel that the state does not hold (R319). -/
def execChannelDisagreement (u : Fin 18) (s : State) : Res :=
  .next <| s.heard (if u.val < 16 then s.report (0x0200 + u.val) .A 0 else s.report (0x0300 + (u.val - 16)) .A 0)

/-! ### Telegrams -/

/-- A telegram of the layout of R320. -/
def telegram (id seq rel : Nat) (key : Word) : List Byte :=
  let b := leBytes id 2 ++ [1, 0] ++ leBytes seq 2 ++ [BitVec.ofNat 8 rel, BitVec.ofNat 8 (255 - rel % 256)]
  b ++ wordBytes (crc32c key b)

/-- The conditions of R321 on a copy. -/
def State.tgValid (s : State) (b : List Byte) : Bool :=
  let d := (bytesAt b 4 2 + 65536 - s.f F.SAF_TGSTAT_last_seq) % 65536
  decide (12 ≤ b.length) && byteAt b 2 == 1 && byteAt b 3 == 0 && bytesAt b 0 2 == s.f F.SAF_TGID_rx_id &&
    byteAt b 6 + byteAt b 7 == 255 && Nat.land (byteAt b 6) (byteAt b 7) == 0 &&
    crc32c (s.reg A.SAF_TGKEY) (b.take 8) == BitVec.ofNat 32 (bytesAt b 8 4) &&
    (!s.fb F.SAF_TGSTAT_seq_v || (decide (1 ≤ d) && decide (d ≤ 32767)))

/-- A telegram is accepted (R321 to R323). -/
def State.tgAccept (s : State) (seq rel : Nat) : State :=
  let s1 := { ((s.put F.SAF_TGSTAT_last_seq seq).put F.SAF_TGSTAT_seq_v 1).put F.SAF_TGSTAT_wd_exp 0 with
    tgFx := s.tgFx ++ [TgFx.accept rel] }
  if s1.fb F.SAF_TGCTL_tx_en then
    let r := (List.finRange 8).foldl (fun (n : Nat) (p : Fin 8) => n + b2n (s1.pairA[p].st == 2) * 2 ^ p.val) 0
    let t := telegram (s1.f F.SAF_TGID_tx_id) seq r (s1.reg A.SAF_TGKEY)
    (s1.emit (.net 0 2 s1.tgSrc[0] t)).emit (.net 1 2 s1.tgSrc[1] t)
  else s1

/-- A safety telegram's payload arrives on network `net` from hardware address `src` (R321, R397). -/
def State.tgCopy (s : State) (net : Fin 2) (src b : List Byte) : State :=
  if !s.fb F.SAF_TGCTL_en then s
  else if !s.tgValid b then (s.bump F.SAF_TGCNT_invalid).safEvt 6
  else
    let q := bytesAt b 4 2
    if s.tgWait.any fun c => c.seq == q && c.net == net then s.bump F.SAF_TGCNT_old
    else match s.tgWait.find? fun c => c.seq == q with
      | some c =>
        let s1 := { s with tgWait := s.tgWait.filter fun d => d != c }
        if c.bytes.take 8 = b.take 8 then
          { s1 with tgSrc := (s1.tgSrc.set c.net c.src).set net src }.tgAccept q (byteAt b 6)
        else { (s1.bump F.SAF_TGCNT_mismatch).safEvt 6 with tgFx := s1.tgFx ++ [TgFx.mismatch q] }
      | none => { s with tgWait := s.tgWait ++ [⟨net, b, q, src⟩] }

/-- TELEGRAM_SKEW_EXPIRY: the oldest waiting copy finds no counterpart (R321). -/
def execTelegramSkewExpiry (s : State) : Res :=
  .next (match s.tgWait with
    | [] => s
    | _ :: t => { (s.bump F.SAF_TGCNT_single).safEvt 6 with tgWait := t })

/-- TELEGRAM_WATCHDOG: no telegram accepted for wdog; the channels act at the next tick. The watchdog runs while reception
or some input is enabled (R322; assumption 70, DEDUCED: with neither, R322 has nothing to time). -/
def execTelegramWatchdog (s : State) : Res :=
  .next (
    if (s.fb F.SAF_TGCTL_en || s.f F.SAF_TGCTL_ls_en != 0) && !s.fb F.SAF_TGSTAT_wd_exp && !s.tgFx.contains .expired then
      { s with tgFx := s.tgFx ++ [TgFx.expired] }
    else s)

/-! ### Registers -/

/-- SAF_CTL.clr (R326). -/
def State.safClr (s : State) : State :=
  ((List.range 8).foldl (fun s p => s.put (F.SAF_PSTAT_dmax p) 0) s).setReg A.SAF_TGCNT 0

/-- A pair that becomes enabled starts in DEMAND, its filters at the demand level; one that is disabled has state 0 and so
leaves RELEASE where it was there (R311, R313, R326). -/
def State.pairEnable (s : State) (p : Fin 8) : State :=
  let on := s.fb (F.SAF_PCFG_en p)
  let off (x : Pair) : Pair := if on then { Pair.init with fb := s.antiv p } else { x with st := 0, disc := 0 }
  { ((s.setPair 0 p (off s.pairA[p])).setPair 1 p (off s.pairB[p])).unitEvents s.pairA[p].st 0 with
    tpBad := (s.tpBad.set (⟨p, by omega⟩ : Fin 16) false).set (⟨8 + p.val, by omega⟩ : Fin 16) false }

/-- A telegram input goes to DEMAND (R322, R326). -/
def State.inputDemand (s : State) (i : Fin 8) : State :=
  let s1 := { s with lsA := s.lsA.set i 0, lsB := s.lsB.set i 0 }.unitEvents s.lsA[i] 0
  if s.lsA[i] = 0 then s1 else s1.safEvt 5

/-- SAF_TGCTL has been written: a new enable of reception clears seq_v and finds every input in DEMAND; so is a newly
enabled input, and one that is not enabled (R313, R321, R326). -/
def State.tgEnable (s old : State) : State :=
  let on := s.fb F.SAF_TGCTL_en && !old.fb F.SAF_TGCTL_en
  let s1 := if on then { (s.put F.SAF_TGSTAT_seq_v 0) with tgWait := [], tgFx := [] } else s
  let keep (i : Fin 8) : Bool := !on && natBit (s.f F.SAF_TGCTL_ls_en) i && natBit (old.f F.SAF_TGCTL_ls_en) i
  ((List.finRange 8).filter fun i => !keep i).foldl (fun s i => s.inputDemand i) s1

end Sys2Proof.Machine
end

