-- ==== Sys2Proof/Machine/Faults.lean ====
section
/-! DEFINITION. The fault collector's rows and commands (R328 to R342): reports from outside, the end of the fault-hold
window, the quiet timer, recovery, RESUME and FAULT_CLEAR. -/

namespace Sys2Proof.Machine

/-- The class of a report by its type code; types that are not listed are never reported (R332). -/
def State.clsOf (s : State) (code : Nat) : Option Cls :=
  let t := code / 256
  if 1 ≤ t ∧ t ≤ 0x0C then some .A
  else if 0x25 ≤ t ∧ t ≤ 0x27 then some .B
  else if 0x28 ≤ t ∧ t ≤ 0x2A then some (s.plausCls (code % 256))
  else if 0x20 ≤ t ∧ t ≤ 0x2F then some .BC
  else if 0x60 ≤ t ∧ t ≤ 0x6D then some .C
  else none

/-- FAULT_REPORT: a source report with its code and argument reaches the collector (R328 to R332). -/
def execFaultReport (code : BitVec 16) (arg : Word) (s : State) : Res :=
  .next <| s.heard (match s.clsOf code.toNat with
    | some c => s.report code.toNat c arg
    | none => s)

/-- The fault-hold window is open. -/
def State.holding (s : State) : Bool := s.mode == mFaultHold && s.fb F.FLT_STAT_hold

/-- HOLD_EXPIRY: the window ends, and the device enters SAFE-STOP (R333). -/
def execHoldExpiry (s : State) : Res := .next (if s.holding then s.escalate else s)

/-- The quiet timer runs (R338). -/
def State.quietRuns (s : State) : Bool := s.mode == mSafeStop && s.fb F.FLT_STAT_quiet && s.fltBlock == 0

/-- Recovery: the episode closes, STANDBY, the count and its window, the sequences (R338, R339, R347). -/
def State.recover (s : State) : State :=
  let c := s.f F.FLT_RECOV_CNT_cnt
  let s1 := { s.put F.FLT_RECOV_CNT_cnt (min (c + 1) 255) with recovMs := if c = 0 then 3600000 else s.recovMs }
  ((s1.src (fltEvt 91) 91).enterStandby.closeEpisode).startSeqs

/-- Locked at the recovery limit (R339). -/
def State.lockRecovery (s : State) : State :=
  ((s.put F.FLT_STAT_quiet 0).put F.FLT_STAT_locked 1).src (fltEvt 92) 92

/-- QUIET_EXPIRY: the quiet period completes (R338, R339). -/
def execQuietExpiry (s : State) : Res :=
  .next (
    if s.quietRuns then
      if s.f F.FLT_RECOV_LIM_lim ≤ s.f F.FLT_RECOV_CNT_cnt then s.lockRecovery else s.recover
    else s)

/-- The recovery window ends (R339). -/
def State.recoveryEnd (s : State) : State := { s.put F.FLT_RECOV_CNT_cnt 0 with recovMs := 0 }

/-- RECOVERY_WINDOW_END: the last millisecond of the window ends (R339). -/
def execRecoveryWindowEnd (s : State) : Res := .next (if s.recovMs = 1 then s.recoveryEnd else s)

/-- FLT_BLOCK_CLEARED: the quiet timer starts from zero (R338). -/
def execFltBlockCleared (s : State) : Res :=
  .next (if s.mode = mSafeStop ∧ s.fltBlock = 0 then s.quietRestart else s)

/-- FLT_CTL.cclr (R342). -/
def State.fltCclr (s : State) : State := s.setReg A.FLT_CLAST 0

/-- FLT_CTL.auto_en takes a value (R338): a change from 0 to 1 starts the timer, a clear stops it. -/
def State.autoEn (s : State) (on : Bool) : State :=
  if s.fb F.FLT_CTL_auto_en = on then s else (s.putB F.FLT_CTL_auto_en on).quietRestart

/-- RESUME, judged and carried out (R335): in STANDBY where a trip or the safety force came in the window. -/
def State.resumeFault (s : State) : Nat × State :=
  if s.holding && s.f F.FLT_STAT_cls_max == 2 && s.fb F.CLK_STAT_lock && s.fb F.CLK_STAT_ref_ok then
    let s1 := (s.put F.FLT_STAT_hold 0).src (fltEvt 89) 89
    let s2 := if s.holdTrip then s1.enterStandby else s1.changeMode s.holdMode
    let s3 := s2.startSeqs
    let ns := (links.filter fun n => s3.lnkSt n == lSeq).map (·.val)
    (rOk, if ns.isEmpty then s3.closeEpisode else { s3 with resumed := true, resumeLinks := ns })
  else (rMode, s)

/-- A contactor in FAULT returns to OPEN (R279, R281, R336). -/
def State.kClear (s : State) : State :=
  if s.f F.ISL_KSTAT_st = 4 then (s.put F.ISL_KSTAT_st 0).islEvt s.kg 6 else s

/-- FAULT_CLEAR from a port, judged and carried out (R336). -/
def State.faultClear (s : State) (port : Nat) : Nat × State :=
  if !s.fb F.FLT_STAT_open && !s.fb F.FLT_STAT_locked then (rOk, s)
  else if s.mode != mFaultHold && s.mode != mSafeStop then (rMode, s)
  else if s.fltBlock % 4 != 0 then (rMode, s)
  else if s.f F.ISL_KSTAT_st == 4 && (s.fb F.ISL_KSTAT_fba || s.fb F.ISL_KSTAT_fbb) then (rMode, s)
  else if s.fb F.FLT_STAT_locked && port == 4 then (rAuthority, s)
  else
    let s1 := ((s.put F.FLT_STAT_locked 0).recoveryEnd.src (fltEvt 90) 90).kClear
    (rOk, (s1.enterStandby.closeEpisode).startSeqs)

end Sys2Proof.Machine
end

