-- ==== Sys2Proof/Machine/Reset.lean ====
section
/-! DEFINITION. Supplies, resets and the pins that the device reads (R26 to R38, R353 to R356): what a reset keeps, the
supply monitors, RESETN, power-on, PFI and HOLDUP, the reverse-battery control, ALIVE and GATE_EN. -/

namespace Sys2Proof.Machine

/-! ### What a reset does to the stores -/

/-- Bytes of the bank that is not active (R415). -/
def State.inactiveBase (s : State) : Nat := if s.activeB then 0x400000 else 0x440000
def State.activeBase (s : State) : Nat := if s.activeB then 0x440000 else 0x400000

/-- The word that the write unit is writing is written, or stays old: free where the spec lets either happen (R371,
R408; assumption 42, DESIGN CHOICE). -/
def State.cutWord (s : State) (cold : Bool) : State :=
  match s.wq with
  | [] => s
  | q :: _ =>
    let (n, s1) := s.freshN
    let s2 := if (q.kind == 0 && !cold) || n % 2 == 1 then
        if s1.atLimit q.addr then s1 else (s1.setReg q.addr q.val).countWrite q.addr (n / 2 % 2 == 1)
      else s1
    { s2 with wq := [] }

/-- A program-store word that is being programmed reads old or new; a bank that is being erased reads anything
(R413, R415; assumption 42, DESIGN CHOICE). -/
def State.cutProgram (s : State) : State :=
  let s1 := match s.pq with
    | [] => s
    | q :: _ =>
      let (n, s1) := s.freshN
      { (if n % 2 = 1 then s1.setMw q.addr q.val else s1) with pq := [] }
  match s1.erasing with
  | none => s1
  | some _ => { (List.range 65536).foldl (fun (s : State) i =>
      let (w, s2) := s.fresh
      s2.setMw (s1.inactiveBase + 4 * i) w) s1 with erasing := none }

/-- Register words that a reset keeps (R354, R378, R381, R406, R417): the persistent store with its windows, the erase
counts, the RTC, the journal's index and count; outside a supply loss the ports' last accepted sequences. -/
def keptReg (cold : Bool) (a : Nat) : Bool :=
  (decide (0xB0000 ≤ a) && decide (a < 0xBE000)) ||
    (decide (0x71000 ≤ a) && decide (a < 0x71400)) ||
    ((List.range 96).any fun sw => a == A.GL_ABND0 (sw / 8) (sw % 8) || a == A.GL_ABND1 (sw / 8) (sw % 8)) ||
    [A.SYS_RTC_SEC, A.SYS_RTC_SUB, A.UHL_NEXT, A.UHL_PCNT].contains a ||
    (!cold && (List.range 5).any fun p => a == A.CMD_PORTSTAT p)

/-- Memory bytes that a reset keeps: the program store, and outside a supply loss the Uhlog RAM (R354). -/
def keptByte (cold : Bool) (a : Nat) : Bool :=
  (decide (0x400000 ≤ a) && decide (a < 0x480000)) || (!cold && decide (0x340000 ≤ a) && decide (a < 0x360000))

/-- A reset during the final save cuts it (R36). -/
def State.cutSave (s : State) : Bool := s.saveCut || (s.finalSave && s.saving)

/-- A reset with the SYS_RSTCAUSE it records (R353, R354). Cold: power-on or supply monitor. Pins, supplies and what the
SAFE and RTC domains hold stay. -/
def State.hwReset (s : State) (cold : Bool) (cause : Nat) : State :=
  let s1 := (s.cutWord cold).cutProgram
  let base := { State.reset with
    regs := smSet regReset (s1.regs.filter fun p => keptReg cold p.1) A.SYS_RSTCAUSE (BitVec.ofNat 32 cause)
    mem := s1.mem.filter fun p => keptByte cold p.1
    tStop := s1.tStop
    saveCut := s.cutSave
    refHeld := if cold then none else s1.refHeld
    refLost := s1.refLost
    railBad := s1.railBad
    gateEn := s1.gateEn
    resetN := s1.resetN
    pfi := s1.pfi
    rtcSub := s1.rtcSub
    rtcPend := s1.rtcPend
    jLow := if cold then (s1.reg A.UHL_NEXT).toNat else s1.jLow
    activeB := s1.activeB
    free := s1.free
    out := s1.out
    pending := s1.pending }
  (base.put F.PRS_PSA_erases (s1.f F.PRS_PSA_erases)).put F.PRS_PSB_erases (s1.f F.PRS_PSB_erases)

/-- Cause bits of SYS_RSTCAUSE (R359). -/
def causePor : Nat := 1
def causeMon (rail : Nat) : Nat := 2 + 4 * rail
def causeBit (b : Nat) : Nat := 2 ^ b

/-- The RTC domain records the time at which the device stopped (R299). -/
def State.markStop (s : State) : State := { s with tStop := ((s.reg A.SYS_RTC_SEC).toNat, s.rtcMs) }

/-- Outputs low before a reset (R28): safe outputs, ALIVE, contactor drives, RBG. -/
def State.outputsLow (s : State) : State :=
  { (s.soLow).put F.ISL_KSTAT_drv 0 with alive := false, aliveRun := false, rbg := false }

/-! ### Supplies -/

/-- MONITOR_TRIP: outside reset the links part, the outputs fall and reset follows (R26, R28). R28 speaks of trips outside
reset alone: in RESET the first rail to trip makes it a supply-monitor reset that names this rail, and a further one leaves
the rail that is recorded (R26, R28; assumption 77, DESIGN CHOICE). -/
def execMonitorTrip (r : Fin 5) (s : State) : Res :=
  .next (
    let s1 := { s with railBad := s.railBad.set r true }.markStop
    if s.mode = mReset ∧ s.railBad.toList.any id then s1
    else ((s1.partAll s1.anySwitching).outputsLow).hwReset true (causeMon r.val))

/-- MONITOR_RELEASE: the rail has been in range for 1 ms (R26). -/
def execMonitorRelease (r : Fin 5) (s : State) : Res := .next { s with railBad := s.railBad.set r false }

/-- POWER_ON: the rails have risen and internal reset releases; VBK has stayed at 2.5 V or above or not, and the RTC
shows this time (R29, R31, R354). -/
def execPowerOn (vbk : Bool) (sec : Word) (ms : Fin 1000) (s : State) : Res :=
  .next (
    let s1 := { s.hwReset true (if vbk then causePor else causePor + causeBit 9) with
      railBad := Vector.replicate 5 false, refLost := false }
    let s2 := (s1.setReg A.SYS_RTC_SEC sec).put F.SYS_RTC_SUB_ms ms.val
    if vbk then s2 else s2.put F.SYS_RTC_SUB_valid 0)

/-! ### Reset sources -/

/-- RBG turns off: SYS_EVT.rbg_off, EV118, class C (R37, R38, R441). -/
def State.rbgOff (s : State) : State :=
  if s.rbg then (({ s with rbg := false }).sysEvt 3 118).report 0x6D00 .C 0 else s

/-- RESETN_LOW: deferred during the final save (R30, R36, R358). -/
def execResetnLow (s : State) : Res :=
  .next (
    let s1 := { s with resetN := false }.markStop
    if s.mode = mReset then s1
    else if s.mode = mHoldup ∧ s.finalSave ∧ s.saving then { s1.rbgOff with resetAfterSave := some 5 }
    else ((s1.partAll false).outputsLow).hwReset false (causeBit 5))

/-- The reset that waited for the final save (R36, R358). -/
def State.deferredReset (s : State) : State :=
  match s.resetAfterSave with
  | some b => if s.saving then s else ((s.partAll false).outputsLow).hwReset false (causeBit b)
  | none => s

/-- SOFT_RESET_ASSERT: 100 µs after an accepted SET_MODE RESET; after the final save where PFI came first (R355,
R358). -/
def execSoftResetAssert (s : State) : Res :=
  .next (
    if s.softReset then
      if s.mode = mHoldup ∧ s.finalSave ∧ s.saving then
        { s with softReset := false, resetAfterSave := some (s.resetAfterSave.getD 6) }
      else ((s.partAll false).outputsLow).hwReset false (causeBit 6)
    else s)

/-- HOLDUP_RELEASE_RESET: 100 ms after PFI was released (R36, R353). -/
def execHoldupReleaseReset (s : State) : Res :=
  .next (
    if s.mode = mHoldup then ({ (s.partAll false).outputsLow with pfi := false }).hwReset false (causeBit 7) else s)

/-! ### PFI and HOLDUP -/

/-- A journal copy that is refused: its command ends with REFUSED_MODE, and its entry says so (R377, R409). -/
def State.refuseCopy (s : State) (c : Cmd) : State :=
  let d := { c with res := rMode, part := 0xFF, cause := rMode, word := 0 }
  let s1 := s.jClose d
  s1.respond d []

/-- Words of a PERSIST_WRITE. -/
def Cmd.words (c : Cmd) : Nat := (c.pl.length - 4) / 4

/-- What the write unit keeps on entry to HOLDUP: the word in progress, and the rest of its journal copy (R384, R409); the
last word of a periodic save is dropped, so that its slot is left with a failed CRC (R298; assumption 57, DEDUCED). -/
def keepAtHoldup : List WReq → List WReq
  | [] => []
  | q :: t =>
    if q.kind = 1 then q :: t.takeWhile (fun r => r.kind == 1 && r.cmd == q.cmd)
    else if q.kind = 2 ∧ q.addr % 0x100 = 252 then []
    else [q]

/-- What the write unit does on entry to HOLDUP: a periodic save is abandoned, and every request but the one in progress
is refused with REFUSED_MODE; a PERSIST_WRITE in progress will name its first unwritten word (R298, R371, R409). -/
def State.stopStore (s : State) : State :=
  let keep := keepAtHoldup s.wq
  let s1 := { (if s.saving then (s.mtrBlockEvt 11).put F.MTR_SAVESTAT_busy 0 else s) with wq := keep }
  let has (w : List WReq) (k : Nat) (c : Cmd) : Bool := w.any fun q => q.kind == k && q.cmd == some c.id
  let writes := s.cmds.filter fun c => c.ph == .writing && has s.wq 0 c
  let copies := s.cmds.filter fun c => c.ph == .writing && has s.wq 1 c && !has keep 1 c
  let s2 := writes.foldl (fun (s2 : State) c =>
    if has keep 0 c then
      let left := (s.wq.filter fun q => q.kind == 0 && q.cmd == some c.id).length
      s2.updCmd c.id fun c => { c with res := rMode, cause := rMode, word := c.words + 1 - left }
    else s2.finishR c.id rMode) s1
  copies.foldl (fun (s : State) c => s.refuseCopy c) s2

/-- Entry to HOLDUP (R36, R298, R356). -/
def State.enterHoldup (s : State) : State :=
  let s1 := ((s.changeMode mHoldup).partAll false).clearRuns.kOpen
  let s2 := ((s1.put F.FLT_STAT_hold 0).put F.FLT_STAT_quiet 0).markStop
  s2.stopStore.saveStart true

/-- PFI_ASSERT: high for 2 µs in CONFIGURE or later (R36). -/
def execPfiAssert (s : State) : Res :=
  .next (
    let s1 := { s with pfi := true }.markStop
    if 3 ≤ s.mode ∧ s.mode ≤ 10 then s1.enterHoldup else s1)

/-! ### GATE_EN -/

/-- GATE_EN_FALL: the links part; class A while a stage is switching (R33). -/
def execGateEnFall (s : State) : Res :=
  .next (
    let s1 := { s with gateEn := false }
    if s.anySwitching then s1.report 0x0800 .A 0 else s1.partAll false)

/-- Clear the latched short circuits of a link (R34, R210); the pod's own latch stands until the sequence sends ENABLE. -/
def State.clearTrip (s : State) (n : Link) : State :=
  let s1 := s.setReg (A.GL_TRIP n) 0
  s1.setLnk n { s1.lnk[n] with pairs := 0 }

/-- GATE_EN_RISE: after a low of 10 µs or more every latched short circuit clears (R34). -/
def execGateEnRise (long : Bool) (s : State) : Res :=
  .next (
    let s1 := if long && !s.gateEn then links.foldl (fun (s : State) (n : Link) => s.clearTrip n) s else s
    { s1 with gateEn := true })

/-! ### Reverse battery and ALIVE -/

/-- RBS_QUALIFIED (R37, R38). -/
def execRbsQualified (s : State) : Res :=
  .next (if s.mode ≠ mReset ∧ s.resetN then { s with rbg := true } else s)

/-- RBS_OFF: RBG turns off, EV118, class C (R37, R38, R441). -/
def execRbsOff (s : State) : Res :=
  .next s.rbgOff

/-- ALIVE_TOGGLE: a half period ends while the device is fault-free (R35). -/
def execAliveToggle (s : State) : Res := .next (if s.aliveRun then { s with alive := !s.alive } else s)

end Sys2Proof.Machine
end

