-- ==== Sys2Proof/Machine/Clocks.lean ====
section
/-! DEFINITION. Mandrel, loss of REF and SYNC_IN (R42 to R57), and the step from BOOT to SELFTEST (R45, R345). -/

namespace Sys2Proof.Machine

/-- BOOT ends once lock is qualified and the image selection is complete, and SYS_BOOT.t_ms takes its length (R345, R359);
SELFTEST begins with the calibration (R351). -/
def State.bootToSelftest (s : State) : State :=
  if s.mode = mBoot ∧ s.bootDone ∧ s.fb F.CLK_STAT_lock then
    { (s.put F.SYS_BOOT_t_ms (min 65535 (s.cyc / 250000))).changeMode mSelftest with calRun := true, stestCyc := s.cyc }
  else s

/-- LOCK_QUALIFIED: taps are released; EDGE time starts at the first lock since reset, EV113 comes after a loss (R47,
R49). LOCKF is inside its window from here; before the first qualification lockf_win reads 0, whatever LOCKF does (R43, R54;
assumption 2, DESIGN CHOICE). -/
def execLockQualified (s : State) : Res :=
  .next (
    if s.fb F.CLK_STAT_acq && !s.fb F.CLK_STAT_lock then
      let s1 := (((s.put F.CLK_STAT_lock 1).put F.CLK_STAT_acq 0).put F.CLK_STAT_tap_hold 0).put F.CLK_STAT_lockf_win 1
      let s2 := if s1.everLock then s1.src F.CLK_EVT_relock 113
        else { s1 with everLock := true, eRun := true, etime := 0 }
      s2.bootToSelftest
    else s)

/-- LOCK_LOST: the links part, the taps are held, acquisition starts; class B/C (R42, R47). Whether LOCKF is inside its
window is free (R43; assumption 2, DESIGN CHOICE). -/
def execLockLost (s : State) : Res :=
  .next (
    if s.fb F.CLK_STAT_lock then
      let (n, s1) := s.freshN
      let s2 := ((((s1.put F.CLK_STAT_lock 0).put F.CLK_STAT_acq 1).put F.CLK_STAT_tap_hold 1).put
        F.CLK_STAT_lockf_win (n % 2)).src F.CLK_EVT_unlock 112
      ((s2.bump F.CLK_RELOCK_CNT_count).report 0x2000 .BC 0).partAll false
    else s)

/-- ACQUISITION_RESTART (R45, R56). -/
def execAcquisitionRestart (s : State) : Res :=
  .next (if s.fb F.CLK_STAT_acq && !s.fb F.CLK_STAT_lock then s.bump F.CLK_RELOCK_CNT_count else s)

/-- Loss of REF (R52, R53, R353, R358): the clamps, and a reset that is held until REF returns; in BOOT and RESET no
restart. -/
def State.refLoss (s : State) : State :=
  let s1 := s.put F.CLK_STAT_ref_ok 0
  if s.mode ≤ 1 then s1
  else ({ s1.outputsLow with
    refHeld := some (s.f F.CLK_REFMEAS_khz), refLost := true }).hwReset false (causeBit 8)

/-- REF_LOSS: the fast detector declares loss of REF (R52). -/
def execRefLoss (s : State) : Res := .next s.refLoss

/-- REF_MEASURE: the frequency monitor measures `khz`; out of 232 MHz to 266 MHz it declares loss, and the links send
PARTING before the clamps apply (R52, R53). -/
def execRefMeasure (khz : Nat) (s : State) : Res :=
  .next (
    let s1 := s.put F.CLK_REFMEAS_khz khz
    if 232000 ≤ khz ∧ khz ≤ 266000 then s1.put F.CLK_STAT_ref_ok 1
    else if s1.mode ≤ 1 then s1.refLoss
    else (s1.partAll s1.anySwitching).refLoss)

/-- REF_RETURN: REF is inside its accepted range again (R353). -/
def execRefReturn (s : State) : Res := .next ({ s.put F.CLK_STAT_ref_ok 1 with refLost := false })

/-! ### SYNC_IN -/

/-- The spacing of R50 in taps: units of 4 REF cycles (R57). -/
def State.synciGap (s : State) : Nat := s.f F.CLK_SYNCI_CFG_min_gap * 4 * refTaps

/-- SYNC_IN_CAPTURE: an edge of the ball, falling or rising, at EDGE time `t` in taps; only the selected one counts
(R50, R57), and in reset none (R24). -/
def execSyncInCapture (x : SyncEdge) (s : State) : Res :=
  .next <| s.heard (
    if !s.fb F.CLK_SYNCI_CFG_en || s.fb F.CLK_SYNCI_CFG_fall != x.fall then s
    else if s.synciLast.any (fun l => decide (x.t - l < s.synciGap)) then
      (s.bump F.CLK_SYNCI_STAT_early).src F.CLK_EVT_synci_fault 115
    else
      let c := (x.t + 2 ^ 53 - s.f F.CLK_SYNCI_CFG_comp) % 2 ^ 53
      let s1 := (({ s with synciLast := some x.t }).setReg A.CLK_SYNCI_TS_LO (loWord c)).setReg A.CLK_SYNCI_TS_HI (hiWord c)
      (s1.src F.CLK_EVT_synci_capt 114).syncEvent 2 (x.t - s.f F.CLK_SYNCI_CFG_comp) x.t)

/-- SYNC_IN_TIMEOUT (R50, R57). -/
def execSyncInTimeout (s : State) : Res :=
  .next <| s.heard (
    if s.fb F.CLK_SYNCI_CFG_en && s.fb F.CLK_SYNCI_CFG_timeout then
      (s.set1 F.CLK_SYNCI_STAT_missing).src F.CLK_EVT_synci_fault 115
    else s)

end Sys2Proof.Machine
end

