-- ==== Sys2Proof/Machine/Boot.lean ====
section
/-! DEFINITION. BOOT, program images, SELFTEST and the end of an orderly stop (R32, R348 to R352, R379, R381, R414,
R415, R422). -/

namespace Sys2Proof.Machine

/-! ### Program images -/

/-- Bytes of memory. -/
def State.memBytes (s : State) (a n : Nat) : List Byte := (List.range n).map fun i => s.mb (a + i)

/-- Start and word count of the segment of engine e in the image at `base` (R414). -/
def State.segOf (s : State) (base e : Nat) : Nat × Nat :=
  let w := s.mw (base + 0x10 + 4 * e)
  (getBits w 0 16, getBits w 16 16)

/-- Words of an engine's instruction memory (R67). -/
def imemWords (e : Nat) : Nat := if e < 6 then 16384 else 32768

/-- Byte address of an engine's instruction memory (R67). -/
def imemBase (e : Nat) : Nat := if e < 6 then 0x100000 + 0x10000 * e else 0x180000

/-- Magic, length, segments and CRC of the image at `base` are correct (R414, R415). -/
def State.imageOk (s : State) (base : Nat) : Bool :=
  let len := (s.mw (base + 4)).toNat
  s.mw base == 0x4B396131 && len % 4 == 0 && decide (64 ≤ len) && decide (len ≤ 262144) &&
    (List.range 7).all (fun e =>
      let (st, n) := s.segOf base e
      n == 0 || (decide (n ≤ imemWords e) && decide (4 * (st + n) ≤ len))) &&
    crc32 (s.memBytes (base + 0x40) (len - 0x40)) == s.mw (base + 8)

/-- The commit generation of a bank (R414). -/
def State.genOf (s : State) (base : Nat) : Nat := (s.mw (base + 0x3C)).toNat

/-- A bank is valid (R415). -/
def State.bankValid (s : State) (base : Nat) : Bool := s.imageOk base && s.genOf base != 0xFFFFFFFF

/-- Whether bank B is active by the generations (R415). -/
def State.bActive (s : State) : Bool :=
  let a := s.genOf 0x400000
  let b := s.genOf 0x440000
  b != 0xFFFFFFFF && (a == 0xFFFFFFFF || decide (a < b))

/-- PRS_PSA, PRS_PSB and PRS_PSGEN, as BOOT and each LOAD_PROGRAM judge them (R417). -/
def State.judgeBanks (s : State) : State :=
  let s1 := (s.putB F.PRS_PSA_at_limit (decide (10000 ≤ s.f F.PRS_PSA_erases))).putB F.PRS_PSB_at_limit
    (decide (10000 ≤ s.f F.PRS_PSB_erases))
  ((((s1.putB F.PRS_PSA_valid (s.bankValid 0x400000)).putB F.PRS_PSB_valid (s.bankValid 0x440000)).putB
    F.PRS_PSA_active (!s.activeB)).putB F.PRS_PSB_active s.activeB).setReg A.PRS_PSGEN
      (BitVec.ofNat 32 (s.genOf s.activeBase))

/-- Load an engine from the image at `base`: its segment from word 0, the rest reserved opcodes (R414). -/
def State.loadEngine (s : State) (base : Nat) (e : Fin 7) : State :=
  let (st, n) := s.segOf base e
  { (List.range (imemWords e)).foldl (fun (t : State) i =>
      t.setMw (imemBase e + 4 * i) (if i < n then s.mw (base + 4 * (st + i)) else 0xFFFFFFFF)) s with
    imgOf := s.imgOf.set e (some (base + 4 * st)) }

/-! ### The end of reset -/

/-- The auxiliary word of an entry that is closed at BOOT, where a completion rewrites it: the mode in force for SET_MODE;
for a ramp-tracked SETPOINT blk + 1, which reads 0 as every engine memory does after a reset (R354, R377, R379). -/
def State.closedAux (s : State) (a : Nat) : State :=
  let op := (s.mb (a + 7)).toNat
  if op = opSetMode then s.setMw (a + 28) (BitVec.ofNat 32 s.mode)
  else if op = opSetpoint ∧ s.mb (a + 25) = 1 then s.setMw (a + 28) 0
  else s

/-- Entries of the RAM journal that reset left in flight are closed: REFUSED_MODE, dur saturated (R379). -/
def State.closeJournal (s : State) : State :=
  let nx := (s.reg A.UHL_NEXT).toNat
  let lo := max s.jLow (nx - 4096)
  let opn := ((List.range (nx - lo)).map (lo + ·)).filter fun i => s.mb (jAddr i + 9) == 0xFF
  let s1 := opn.foldl (fun (s : State) i =>
    ((s.setBytes (jAddr i + 9) [BitVec.ofNat 8 rMode, 0xFF, BitVec.ofNat 8 rMode]).setBytes (jAddr i + 18)
      [0xFF, 0xFF]).closedAux (jAddr i)) s
  s1.putB F.UHL_STAT_closed (!opn.isEmpty)

/-- Index of the newest entry of the persistent journal, if it holds one: the highest, for copies are written in the order
of completion (R380, R381). -/
def State.newestCopy (s : State) : Option Nat :=
  ((List.range (min (s.reg A.UHL_PCNT).toNat 512)).map fun j => (s.reg (0xB2000 + 32 * j)).toNat).max?

/-- Where VBK fell, the next index is rebuilt from the persistent journal: the first multiple of 2^24 above the newest
index (R381; assumption 43, DEDUCED). -/
def State.rebuildIndex (s : State) : State :=
  if s.fb F.SYS_RSTCAUSE_rtc_inv then
    let n := match s.newestCopy with
      | some i => (i / 2 ^ 24 + 1) * 2 ^ 24 % 2 ^ 32
      | none => 0
    { (s.setReg A.UHL_NEXT (BitVec.ofNat 32 n)).put F.UHL_STAT_rebuilt 1 with jLow := n }
  else s

/-- Whether the key word is 0 (R421, R422). -/
def State.keyZero (s : State) : Bool := s.reg 0xB0040 == 0

/-- The Devar port's settings of this reset: in use, unlocked by a key of 0 (R421, R422). The settings word rules with
every strap: with BOOT1:0 = 0b11 and en clear the port stays closed (R32, R421; assumption 59, DESIGN CHOICE). -/
def State.devarReset (s : State) : State :=
  { (s.putB F.DBG_STAT_port_en (getBits (s.reg 0xB0044) 0 1 == 1)).putB F.DBG_STAT_unlocked s.keyZero with
    dbgLim := max 1 (getBits (s.reg 0xB0044) 8 8) }

/-- At reset the band states of every switch are set from GL_DRV and STG_SWCFG (R211; assumption 3, DESIGN CHOICE: R217
gives GL_AST the reset value 0, which holds until the end of reset). -/
def State.initLoops (s : State) : State :=
  links.foldl (fun (s : State) (n : Link) => (List.range 8).foldl (fun s i => s.loopInit n i true true) s) s

/-- BOOT reads the identities of the networks (R396, R398). -/
def State.takeIds (s : State) : State := (s.takeId 0).takeId 1

/-- VBK fell below 2.5 V, whatever the source of the reset: the RTC is marked invalid and its count is lost; the journal
index will be rebuilt (R29, R354, R381; assumption 62, DEDUCED). -/
def State.vbkFell (s : State) : State :=
  let (w, s1) := s.fresh
  let (n, s2) := s1.freshN
  (((s2.setReg A.SYS_RTC_SEC w).put F.SYS_RTC_SUB_ms (n % 1000)).put F.SYS_RTC_SUB_valid 0).put F.SYS_RSTCAUSE_rtc_inv 1

/-- `f` as it reads the persistent store with two bits in error in the words `ws`: each of them reads 0 and stays as it is
(R408). -/
def State.withDead (s : State) (ws : List Nat) (f : State → State) : State :=
  let as := (ws.filter fun w => decide (w < 0x1800)).map fun w => 0xB0000 + 4 * w
  as.foldl (fun t a => t.setReg a (s.reg a)) (f (as.foldl (fun (t : State) a => t.setReg a 0) s))

/-- Reads of the store that were corrected: counted, with PRS_EVT.corr (R408). -/
def State.correctedReads (s : State) (n : Nat) : State :=
  if n = 0 then s else (s.put F.PRS_STAT_corr (min 65535 (s.f F.PRS_STAT_corr + n))).prsEvt 2

/-- RESET_RELEASE: the end of reset samples BOOT1:0 and enters BOOT; the links send PARTING, Mandrel acquires; `vbk` says
whether VBK has stayed at 2.5 V or above (R25, R29, R31, R32, R45, R349). -/
def execResetRelease (r : Release) (s0 : State) : Res :=
  .next (
    let s := if r.vbk then s0 else s0.vbkFell
    if s0.mode = mReset ∧ !s0.railBad.toList.any id ∧ !s0.refLost then
      let s1 := { s with resetN := true, straps := r.straps, cyc := 0, activeB := s.bActive }
      let s2 := ((s1.changeMode mBoot).put F.SYS_BOOT_straps r.straps).put F.CLK_STAT_acq 1
      let s3 := links.foldl (fun (s : State) (n : Link) => s.emit (.symbol n 0xFD)) s2
      (s3.withDead r.dead fun s => ((s.closeJournal.rebuildIndex).devarReset).restoreEnergy.judgeBanks.initLoops.takeIds).correctedReads
        r.corr
    else s0)

/-! ### BOOT -/

/-- Download boot: only one port may send, and only some commands (R398). -/
def State.downloads (s : State) : Bool := s.mode == mBoot && (s.straps == 1 || s.straps == 2)

/-- The image selection is complete (R349). -/
def State.bootEnd (s : State) (ok : Bool) : State :=
  let s1 := (({ s with bootDone := true }).putB F.SYS_BOOT_img_ok ok).putB F.SYS_BOOT_bank (ok && s.activeB)
  s1.judgeBanks.bootToSelftest

/-- Autonomous selection: the active bank, else the other one (R349, R415). -/
def State.selectImage (s : State) : State :=
  if s.bankValid s.activeBase then s.bootEnd true
  else if s.bankValid s.inactiveBase then ({ s.put F.SYS_BOOT_fallback 1 with activeB := !s.activeB }).bootEnd true
  else s.bootEnd false

/-- BOOT_DONE: the selection completes; a download boot ends with the function 2 that passes (R349, R398). -/
def execBootDone (s : State) : Res :=
  .next (
    if s.mode = mBoot ∧ !s.bootDone then
      if s.downloads then (if s.fb F.SYS_BOOT_dl then s.bootEnd true else s) else s.selectImage
    else s)

/-! ### SELFTEST -/

/-- The memory BIST leaves every data and table word at 0 (R351). -/
def State.bistClear (s : State) : State :=
  { s with mem := s.mem.filter fun p => !(decide (0x200000 ≤ p.1) && decide (p.1 < 0x318000)) }

/-- Every engine loaded from the selected image (R350, R351). -/
def State.loadAll (s : State) : State :=
  if s.fb F.SYS_BOOT_img_ok then (List.finRange 7).foldl (fun (s : State) (e : Fin 7) => s.loadEngine s.activeBase e) s
  else s

/-- Debug hold: every context in HALT; what it resumes to is the state it would have had (R350, R425; assumption 44, DEDUCED). -/
def State.debugHold (s : State) : State :=
  let s1 := (List.finRange 13).foldl (fun (s : State) (e : CtxId) =>
    s.setCtx e { s.ctx[e] with st := .halt, prev := s.ctx[e].st }) s
  let s2 := (List.finRange 7).foldl (fun (t : State) (m : Fin 7) =>
    let p (i : Nat) : Nat := (((ctxsOf m)[i]?).map fun e => s.ctx[e].st.code).getD 0
    ((t.put (F.DBG_ESTAT_cause m) 6).put (F.DBG_ESTAT_prev_0 m) (p 0)).put (F.DBG_ESTAT_prev_1 m) (p 1)) s1
  s2.src F.DBG_EVT_halt 125

/-- The engines at the entry to CONFIGURE (R350). Without an image every engine stays IDLE, with BOOT1:0 = 0b11 too (R32,
R349, R350; assumption 58, DESIGN CHOICE). -/
def State.startEngines (s : State) : State :=
  if s.fb F.SYS_BOOT_img_ok then
    let s1 := if getBits (s.mw (s.activeBase + 0x0C)) 0 1 = 1 then s.startCtx hs else s
    if s1.straps = 3 then s1.debugHold else s1
  else s

/-- A check that lies before the end of the DAC loopback, which has passed, is not found failing (R162, R351; assumption 78,
DESIGN CHOICE). -/
def State.checkPassed (s : State) (ms : Nat) (i : Fin 7) : Bool :=
  s.loopOk && ([1, 2, 6].contains i.val || (i.val == 0 && decide (ms < 14)))

/-- SELFTEST_DONE: all checks pass, or the first failing instance with its detail; the links that have a pod; the
duration in ms. It cannot pass while the calibration runs; a calibration that fails has ended SELFTEST as it ended. The
outcome of the loopback, which a write of CMP_CFG.en has drawn, stands: a DAC loopback that has passed is not found failing,
nor is an earlier check (R162; assumption 78, DESIGN CHOICE). The rotation of x.15 starts with the first sample after
SELFTEST, and ALIVE toggles from a passing end where no fault is open (R35, R151, R152, R350 to R353). -/
def execSelftestDone (found : Option (Fin 7)) (arg : Word) (pods : BitVec 12) (ms : Nat) (s0 : State) : Res :=
  .next (
    let s := { s0 with dacIdx := Vector.replicate 4 0, tp := s0.tp.map fun (x : TestPulse) => { x with high := true } }
    if s0.mode ≠ mSelftest ∨ (found.isNone ∧ s0.calRun) ∨ found.any (s0.checkPassed ms) then s0
    else
      let s1 := s.put F.SYS_STEST_pods pods.toNat
      match found with
      | some i => (if i = 5 then s1.bistClear.loadAll else s1).selftestFailed i.val ms arg
      | none =>
        let s2 := ((s1.put F.SYS_STEST_done 1).put F.SYS_STEST_t_ms (min ms 4095)).put F.SYS_STEST_pass 1 |>.bistClear.loadAll
        if s2.refHeld.isSome then s2.deliverRef.enterSafeStop
        else { (s2.changeMode mConfigure).startEngines with aliveRun := !s2.fb F.FLT_STAT_open })

/-! ### Orderly stop -/

/-- The last stage becomes READY: STANDBY, the contactor opens, every SET_MODE STANDBY in flight completes OK (R348). -/
def State.orderlyDone (s : State) : State :=
  let ids := (s.cmds.filter fun c => c.ph == .stopping).map (·.id)
  let s1 := { s with cmds := s.cmds.map fun (c : Cmd) => if c.ph == Phase.stopping then { c with ph := Phase.applying } else c }
  let s2 := if s1.fb F.SYS_MODEREQ_pend then (s1.put F.SYS_MODEREQ_pend 0).put F.SYS_MODEREQ_result rOk else s1
  ids.foldl (fun (s : State) id => s.finishR id rOk) s2.enterStandby.kOpen

/-- ORDERLY_STOP_DONE (R348). -/
def execOrderlyStopDone (s : State) : Res :=
  .next (
    if !s.anySwitching && (s.cmds.any (fun c => c.ph == .stopping) || s.fb F.SYS_MODEREQ_pend) then s.orderlyDone else s)

end Sys2Proof.Machine
end

