-- ==== Sys2Proof/Machine/Branch.lean ====
section
/-! DEFINITION. Branches and jumps (R100, R101). -/

namespace Sys2Proof.Machine

/-- BEQ (R100). -/
def execBeq (e : CtxId) (d a : VReg) (off : BitVec 16) (s : State) : Res :=
  .next (s.branch e d a off fun x y => x == y)

/-- BNE (R100). -/
def execBne (e : CtxId) (d a : VReg) (off : BitVec 16) (s : State) : Res :=
  .next (s.branch e d a off fun x y => x != y)

/-- BLT (R100). -/
def execBlt (e : CtxId) (d a : VReg) (off : BitVec 16) (s : State) : Res :=
  .next (s.branch e d a off fun x y => decide (x.toInt < y.toInt))

/-- BGE (R100). -/
def execBge (e : CtxId) (d a : VReg) (off : BitVec 16) (s : State) : Res :=
  .next (s.branch e d a off fun x y => decide (y.toInt ≤ x.toInt))

/-- BLTU (R100). -/
def execBltu (e : CtxId) (d a : VReg) (off : BitVec 16) (s : State) : Res :=
  .next (s.branch e d a off fun x y => decide (x.toNat < y.toNat))

/-- BGEU (R100). -/
def execBgeu (e : CtxId) (d a : VReg) (off : BitVec 16) (s : State) : Res :=
  .next (s.branch e d a off fun x y => decide (y.toNat ≤ x.toNat))

/-- JL (R101). -/
def execJl (e : CtxId) (d : VReg) (target : BitVec 16) (s : State) : Res :=
  .next (s.issue e fun s => s.jump e d target.toNat)

end Sys2Proof.Machine
end

