-- ==== Sys2Proof/Machine/LinkDown.lean ====
section
/-! DEFINITION. What a link sends (R180, R183, R185, R192 to R196): edge commands, immediate offs, SYNC words and
configuration words. -/

namespace Sys2Proof.Machine

/-! ### Edge commands -/

/-- The 64 data bits of an edge command (R194): switch on the link, polarity, type, step 1, step 2, edge number, delay
and time stamp. -/
def edgeBits (sw pol typ s1 s2 seq dly ts : Nat) : BitVec 64 :=
  BitVec.ofNat 64 (sw % 8 * 2 ^ 61 + pol % 2 * 2 ^ 60 + typ % 4 * 2 ^ 58 + s1 % 16 * 2 ^ 54 + s2 % 16 * 2 ^ 50 +
    seq % 16 * 2 ^ 46 + dly % 256 * 2 ^ 38 + ts % 2 ^ 38)

/-- A word leaves on link n: start symbol, data bytes, CRC byte (R192, R193). -/
def State.sendWord (s : State) (n : Link) (start : Nat) (data : List Byte) : State :=
  s.emit (.word n start (data ++ [BitVec.ofNat 8 (crc8 data)]))

/-- An EDGE instant as a time stamp of link n: less t_pod, 38 bits (R194). -/
def State.linkStamp (s : State) (n : Link) (t : Nat) : Nat :=
  (((t : Int) - 8 * s.f (F.GL_ID_t_pod n)) % 2 ^ 38).toNat

/-- The kept edges of a link with one more, 16 of each switch (R198). -/
def keepEdge (x : Kept) (l : List Kept) : List Kept :=
  x :: ((l.filter fun y => y.sw == x.sw).take 15 ++ l.filter fun y => y.sw != x.sw)

/-- Send a command word on link n: the edge takes the next edge number of its switch and is kept (R194, R198). -/
def State.sendEdge (s : State) (n : Link) (e : Edge) (typ stamp : Nat) : State :=
  let i : Fin 8 := ⟨e.sw % 8, by omega⟩
  let q := s.lnk[n].seqNo[i]
  let l := s.lnk[n]
  (s.setLnk n { l with
      seqNo := l.seqNo.set i ((q + 1) % 16), kept := keepEdge ⟨e.sw, e.on, q, e.band⟩ l.kept }).sendWord n 0xFB
    (leBytes (edgeBits e.sw (b2n e.on) typ e.step1 e.step2 q e.dly stamp).toNat 8)

/-- The earliest command of a link that has not been sent (R180). -/
def State.firstSlot (s : State) (n : Link) : Option Slotted :=
  (s.slots.filter fun x => x.link == n.val && !x.sent).foldl (fun best x =>
    match best with
    | some b => if x.start < b.start then some x else best
    | none => some x) none

/-- EDGE_COMMAND: the next assigned command of link n leaves in its slot (R180, R194); an immediate off that waits takes
the slot first (R185). -/
def execEdgeCommand (n : Link) (s : State) : Res :=
  .next (
    if s.lnkSt n = lEn ∧ !(s.imms.any fun x => x.link == n.val) then
      match s.firstSlot n with
      | some x =>
        let s1 := s.toInstant x.start
        { s1 with slots := s1.slots.map fun y => if y = x then { y with sent := true } else y }.sendEdge n x.edge 0
          (s.linkStamp n x.edge.t)
      | none => s
    else s)

/-- An assigned command that has not been sent moves one slot later (R185). -/
def Slotted.later (x : Slotted) (n : Link) : Slotted :=
  if x.link = n.val ∧ !x.sent then { x with start := x.start + slotTaps } else x

/-- Whether every unsent command of link n still arrives in time, without the reserve (R181, R185). -/
def State.allArrive (s : State) (n : Link) : Bool :=
  s.slots.all fun x => x.link != n.val || x.sent || s.arrives 0 x.start x.edge

/-- The slot that an immediate off takes: the first one at or after now that the word in flight leaves free (R183,
R185, R215). -/
def State.immSlot (s : State) (n : Link) : Nat :=
  freeSlot (symUp s.etime)
    (((s.slots.filter fun x => x.link == n.val && x.sent).map (·.start)).foldr insNat [])

/-- The off-edge that an immediate off of a main switch sends: its band and codes are those of the latest reload instant
of its stage (R19, R194, R212). -/
def State.immEdge (s : State) (k : Stage) (x : Imm) : Edge :=
  { ((s.stg[k].mainDrv.find? fun e => e.sw == x.sw).getD (s.mkEdge k x.sw false 0)) with t := x.horizon, sw := x.sw, on := false }

/-- An immediate off leaves in the next slot of its link, which it holds from then on; later commands move one slot; one
that is then late is a class B fault (R183, R185). -/
def State.sendImm (s : State) (n : Link) (k : Stage) (x : Imm) : State :=
  let e := s.immEdge k x
  let s1 := { s with
    imms := s.imms.filter fun y => y != x
    slots := (s.slots.map fun (y : Slotted) => y.later n) ++ [(⟨k.val, n.val, s.immSlot n, e, true⟩ : Slotted)] }
  let s2 := s1.sendEdge n e 1 (s.linkStamp n x.horizon)
  if s2.allArrive n then s2 else (s2.stgEvt k 5).report (0x2600 + k.val) .B 0

/-- IMMEDIATE_OFF (R183, R185). -/
def execImmediateOff (n : Link) (s : State) : Res :=
  .next (
    if s.lnkSt n = lEn then
      match s.imms.find? fun x => x.link == n.val with
      | some x => if h : x.stage < 12 then s.sendImm n ⟨x.stage, h⟩ x else s
      | none => s
    else s)

/-- The time a SYNC word carries when it leaves at `t` (R195). -/
def State.syncTime (s : State) (n : Link) (t : Nat) : Nat := (t + s.f (F.GL_DLINK_dlink n)) % 2 ^ 48

/-- A word of 8 symbols that begins at `t` lies in an idle gap: it ends before the next assigned command slot, no slot is
in flight, and no immediate off waits (R195, R215). -/
def State.gapAt (s : State) (n : Link) (t : Nat) : Bool :=
  (s.slots.all fun x => x.link != n.val || decide (t + 8 * symTaps ≤ x.start) || decide (x.start + slotTaps ≤ t)) &&
    !s.imms.any fun x => x.link == n.val

/-- SYNC_WORD: in DIS, SEQ and EN, the first bit leaving at EDGE time `t`; deferred where no idle gap begins there
(R195, R215). -/
def execSyncWord (n : Link) (t : Nat) (s : State) : Res :=
  .next (if s.lnkSt n = lPart ∨ !s.gapAt n t then s else (s.toInstant t).sendWord n 0x1C (leBytes (s.syncTime n t) 6))

/-! ### Configuration words -/

/-- The value of pod address 0 to 13 on link n, from the registers that it is sent from (R172, R196). -/
def State.podValue (s : State) (n : Link) (a : Nat) : Word :=
  if a < 8 then
    match s.legOf (8 * n.val + a) with
    | some p => BitVec.ofNat 32 (s.f (F.GL_SWD_didt n a) + 256 * (p % 8) + 2048)
    | none => BitVec.ofNat 32 (s.f (F.GL_SWD_didt n a))
  else if a < 10 then s.reg (A.GL_DESAT n (a - 8))
  else if a = 10 then BitVec.ofNat 32 (s.f (F.GL_CFG_softoff n))
  else if a = 11 then BitVec.ofNat 32 (s.f (F.GL_CFG_ilk n))
  else if a = 12 then s.reg (A.GL_XTH n)
  else BitVec.ofNat 32 (s.f (F.GL_DLINK_dlink n))

/-- Queue a configuration word on link n (R196). -/
def State.queueCfg (s : State) (n : Link) (w : CfgWord) : State :=
  let l := s.lnk[n]
  s.setLnk n { l with cfg := l.cfg ++ [{ w with tag := l.tag % 256 }], tag := (l.tag + 1) % 256 }

/-- The pod address of the field that a word of GL_SWD or GL_CFG holds, with its link: GL_SWD.didt at address s,
GL_CFG.softoff at 0x0A (R196). -/
def podAddr (a : Nat) : Option (Link × Nat) :=
  (links.flatMap fun n => (n, 10) :: (List.range 8).map fun i => (n, i)).find? fun x =>
    a == if x.2 = 10 then A.GL_CFG x.1 else A.GL_SWD x.1 x.2

/-- The data bytes of a configuration word: address, value, tag (R196). -/
def cfgBytes (addr : Nat) (value : Word) (tag : Nat) : List Byte :=
  BitVec.ofNat 8 addr :: wordBytes value ++ [BitVec.ofNat 8 tag]

/-- The word that a field of the pod will hold once the words waiting for it have been acknowledged (R217). -/
def State.podAhead (s : State) (n : Link) (a : Nat) : Word :=
  s.lnk[n].cfg.foldl (fun w c => match c.reg with
    | some (b, v, m) => if b = a then (w &&& ~~~m) ||| (v &&& m) else w
    | none => w) (s.reg a)

/-- A word of GL_SWD, or one that carries GL_CFG.softoff, takes effect as its link's state gives (R196, R217): sent and
effective at the ACK in DIS and EN; stored in SEQ, and sent again in EN where its address has passed; stored in PART. -/
def State.podWrite (s : State) (n : Link) (i : Nat) (a : Nat) (v m : Word) (cmd : Option Nat) (restoring : Bool) :
    State :=
  let stored := s.mergeReg a v m
  let w : CfgWord := ⟨i, stored.podValue n i, 0, cmd, restoring, false, some (a, v, m)⟩
  if s.lnkSt n = lPart then stored
  else if s.lnkSt n = lSeq then
    match s.lnk[n].seqAt with
    | some j => if i < j ∨ (i = j ∧ s.lnk[n].cfg.any (·.sent)) then stored.queueCfg n w else stored
    | none => stored
  else s.queueCfg n w

/-- Mark the first word that has not left as sent. -/
def markSent : List CfgWord → List CfgWord
  | [] => []
  | w :: t => if w.sent then w :: markSent t else { w with sent := true } :: t

/-- CONFIGURATION_WORD: the next word of the ENABLE sequence, or in DIS and EN the oldest waiting word, where an idle gap
begins now (R195, R196, R204, R215). -/
def execConfigurationWord (n : Link) (s : State) : Res :=
  .next (
    let l := s.lnk[n]
    if s.lnkSt n = lSeq then
      match l.seqAt with
      | some j =>
        if j < 14 ∧ l.idOk ∧ l.echoOk ∧ !l.cfg.any (·.sent) then
          (s.setLnk n { l with
            cfg := ⟨j, s.podValue n j, l.tag % 256, none, false, true, none⟩ :: l.cfg,
            tag := (l.tag + 1) % 256 }).sendWord n 0x5C (cfgBytes j (s.podValue n j) (l.tag % 256))
        else s
      | none => s
    else if s.lnkSt n = lPart ∨ !s.gapAt n s.etime then s
    else match l.cfg.find? fun w => !w.sent with
      | some w => (s.setLnk n { l with cfg := markSent l.cfg }).sendWord n 0x5C (cfgBytes w.addr w.value w.tag)
      | none => s)

end Sys2Proof.Machine
end

