-- ==== Sys2Proof/Machine/LinkUp.lean ====
section
/-! DEFINITION. What a link receives (R193, R197 to R200, R204, R207 to R215): status, event, ID, echo and crossing
words, TRIP pairs, silence, the ends of the ENABLE sequence, and the adaptive gate loops. -/

namespace Sys2Proof.Machine

/-- Set a bit of GL_EVT, EV(24 + n) (R216). -/
def State.linkEvt (s : State) (n : Link) (b : Nat) : State := s.src ⟨A.GL_EVT n, b, 1⟩ (24 + n.val)

/-- A word of link n arrives with its CRC byte: in reset the receivers are ignored (R24); a word with a CRC error is
discarded whole and counted (R193, R216). -/
def State.upWord (s : State) (n : Link) (data : List Byte) (crc : Byte) (t : State) : Res :=
  .next <| s.heard (if crc = BitVec.ofNat 8 (crc8 data) then t else s.bump (F.GL_CNT_crc_up n))

/-! ### The ENABLE sequence -/

/-- The sequence of link n ends in en_fail: PART, and the report of class B/C, which as class B parts every link, or the
escalation of R335 (R204, R328). -/
def State.seqFail (s : State) (n : Link) : State := (s.partLink n).settle.seqsFailed [n] true

/-- Link n reaches EN; the episode of a RESUME closes with its last link (R204, R335). -/
def State.linkEn (s : State) (n : Link) : State :=
  let s1 := (s.put (F.GL_STAT_st n) lEn).setLnk n { s.lnk[n] with seqAt := none }
  let s2 := { s1 with resumeLinks := s1.resumeLinks.filter fun m => m != n }
  if s2.resumed && s2.resumeLinks.isEmpty then s2.closeEpisode else s2

/-- The ID word passes: revision, t_pod, fitted switches, desaturation slots (R204). -/
def State.idGood (s : State) (n : Link) (rev tpod fitted cap : Byte) : Bool :=
  rev == 1 && decide (20 ≤ tpod.toNat) && decide (tpod.toNat ≤ 200) &&
    ((List.range 8).all fun i => (s.owner (8 * n.val + i)).isNone || natBit fitted.toNat i) &&
    [0, 1].all fun i => !s.fb (F.GL_DESAT_en n i) || natBit cap.toNat (s.f (F.GL_DESAT_sw n i))

/-- ID_WORD: checked in the sequence, which goes on with the echo request (R197, R204). -/
def execIdWord (u : Upward) (rev tpod fitted cap : Byte) (typ : BitVec 16) (s : State) : Res :=
  s.upWord u.link ([rev, tpod, fitted, cap] ++ leBytes typ.toNat 2) u.crc (
    if s.lnkSt u.link = lSeq then
      let s1 := (s.setReg (A.GL_ID u.link) (bytesWord rev tpod fitted cap)).put (F.GL_IDT_type u.link) typ.toNat
      if s.idGood u.link rev tpod fitted cap then
        ((s1.put (F.GL_STAT_id_ok u.link) 1).setLnk u.link { s1.lnk[u.link] with idOk := true }).emit (.symbol u.link 0xDC)
      else (s1.put (F.GL_STAT_id_ok u.link) 0).seqFail u.link
    else s)

/-- ECHO_RESPONSE: round trip `rt` in taps; d_link must lie between 0 and 250 ns (R204). -/
def execEchoResponse (n : Link) (rt : Nat) (s : State) : Res :=
  .next <| s.heard (
    if s.lnkSt n = lSeq then
      if 3200 ≤ rt ∧ (rt - 3200) / 2 ≤ 2000 then
        (s.put (F.GL_DLINK_dlink n) ((rt - 3200) / 2)).setLnk n { s.lnk[n] with echoOk := true }
      else s.seqFail n
    else s)

/-- ENABLE_TIMEOUT: EN not reached within 100 µs (R204). -/
def execEnableTimeout (n : Link) (s : State) : Res :=
  .next (if s.lnkSt n = lSeq then s.seqFail n else s)

/-! ### Answers to configuration words -/

/-- The last words of the sequence: SYNC, and ENABLE, which clears the pod's latched trips (R204, R210). -/
def State.sendEnable (s : State) (n : Link) : State :=
  let s1 := (s.sendWord n 0x1C (leBytes (s.syncTime n s.etime) 6)).emit (.symbol n 0xF7)
  s1.setLnk n { s1.lnk[n] with known := 0 }

/-- CONFIGURATION_ACK (R196, R199, R217): the sequence goes on, after its last word with SYNC and ENABLE; otherwise the
field takes effect. -/
def execConfigurationAck (u : Upward) (tag : Byte) (s : State) : Res :=
  s.upWord u.link [0x06, tag, 0] u.crc (
    let l := s.lnk[u.link]
    match l.cfg.find? fun w => w.sent && w.tag == tag.toNat with
    | none => s
    | some w =>
      let s1 := s.setLnk u.link { l with cfg := l.cfg.filter fun x => x != w }
      if s.lnkSt u.link = lSeq then
        match l.seqAt with
        | some j =>
          let s2 := s1.setLnk u.link { s1.lnk[u.link] with seqAt := some (j + 1) }
          if j = 13 then s2.sendEnable u.link else s2
        | none => s1
      else
        (match w.reg with
        | some (a, v, m) => s1.mergeReg a v m
        | none => s1).settle)

/-! ### Status, silence, discarded words, receiver lock -/

/-- Monitor index 4: switches with a latched trip and no recorded one set their unk bits (R209). -/
def State.tripMask (s : State) (n : Link) (m : Byte) : State :=
  let k := s.lnk[n].known
  let new := Nat.land m.toNat (Nat.xor 255 (Nat.land k 255))
  (s.put (F.GL_TRIP_unk n) (Nat.lor (s.f (F.GL_TRIP_unk n)) new)).setLnk n { s.lnk[n] with known := Nat.lor k new }

/-- A monitor value of a status word (R197). -/
def State.monitor (s : State) (n : Link) (i : Nat) (v : Byte) : State :=
  if i < 4 then s.put ⟨A.GL_PMON n, 8 * i, 8⟩ v.toNat
  else if i = 4 then s.tripMask n v
  else s

/-- STATUS_WORD: commanded states, flags, monitor index with word number, monitor value (R197, R200, R204). -/
def execStatusWord (u : Upward) (states flags idx val : Byte) (s : State) : Res :=
  s.upWord u.link [states, flags, idx, val] u.crc (
    let s1 := ((s.put (F.GL_PSTAT_states u.link) states.toNat).put (F.GL_PSTAT_flags u.link) flags.toNat).put (F.GL_PSTAT_count u.link)
      (s.f (F.GL_PSTAT_count u.link) + 1)
    let s2 := (s1.putB (F.GL_STAT_pod_en u.link) (natBit flags.toNat 0)).monitor u.link (idx.toNat % 16) val
    if s2.lnkSt u.link = lSeq ∧ s2.lnk[u.link].seqAt = some 14 ∧ natBit flags.toNat 0 then s2.linkEn u.link else s2)

/-- LINK_SILENCE: 2 µs without a valid status word on a link in use (R200). -/
def execLinkSilence (n : Link) (s : State) : Res :=
  .next <| s.heard (if s.fb (F.GL_CTL_en n) then (s.linkEvt n 1).report (0x2200 + n.val) .BC 0 else s)

/-- UPSTREAM_WORD_DISCARDED: an invalid symbol in a word, a word that a TRIP symbol cuts, or a single TRIP symbol (R193,
R207); a CRC error is counted where the word arrives. -/
def execUpstreamWordDiscarded (n : Link) (s : State) : Res := .next <| s.heard (s.bump (F.GL_CNT_crc_up n))

/-- RX_LOCK and RX_LOSS (R191). -/
def execRxLock (n : Link) (s : State) : Res := .next <| s.heard (s.put (F.GL_STAT_rx_lock n) 1)
def execRxLoss (n : Link) (s : State) : Res := .next <| s.heard (s.put (F.GL_STAT_rx_lock n) 0)

/-! ### Trips and pod faults -/

/-- TRIP_PAIR: the short circuit is latched at the link, though the pair names no switch; every link parts, class A type
0x07 (R207, R209; assumption 54, DEDUCED). -/
def execTripPair (n : Link) (s : State) : Res :=
  .next <| s.heard (
    let s1 := s.setLnk n { s.lnk[n] with pairs := s.lnk[n].pairs + 1 }
    (s1.linkEvt n 0).report (0x0700 + n.val) .A 0)

/-- A short-circuit event word: the switch's bit of its kind; the argument of the pair's report; a report of its own
where no pair was decoded (R199, R207, R209, R332). -/
def State.tripWord (s : State) (n : Link) (bit : Nat) (sw : Fin 8) : State :=
  let s1 := s.set1 ⟨A.GL_TRIP n, bit + sw.val, 1⟩
  let l := s1.lnk[n]
  let s2 := s1.setLnk n { l with known := Nat.lor l.known (2 ^ sw.val), pairs := l.pairs - 1 }
  if l.pairs = 0 then s2.report (0x0700 + n.val) .A (s2.reg (A.GL_TRIP n))
  else if s2.f F.FLT_FIRST_code = 0x0700 + n.val ∧ s2.reg A.FLT_FIRST_ARG = 0 then
    s2.setReg A.FLT_FIRST_ARG (s2.reg (A.GL_TRIP n))
  else s2

/-- DIDT_TRIP (R199, R209). -/
def execDidtTrip (u : Upward) (sw : Fin 8) (s : State) : Res :=
  s.upWord u.link [0x01, BitVec.ofNat 8 sw, 0] u.crc (s.tripWord u.link 0 sw)

/-- DESATURATION_TRIP (R199, R209). -/
def execDesaturationTrip (u : Upward) (sw : Fin 8) (s : State) : Res :=
  s.upWord u.link [0x02, BitVec.ofNat 8 sw, 0] u.crc (s.tripWord u.link 8 sw)

/-- An event word that is a pod fault, class B/C; FLT_FIRST_ARG holds its type in bits 7 to 0 and its first argument in bits
15 to 8 (R199, R216, R332; assumption 85, DESIGN CHOICE: R332 does not say where in the word they lie). -/
def State.podFault (s : State) (n : Link) (typ arg : Byte) : State :=
  (s.linkEvt n 2).report (0x2300 + n.val) .BC (BitVec.ofNat 32 (typ.toNat + 256 * arg.toNat))

/-- GATE_SUPPLY_FAULT, event type 0x03 (R199). -/
def execGateSupplyFault (u : Upward) (idx val : Byte) (s : State) : Res :=
  s.upWord u.link [0x03, idx, val] u.crc (s.podFault u.link 0x03 idx)

/-- OVERTEMP_SHUTDOWN, event type 0x04 (R199). -/
def execOvertempShutdown (u : Upward) (temp : Byte) (s : State) : Res :=
  s.upWord u.link [0x04, temp, 0] u.crc (s.podFault u.link 0x04 temp)

/-- OVERTEMP_WARNING, event type 0x05 (R199, R332). -/
def execOvertempWarning (u : Upward) (temp : Byte) (s : State) : Res :=
  s.upWord u.link [0x05, temp, 0] u.crc ((s.linkEvt u.link 3).report (0x6600 + u.link.val) .C (BitVec.ofNat 32 temp.toNat))

/-- DOWNSTREAM_WORD_DISCARDED, event type 0x08 (R199). -/
def execDownstreamWordDiscarded (u : Upward) (count : Byte) (s : State) : Res :=
  s.upWord u.link [0x08, count, 0] u.crc (s.podFault u.link 0x08 count)

/-- LATE_TIMED_COMMAND, event type 0x09 (R199). -/
def execLateTimedCommand (u : Upward) (sw seq : Byte) (s : State) : Res :=
  s.upWord u.link [0x09, sw, seq] u.crc (s.podFault u.link 0x09 sw)

/-- POD_INTERLOCK_DROP, event type 0x0A (R199). -/
def execPodInterlockDrop (u : Upward) (sw seq : Byte) (s : State) : Res :=
  s.upWord u.link [0x0A, sw, seq] u.crc (s.podFault u.link 0x0A sw)

/-- EDGE_QUEUE_FULL, event type 0x0B (R199). -/
def execEdgeQueueFull (u : Upward) (sw seq : Byte) (s : State) : Res :=
  s.upWord u.link [0x0B, sw, seq] u.crc (s.podFault u.link 0x0B sw)

/-! ### Crossing words and the adaptive loops -/

/-- Sums by key. -/
def sumGet (l : List (Nat × LoopSum)) (k : Nat) : LoopSum := smGet (fun _ => ⟨0, 0⟩) l k
def sumSet (l : List (Nat × LoopSum)) (k : Nat) (v : LoopSum) : List (Nat × LoopSum) := smSet (fun _ => ⟨0, 0⟩) l k v

/-- Values per update (R216). -/
def State.navg (s : State) (n : Link) : Nat := max 1 (s.f (F.GL_ALOOP_navg n))

/-- The dv/dt loop of a switch takes t2 − t1 of an edge; after navg values the code moves by one step (R212). -/
def State.dvUpdate (s : State) (n : Link) (i : Fin 8) (pol : Bool) (b t : Nat) : State :=
  let k := 16 * i.val + 8 * b2n pol + b
  let x := sumGet s.lnk[n].dv k
  let y : LoopSum := ⟨x.sum + t, x.n + 1⟩
  if y.n < s.navg n then s.setLnk n { s.lnk[n] with dv := sumSet s.lnk[n].dv k y }
  else
    let s1 := s.setLnk n { s.lnk[n] with dv := sumSet s.lnk[n].dv k ⟨0, 0⟩ }
    let tgt : Int := 8 * s.bound1 (8 * n.val + i.val) (if pol then F.GL_ABND1_on_tgt n i else F.GL_ABND1_off_tgt n i)
    let tol : Int := 8 * s.f (F.GL_ALOOP2_tol n)
    let fld := if pol then F.GL_AST_on_s2 n i b else F.GL_AST_off_s2 n i b
    let sw := 8 * n.val + i.val
    let lo := s.bound1 sw (if pol then F.GL_ABND1_src_min n i else F.GL_ABND1_snk_min n i)
    let hi := s.bound1 sw (if pol then F.GL_ABND1_src_max n i else F.GL_ABND1_snk_max n i)
    let c := s.f fld
    let c' := if (y.sum : Int) < y.n * (tgt - tol) then c - 1 else if y.n * (tgt + tol) < (y.sum : Int) then c + 1 else c
    s1.put fld (min (max c' lo) hi)

/-- The dead-time loop of switch `sw` takes t2 of its partner's off-edge (R213). -/
def State.dtUpdate (s : State) (n : Link) (sw b t2 : Nat) : State :=
  let i := sw % 8
  let k := 4 * i + b
  let x := sumGet s.lnk[n].dt k
  let y : LoopSum := ⟨max x.sum t2, x.n + 1⟩
  if y.n < s.navg n then s.setLnk n { s.lnk[n] with dt := sumSet s.lnk[n].dt k y }
  else
    let s1 := s.setLnk n { s.lnk[n] with dt := sumSet s.lnk[n].dt k ⟨0, 0⟩ }
    let tgt := y.sum + s.f (F.GL_ALOOP2_margin n)
    let d := s.f (F.GL_AST_dt n i b)
    let st := max 1 (s.f (F.GL_ALOOP_dt_step n))
    let d' := if d < tgt then min tgt (d + st) else max tgt (d - st)
    s1.put (F.GL_AST_dt n i b) (s.dtBound sw d')

/-- CROSSING_WORD: matched to a kept edge by switch, polarity and edge number, it feeds the loops of its band; without a
match it is counted (R198, R212, R213, R215). -/
def execCrossingWord (u : Upward) (i : Fin 8) (pol : Bool) (seq : BitVec 4) (t1 t2 : BitVec 16) (s : State) :
    Res :=
  s.upWord u.link (BitVec.ofNat 8 (i.val + 8 * b2n pol + 16 * seq.toNat) :: leBytes t1.toNat 2 ++ leBytes t2.toNat 2) u.crc (
    let sw := 8 * u.link.val + i.val
    match s.lnk[u.link].kept.find? fun x => x.sw == sw && x.on == pol && x.seq == seq.toNat with
    | none => s.bump (F.GL_CNT_xdrop u.link)
    | some x =>
      let s1 := if s.dvOn sw && t1 != 0xFFFF && t2 != 0xFFFF && decide (t1.toNat < t2.toNat) then
          s.dvUpdate u.link i pol x.band (t2.toNat - t1.toNat)
        else s
      match s1.legOf sw with
      | some p => if s1.dtOn p && !pol && t2 != 0xFFFF then s1.dtUpdate u.link p x.band t2.toNat else s1
      | none => s1)

/-- LINK_TO_DIS: with GATE_EN low and no other force present; or in CONFIGURE, once the force that held the link at the
transition from STANDBY has ended (R25, R202). -/
def execLinkToDis (n : Link) (s : State) : Res :=
  .next (
    let other := s.safForce || [0, 1, 2, 9, 10, 11].contains s.mode
    if s.lnkSt n = lPart ∧ ((!s.gateEn ∧ !other) ∨ (s.mode = mConfigure ∧ s.lnk[n].toDis ∧ !s.forceNow)) then
      ((s.put (F.GL_STAT_st n) lDis).setLnk n { s.lnk[n] with toDis := false }).emit (.symbol n 0xFE)
    else s)

end Sys2Proof.Machine
end

