-- ==== Sys2Proof/Machine/Compare.lean ====
section
/-! DEFINITION. Window comparators: decisions, trips, commutation events, current limit and overshoot (R157 to R165,
R175, R183, R184). -/

namespace Sys2Proof.Machine

/-- A threshold code in units of 10 nV: (th + 0.5) × 1.5625 mV (R158). -/
def thLevel (th : Nat) : Nat := 78125 * (2 * th + 1)

/-- The input, in 10 nV, is above the high threshold of `w`, below the low one (R158). -/
def State.cmpHigh (s : State) (c : Fin 24) (w : Word) (lvl : Nat) : Bool :=
  s.fb (F.CMP_CFG_hi_en c) && decide (thLevel (getBits w 16 10) < lvl)
def State.cmpLow (s : State) (c : Fin 24) (w : Word) (lvl : Nat) : Bool :=
  s.fb (F.CMP_CFG_lo_en c) && decide (lvl < thLevel (getBits w 0 10))

/-- The first comparator tick, every 10 REF cycles, that begins 8 ns or more after `t` (R157, R162, R164). -/
def tickAfter (t : Nat) : Nat := (t + 64 + 319) / 320 * 320

/-- Thresholds written at `t` apply together from that tick; older ones stay known as long as they may be in force
(R164). -/
def thrSet (l : List (Nat × Word)) (t : Nat) (w : Word) : List (Nat × Word) :=
  (tickAfter t, w) :: (l.takeWhile fun p => decide (t < p.1)) ++ (l.find? fun p => decide (p.1 ≤ t)).toList

/-- A write of CMP_THR (R164). -/
def State.thrWrite (s : State) (c : Fin 24) : State :=
  { s with cmpThr := s.cmpThr.set c (thrSet s.cmpThr[c] s.etime (s.reg (A.CMP_THR c))) }

/-- A commutation event of a stage sees the decision (R175). -/
def State.noteComm (s : State) (k : Stage) (c : Nat) : State :=
  let hit (j : Fin 2) : Bool := s.fb (F.STG_MEV_en k j) && s.f (F.STG_MEV_cmp k j) == c
  if s.tbRuns k then
    s.setStg k { s.stg[k] with comm := #v[s.stg[k].comm[0] || hit 0, s.stg[k].comm[1] || hit 1] }
  else s

/-- The main switches of a stage in regulator mode (R182). -/
def State.mains (s : State) (k : Stage) : List Nat :=
  [s.f (F.STG_REG_main0 k), s.f (F.STG_REG_main1 k)].filter fun sw => decide (sw < 96)

/-- A main switch is on at `t`, or has an on-edge assigned in the current period (R183). -/
def State.mainLive (s : State) (k : Stage) (t sw : Nat) : Bool :=
  s.stg[k].mainIv.any fun x => x.1 == sw && decide (x.2.1 < s.stg[k].next) &&
    (decide (t < x.2.2) || decide (s.stg[k].ts ≤ x.2.1))

/-- Truncate one main switch: an immediate off with the end of the period as its horizon. It covers the rest of the period, so a
later decision of that period truncates the switch no second time (R183; assumption 83, DESIGN CHOICE). -/
def State.truncate (s : State) (k : Stage) (sw : Nat) : State :=
  let g := s.stg[k]
  let g1 := { g with mainIv := g.mainIv.filter fun x => !(x.1 == sw && decide (x.2.1 < g.next)) }
  let g2 := if g.latched then g1
    else { g1 with withheld := g.withheld.filter fun w => w.sw != sw, onEnd := g.onEnd.filter fun x => x != sw }
  let s1 := (s.setStg k g2).bump (F.STG_REGSTAT_trunc k)
  { s1 with imms := s1.imms ++ [⟨k.val, sw / 8, sw, g.next⟩] }

/-- The main switches that a decision at `t` truncates (R183). -/
def State.toTruncate (s : State) (k : Stage) (t : Nat) : List Nat :=
  (s.mains k).eraseDups.filter fun sw => s.mainLive k t sw && s.linksEn k

/-- The decision lies in the blanking interval after a main switch's on-edge (R183). -/
def State.blanked (s : State) (k : Stage) (t : Nat) : Bool :=
  s.stg[k].mainOn.any fun o => decide (o ≤ t) && decide (t < o + 160 * s.f (F.STG_REGCMP_blank k))

/-- A decision that the current limit of a stage watches (R183): the period counts as limited also where its switch has
an immediate off waiting for another cause. -/
def State.limitDecision (s : State) (k : Stage) (t : Nat) : State :=
  let l := s.toTruncate k t
  let due := s.imms.any fun x => x.stage == k.val
  if s.blanked k t || (l.isEmpty && !due) then s
  else
    let s1 := l.foldl (fun s sw => s.truncate k sw) s
    (s1.stgEvt k 7).limitNote k

/-- A decision that the overshoot protection of a stage watches. Where current limit and overshoot meet in one tick there is
one immediate command, and STG_EVT.ovs is set only where the overshoot's decision is the one that sends it (R184, R187;
assumption 84, DESIGN CHOICE). -/
def State.overshoot (s : State) (k : Stage) (t : Nat) : State :=
  let l := s.toTruncate k t
  if l.isEmpty then s else (l.foldl (fun s sw => s.truncate k sw) s).stgEvt k 8

/-- The comparator that the current limit watches: the lowered limit during soft start (R183). -/
def State.limCmp (s : State) (k : Stage) : Nat :=
  if s.fb (F.STG_REG_ss k) then s.f (F.STG_REGCMP_ss_cmp k) else s.f (F.STG_REGCMP_lim_cmp k)

/-- What an armed out-of-window decision does to one stage that watches the comparator, to the end of the period in which an
all-off plan has been latched (R175, R182 to R184, R186). -/
def State.watched (s : State) (k : Stage) (c t : Nat) : State :=
  let s1 := s.noteComm k c
  if s1.fb (F.STG_REG_en k) && (s1.stgSt k == stSwitching || s1.stg[k].latched) && s1.tbRuns k then
    let s2 := if s1.fb (F.STG_REG_lim_en k) && s1.limCmp k == c then s1.limitDecision k t else s1
    if s2.fb (F.STG_REG_ovs_en k) && s2.f (F.STG_REGCMP_ovs_cmp k) == c then s2.overshoot k t else s2
  else s1

/-- An armed out-of-window decision (R160): counted, CMP_EVT; the trip of an owned comparator parts the links whatever
the class. -/
def State.cmpTrip (s : State) (c : Fin 24) (t side : Nat) : State :=
  let s1 := ((s.put (F.CMP_STAT_side c) side).bump (F.CMP_STAT_cnt c)).src ⟨A.CMP_EVT, c.val, 1⟩ (36 + c.val)
  if s1.f (F.CMP_CFG_stg c) < 12 then
    let s2 := s1.set1 (F.CMP_STAT_trip c)
    if s2.anySwitchingAt then s2.report (0x2100 + c.val) .B (BitVec.ofNat 32 side)
    else (s2.report (0x2100 + c.val) .C (BitVec.ofNat 32 side)).partAll false
  else stages.foldl (fun (s : State) (k : Stage) => s.watched k c.val t) s1

/-- A tick that begins at `t` decides for comparator c: it lies on the grid, at or after the first powered tick, and after
the latest one that decided (R157, R162). -/
def State.ticks (s : State) (c : Fin 24) (t : Nat) : Bool :=
  s.cmpPow[c] && t % 320 == 0 && decide (s.cmpFrom[c] ≤ t) && (s.cmpDec[c].head?).all fun p => decide (p.1 < t)

/-- COMPARATOR_DECISION: the tick that begins at `t` decides on the ball's level in 10 nV; armed 2 µs after the first powered
tick (R157 to R164). With lo above hi an input can be beyond both thresholds: side then shows 1, above high (R165;
assumption 61, DESIGN CHOICE). -/
def execComparatorDecision (c : Fin 24) (t lvl : Nat) (s0 : State) : Res :=
  .next (
    if s0.ticks c t then
      let s := s0.toInstant t
      let w := s.thrAt c t
      let hi := s.cmpHigh c w lvl
      let out := hi || s.cmpLow c w lvl
      let s1 := (s.putB (F.CMP_STAT_out c) out).putB ⟨A.CMP_LIVE, c.val, 1⟩ out
      let s2 := { s1 with cmpDec := s1.cmpDec.set c ((t, out) :: s1.cmpDec[c].take 7) }
      if s.cmpFrom[c] + 16000 ≤ t then
        let s3 := s2.put (F.CMP_STAT_armed c) 1
        if out then s3.cmpTrip c t (b2n hi) else s3
      else s2
    else s0)

/-- COMPARATOR_ARMED: 2 µs after the start of the first powered tick (R163). -/
def execComparatorArmed (c : Fin 24) (s : State) : Res :=
  .next (if s.cmpPow[c] then (s.toInstant (s.cmpFrom[c] + 16000)).put (F.CMP_STAT_armed c) 1 else s)

/-- A write of CMP_CFG.en: powered from the first tick 8 ns or more later, or disarmed at once (R162 to R164). -/
def State.cmpPower (s : State) (c : Fin 24) (on : Bool) : State :=
  if on && s.cmpPow[c] then s
  else { s.put (F.CMP_STAT_armed c) 0 with
    cmpPow := s.cmpPow.set c on, cmpDec := s.cmpDec.set c [], cmpFrom := s.cmpFrom.set c (tickAfter s.etime) }

end Sys2Proof.Machine
end

