-- ==== Sys2Proof/Machine/Persist.lean ====
section
/-! DEFINITION. The persistent store and the program store at work (R371, R372, R380, R406 to R417): a word completes, a
save completes, an erase or a programmed word completes. -/

namespace Sys2Proof.Machine

/-- The last word of a journal copy is written: UHL_PCNT, EV103, and the command answers (R380, R385). -/
def State.copyDone (s : State) (cmd : Option Nat) : State :=
  let s1 := (s.setReg A.UHL_PCNT (s.reg A.UHL_PCNT + 1)).src F.CMD_EVT_pjournal 103
  match cmd.bind s1.cmd? with
  | some c => s1.respond c []
  | none => s1

/-- The command of a refused bank word ends with ENDURANCE, naming the word (R371, R410). -/
def State.refusePersist (s : State) (q : WReq) : State :=
  match q.cmd.bind s.cmd? with
  | some c =>
    let left := (s.wq.filter fun r => r.kind == 0 && r.cmd == q.cmd).length
    { s with wq := s.wq.filter fun r => !(r.kind == 0 && r.cmd == q.cmd) }.finish c.id rEndurance 0xFF rEndurance
      (c.words - left) []
  | none => { s with wq := s.wq.drop 1 }

/-- What follows a word that has left the unit. -/
def State.wordAfter (s : State) (q : WReq) : State :=
  match q.kind with
  | 1 => if s.wq.any fun r => r.kind == 1 && r.cmd == q.cmd then s else s.copyDone q.cmd
  | 2 => if q.addr % 0x100 = 252 then s.saveDone ((q.addr - 0xB1000) / 0x100) else s
  | _ => s

/-- The word in progress completes; the unit takes the next one (R408 to R410). A word at its limit is refused. -/
def State.wordDone (s : State) (hot : Bool) : State :=
  match s.wq with
  | [] => s
  | q :: t =>
    let s1 :=
      if s.atLimit q.addr then
        let s1 := s.refuseWord q.addr
        match q.kind with
        | 0 => s1.refusePersist q
        | 2 => s1.slotRefused ((q.addr - 0xB1000) / 0x100)
        | _ => { s1 with wq := t }.wordAfter q
      else
        let s1 := (s.setReg q.addr q.val).countWrite q.addr hot
        { s1 with wq := t }.wordAfter q
    s1.storeNext.deferredReset

/-- PERSIST_WORD_DONE, with whether the store is above 105 °C (R408, R410). -/
def execPersistWordDone (hot : Bool) (s : State) : Res := .next (s.wordDone hot)

/-- ENERGY_SAVE_DONE: word 63 of a save is written (R297). -/
def execEnergySaveDone (hot : Bool) (s : State) : Res :=
  .next (match s.wq with
    | q :: _ => if q.kind = 2 ∧ q.addr % 0x100 = 252 then s.wordDone hot else s
    | [] => s)

/-- The erase counter of a bank counts (R413, R417). -/
def State.countErase (s : State) (b : Bool) : State :=
  let n := satInc 14 (s.f (if b then F.PRS_PSB_erases else F.PRS_PSA_erases))
  s.put (if b then F.PRS_PSB_erases else F.PRS_PSA_erases) n

/-- Every byte of the bank at `b` reads as erased (R413). -/
def State.eraseBank (s : State) (b : Nat) : State :=
  { s with mem := s.mem.filter fun p => !(decide (b ≤ p.1) && decide (p.1 < b + 0x40000)) }

/-- ERASE_DONE: the inactive bank reads all ones (R413). -/
def execEraseDone (s : State) : Res :=
  .next (match s.erasing with
    | none => s
    | some cmd =>
      let s1 := { s.eraseBank s.inactiveBase with erasing := none }
      let s2 := (s1.countErase (!s.activeB)).judgeBanks
      match cmd with
      | some id => s2.finishR id rOk
      | none => s2)

/-- The gen word of a checked image is programmed: its bank becomes active; a download boot ends (R349, R372, R415). -/
def State.activate (s : State) : State :=
  let s1 := { s.put F.SYS_BOOT_fallback 0 with activeB := !s.activeB }.judgeBanks
  if s1.downloads then (s1.put F.SYS_BOOT_dl 1).bootEnd true else s1

/-- PROGRAMMING_DONE: a program-store word is written; the last one of a command completes it (R372, R413, R415). -/
def execProgrammingDone (s : State) : Res :=
  .next (match s.pq with
    | [] => s
    | q :: t =>
      let s1 := { s.setMw q.addr q.val with pq := t }
      if t.any fun r => r.cmd == q.cmd then s1
      else match q.cmd.bind s1.cmd? with
        | none => s1
        | some c =>
          let s2 := if byteAt c.pl 0 = 2 then s1.activate else s1.judgeBanks
          s2.finish c.id rOk 0xFF rOk 0 [])

end Sys2Proof.Machine
end

