-- ==== Sys2Proof/Machine/ModeReq.lean ====
section
/-! DEFINITION. SET_MODE, judged and carried out (R345 to R348, R355), and SYS_MODEREQ (R359). -/

namespace Sys2Proof.Machine

/-- A link on the transition from STANDBY to CONFIGURE (R202): DIS without PARTING; a sequence ends without en_fail; a
link in PART goes to DIS unless a force is present, which it then leaves when that force ends. -/
def State.linkToConfigure (s : State) (n : Link) : State :=
  if s.lnkSt n = lPart ∧ s.forceNow then s.setLnk n { s.lnk[n] with toDis := true }
  else
    let s0 := s.storeCfg n
    ((s0.put (F.GL_STAT_st n) lDis).setLnk n { s0.lnk[n] with
      seqAt := none, idOk := false, echoOk := false, cfg := [], toDis := false }).emit (.symbol n 0xFE)

/-- CONFIGURE from STANDBY (R202, R345). -/
def State.enterConfigure (s : State) : State :=
  (links.foldl (fun (s : State) (n : Link) => s.linkToConfigure n) (s.changeMode mConfigure)).settle

/-- The contactor is CLOSED, or not supervised (R280, R345). -/
def State.kReady (s : State) : Bool := !s.fb F.ISL_KCFG_en || s.f F.ISL_KSTAT_st == 2

/-- What SET_MODE does: its result, the state, and whether it stays in flight (R345 to R348, R355). -/
def State.setMode (s : State) (m : Nat) : Nat × State × Bool :=
  let no : Nat × State × Bool := (rMode, s, false)
  if !([0, 3, 4, 5, 6, 7].contains m) then (rBadArg, s, false)
  else if m = s.mode then (rOk, s, false)
  else match s.mode, m with
    | 3, 0 => (rOk, { s with softReset := true }, false)
    | 4, 0 => (rOk, { s with softReset := true }, false)
    | 10, 0 => (rOk, { s with softReset := true }, false)
    | 3, 4 => (rOk, s.enterStandby.startSeqs, false)
    | 4, 3 => (rOk, s.enterConfigure, false)
    | 4, 5 => if s.safForce || !s.fb F.SYS_STEST_pass || s.halted then no else (rOk, (s.changeMode mPrecharge).pchEnter, false)
    | 5, 6 => if s.fb F.SYS_PCH_STAT_done then (rOk, s.changeMode mSync, false) else no
    | 5, 7 => if s.fb F.SYS_PCH_STAT_done && s.kReady && !s.halted then (rOk, s.changeMode mRun, false) else no
    | 5, 4 => (rOk, s.enterStandby, false)
    | 6, 7 => if s.kReady && !s.halted then (rOk, s.changeMode mRun, false) else no
    | 6, 4 | 7, 4 | 8, 4 =>
      let s1 := (stages.filter s.switching).foldl (fun (s : State) (k : Stage) => s.stopStage k) s
      (rOk, s1, true)
    | _, _ => no

/-- A write to SYS_MODEREQ: progress in pend, outcome in result (R359). -/
def State.modeRequest (s : State) (m : Nat) : State :=
  let (r, s1, fly) := s.setMode m
  if fly then
    if s1.anySwitching then s1.put F.SYS_MODEREQ_pend 1 else (s1.put F.SYS_MODEREQ_pend 1).orderlyDone
  else s1.put F.SYS_MODEREQ_result r

end Sys2Proof.Machine
end

