-- ==== Sys2Proof/Machine/ReadReg.lean ====
section
/-! DEFINITION. Reading the address space (R6, R7, R423, R433, R439 to R441): what each status register shows, and what a
read does beside returning a word. -/

namespace Sys2Proof.Machine

/-! ### The address map -/

/-- The address is mapped (R439, R440). -/
def mapped (a : Nat) : Bool :=
  decide (a < 0x5C000) || (decide (0x60000 ≤ a) && decide (a < 0x69000)) || (decide (0x70000 ≤ a) && decide (a < 0xE0000)) ||
    (decide (0x100000 ≤ a) && decide (a < 0x160000)) || (decide (0x180000 ≤ a) && decide (a < 0x1A0000)) ||
    (decide (0x200000 ≤ a) && decide (a < 0x260000) && decide (a % 0x10000 < 0x8000)) ||
    (decide (0x280000 ≤ a) && decide (a < 0x290000)) || (decide (0x300000 ≤ a) && decide (a < 0x318000)) ||
    (decide (0x340000 ≤ a) && decide (a < 0x360000)) || (decide (0x400000 ≤ a) && decide (a < 0x480000))

/-- The event rings of metering lie in the MTR block and are memory (R296). -/
def ringAddr (a : Nat) : Bool := decide (0x81000 ≤ a) && decide (a < 0x82000)

/-! ### What registers show -/

/-- A companion register shows its latched word once the read of its companion has latched one (R56, R143, R441). -/
def State.latched (s : State) (a : Nat) : Word := ((s.hiLatch.find? fun p => p.1 == a).map (·.2)).getD (s.reg a)

/-- SYS registers. -/
def State.showSys (s : State) (a : Nat) : Word :=
  if a = A.SYS_VER then (s.reg a &&& 0xFFFF0000) ||| Config.siVersion.zeroExtend 32
  else if a = A.SYS_MODE then putBits (s.reg a) 8 1 (b2n s.halted)
  else if a = A.SYS_RTC_SUB then s.latched a
  else s.reg a

/-- FLT registers (R338, R342). -/
def State.showFlt (s : State) (a : Nat) : Word :=
  if a = A.FLT_STAT then putBits (s.reg a) 2 1 (b2n s.quietRuns)
  else if a = A.FLT_RECOV_CNT then putBits (s.reg a) 16 12 ((s.recovMs + 999) / 1000)
  else if a = A.FLT_BLOCK then BitVec.ofNat 32 s.fltBlock
  else if a = A.FLT_FIRST_TS_HI then s.latched a
  else s.reg a

/-- CLK registers (R56). -/
def State.showClk (s : State) (a : Nat) : Word :=
  if a = A.CLK_ETIME_LO then loWord s.etime
  else if a = A.CLK_ETIME_HI ∨ a = A.CLK_SYNCI_TS_HI then s.latched a
  else s.reg a

/-- ADC and CMP registers (R143, R155). -/
def State.showAdc (s : State) (a : Nat) : Word :=
  if a = A.ADC_STAT then
    putBits (s.reg a) 0 4 ((List.finRange 4).foldl (fun (n : Nat) (i : Fin 4) => n + b2n (s.converting i) * 2 ^ i.val) 0)
  else if 0x31000 ≤ a ∧ a < 0x32000 then
    let unbound := (s.boundTo ((a - 0x31000) / 0x40)).isNone
    if a % 0x40 = 0x18 then (if unbound then 0 else s.reg a)
    else if a % 0x40 = 0x1C then (if unbound then putBits (s.latched a) 0 20 0 else s.latched a)
    else if a % 0x40 = 0x20 then s.latched a
    else s.reg a
  else s.reg a

/-- STG registers: commands of the stage being sent, trained entries, latched words (R189, R232). -/
def State.showStg (s : State) (a : Nat) : Word :=
  let k := (a - 0x40000) / 0x1000
  if 0x4C000 ≤ a then s.reg a
  else if a % 0x1000 = 4 then putBits (s.reg a) 4 1 (b2n (s.slots.any fun x => x.stage == k && !x.sent))
  else if a % 0x1000 = 0xB4 then BitVec.ofNat 32 (s.tblTrained k 0 + 2 ^ 16 * s.tblTrained k 1)
  else if a % 0x1000 = 0xB8 then BitVec.ofNat 32 (s.tblTrained k 2 + 2 ^ 16 * s.tblTrained k 3)
  else if a % 0x1000 = 0x1C then s.latched a
  else s.reg a

/-- GL registers (R202, R216). -/
def State.showGl (s : State) (a : Nat) : Word :=
  match links.find? fun (n : Link) => A.GL_STAT n == a with
  | some n => putBits (putBits (s.reg a) 7 1 (b2n s.forceNow)) 8 1 (b2n (s.trips n))
  | none => s.reg a

/-- LTH registers (R81 to R83). -/
def State.showLth (s : State) (a : Nat) : Word :=
  match (List.finRange 12).find? fun (k : Fin 12) => A.LTH_SF (kn k) (kc k) == a || A.LTH_SF_RC (kn k) (kc k) == a with
  | some k => s.ctx[ctxOf k].sf.zeroExtend 32
  | none =>
    match (List.finRange 6).find? fun (n : Fin 6) => A.LTH_STAT n == a with
    | some n =>
      let c := s.ctx[(⟨2 * n.val, by omega⟩ : CtxId)]
      let d := s.ctx[(⟨2 * n.val + 1, by omega⟩ : CtxId)]
      BitVec.ofNat 32 (c.st.code + 16 * d.st.code + 256 * b2n c.latch + 512 * b2n d.latch)
    | none =>
      if a = A.LTH_HS_SF ∨ a = A.LTH_HS_SF_RC then s.ctx[hs].sf.zeroExtend 32
      else if a = A.LTH_HS_STAT then putBits (putBits (s.reg a) 0 3 s.ctx[hs].st.code) 16 15 s.ctx[hs].pc
      else s.reg a

/-- Seconds that the reconnect timer has still to count (R278, R283). -/
def State.rcLeft (s : State) (g : Fin 4) : Nat := (1000 * s.f (F.ISL_RECON_t_rc g) - s.isl[g].recon + 999) / 1000

/-- GRD and ISL registers (R247, R283). -/
def State.showGrd (s : State) (a : Nat) : Word :=
  match (List.finRange 4).find? fun (g : Fin 4) => A.GRD_STAT g == a || A.ISL_RECON g == a with
  | some g => if a = A.GRD_STAT g then putBits (s.reg a) 8 6 (s.gridFlg g)
    else putBits (s.reg a) 16 16 (s.rcLeft g)
  | none => s.reg a

/-- MTR registers: quantities as latched, the live entry failure (R289, R304). -/
def State.showMtr (s : State) (a : Nat) : Word :=
  if ringAddr a then s.mw a
  else match (List.finRange 4).find? fun (m : Fin 4) => A.MTR_STAT m == a || decide (A.MTR_CTL m ≤ a ∧ a < A.MTR_CTL m + 0x200) with
    | some m =>
      if a = A.MTR_STAT m then putBits (s.reg a) 5 1 (b2n (s.mtrEntFail m))
      else ((s.mtr[m].q.find? fun p => p.1 == a).map (·.2)).getD (s.reg a)
    | none => s.reg a

/-- SAF registers: channel A's states (R326, R327). -/
def State.showSaf (s : State) (a : Nat) : Word :=
  let rel (v : Vector Nat 8) : Nat := (List.finRange 8).foldl (fun (n : Nat) (i : Fin 8) => n + b2n (v[i] == 2) * 2 ^ i.val) 0
  if a = A.SAF_STAT then
    putBits (putBits (putBits (s.reg a) 0 8 (rel (s.pairA.map (·.st)))) 8 8 (rel s.lsA)) 18 1
      (b2n (s.forceOf 0 || s.forceOf 1))
  else match (List.finRange 8).find? fun (p : Fin 8) => A.SAF_PSTAT p == a with
    | some p =>
      let x := s.pairA[p]
      putBits (s.reg a) 0 4 (x.st + 4 * b2n x.fa + 8 * b2n x.fb)
    | none => s.reg a

/-- Commands of a port in flight: on a host port until the response has been removed (R367, R387). -/
def State.inflight (s : State) (p : Nat) : Nat :=
  (s.cmds.filter fun c => c.port == p).length +
    (if h : p < 2 then (s.host[p].filter fun x => x.accepted).length else 0)

/-- Commands in flight on every port (R367, R385). -/
def State.inflightAll (s : State) : Nat := (List.range 5).foldl (fun n p => n + s.inflight p) 0

/-- A group that is staged or applying (R373, R385). -/
def Cmd.groupOn (c : Cmd) : Bool :=
  (c.op == opWriteGroup || c.op == opSetGroup) &&
    (c.ph == .armed || c.ph == .applying || c.ph == .failed || c.ph == .rolling)

/-- CMD and UHL registers (R385). -/
def State.showCmd (s : State) (a : Nat) : Word :=
  if a = A.CMD_STAT then
    BitVec.ofNat 32 (s.inflightAll + 256 * (s.cmds.filter Cmd.groupOn).length)
  else match (List.range 5).find? fun p => A.CMD_PORTSTAT p == a with
    | some p => putBits (s.reg a) 16 7 (s.inflight p)
    | none => s.reg a

/-- PRS registers; the key reads 0 (R417, R421). -/
def State.showPrs (s : State) (a : Nat) : Word :=
  if a = 0xB0040 then 0
  else if a = A.PRS_STAT then
    putBits (putBits (s.reg a) 0 1 (b2n (!s.wq.isEmpty))) 4 4 (min 15 (requestsOf none s.wq - 1))
  else s.reg a

/-- The level that the K9612 drives on ball GPIOi, where the ball is an output: the precharge unit's drive at its active
level on the ball the unit owns, PRT_GPIO.out on an ordinary ball (R262, R270, R405). -/
def State.gpioDrive (s : State) (i : Nat) : Option Bool :=
  if s.fb F.SYS_PCH_CFG_en && s.f F.SYS_PCH_CFG_gpio == i then some (s.fb F.SYS_PCH_STAT_drive != s.fb F.SYS_PCH_CFG_pol)
  else if natBit (s.f F.PRT_GPIO_dir) i then some (natBit (s.f F.PRT_GPIO_out) i)
  else none

/-- PRT_GPIO.in: the level of each ball; an input ball has the level the equipment gives it, a free value (R405;
assumption 71, DESIGN CHOICE). -/
def State.gpioIn (s : State) : Nat :=
  (List.range 4).foldl (fun n i => n + b2n ((s.gpioDrive i).getD (natBit s.fresh.1.toNat i)) * 2 ^ i) 0

/-- PRT registers (R405): rx_act shows a frame of the last second. -/
def State.showPrt (s : State) (a : Nat) : Word :=
  let act (i : Fin 2) : Bool := match s.netLast[i] with
    | some c => decide (s.cyc < c + 250000000)
    | none => false
  if a = A.PRT_NSTAT 0 then putBits (s.reg a) 0 1 (b2n (act 0))
  else if a = A.PRT_NSTAT 1 then putBits (s.reg a) 0 1 (b2n (act 1))
  else if a = A.PRT_GPIO then putBits (s.reg a) 16 4 s.gpioIn
  else if a = A.PRT_HSTAT then putBits (s.reg a) 0 16 (min 255 s.host[0].length + 256 * min 255 s.host[1].length) else s.reg a

/-- The context that DBG_SEL selects (R431). -/
def State.selected (s : State) : Option CtxId :=
  let e := s.f F.DBG_SEL_eng
  if h : e < 6 then some ⟨2 * e + s.f F.DBG_SEL_ctx % 2, by omega⟩ else if e = 6 then some hs else none

/-- The context window (R433). -/
def dbgWindow (a : Nat) : Bool := decide (0xD0400 ≤ a) && decide (a ≤ 0xD04A4)

/-- A word of the context window of a halted context; DBG_PC has 15 bits, a reserved bit reads 0 (R7, R433). -/
def Ctx.window (c : Ctx) (o : Nat) : Word :=
  if o < 0x80 then c.rd (BitVec.ofNat 5 (o / 4))
  else if o < 0xA0 then
    let w := c.rdAcc (BitVec.ofNat 2 ((o - 0x80) / 8))
    if o % 8 = 0 then w.setWidth 32 else (w >>> 32).setWidth 32
  else if o = 0xA0 then BitVec.ofNat 32 (c.pc % 32768)
  else c.sf.zeroExtend 32

/-- Engines in HALT, one bit each. -/
def State.haltedMask (s : State) : Nat :=
  (List.finRange 7).foldl (fun (n : Nat) (m : Fin 7) => n + b2n ((ctxsOf m).any fun e => s.ctx[e].st == .halt) * 2 ^ m.val) 0

/-- DBG registers (R431 to R433). -/
def State.showDbg (s : State) (a : Nat) : Word :=
  if a = A.DBG_STAT then putBits (s.reg a) 16 7 s.haltedMask
  else if dbgWindow a then
    match s.selected with
    | some e => s.ctx[e].window (a - 0xD0400)
    | none => 0
  else s.reg a

/-- The word that a read of a mapped, aligned address returns, without its side effects. -/
def State.show (s : State) (a : Nat) : Word :=
  if 0x100000 ≤ a then s.mw a
  else match a / 0x10000 with
    | 0 => s.showSys a
    | 1 => s.showFlt a
    | 2 => s.showClk a
    | 3 => s.showAdc a
    | 4 => s.showStg a
    | 5 => s.showGl a
    | 6 => s.showLth a
    | 7 => s.showGrd a
    | 8 => s.showMtr a
    | 9 => s.showSaf a
    | 10 => s.showCmd a
    | 11 => s.showPrs a
    | 12 => s.showPrt a
    | 13 => s.showDbg a
    | _ => 0

/-! ### What a read does -/

/-- Latch a word of a companion register. -/
def State.latch (s : State) (a : Nat) (w : Word) : State := { s with hiLatch := smIns s.hiLatch a w }

/-- Side effects of a read: companion latches (R56, R143, R441), read-to-clear flags (R82), the metering latches (R289,
R293). -/
def State.touch (s : State) (a : Nat) : State :=
  if a = A.PRT_GPIO then s.fresh.2
  else if 0x90000 ≤ a then s
  else if a = A.CLK_ETIME_LO then s.latch A.CLK_ETIME_HI (hiWord s.etime)
  else if a = A.CLK_SYNCI_TS_LO then s.latch A.CLK_SYNCI_TS_HI (s.reg A.CLK_SYNCI_TS_HI)
  else if a = A.FLT_FIRST_TS_LO then s.latch A.FLT_FIRST_TS_HI (s.reg A.FLT_FIRST_TS_HI)
  else if a = A.SYS_RTC_SEC then s.latch A.SYS_RTC_SUB (s.reg A.SYS_RTC_SUB)
  else if 0x31000 ≤ a ∧ a < 0x32000 ∧ a % 0x40 = 0x18 then s.avgLatch ((a - 0x31000) / 0x40)
  else if 0x40000 ≤ a ∧ a < 0x4C000 ∧ a % 0x1000 = 0x18 then s.latch (a + 4) (s.reg (a + 4))
  else if a = A.LTH_HS_SF_RC then s.setCtx hs { s.ctx[hs] with sf := 0 }
  else match stages.find? fun (k : Stage) => A.LTH_SF_RC (kn k) (kc k) == a with
    | some k => s.setCtx (ctxOf k) { s.ctx[ctxOf k] with sf := 0 }
    | none =>
      match (List.finRange 4).find? fun (m : Fin 4) => A.MTR_VRMS m 0 == a || A.MTR_LSEQ m == a with
      | some m => if a = A.MTR_VRMS m 0 then s.latchQuantities m else s.fillReadBuffer m
      | none => s

/-- The context window refuses while its context is not in HALT (R433). -/
def State.windowCode (s : State) (a : Nat) : Nat :=
  if dbgWindow a then
    match s.selected with
    | some e => if s.ctx[e].st = .halt then rOk else rRunning
    | none => rBadArg
  else rOk

/-- The stage that owns a word of the compensation tables (R116). -/
def tableStage (a : Nat) : Option Stage :=
  if h : 0x300000 ≤ a ∧ a < 0x318000 then some ⟨(a - 0x300000) / 8192, by omega⟩ else none

/-- The Lathe whose memory or tables hold a word, if any. -/
def latheOf (a : Nat) : Option (Fin 6) :=
  if h : 0x100000 ≤ a ∧ a < 0x160000 then some ⟨(a - 0x100000) / 0x10000, by omega⟩
  else if h : 0x200000 ≤ a ∧ a < 0x260000 then some ⟨(a - 0x200000) / 0x10000, by omega⟩
  else (tableStage a).map fun k => ⟨k.val / 2, by omega⟩

/-- A replay of an external read: EV121, counted with the Lathe whose memory or table was read; a word of no Lathe is
counted in LTH_HS_PAR (R72; assumption 56, DEDUCED: each replay increments a count, R72 names no unit for those words). -/
def State.extReplay (s : State) (a : Nat) : State :=
  (match latheOf a with
    | some n => s.bump (F.LTH_PAR_replays n)
    | none => s.bump F.LTH_HS_PAR_replays).raise 121

/-- The word at this address lies in the persistent store: by its own address, as a word of a persistent window, or as the
serial number (R214, R258, R406, R441). -/
def storeWordAt (a : Nat) : Bool :=
  (decide (0xB0000 ≤ a) && decide (a < 0xBE000)) || a == 0x8 || a == 0xC || ((regRow? a).any fun r => r.rp != 0)

/-- An external read that is replayed; one that fails its replay is class A type 0x05, instance 10; a word of the
persistent store is corrected, or reads 0; the program store keeps no parity (R72, R332, R408). -/
def State.parityOf (s : State) (a : Nat) : Par → Nat × State
  | .clean => (rOk, s)
  | .replayPass =>
    if storeWordAt a then (rOk, (s.bump F.PRS_STAT_corr).prsEvt 2)
    else if 0x400000 ≤ a then (rOk, s)
    else (rOk, s.extReplay a)
  | .replayFail =>
    if storeWordAt a then (rBadFrame, s)
    else if 0x400000 ≤ a then (rOk, s)
    else (rBadFrame, (s.extReplay a).report 0x050A .A (BitVec.ofNat 32 a))

/-- One external read: result code, word and state (R365, R423, R440). -/
def State.readWord (s : State) (a : Nat) (p : Par) : Nat × Word × State :=
  if a % 4 ≠ 0 ∨ !mapped a then (rBadArg, 0, s)
  else
    let c := s.windowCode a
    if c ≠ rOk then (c, 0, s)
    else
      let (r, s1) := s.parityOf a p
      if r ≠ rOk then (r, 0, s1) else (rOk, s1.show a, s1.touch a)

/-- A direct read: the word goes back to its reader; nothing is accessible in RESET (R24). -/
def State.readOut (s : State) (a : Nat) : State :=
  if s.mode = mReset then s
  else
    let (r, w, s1) := s.readWord a .clean
    s1.emit (.access r w)

/-- ETIME_READ: a timestamp's LO register, 0 CLK_ETIME_LO, 1 CLK_SYNCI_TS_LO, 2 FLT_FIRST_TS_LO, 3 + k STG_PSTART_LO[k]
(R56, R189, R342). -/
def execEtimeRead (r : Fin 15) (s : State) : Res :=
  .next (s.readOut (match r.val with
    | 0 => A.CLK_ETIME_LO
    | 1 => A.CLK_SYNCI_TS_LO
    | 2 => A.FLT_FIRST_TS_LO
    | n + 3 => A.STG_PSTART_LO n))

/-- SF_READ_CLEAR: a read of LTH_SF_RC of a context, or of the Headstock (R82). -/
def execSfReadClear (e : CtxId) (s : State) : Res :=
  .next (s.readOut (if e.val < 12 then A.LTH_SF_RC (e.val / 2) (e.val % 2) else A.LTH_HS_SF_RC))

/-- ADC_AVG_READ (R143). -/
def execAdcAvgRead (e : Fin 64) (s : State) : Res := .next (s.readOut (A.ADC_AVG e))

/-- MTR_VRMS0_READ (R289). -/
def execMtrVrms0Read (m : Fin 4) (s : State) : Res := .next (s.readOut (A.MTR_VRMS m 0))

/-- MTR_LSEQ_READ (R293). -/
def execMtrLseqRead (m : Fin 4) (s : State) : Res := .next (s.readOut (A.MTR_LSEQ m))

/-- RTC_READ: a read of SYS_RTC_SEC latches SYS_RTC_SUB (R441). -/
def execRtcRead (s : State) : Res := .next (s.readOut A.SYS_RTC_SEC)

end Sys2Proof.Machine
end

