-- ==== Sys2Proof/Machine/WriteMap.lean ====
section
/-! DEFINITION. What a write meets before any word is stored (R6, R68 to R71, R365, R368, R370, R423): classes of
addresses, authority, blocks that run, and the values that registers accept. -/

namespace Sys2Proof.Machine

/-- Writer numbers: partner ports 0 to 4 (R360), and the Devar port. -/
def pDevar : Nat := 5

/-- The access masks of the register at `a`; all 0 where no register lies (R6, R440). -/
def rowAt (a : Nat) : RegRow := (regRow? a).getD ⟨0, [], 0, 0, 0, 0, 0, 0, 0⟩

/-! ### Classes of addresses -/

/-- The Lathe, and the word within its data memory, of a byte address. -/
def dataWord (a : Nat) : Option (Fin 6 × Nat) :=
  if h : 0x200000 ≤ a ∧ a < 0x260000 then some (⟨(a - 0x200000) / 0x10000, by omega⟩, a % 0x10000 / 4) else none

/-- The stage whose data window holds the word at `a`, with the offset in the window (R69). -/
def State.windowOf (s : State) (a : Nat) : Option (Stage × Nat) :=
  match dataWord a with
  | none => none
  | some (n, w) =>
    let inW (c : Nat) : Bool :=
      decide (s.f (F.LTH_DWIN_base n c) ≤ w) && decide (w < s.f (F.LTH_DWIN_base n c) + s.f (F.LTH_DWIN_size n c))
    if inW 0 then some (⟨2 * n.val, by omega⟩, w - s.f (F.LTH_DWIN_base n 0))
    else if inW 1 then some (⟨2 * n.val + 1, by omega⟩, w - s.f (F.LTH_DWIN_base n 1))
    else none

/-- The register block, data window or memory that a word belongs to: a write may not leave it (R370, R439). -/
def State.spanOf (s : State) (a : Nat) : Nat :=
  if a < 0xE0000 then
    if a / 0x10000 = 3 ∨ a / 0x10000 = 7 then 2 * (a / 0x10000) + a % 0x10000 / 0x8000 else 2 * (a / 0x10000)
  else match dataWord a with
    | some (n, _) => match s.windowOf a with
      | some (k, _) => 200 + k.val
      | none => 100 + n.val
    | none => 1000 + a / 0x80000

/-- No write of any kind reaches these (R68, R370, R378, R423): instruction memories, the program store, the Uhlog RAM, the
words of the persistent store, and those of a persistent window. A write of a write counter, which is RO, or of an offset
where nothing lies is ignored (R6, R406, R410, R440). -/
def notWritable (a : Nat) : Bool :=
  a % 4 != 0 || !mapped a || (decide (0x100000 ≤ a) && decide (a < 0x1A0000)) || decide (0x340000 ≤ a) ||
    (decide (0xB0000 ≤ a) && decide (a < 0xB6000)) || (rowAt a).rp != 0

/-- The class of a word for a writer: BAD_ARG, REFUSED_AUTHORITY for DBG registers from a partner port, else OK (R423,
R440). -/
def writeClass (port a : Nat) : Nat :=
  if notWritable a then rBadArg
  else if decide (0xD0000 ≤ a) && decide (a < 0xE0000) && port != pDevar && ((regRow? a).isSome || dbgWindow a) then
    rAuthority else rOk

/-! ### Authority (R368) -/

/-- The holder of stage k; 15 for none. -/
def State.holder (s : State) (k : Nat) : Nat :=
  if k < 8 then getBits (s.reg A.CMD_AUTH0) (4 * k) 4 else getBits (s.reg A.CMD_AUTH1) (4 * (k - 8)) 4

/-- Store the holder of stage k. -/
def State.setHolder (s : State) (k p : Nat) : State :=
  s.put (if k < 8 then ⟨A.CMD_AUTH0, 4 * k, 4⟩ else ⟨A.CMD_AUTH1, 4 * (k - 8), 4⟩) p

/-- The stage that a word is scoped to by its register's address, if any. -/
def State.scopeAt (s : State) (a : Nat) : Option Stage :=
  if h : 0x40000 ≤ a ∧ a < 0x4C000 then some ⟨(a - 0x40000) / 0x1000, by omega⟩
  else if 0x4C000 ≤ a ∧ a < 0x4C180 then s.owner ((a - 0x4C000) / 4)
  else if 0x50000 ≤ a ∧ a < 0x5C000 ∧ 0x100 ≤ a % 0x1000 ∧ a % 0x1000 < 0x200 then
    s.owner (8 * ((a - 0x50000) / 0x1000) + (a % 0x1000 - 0x100) / 0x20)
  else if h : 0x30100 ≤ a ∧ a < 0x30130 then some ⟨(a - 0x30100) / 4, by omega⟩
  else if h : 0x60000 ≤ a ∧ a < 0x66000 ∧ 0x100 ≤ a % 0x1000 ∧ a % 0x1000 < 0x300 then
    some ⟨2 * ((a - 0x60000) / 0x1000) + (a % 0x1000 - 0x100) / 0x100, by omega⟩
  else match s.windowOf a with
    | some (k, _) => some k
    | none => tableStage a

/-- The stage that a word is scoped to, if any; a bank word is the register that its window shows (R214, R368). -/
def State.scopeOf (s : State) (a : Nat) : Option Stage := s.scopeAt (home a)

/-- The writer may write the word. -/
def State.mayWrite (s : State) (port a : Nat) : Bool :=
  port == pDevar || match s.scopeOf a with
    | some k => s.holder k == port
    | none => true

/-! ### Blocks that run (R6, R370) -/

/-- A context that is not in IDLE or FAULT. -/
def State.ctxOn (s : State) (e : CtxId) : Bool := !(s.ctx[e].st == .idle || s.ctx[e].st == .fault)

/-- A stage that owns a switch of the link is switching. -/
def State.linkRuns (s : State) (n : Nat) : Bool :=
  stages.any fun k => s.switching k && (List.range 8).any fun i => s.owns k (8 * n + i)

/-- The timebase of stage number k is not stopped. -/
def State.tbOn (s : State) (k : Nat) : Bool := decide (k < 12) && s.f (F.STG_STAT_st k) != stOff

/-- The block of an RS field runs, so that a different value `v` is refused: the condition that each register's chapter
names. -/
def State.blockRuns (s : State) (a : Nat) (v : Word) : Bool :=
  let o := a % 0x1000
  match a / 0x10000 with
  | 0 => s.mode == mPrecharge || s.pchOverlap
  | 3 =>
    if 0x38100 ≤ a then s.fb ⟨a, 0, 1⟩
    else if 0x31000 ≤ a then s.tbOn (getBits (s.reg a) 0 4) || s.tbOn (getBits v 0 4)
    else s.tbOn ((a - 0x30100) / 4)
  | 4 =>
    if a < 0x4C000 then (match stages[(a - 0x40000) / 0x1000]? with
      | some k => s.switching k
      | none => false)
    else (match s.owner ((a - 0x4C000) / 4) with
      | some k => s.switching k
      | none => false)
  | 5 => s.linkRuns ((a - 0x50000) / 0x1000)
  | 6 =>
    if 0x68000 ≤ a then s.ctxOn hs
    else (match stages[2 * ((a - 0x60000) / 0x1000) + (o - 0x100) / 0x100]? with
      | some k => s.ctxOn (ctxOf k)
      | none => false)
  | 7 =>
    if a < 0x78000 then s.fb (F.GRD_CTL_en ((a - 0x70000) / 0x100))
    else if a < 0x78400 then s.fb (F.ISL_CTL_en ((a - 0x78000) / 0x100))
    else s.f F.ISL_KSTAT_st != 0
  | 8 => s.fb (F.MTR_CTL_en ((a - 0x80000) / 0x200))
  | 9 => s.mode != mConfigure
  | 12 => s.fb F.PRT_PCFG_en
  | _ => false

/-- An RS field would change while its block runs. STG_CTL.tb is judged with the write of its register (R189). -/
def State.rsRefused (s : State) (w : AW) : Bool :=
  let m := BitVec.ofNat 32 (rowAt w.addr).rs
  ((w.val ^^^ s.reg w.addr) &&& m) != 0 && !(stages.any fun k => A.STG_CTL k == w.addr) && s.blockRuns w.addr w.val

/-! ### Values that registers accept -/

/-- `lo ≤ x ≤ hi`. -/
def within (x lo hi : Nat) : Bool := decide (lo ≤ x) && decide (x ≤ hi)

/-- The averaging window fits half the period (R139). -/
def State.windowFits (t : State) (k : Nat) : Bool :=
  decide (2 * (t.f (F.ADC_WEND_dw k) * refTaps) ≤ t.f (F.STG_PER_per k))

/-- No switch in two maps (R171). -/
def State.mapsApart (t : State) : Bool :=
  stages.all fun j => stages.all fun k =>
    j.val == k.val || [0, 1, 2].all fun i => (t.reg (A.STG_MAP j i) &&& t.reg (A.STG_MAP k i)) == 0

/-- The regions and the loop state word of a context lie in its window, apart from one another; the windows of the Lathe
end at or below 8192 and do not overlap (R69, R71, R220). A size of 0 is refused (R82: 1 to 8192; assumption 51,
DEDUCED). -/
def State.windowsOk (t : State) (n c : Nat) : Bool :=
  let size := t.f (F.LTH_DWIN_size n c)
  let rg (j : Nat) : Nat × Nat := (t.f (F.LTH_CREG_base n c j), t.f (F.LTH_CREG_len n c j))
  let b0 := t.f (F.LTH_DWIN_base n 0)
  let b1 := t.f (F.LTH_DWIN_base n 1)
  let s0 := t.f (F.LTH_DWIN_size n 0)
  let s1 := t.f (F.LTH_DWIN_size n 1)
  decide (0 < size) && decide (t.f (F.LTH_DWIN_base n c) + size ≤ 8192) &&
    (decide (b0 + s0 ≤ b1) || decide (b1 + s1 ≤ b0)) &&
    ([0, 1, 2, 3].all fun j =>
      (rg j).2 == 0 || (decide ((rg j).2 ≤ 64) && decide ((rg j).1 + (rg j).2 ≤ size) &&
        [0, 1, 2, 3].all fun i =>
          i == j || (rg i).2 == 0 || decide ((rg i).1 + (rg i).2 ≤ (rg j).1) || decide ((rg j).1 + (rg j).2 ≤ (rg i).1))) &&
    (!t.fb (F.LTH_LSTW_en n c) ||
      (decide (t.f (F.LTH_LSTW_ofs n c) < size) && [0, 1, 2, 3].all fun j =>
        !(decide ((rg j).1 ≤ t.f (F.LTH_LSTW_ofs n c)) && decide (t.f (F.LTH_LSTW_ofs n c) < (rg j).1 + (rg j).2))))

/-- A cross-check names the comparator of its own external input (R148). -/
def State.xchkOk (t : State) (e : Nat) : Bool :=
  !t.fb (F.ADC_ECFG_xchk_en e) ||
    (extEntry e && t.f (F.CMP_CFG_src (t.f (F.ADC_XCHK_cmp e))) == 12 * (e / 16) + e % 16)

/-- SYS, FLT (R267 to R270, R342). -/
def State.okSys (t : State) (a : Nat) : Bool :=
  if a = A.SYS_PCH_CFG then !(t.fb F.SYS_PCH_CFG_en && t.f F.SYS_PCH_CFG_dc_ent == 63)
  else if a = A.SYS_PCH_TIME then t.f F.SYS_PCH_TIME_t_max != 0
  else true

def State.okFlt (t : State) (a : Nat) : Bool :=
  if a = A.FLT_HOLD_T then within (t.f F.FLT_HOLD_T_t_us) 10 10000
  else if a = A.FLT_QUIET_T then within (t.f F.FLT_QUIET_T_t_ms) 1 600000
  else true

/-- ADC, CMP (R139, R148, R155, R156, R165). -/
def State.okAdc (t : State) (a : Nat) : Bool :=
  if a = A.ADC_ILIM then within (t.f F.ADC_ILIM_tj_max) 60 150
  else if 0x30100 ≤ a ∧ a < 0x30130 then t.windowFits ((a - 0x30100) / 4)
  else if 0x31000 ≤ a ∧ a < 0x32000 then
    let e := (a - 0x31000) / 0x40
    !within (t.f (F.ADC_ECFG_stg e)) 12 14 && decide (t.f (F.ADC_XCHK_cmp e) < 24) && t.xchkOk e
  else if 0x38100 ≤ a ∧ a < 0x38280 then
    let c := (a - 0x38100) / 0x10
    decide (t.f (F.CMP_CFG_src c) < 48) && !within (t.f (F.CMP_CFG_stg c)) 12 14 &&
      (List.range 64).all fun e => t.f (F.ADC_XCHK_cmp e) != c || t.xchkOk e
  else true

/-- STG (R139, R166, R171, R172, R189, R190, R205, R225). -/
def State.okStg (t : State) (a : Nat) : Bool :=
  if 0x4C000 ≤ a then
    let sw := (a - 0x4C000) / 4
    let p := t.f (F.STG_SWCFG_partner sw)
    decide (96 ≤ sw) || (p != sw && !within p 96 126 && decide (t.f (F.GL_CFG_ilk (sw / 8)) ≤ t.f (F.STG_SWCFG_dt sw)))
  else
    let k := (a - 0x40000) / 0x1000
    match a % 0x1000 with
    | 0x08 => within (t.f (F.STG_PER_per k)) 16000 64000000 && t.windowFits k
    | 0x14 => decide (t.f (F.STG_TMIN_tmin k) ≤ 4800)
    | 0x20 | 0x24 | 0x28 => t.mapsApart
    | 0x50 | 0x54 => [0, 1].all fun j => decide (t.f (F.STG_MEV_cmp k j) < 24)
    | 0x88 => t.f (F.STG_HIC_m k) != 0
    | 0xA0 | 0xA4 =>
      decide (t.f (F.STG_BAND0_e1 k) ≤ t.f (F.STG_BAND0_e2 k)) && decide (t.f (F.STG_BAND0_e2 k) ≤ t.f (F.STG_BAND1_e3 k))
    | _ => true

/-- GL (R216). -/
def State.okGl (t : State) (a : Nat) : Bool :=
  let n := (a - 0x50000) / 0x1000
  if a % 0x1000 = 0x38 ∨ a % 0x1000 = 0x3C then within (t.f (F.GL_DESAT_blank n ((a % 0x1000 - 0x38) / 4))) 5 80 else true

/-- LTH (R69, R71, R220). -/
def State.okLth (t : State) (a : Nat) : Bool :=
  let o := a % 0x1000
  if 0x66000 ≤ a ∨ o < 0x100 ∨ 0x300 ≤ o then true
  else if o % 0x100 = 0x04 ∨ (0x20 ≤ o % 0x100 ∧ o % 0x100 < 0x30) ∨ o % 0x100 = 0x44 then
    t.windowsOk ((a - 0x60000) / 0x1000) ((o - 0x100) / 0x100)
  else true

/-- GRD, ISL (R240, R242, R257, R276, R283); `s` is the state before the write. A write of GRD_SYNC2 that keeps cmp_en set
and changes another field is judged as one that enables it (R240; assumption 90, DESIGN CHOICE). -/
def State.okGrd (s t : State) (a : Nat) : Bool :=
  if a < 0x71000 then
    match (List.finRange 4)[(a - 0x70000) / 0x100]? with
    | none => true
    | some g =>
      match a % 0x100 with
      | 0x00 => !t.fb (F.GRD_CTL_en g) || s.fb (F.GRD_CTL_en g) || t.gridOk g
      | 0x10 => t.f (F.GRD_CFG_meas_lv g) != 3 && t.f (F.GRD_CFG_meas_hv g) != 3 && within (t.f (F.GRD_CFG_rocof_win g)) 2 50
      | 0x1C => !t.fb (F.GRD_SYNC2_cmp_en g) || (s.fb (F.GRD_SYNC2_cmp_en g) && t.reg a == s.reg a) ||
        (decide (t.f (F.GRD_SYNC2_cmp_g g) < 4) && t.f (F.GRD_SYNC2_cmp_g g) != g.val &&
          t.fb (F.GRD_CTL_en (t.f (F.GRD_SYNC2_cmp_g g))))
      | _ => true
  else if a < 0x78000 ∨ 0x78400 ≤ a then true
  else
    let g := (a - 0x78000) / 0x100
    match a % 0x100 with
    | 0x00 => !t.fb (F.ISL_CTL_en g) || s.fb (F.ISL_CTL_en g) || t.islOk g
    | 0x08 => t.f (F.ISL_INJ_h g) != 3 && within (t.f (F.ISL_INJ_amp g)) 5 20
    | 0x0C => within (t.f (F.ISL_CORR_nwin g)) 1 8 && within (t.f (F.ISL_CORR_q_z g)) 1 8
    | 0x10 => t.f (F.ISL_COH_mode g) != 3 && within (t.f (F.ISL_COH_t_listen g)) 2 10 && t.fb (F.ISL_COH_t_rel g) &&
      decide ((BitVec.ofNat 8 (t.f (F.ISL_COH_z_ang g))).toInt.natAbs ≤ 90)
    | 0x14 => within (t.f (F.ISL_ROCOF_t g)) 1 50
    | 0x1C => within (t.f (F.ISL_VF_t g)) 1 500
    | 0x30 => t.fb (F.ISL_RECON_t_rc g)
    | _ => true

/-- MTR (R285, R304, R305). -/
def State.okMtr (s t : State) (a : Nat) : Bool :=
  if a = A.MTR_SAVE then within (t.f F.MTR_SAVE_period) 1 600
  else if 0x80800 ≤ a then true
  else match (List.finRange 4)[(a - 0x80000) / 0x200]? with
    | none => true
    | some m =>
      match a % 0x200 with
      | 0x00 => !t.fb (F.MTR_CTL_en m) || s.fb (F.MTR_CTL_en m) || t.meterOk m
      | 0x0C => t.f (F.MTR_CFG_ref m) != 3
      | 0x18 => within (t.f (F.MTR_CREEP_start m)) 1 1000
      | 0x20 => decide (t.f (F.MTR_PQ1_int_th m) < t.f (F.MTR_PQ1_sag_th m)) &&
        decide (t.f (F.MTR_PQ1_sag_th m) < t.f (F.MTR_PQ1_swell_th m))
      | _ => true

/-- SAF (R309, R314, R326, R327). -/
def State.okSaf (t : State) (a : Nat) : Bool :=
  if a = A.SAF_TP then within (t.f F.SAF_TP_period) 10 1000
  else if a = A.SAF_TGCTL then t.f F.SAF_TGCTL_skew != 0
  else if a = A.SAF_TGWD then within (t.f F.SAF_TGWD_wdog) 2 1000
  else if 0x90100 ≤ a ∧ a < 0x90180 ∧ a % 0x10 = 0 then
    let p := (a - 0x90100) / 0x10
    t.f (F.SAF_PCFG_prof p) != 3 && within (t.f (F.SAF_PCFG_filt p)) (if t.f (F.SAF_PCFG_prof p) = 2 then 2 else 1) 20 &&
      within (t.f (F.SAF_PCFG_disc p)) 10 2000 &&
      (!t.fb (F.SAF_PCFG_link_en p) || (t.f (F.SAF_PCFG_link p) != p && t.fb (F.SAF_PCFG_en (t.f (F.SAF_PCFG_link p)))))
  else true

/-- Quotas sum to at most 64 (R367); ring size 2 to 8 (R405); an engine and a program counter that exist (R431, R433). -/
def State.okRest (s t : State) (a : Nat) (v : Word) : Bool :=
  if a = A.CMD_QUOTA0 ∨ a = A.CMD_QUOTA1 then
    decide (t.f F.CMD_QUOTA0_q0 + t.f F.CMD_QUOTA0_q1 + t.f F.CMD_QUOTA0_q2 + t.f F.CMD_QUOTA0_q3 + t.f F.CMD_QUOTA1_q4 ≤ 64)
  else if a = A.PRT_PCFG then within (t.f F.PRT_PCFG_n) 2 8
  else if a = A.DBG_CTL then getBits v 0 3 != 7
  else if a = A.DBG_PC then (match s.selected with
    | some e => decide (getBits v 0 15 < pcLimit e)
    | none => true)
  else true

/-- The value rules of a word; `t` is the state with every word of the write stored. -/
def State.argOk (s t : State) (a : Nat) (v : Word) : Bool :=
  match a / 0x10000 with
  | 0 => t.okSys a
  | 1 => t.okFlt a
  | 3 => t.okAdc a
  | 4 => t.okStg a
  | 5 => t.okGl a
  | 6 => t.okLth a
  | 7 => s.okGrd t a
  | 8 => s.okMtr t a
  | 9 => t.okSaf a
  | 10 | 12 | 13 => s.okRest t a v
  | _ => true

/-- The state with every word's RW and RS bits stored, on top of the words that wait for a boundary. -/
def State.asWritten (s : State) (ws : List AW) : State :=
  ws.foldl (fun s w => if w.addr < 0xE0000 then
      s.mergeReg w.addr w.val (BitVec.ofNat 32 (rowAt w.addr).rw ||| BitVec.ofNat 32 (rowAt w.addr).rs) else s)
    (s.staged.foldl (fun s w => if w.addr < 0xE0000 then s.mergeReg w.addr w.val w.mask else s) s)

end Sys2Proof.Machine
end

