-- ==== Sys2Proof/Machine/WriteReg.lean ====
section
/-! DEFINITION. Storing the words of a write by access code, with the acts that registers have (R6, R166, R370), and the
rows that a write of one register is. A write is carried out on a copy of the state and stands only where every word is
accepted. -/

namespace Sys2Proof.Machine

/-! ### By access code -/

/-- The stage whose period boundary an RW word waits for: STG words but CTL and EVT, STG_SWCFG and GL_DRV of an owned
switch, LTH_LOOP, while the timebase runs (R6, R166, R370). -/
def State.boundaryOf (s : State) (a : Nat) : Option Stage :=
  let k? : Option Stage :=
    if 0x40000 ≤ a ∧ a < 0x4C000 then
      if a % 0x1000 = 0 ∨ a % 0x1000 = 0x90 then none else stages[(a - 0x40000) / 0x1000]?
    else if 0x4C000 ≤ a ∧ a < 0x4C180 then s.owner ((a - 0x4C000) / 4)
    else if 0x50000 ≤ a ∧ a < 0x5C000 ∧ 0x100 ≤ a % 0x1000 ∧ a % 0x1000 < 0x200 ∧ a % 0x20 = 4 then
      s.owner (8 * ((a - 0x50000) / 0x1000) + (a % 0x1000 - 0x100) / 0x20)
    else loopStage a
  k?.filter s.tbRuns

/-- The stage whose period boundary a word waits for: of a command STG_EVT too, for its W1C bits act where the words of its
WRITE take effect (R370; assumption 37, DEDUCED). -/
def State.boundaryFor (s : State) (cmd : Option Nat) (a : Nat) : Option Stage :=
  match cmd, stages.find? fun (k : Stage) => A.STG_EVT k == a with
  | some _, some k => if s.tbRuns k then some k else none
  | _, _ => s.boundaryOf a

/-- Store a word by access code: W1C bits clear where 1 is written, RS bits and RW bits are stored, the latter at the
stage's next boundary where one lies ahead, and there too the W1C and WO bits of a command's word (R6, R166, R370). RO bits
and reserved bits stay (R7). -/
def State.plain (s : State) (cmd : Option Nat) (a : Nat) (v : Word) : State :=
  let r := rowAt a
  let w1c (s : State) : State := if r.w1c = 0 then s else s.setReg a (s.reg a &&& ~~~(v &&& BitVec.ofNat 32 r.w1c))
  let rs (s : State) : State := if r.rs = 0 then s else s.applyWord a v (BitVec.ofNat 32 r.rs)
  let rw := BitVec.ofNat 32 r.rw
  match s.boundaryFor cmd a with
  | some k =>
    let s1 := if cmd.isSome then rs s else rs (w1c s)
    let bits := if cmd.isSome then rw ||| BitVec.ofNat 32 r.w1c ||| BitVec.ofNat 32 r.wo else rw
    if bits = 0 then s1
    else { s1 with staged := s1.staged ++ [⟨k.val, a, v &&& bits, rw, s1.inWindow k, false, cmd⟩] }
  | none =>
    let s1 := rs (w1c s)
    if r.rw = 0 then s1 else (s1.applyWord a v rw).takeOpen a

/-- A memory word under R70, R71 and R229. -/
def State.writeMem (s : State) (a : Nat) (v : Word) : Nat × State :=
  match s.windowOf a, tableStage a with
  | some (k, o), _ => if s.cregClosed (ctxOf k) o then (rRunning, s) else (rOk, s.setMw a v)
  | _, some k => if s.switching k && s.fb (F.STG_TBLCTL_learn k) then (rRunning, s) else (rOk, s.setMw a v)
  | _, _ => (rOk, s.setMw a v)

/-! ### SYS, FLT -/

/-- A write of SYS_RTC_SEC waits for the RTC's handshake (R441); a write of SYS_MODEREQ is a request (R359). -/
def State.writeSys (s : State) (cmd : Option Nat) (a : Nat) (v : Word) : Nat × State :=
  if a = A.SYS_MODEREQ then (rOk, s.modeRequest (getBits v 0 4))
  else if a = A.SYS_RTC_SEC then (rOk, { s with rtcPend := some v })
  else (rOk, s.plain cmd a v)

/-- FLT_CTL: cclr and auto_en (R338, R342). -/
def State.writeFlt (s : State) (cmd : Option Nat) (a : Nat) (v : Word) : Nat × State :=
  if a = A.FLT_CTL then (rOk, (if natBit v.toNat 4 then s.fltCclr else s).autoEn (natBit v.toNat 0))
  else (rOk, s.plain cmd a v)

/-! ### ADC, CMP -/

/-- ADC_ECFG: pd has no meaning on an internal entry; another stage discards the open window; a check that is switched
off ends with its condition and its count (R137, R139, R149, R156). -/
def State.ecfgWrite (s : State) (cmd : Option Nat) (e : Fin 64) (v : Word) : State :=
  let s1 := s.plain cmd (A.ADC_ECFG e) (if extEntry e then v else v &&& ~~~0x10)
  let s2 := if s1.f (F.ADC_ECFG_stg e) = s.f (F.ADC_ECFG_stg e) then s1 else s1.setEnt e s1.ent[e].clearOpen
  let off (w : Nat) : Bool := s.fb ⟨A.ADC_ECFG e, 5 + w, 1⟩ && !s2.fb ⟨A.ADC_ECFG e, 5 + w, 1⟩
  let x := s2.ent[e]
  let s3 := s2.setEnt e { x with
    frz := if off 0 then 0 else x.frz, rng := if off 1 then 0 else x.rng, rngOwn := x.rngOwn && !off 1
    xchk := if off 2 then 0 else x.xchk }
  let s4 := [0, 2].foldl (fun s w => if off w then s.plausClear e w else s) s3
  if off 1 || ((s4.boundTo e).isNone && !s4.ent[e].rngOwn) then s4.plausClear e 1 else s4

/-- The DAC loopback of SELFTEST has passed since the latest reset (R162, R351): SELFTEST passed, or ended later than its
14 ms in one of the checks that do not precede it. While SELFTEST runs, after its calibration, the free number `n` says
whether the loopback is over by now; once it is, it stays so (assumption 41, DESIGN CHOICE). -/
def State.loopbackPassed (s : State) (n : Nat) : Bool :=
  s.fb F.SYS_STEST_pass || (s.fb F.SYS_STEST_done &&
    ([3, 4, 5].contains (s.f F.SYS_STEST_fail) || (s.f F.SYS_STEST_fail == 0 && decide (14 ≤ s.f F.SYS_STEST_t_ms)))) ||
    (s.mode == mSelftest && s.calDone && !s.calRun && (s.loopOk || n % 2 == 1))

/-- CMP_CFG: a write that sets en is refused until the loopback has passed (R162). -/
def State.cmpCfgWrite (s0 : State) (cmd : Option Nat) (c : Fin 24) (v : Word) : Nat × State :=
  let (n, s) := s0.freshN
  let on := natBit v.toNat 0
  if on && !s.fb (F.CMP_CFG_en c) && !s.loopbackPassed n then (rMode, s)
  else (rOk, ({ s with loopOk := s.loopOk || (on && !s.fb (F.CMP_CFG_en c)) }.plain cmd (A.CMP_CFG c) v).cmpPower c on)

/-- CMP_STAT: clearing trip clears cnt (R165). -/
def State.cmpStatWrite (s : State) (cmd : Option Nat) (c : Fin 24) (v : Word) : State :=
  let s1 := s.plain cmd (A.CMP_STAT c) v
  if natBit v.toNat 2 then s1.put (F.CMP_STAT_cnt c) 0 else s1

/-- ADC_CTL: calibration and restart (R135, R152). -/
def State.adcCtlWrite (s : State) (v : Word) : Nat × State :=
  let (r, s1) := if natBit v.toNat 8 then s.adcCal else (rOk, s)
  if r ≠ rOk then (r, s) else (rOk, s1.adcRestart (getBits v 0 4))

/-- ADC_PLST: W1C flags and mm_clr (R144, R149). -/
def State.plstWrite (s : State) (cmd : Option Nat) (e : Fin 64) (v : Word) : State :=
  let s1 := s.plain cmd (A.ADC_PLST e) v
  if natBit v.toNat 8 then s1.mmClear e else s1

/-- ADC and CMP registers. -/
def State.writeAdc (s : State) (cmd : Option Nat) (a : Nat) (v : Word) : Nat × State :=
  if a = A.ADC_CTL then s.adcCtlWrite v
  else match (List.finRange 4).find? fun (i : Fin 4) => A.ADC_SCAN i == a with
    | some i => s.scanWrite i (getBits v 0 16)
    | none =>
      match (List.finRange 64).find? fun (e : Fin 64) => A.ADC_ECFG e == a || A.ADC_PLST e == a with
      | some e => (rOk, if A.ADC_ECFG e = a then s.ecfgWrite cmd e v else s.plstWrite cmd e v)
      | none =>
        match (List.finRange 24).find? fun (c : Fin 24) => A.CMP_CFG c == a || A.CMP_STAT c == a || A.CMP_THR c == a with
        | some c =>
          if A.CMP_CFG c = a then s.cmpCfgWrite cmd c v
          else if A.CMP_THR c = a then (rOk, (s.plain cmd a v).thrWrite c)
          else (rOk, s.cmpStatWrite cmd c v)
        | none => (rOk, s.plain cmd a v)

/-! ### STG -/

/-- A write of STG_CTL.run: one of 1 is checked as START_STAGE is, mode included, whatever run is now (R62, R168, R343, R345,
R357); one of 0 stops the stage (R182). -/
def State.runWrite (s : State) (k : Stage) (on : Bool) : Nat × State :=
  if !on && !s.fb (F.STG_CTL_run k) then (rOk, s)
  else if on then
    if !isSwitchMode s.mode || s.halted then (rMode, s)
    else
      let r := s.startCheck k
      if r ≠ rOk then (r, s) else (rOk, s.startStage k)
  else (rOk, s.stopStage k)

/-- STG_CTL: clr, tb, run (R189). A write that sets run starts the timebase too, so tb is then not judged by itself. -/
def State.stgCtlWrite (s : State) (k : Stage) (v : Word) : Nat × State :=
  let s1 := if natBit v.toNat 4 then s.stgClr k else s
  let run := natBit v.toNat 1
  let (r, s2) := if run && !s1.fb (F.STG_CTL_run k) then (rOk, s1) else s1.tbWrite k (natBit v.toNat 0)
  if r ≠ rOk then (r, s)
  else
    let (q, s3) := s2.runWrite k run
    if q ≠ rOk then (q, s) else (rOk, s3)

/-- STG_TBLCTL: clr_band is refused while the stage switches (R229); sclr (R232). In a command's word both act where the word
takes effect (R370). -/
def State.tblCtlWrite (s : State) (cmd : Option Nat) (k : Stage) (v : Word) : Nat × State :=
  let m := getBits v 8 4
  if m ≠ 0 ∧ s.switching k then (rRunning, s)
  else if cmd.isSome && s.tbRuns k then (rOk, s.plain cmd (A.STG_TBLCTL k) v)
  else
    let s1 := if m = 0 then s else s.tblClear k m
    let s2 := if natBit v.toNat 12 then s1.setReg (A.STG_TBLSTAT k) 0 else s1
    (rOk, s2.plain cmd (A.STG_TBLCTL k) v)

/-- STG registers. -/
def State.writeStg (s : State) (cmd : Option Nat) (a : Nat) (v : Word) : Nat × State :=
  match stages.find? fun (k : Stage) => A.STG_CTL k == a || A.STG_TBLCTL k == a with
  | some k => if A.STG_CTL k = a then s.stgCtlWrite k v else s.tblCtlWrite cmd k v
  | none => (rOk, s.plain cmd a v)

/-! ### GL -/

/-- GL_ALOOP. -/
def State.aloopWrite (s : State) (cmd : Option Nat) (n : Link) (v : Word) : State :=
  let s1 := s.plain cmd (A.GL_ALOOP n) v
  (List.range 8).foldl (fun (t : State) (i : Nat) =>
    let dv := natBit (s1.f (F.GL_ALOOP_dv_en n)) i && !natBit (s.f (F.GL_ALOOP_dv_en n)) i
    let dt := natBit (s1.f (F.GL_ALOOP_dt_en n)) i && !natBit (s.f (F.GL_ALOOP_dt_en n)) i
    if dv || dt then t.loopInit n i dv dt else t) s1

/-- GL_CTL: en, and a request of the ENABLE sequence in CONFIGURE and STANDBY (R203). -/
def State.glCtlWrite (s : State) (cmd : Option Nat) (n : Link) (v : Word) : Nat × State :=
  let s1 := s.plain cmd (A.GL_CTL n) v
  if natBit v.toNat 1 then
    if s.mode = mConfigure ∨ s.mode = mStandby then
      (rOk, if s1.lnkSt n = lSeq then s1 else s1.startSeq n)
    else (rMode, s)
  else (rOk, s1)

/-- GL registers: GL_SWD and GL_CFG.softoff reach the pod (R196, R217). -/
def State.writeGl (s : State) (cmd : Option Nat) (a : Nat) (v : Word) : Nat × State :=
  match podAddr a with
  | some (n, i) =>
    let r := rowAt a
    let s1 := if r.rs = 0 then s else s.mergeReg a v (BitVec.ofNat 32 r.rs)
    if ((s1.podAhead n a ^^^ v) &&& BitVec.ofNat 32 r.rw) = 0 then (rOk, s1)
    else (rOk, s1.podWrite n i a v (BitVec.ofNat 32 r.rw) cmd false)
  | none =>
    match links.find? fun (n : Link) => A.GL_CTL n == a || A.GL_ALOOP n == a with
    | some n => if A.GL_CTL n = a then s.glCtlWrite cmd n v else (rOk, s.aloopWrite cmd n v)
    | none => (rOk, s.plain cmd a v)

/-! ### LTH -/

/-- One channel of an LTH_CTL write: start, stop, clear its statistics; nothing after a refusal. A word that sets start and
stop of one context starts it and then asks it to stop (R62 gives no order; assumption 88, DESIGN CHOICE). -/
def State.lthCtlChan (c : Nat) (k : Stage) (v : Word) (x : Nat × State) : Nat × State :=
  if x.1 ≠ rOk then x
  else
    let s1 := if natBit v.toNat c then x.2.startCtx (ctxOf k) else x.2
    let (r, s2) := if natBit v.toNat (4 + c) then s1.stopCtx (ctxOf k) else (rOk, s1)
    if r ≠ rOk then (r, x.2) else (rOk, if natBit v.toNat (8 + c) then s2.clearStats k else s2)

/-- LTH_CTL: starts, stops, clears of both contexts (R62, R81). -/
def State.lthCtlWrite (s : State) (n : Fin 6) (v : Word) : Nat × State :=
  let r := State.lthCtlChan 1 ⟨2 * n.val + 1, by omega⟩ v (State.lthCtlChan 0 ⟨2 * n.val, by omega⟩ v (rOk, s))
  if r.1 ≠ rOk then (r.1, s) else r

/-- LTH_HS_CTL; start and stop in one word as in LTH_CTL (R83; assumption 88, DESIGN CHOICE). -/
def State.hsCtlWrite (s : State) (v : Word) : Nat × State :=
  let s1 := if natBit v.toNat 0 then s.startCtx hs else s
  let (r, s2) := if natBit v.toNat 1 then s1.stopCtx hs else (rOk, s1)
  if r ≠ rOk then (r, s) else (rOk, if natBit v.toNat 2 then s2.setReg A.LTH_HS_RUNMAX 0 else s2)

/-- LTH_LOOP: opening loop 0 is refused while the stage is switching (R219); the value it is compared with counts words
that wait. -/
def State.lthLoopWrite (s : State) (cmd : Option Nat) (k : Stage) (v : Word) : Nat × State :=
  let a := A.LTH_LOOP (kn k) (kc k)
  let cur := (s.staged.filter fun w => w.addr == a).foldl (fun _ w => natBit w.val.toNat 4) (natBit (s.reg a).toNat 4)
  if s.switching k && natBit v.toNat 4 && !cur then (rRunning, s) else (rOk, s.plain cmd a v)

/-- LTH registers. -/
def State.writeLth (s : State) (cmd : Option Nat) (a : Nat) (v : Word) : Nat × State :=
  if a = A.LTH_HS_CTL then s.hsCtlWrite v
  else match (List.finRange 2).find? fun (i : Fin 2) => A.LTH_HS_TMR i == a with
    | some i => (rOk, s.hsTimerSet i v)
    | none =>
      match (List.finRange 6).find? fun (n : Fin 6) => A.LTH_CTL n == a with
      | some n => s.lthCtlWrite n v
      | none => match loopStage a with
        | some k => s.lthLoopWrite cmd k v
        | none => (rOk, s.plain cmd a v)

/-! ### GRD, ISL -/

/-- GRD_CTL.tclr (R247): only outside SYNCHRONISE, RUN and RIDE-THROUGH. -/
def State.gridTclr (s : State) (g : Fin 4) : Nat × State :=
  if isSwitchMode s.mode then (rMode, s)
  else (rOk, ((s.put (rtBit g 3) 0).put (rtBit g 6) 0).setReg (A.GRD_TRIP g) 0)

/-- GRD_CTL: en, rt_en, trip_en, tclr (R242, R247, R256). -/
def State.gridCtlWrite (s : State) (cmd : Option Nat) (g : Fin 4) (v : Word) : Nat × State :=
  let on := natBit v.toNat 0
  let was := s.fb (F.GRD_CTL_en g)
  if was && !on && isSwitchMode s.mode && s.fb (F.GRD_CTL_rt_en g) then (rMode, s)
  else
    let (r, s1) := if natBit v.toNat 3 then s.gridTclr g else (rOk, s)
    if r ≠ rOk then (r, s)
    else
      let s2 := s1.plain cmd (A.GRD_CTL g) v
      (rOk, if on == was then s2 else s2.gridSwitch g on)

/-- ISL_CTL.tclr (R283). -/
def State.islTclr (s : State) (g : Fin 4) : Nat × State :=
  if isSwitchMode s.mode then (rMode, s) else (rOk, (s.put (F.ISL_STAT_island g) 0).setReg (A.ISL_TRIP g) 0)

/-- ISL_CTL: en, inj_en, trip_en, tclr, rc_start (R278, R283). -/
def State.islCtlWrite (s : State) (cmd : Option Nat) (g : Fin 4) (v : Word) : Nat × State :=
  let on := natBit v.toNat 0
  let was := s.fb (F.ISL_CTL_en g)
  let (r, s1) := if natBit v.toNat 3 then s.islTclr g else (rOk, s)
  if r ≠ rOk then (r, s)
  else
    let s2 := s1.plain cmd (A.ISL_CTL g) v
    let s3 := if on == was then s2 else s2.islSwitch g on
    (rOk, if natBit v.toNat 4 then s3.rcRestart g else s3)

/-- ISL_KCTL.open: refused while any stage is switching (R280). -/
def State.kOpenWrite (s : State) : Nat × State := if s.anySwitching then (rRunning, s) else (rOk, s.kOpen)

/-- ISL_KCTL: close and open (R280). -/
def State.kctlWrite (s : State) (v : Word) : Nat × State :=
  let (r, s1) := if natBit v.toNat 0 then s.kClose else (rOk, s)
  if r ≠ rOk then (r, s)
  else
    let (q, s2) := if natBit v.toNat 1 then s1.kOpenWrite else (rOk, s1)
    if q ≠ rOk then (q, s) else (rOk, s2)

/-- GRD and ISL registers. -/
def State.writeGrd (s : State) (cmd : Option Nat) (a : Nat) (v : Word) : Nat × State :=
  if a = A.ISL_KCTL then s.kctlWrite v
  else if a = A.ISL_KCFG then (rOk, s.kcfgPol (s.plain cmd a v))
  else match (List.finRange 4).find? fun (g : Fin 4) => A.GRD_CTL g == a || A.ISL_CTL g == a with
    | some g => if A.GRD_CTL g = a then s.gridCtlWrite cmd g v else s.islCtlWrite cmd g v
    | none => (rOk, s.plain cmd a v)

/-! ### MTR, SAF -/

/-- MTR_CTL: discard and en (R285, R299). -/
def State.mtrCtlWrite (s : State) (cmd : Option Nat) (m : Fin 4) (v : Word) : Nat × State :=
  let on := natBit v.toNat 0
  let was := s.fb (F.MTR_CTL_en m)
  let (r, s1) := if natBit v.toNat 1 then s.meterDiscard m else (rOk, s)
  if r ≠ rOk then (r, s)
  else
    let s2 := s1.plain cmd (A.MTR_CTL m) v
    (rOk, if on == was then s2 else s2.meterSwitch m on)

/-- MTR registers; the event rings are read-only (R296, R297). -/
def State.writeMtr (s : State) (cmd : Option Nat) (a : Nat) (v : Word) : Nat × State :=
  if a = A.MTR_SAVE then
    let s1 := s.plain cmd a v
    if natBit v.toNat 16 then
      let (r, s2) := s1.saveNow
      if r ≠ rOk then (r, s) else (rOk, s2)
    else (rOk, s1)
  else match (List.finRange 4).find? fun (m : Fin 4) => A.MTR_CTL m == a with
    | some m => s.mtrCtlWrite cmd m v
    | none => (rOk, s.plain cmd a v)

/-- SAF registers (R313, R316, R321, R326, R327). -/
def State.writeSaf (s : State) (cmd : Option Nat) (a : Nat) (v : Word) : Nat × State :=
  let s1 := s.plain cmd a v
  if a = A.SAF_CTL then (rOk, if natBit v.toNat 4 then s1.safClr else s1)
  else if a = A.SAF_TGCTL then (rOk, (s1.tgEnable s).safUpdate)
  else match (List.finRange 8).find? fun (p : Fin 8) => A.SAF_PCFG p == a with
    | some p => (rOk, (if s1.fb (F.SAF_PCFG_en p) == s.fb (F.SAF_PCFG_en p) then s1 else s1.pairEnable p).safUpdate)
    | none => (rOk, s1)

/-! ### PRT -/

/-- An ARP packet for Ethernet and IPv4 (R394). -/
def arpPacket (op : Nat) (sha spa tha tpa : List Byte) : List Byte :=
  [0, 1, 8, 0, 6, 4] ++ beBytes op 2 ++ sha ++ spa ++ tha ++ tpa

/-- The gratuitous ARP of network i: its own address as sender and target (R394). -/
def State.sendGratuitous (s : State) (i : Nat) : State :=
  s.emit (.net i 3 (List.replicate 6 0xFF) (arpPacket 1 (s.macOf i) (s.ipOf i) (List.replicate 6 0) (s.ipOf i)))

/-- PRT_NCTL: the identity is taken and one gratuitous ARP sent when en goes from 0 to 1 (R394, R396); a MAC that is not
enabled holds no frames (assumption 93, DESIGN CHOICE). -/
def State.nctlWrite (s : State) (cmd : Option Nat) (i : Fin 2) (v : Word) : State :=
  let s1 := s.plain cmd (A.PRT_NCTL i) v
  if s1.fb (F.PRT_NCTL_en i) then if s.fb (F.PRT_NCTL_en i) then s1 else (s1.takeId i).sendGratuitous i
  else { s1 with rxq := s1.rxq.set i [] }

/-- PRT_MDIO: refused while busy; go starts a frame (R399). -/
def State.mdioWrite (s : State) (cmd : Option Nat) (v : Word) : Nat × State :=
  if s.fb F.PRT_MDIO_busy then (rRunning, s)
  else
    let s1 := s.plain cmd A.PRT_MDIO v
    (rOk, if natBit v.toNat 11 then (s1.set1 F.PRT_MDIO_busy).emit (.mdio (s1.reg A.PRT_MDIO)) else s1)

/-- PRT_GPIO: the precharge unit's ball is its own while the unit is enabled (R262, R405). -/
def State.gpioWrite (s : State) (cmd : Option Nat) (v : Word) : Nat × State :=
  let b := s.f F.SYS_PCH_CFG_gpio
  let d := (v ^^^ s.reg A.PRT_GPIO).toNat
  if s.fb F.SYS_PCH_CFG_en && (natBit d b || natBit d (8 + b)) then (rRunning, s) else (rOk, s.plain cmd A.PRT_GPIO v)

/-- PRT_PCFG: clearing en takes the ring down, and units of mode 2 lose their peer with it (R274, R402, R405). -/
def State.pcfgWrite (s : State) (cmd : Option Nat) (v : Word) : State :=
  let s1 := s.plain cmd A.PRT_PCFG v
  if s1.fb F.PRT_PCFG_en then s1
  else
    let s2 := { s1.put F.PRT_PSTAT_up 0 with ringWait := false, ringLost := false }
    if s.fb F.PRT_PSTAT_up then s2.peerLost else s2

/-- PRT registers. -/
def State.writePrt (s : State) (cmd : Option Nat) (a : Nat) (v : Word) : Nat × State :=
  if a = A.PRT_MDIO then s.mdioWrite cmd v
  else if a = A.PRT_GPIO then s.gpioWrite cmd v
  else if a = A.PRT_PCFG then (rOk, s.pcfgWrite cmd v)
  else match (List.finRange 2).find? fun (i : Fin 2) => A.PRT_NCTL i == a with
    | some i => (rOk, s.nctlWrite cmd i v)
    | none => (rOk, s.plain cmd a v)

/-! ### DBG -/

/-- A context resumes to the state it had before its halt; one that returns to WAIT with its latch set leaves WAIT at
once; its first instruction triggers no breakpoint (R425, R427). -/
def State.resumeCtx (s : State) (e : CtxId) : State :=
  let c := s.ctx[e]
  if c.st ≠ .halt then s
  else
    let s1 := s.setCtx e { c with st := c.prev, bpSkip := 1 }
    if c.prev = .wait ∧ c.latch ∧ e.val < 12 then s1.waitReturn e c.waitD else s1

/-- The engines that a DBG_CTL write names. -/
def dbgEngines (v : Word) : List (Fin 7) :=
  if natBit v.toNat 8 then List.finRange 7 else (List.finRange 7).filter fun m => m.val == getBits v 0 3

/-- DBG_CTL op 1: halt the named engines that have a context to halt (R424). -/
def State.debugHalt (s : State) (v : Word) : State :=
  (dbgEngines v).foldl (fun (s : State) (m : Fin 7) =>
    if (ctxsOf m).any fun e => s.ctx[e].st == .run || s.ctx[e].st == .wait then s.haltEngine m 1 0 0 else s) s

/-- DBG_CTL op 2: resume the named engines (R425). -/
def State.debugRun (s : State) (v : Word) : State :=
  (dbgEngines v).foldl (fun (s : State) (m : Fin 7) => (ctxsOf m).foldl (fun s e => s.resumeCtx e) s) s

/-- A word of the context window (R433): V0 stays 0. -/
def Ctx.setWindow (c : Ctx) (o : Nat) (v : Word) : Ctx :=
  if o < 0x80 then c.wr (BitVec.ofNat 5 (o / 4)) v
  else if o < 0xA0 then
    let n := BitVec.ofNat 2 ((o - 0x80) / 8)
    let x := c.rdAcc n
    if o % 8 = 0 then c.wrAcc n (x.extractLsb' 32 16 ++ v) else c.wrAcc n (v.extractLsb' 0 16 ++ x.extractLsb' 0 32)
  else if o = 0xA0 then { c with pc := getBits v 0 15 }
  else { c with sf := v.extractLsb' 0 8 }

/-- DBG registers; op 3 of DBG_CTL is carried out by the row that writes it (R426). -/
def State.writeDbg (s : State) (cmd : Option Nat) (a : Nat) (v : Word) : Nat × State :=
  if a = A.DBG_CTL then
    (rOk, if getBits v 4 2 = 1 then s.debugHalt v else if getBits v 4 2 = 2 then s.debugRun v else s)
  else if dbgWindow a then
    match s.selected with
    | some e => if s.ctx[e].st = .halt then (rOk, s.setCtx e (s.ctx[e].setWindow (a - 0xD0400) v)) else (rRunning, s)
    | none => (rBadArg, s)
  else (rOk, s.plain cmd a v)

/-! ### A word, and a whole write -/

/-- One word takes effect for command `cmd` (R370). -/
def State.writeWord (s : State) (cmd : Option Nat) (a : Nat) (v : Word) : Nat × State :=
  if 0x100000 ≤ a then s.writeMem a v
  else match a / 0x10000 with
    | 0 => s.writeSys cmd a v
    | 1 => s.writeFlt cmd a v
    | 3 => s.writeAdc cmd a v
    | 4 => s.writeStg cmd a v
    | 5 => s.writeGl cmd a v
    | 6 => s.writeLth cmd a v
    | 7 => s.writeGrd cmd a v
    | 8 => s.writeMtr cmd a v
    | 9 => s.writeSaf cmd a v
    | 12 => s.writePrt cmd a v
    | 13 => s.writeDbg cmd a v
    | _ => (rOk, s.plain cmd a v)

/-- The words in order; the first code that is not OK with its index. -/
def State.writeAll (s : State) (cmd : Option Nat) : Nat → List AW → Nat × Nat × State
  | _, [] => (rOk, 0, s)
  | i, w :: t =>
    let (r, s1) := s.writeWord cmd w.addr w.val
    if r ≠ rOk then (r, i, s) else s1.writeAll cmd (i + 1) t

/-- The first word with a code other than OK. -/
def firstBad (f : AW → Nat) : Nat → List AW → Nat × Nat
  | _, [] => (rOk, 0)
  | i, w :: t => if f w ≠ rOk then (f w, i) else firstBad f (i + 1) t

/-- A write judged whole, before any word is stored (R368, R370): class, then authority, then running blocks, then values;
within one of these the lowest word. Code and word index. -/
def State.judge (s : State) (port : Nat) (ws : List AW) : Nat × Nat :=
  let span := (ws.head?.map fun w => s.spanOf w.addr).getD 0
  let c1 := firstBad (fun w => if s.spanOf w.addr ≠ span then rBadArg else writeClass port w.addr) 0 ws
  if c1.1 ≠ rOk then c1
  else
    let c2 := firstBad (fun w => if s.mayWrite port w.addr then rOk else rAuthority) 0 ws
    if c2.1 ≠ rOk then c2
    else
      let c3 := firstBad (fun w => if s.rsRefused w then rRunning else s.windowCode w.addr) 0 ws
      if c3.1 ≠ rOk then c3
      else
        let t := s.asWritten ws
        firstBad (fun w => if s.argOk t w.addr w.val then rOk else rBadArg) 0 ws

/-- A write: judged, then carried out. On any refusal nothing changes, but that a save refused with ENDURANCE sets
MTR_EVT.save_fail (R305). -/
def State.write (s : State) (port : Nat) (cmd : Option Nat) (ws : List AW) : Nat × Nat × State :=
  let (r, i) := s.judge port ws
  if r ≠ rOk then (r, i, s)
  else
    let (q, j, t) := s.writeAll cmd 0 ws
    if q = rEndurance then (q, j, s.mtrBlockEvt 11) else if q ≠ rOk then (q, j, s) else (rOk, 0, t)

/-- Whether a writer's access is open: the Devar port while it is unlocked (R422); partner ports except in HOLDUP and in a
download boot, where writes are refused (R356, R398). -/
def State.accessCode (s : State) (port : Nat) : Nat :=
  if port = pDevar then (if s.fb F.DBG_STAT_unlocked && s.fb F.DBG_STAT_port_en then rOk else rAuthority)
  else if s.mode == mHoldup || s.downloads then rMode else rOk

/-- A write of one register by itself: the code goes to the writer, and a refused Devar write is counted (R423, R431). In
RESET nothing is accessible (R24). -/
def State.writeOut (s : State) (port a : Nat) (v : Word) : State :=
  if s.mode = mReset then s
  else
    let (r, t) :=
      if s.accessCode port ≠ rOk then (s.accessCode port, s)
      else
        let (r, _, t) := s.write port none [⟨a, v⟩]
        (r, t)
    (if r ≠ rOk ∧ port = pDevar then t.bump F.DBG_CNT_refused else t).emit (.access r v)

end Sys2Proof.Machine
end

