-- ==== Sys2Proof/Machine/Groups.lean ====
section
/-! DEFINITION. Groups (R373 to R376): their parts, the validation and the choice of the commit instant. -/

namespace Sys2Proof.Machine

/-- Words at consecutive addresses from `a`. -/
def consec (a : Nat) : List Word → List AW
  | [] => []
  | w :: t => ⟨a, w⟩ :: consec (a + 4) t

/-- All bytes of a list are 0. -/
def zeros (l : List Byte) : Bool := l.all fun b => b == 0

/-- The parts of a WRITE_GROUP payload after its header: `n` parts, nothing after them (R365). -/
def partsOf (pl : List Byte) : Nat → Option (List (List AW))
  | 0 => if pl.isEmpty then some [] else none
  | n + 1 =>
    let c := byteAt pl 4
    if pl.length < 8 + 4 * c ∨ c = 0 ∨ !zeros ((pl.drop 5).take 3) then none
    else (partsOf (pl.drop (8 + 4 * c)) n).map fun t =>
      consec (bytesAt pl 0 4) (wordsOf ((pl.drop 8).take (4 * c))) :: t

/-- A set-point as its payload gives it: stage, ramp-tracked, target and block offsets, value, rate (R365). -/
structure Setp where
  stage : Stage
  ramp : Bool
  target : Nat
  blk : Nat
  val : Word
  rate : Word
  deriving DecidableEq, Repr

/-- The set-point of 12 or 16 payload bytes (R365). -/
def setpOf (pl : List Byte) : Option Setp :=
  if h : byteAt pl 0 < 12 then
    if byteAt pl 1 ≤ 1 ∧ bytesAt pl 6 2 = 0 then
      some ⟨⟨byteAt pl 0, h⟩, byteAt pl 1 == 1, bytesAt pl 2 2, bytesAt pl 4 2, BitVec.ofNat 32 (bytesAt pl 8 4),
        BitVec.ofNat 32 (bytesAt pl 12 4)⟩
    else none
  else none

/-- The entries of a SETPOINT_GROUP payload after its header. -/
def setpsOf (pl : List Byte) : Nat → Option (List Setp)
  | 0 => if pl.isEmpty then some [] else none
  | n + 1 =>
    if pl.length < 16 then none
    else match setpOf (pl.take 16), setpsOf (pl.drop 16) n with
      | some x, some t => if !x.ramp && x.rate != 0 then none else some (x :: t)
      | _, _ => none

/-- Byte address of a word of a stage's data window (R69). -/
def State.winAddr (s : State) (k : Stage) (o : Nat) : Nat :=
  dmemAddr (ctxOf k) (s.f (F.LTH_DWIN_base (kn k) (kc k)) + o)

/-- The words that a set-point writes: its target, and the rate of its RAMP block (R252). -/
def State.setpWords (s : State) (x : Setp) : List AW :=
  ⟨s.winAddr x.stage x.target, x.val⟩ :: if x.ramp then [⟨s.winAddr x.stage x.blk, x.rate⟩] else []

/-- What a ramp-tracked set-point watches (R252). -/
def State.setpTrack (s : State) (x : Setp) : List Track :=
  if x.ramp then [⟨x.stage, s.winAddr x.stage x.target, s.winAddr x.stage x.blk, x.val⟩] else []

/-- The rules of a set-point (R71, R252, R368). -/
def State.setpCode (s : State) (port : Nat) (x : Setp) : Nat :=
  let k := x.stage
  let size := s.f (F.LTH_DWIN_size (kn k) (kc k))
  let closed (o : Nat) : Bool := s.cregClosed (ctxOf k) o
  if size ≤ x.target ∨ (x.ramp ∧ (size ≤ x.blk + 2 ∨ x.rate.toInt ≤ 0)) then rBadArg
  else if s.holder k ≠ port then rAuthority
  else if x.ramp then
    if !isSwitchMode s.mode || !s.tbRuns k || !(s.ctx[ctxOf k].st == .run || s.ctx[ctxOf k].st == .wait) then rMode
    else if closed x.target || closed x.blk then rRunning else rOk
  else if !(decide (3 ≤ s.mode) && decide (s.mode ≤ 9)) then rMode
  else if closed x.target then rRunning else rOk

/-- Words of a set-point take effect at the stage's next boundary, or at once where its timebase does not run (R252). -/
def State.stageWords (s : State) (k : Stage) (id : Nat) (ws : List AW) : State :=
  if s.tbRuns k then
    { s with staged := s.staged ++ ws.map fun w => ⟨k.val, w.addr, w.val, 0xFFFFFFFF, s.inWindow k, false, some id⟩ }
  else ws.foldl (fun s w => s.setMw w.addr w.val) s

/-! ### The words and stages of a command -/

/-- The parts of a group, one for a WRITE or a set-point; none where the payload does not suit (R365). -/
def State.cmdParts (s : State) (c : Cmd) : Option (List (List AW)) :=
  let n := byteAt c.pl 0
  if c.op = opWriteGroup then
    if 1 ≤ n ∧ n ≤ 8 ∧ 4 ≤ c.pl.length ∧ bytesAt c.pl 1 3 = 0 then partsOf (c.pl.drop 4) n else none
  else if c.op = opSetGroup then
    if 1 ≤ n ∧ n ≤ 8 ∧ 4 ≤ c.pl.length ∧ bytesAt c.pl 1 3 = 0 then
      (setpsOf (c.pl.drop 4) n).map fun xs => xs.map s.setpWords
    else none
  else if c.op = opSetpoint then
    if c.pl.length = (if byteAt c.pl 1 = 1 then 16 else 12) then (setpOf c.pl).map fun x => [s.setpWords x] else none
  else if c.op = opWrite ∨ c.op = opPersist then
    let m := c.pl.length
    if m % 4 = 0 ∧ 8 ≤ m ∧ m ≤ 256 then some [consec (bytesAt c.pl 0 4) (wordsOf (c.pl.drop 4))] else none
  else none

/-- All words that a command names. -/
def State.cmdWords (s : State) (c : Cmd) : List AW := ((s.cmdParts c).getD []).flatten

/-- The stages that a command touches (R368, R374). -/
def State.cmdStages (s : State) (c : Cmd) : List Stage :=
  if c.op = opStart ∨ c.op = opStop ∨ c.op = opClaim ∨ c.op = opRelease then
    stages.filter fun k => natBit (bytesAt c.pl 0 2) k
  else if c.op = opLoad ∧ byteAt c.pl 0 = 3 then stages.filter fun k => kn k == byteAt c.pl 1
  else stages.filter fun k => (s.cmdWords c).any fun w => s.scopeOf w.addr == some k

/-! ### Validation (R373, R374) -/

/-- A word that a part may not hold: a memory word, or a 1 to a W1C or WO bit (R373). -/
def partBad (w : AW) : Bool :=
  decide (0xE0000 ≤ w.addr) || (w.val &&& (BitVec.ofNat 32 (rowAt w.addr).w1c ||| BitVec.ofNat 32 (rowAt w.addr).wo)) != 0

/-- The judgement of one part: code and word (R373, R374). -/
def State.judgePart (s : State) (port : Nat) (ws : List AW) : Nat × Nat :=
  let c := firstBad (fun w => if partBad w then rBadArg else rOk) 0 ws
  if c.1 ≠ rOk then c
  else
    let r := s.write port none ws
    (r.1, r.2.1)

/-- The lowest failing part of a WRITE_GROUP: part, code and word. -/
def State.badPart (s : State) (port : Nat) : Nat → List (List AW) → Option (Nat × Nat × Nat)
  | _, [] => none
  | i, p :: t =>
    let c := s.judgePart port p
    if c.1 ≠ rOk then some (i, c.1, c.2) else s.badPart port (i + 1) t

/-- The lowest failing entry of a SETPOINT_GROUP. -/
def State.badSetp (s : State) (port : Nat) : Nat → List Setp → Option (Nat × Nat × Nat)
  | _, [] => none
  | i, x :: t => if s.setpCode port x ≠ rOk then some (i, s.setpCode port x, 0) else s.badSetp port (i + 1) t

/-- The check of every part of a group, at its start and again at t_v; none where all pass. -/
def State.checkGroup (s : State) (c : Cmd) : Option (Nat × Nat × Nat) :=
  if c.op = opSetGroup then s.badSetp c.port 0 ((setpsOf (c.pl.drop 4) (byteAt c.pl 0)).getD [])
  else s.badPart c.port 0 ((s.cmdParts c).getD [])

/-! ### The commit instant (R374) -/

/-- The target stages of a group whose timebase runs. -/
def State.targets (s : State) (c : Cmd) : List Stage := (s.cmdStages c).filter s.tbRuns

/-- Predicted reload instants of a stage later than t_a + 32 REF cycles and within 16 ms of t_a, in REF cycles: with
STG_PER_NEXT for a period already fixed and STG_PER, as they are in force, for those after it; for a ring follower from its
leader's (R169, R374). -/
def State.reloads (s : State) (k : Stage) : List Nat :=
  ((({ s with staged := [] }.starts 8010 13 k).filter fun t =>
    decide (s.etime + 32 * refTaps + leadTaps < t) && decide (t ≤ s.etime + 4000000 * refTaps + leadTaps)).map
      fun t => (t - leadTaps) / refTaps)

/-- The case and, in the second one, the commit instant of a group that is armed now (R374): no running target; a common
REF cycle within 16 ms; or the instant by which every target has had a reload instant. A stage synchronised to SYNC_IN or the
peer link is always in the third. -/
def State.commitCase (s : State) (c : Cmd) : Nat × Nat :=
  match s.targets c with
  | [] => (1, s.etime)
  | k :: t =>
    if (k :: t).any fun j => decide (2 ≤ s.f (F.STG_SYNC_src j)) then (3, 0)
    else
      let rs := t.map s.reloads
      match (s.reloads k).find? fun r => rs.all fun l => l.contains r with
      | some r => (2, r * refTaps)
      | none => (3, 0)

/-- A group starts: validated, then armed (R374). -/
def State.startGroup (s : State) (c : Cmd) : State :=
  if (s.cmdParts c).isNone then s.finishR c.id rBadArg
  else match s.checkGroup c with
    | some (p, cause, w) => s.finish c.id rPartFailed p cause w []
    | none =>
      let (g, t) := s.commitCase c
      s.updCmd c.id fun c => { c with ph := .armed, gcase := g, tc := t, ta := s.etime, first := [], aligned := g == 3 }

end Sys2Proof.Machine
end

