-- ==== Sys2Proof/Machine/Commit.lean ====
section
/-! DEFINITION. The commit of a group and the rollback of a part that fails after it (R20, R21, R374 to R376), the answers of
a pod that make a part fail (R199, R204, R215), and the reload instant of a stage, at which groups commit (R17, R166). -/

namespace Sys2Proof.Machine

/-! ### The commit (R374) -/

/-- What every word of the parts holds now: part, word and value. -/
def State.saveParts (s : State) : Nat → List (List AW) → List (Nat × Nat × AW)
  | _, [] => []
  | p, ws :: t => (List.range ws.length).zip ws |>.map (fun x => (p, x.1, (⟨x.2.addr, s.reg x.2.addr⟩ : AW))) |>.append
    (s.saveParts (p + 1) t)

/-- A group's staged words are sampled by the first reload instant at or after t_c: the guard window defers none of them
(R374). -/
def State.alignStaged (s : State) (id tc : Nat) : State :=
  let one (w : Staged) : Staged := match w.cmd == some id, stages[w.stage]? with
    | true, some k => { w with late := decide (s.reloadAt k < tc) }
    | _, _ => w
  { s with staged := s.staged.map one }

/-- A command's words are under way: it completes once nothing refers to it (R370, R374). -/
def State.applying (s : State) (id : Nat) (saved : List (Nat × Nat × AW)) (tracks : List Track) : State :=
  (s.updCmd id fun c => { c with
    ph := .applying, res := rOk, part := 0xFF, cause := rOk, word := 0, saved := saved, tracks := tracks }).settle

/-- The first reload instant of a target stage later than 32 REF cycles after t_a: the one it has had, or the coming one;
none while an earlier one is still to come (R374). -/
def State.firstReload (s : State) (c : Cmd) (k : Stage) : Option Nat :=
  match c.first.find? fun x => x.1 == k.val with
  | some x => some x.2
  | none => if c.ta + 32 * refTaps < s.reloadAt k then some (s.reloadAt k) else none

/-- The instant t_c of an armed group, t_r of a failed one: now; the chosen REF cycle; or the latest of the first reload
instants that the running targets have, where it is known (R374, R375). -/
def State.groupAt (s : State) (c : Cmd) : Option Nat :=
  if c.gcase = 3 then ((s.targets c).mapM (s.firstReload c)).map fun l => l.foldl max 0
  else some (if c.gcase = 2 then c.tc else s.etime)

/-- The recheck and the commit at `t` (R374, R384; assumption 38, DEDUCED: in one at t_c). -/
def State.commitGroup (s0 : State) (c : Cmd) (t : Nat) : State :=
  let s := s0.toInstant t
  match s.checkGroup c with
  | some (p, cause, w) => s.finish c.id rPartFailed p cause w []
  | none =>
    let ps := (s.cmdParts c).getD []
    if c.op = opSetGroup then
      let xs := (setpsOf (c.pl.drop 4) (byteAt c.pl 0)).getD []
      let s1 := xs.foldl (fun (s : State) x => s.stageWords x.stage c.id (s.setpWords x)) s
      (s1.alignStaged c.id t).applying c.id [] (xs.flatMap s.setpTrack)
    else
      let s1 := ps.foldl (fun (s : State) (ws : List AW) => (s.writeAll (some c.id) 0 ws).2.2) s
      (s1.alignStaged c.id t).applying c.id (s.saveParts 0 ps) []

/-- An armed group at its t_c, where that is known (R374). -/
def State.commitDue (s : State) (c : Cmd) : State :=
  match s.groupAt c with
  | some t => s.commitGroup c t
  | none => s

/-- GROUP_COMMIT: the i-th armed group, in order of acceptance, at its t_c (R374). -/
def execGroupCommit (i : Fin 4) (s : State) : Res :=
  .next (match (s.cmds.filter fun c => c.ph == .armed)[i.val]? with
    | some c => s.commitDue c
    | none => s)

/-! ### A part that fails (R215, R375) -/

/-- A part of a command fails after commit: the result will be ROLLED_BACK, naming the part, its cause and the word,
and the revert instant is chosen as a commit instant is (R374, R375). -/
def State.failPart (s : State) (id : Nat) (a cause : Nat) : State :=
  match s.cmd? id with
  | none => s
  | some c =>
    if c.ph = .applying then
      let p := ((c.saved.find? fun x => x.2.2.addr == a).map fun x => (x.1, x.2.1)).getD (0, 0)
      let (g, t) := s.commitCase c
      s.updCmd id fun c => { c with
        ph := .failed, res := rRolledBack, part := p.1, cause := cause, word := p.2, gcase := g, tc := t, ta := s.etime, first := [] }
    else s

/-- Outside the sequence, a configuration word of link n is refused, or gets no ACK (R215, R375): a restoring word is
class A type 0x0A; a word of a command fails its part. -/
def State.cfgFail (s : State) (n : Link) (w : CfgWord) (cause : Nat) : State :=
  let l := s.lnk[n]
  let s1 := s.setLnk n { l with cfg := l.cfg.filter fun x => x != w }
  if w.restoring then
    let q := match w.cmd with
      | some id => ((s1.cmd? id).map (·.seq)).getD 0
      | none => 0
    (s1.settle).report (0x0A00 + n.val) .A (BitVec.ofNat 32 q)
  else match w.cmd, w.reg with
    | some id, some r => s1.failPart id r.1 cause
    | some _, none => s1.settle
    | none, _ => s1

/-- CONFIGURATION_NAK with its reason: GL_EVT.nak; ends the sequence, or fails the write (R199, R204, R215). -/
def execConfigurationNak (u : Upward) (tag reason : Byte) (s : State) : Res :=
  s.upWord u.link [0x07, tag, reason] u.crc (
    let s1 := s.linkEvt u.link 4
    match s.lnk[u.link].cfg.find? fun w => w.sent && w.tag == tag.toNat with
    | none => s1
    | some w =>
      if s.lnkSt u.link = lSeq then s1.seqFail u.link
      else s1.cfgFail u.link w (if reason = 2 then rRunning else rBadArg))

/-- CONFIGURATION_ACK_TIMEOUT: the oldest word that has been sent has no answer within 20 µs (R204, R215, R375). -/
def execConfigurationAckTimeout (n : Link) (s : State) : Res :=
  .next (match s.lnk[n].cfg.find? (·.sent) with
    | none => s
    | some w => if s.lnkSt n = lSeq then s.seqFail n else s.cfgFail n w rBadFrame)

/-! ### The rollback (R375) -/

/-- One reverted word: a pod field is restored by a configuration word, the rest as a write of the old value, without its
W1C and WO bits. A restore that is refused, as a stop-class field of a block that has started since is, is a rollback that
fails: class A type 0x0A, instance 0xFF (R21, R332, R375). -/
def State.revertWord (s : State) (c : Cmd) (w : AW) : State :=
  let r := rowAt w.addr
  match podAddr w.addr with
  | some (n, i) => (if r.rs = 0 then s else s.mergeReg w.addr w.val (BitVec.ofNat 32 r.rs)).podWrite n i w.addr w.val
      (BitVec.ofNat 32 r.rw) (some c.id) true
  | none =>
    let v := w.val &&& ~~~(BitVec.ofNat 32 r.w1c ||| BitVec.ofNat 32 r.wo)
    let (q, t) := s.writeWord (some c.id) w.addr v
    if q ≠ rOk ∨ s.rsRefused ⟨w.addr, v⟩ then s.report 0x0AFF .A (BitVec.ofNat 32 c.seq) else t

/-- At t_r every word of a failed command goes back to what it held before t_c, and restoring words are queued; words that
had not left are dropped (R375). -/
def State.rollGroup (s0 : State) (c : Cmd) (t : Nat) : State :=
  let s := s0.toInstant t
  let s1 := links.foldl (fun (s : State) (n : Link) => s.setLnk n { s.lnk[n] with
    cfg := s.lnk[n].cfg.filter fun w => !(w.cmd == some c.id && !w.sent) }) s
  let s2 := { s1 with staged := s1.staged.filter fun w => w.cmd != some c.id }
  let s3 := (c.saved.foldl (fun s x => s.revertWord c x.2.2) s2).alignStaged c.id t
  (s3.updCmd c.id fun c => { c with ph := .rolling }).settle

/-- A failed command at its t_r, where that is known (R375). -/
def State.rollDue (s : State) (c : Cmd) : State :=
  match s.groupAt c with
  | some t => s.rollGroup c t
  | none => s

/-- GROUP_ROLLBACK: the i-th failed command at its t_r (R375). -/
def execGroupRollback (i : Fin 4) (s : State) : Res :=
  .next (match (s.cmds.filter fun c => c.ph == .failed)[i.val]? with
    | some c => s.rollDue c
    | none => s)

/-! ### The reload instant -/

/-- A group that targets stage k meets its reload instant `r`: this is the first one after t_a, or the group has its t_c or
t_r by now, so that this reload instant samples its words (R374, R375). -/
def State.groupReload (s : State) (k : Stage) (r id : Nat) : State :=
  match s.cmd? id with
  | none => s
  | some c =>
    if c.gcase < 2 ∨ (c.ph ≠ .armed ∧ c.ph ≠ .failed) ∨ !(s.targets c).contains k then s
    else
      let new := decide (c.ta + 32 * refTaps < r) && !c.first.any fun x => x.1 == k.val
      let d := if new then { c with first := c.first ++ [(k.val, r)] } else c
      let s1 := s.updCmd id fun _ => d
      match s1.groupAt d with
      | some t => if r < t then s1 else if d.ph = .failed then s1.rollGroup d t else s1.commitGroup d t
      | none => s1

/-- RELOAD_INSTANT: groups commit and roll back first, so that it samples their words; then the stage reloads (R17, R166,
R374, R375). -/
def execReloadInstant (k : Stage) (s : State) : Res :=
  .next (
    if s.tbRuns k && !s.stg[k].latched then
      let r := s.reloadAt k
      let s1 := (s.cmds.map (·.id)).foldl (fun (s : State) id => s.groupReload k r id) (s.toInstant r)
      if s1.tbRuns k && !s1.stg[k].latched then s1.reload k else s1
    else s)

end Sys2Proof.Machine
end

