-- ==== Sys2Proof/WellFormed.lean ====
section
/-! DEFINITION. Well-formed commands: the operands that the encodings of R84, R85, R93 to R131 allow on the engine named,
the payload lengths of R361, and the field lengths of R394. An ill-formed instruction is still executed: it is a reserved
encoding or illegal on its engine, and faults as one (R63, R85, R109). -/

namespace Sys2Proof

/-- A Lathe context; 12 is the Headstock (R59). -/
def isLathe (e : CtxId) : Bool := decide (e.val < 12)

/-- A literal of ITOP and PTOI, 0 to 28 (R95). -/
def litOk28 (lit : BitVec 5) : Bool := decide (lit.toNat ≤ 28)

/-- A source pair: even (R108). -/
def srcPair (r : VReg) : Bool := r.toNat % 2 == 0

/-- A destination pair, and the limits of LIM: even, 2 to 30 (R108, R114). -/
def dstPair (r : VReg) : Bool := r.toNat % 2 == 0 && r != 0

/-- The literal of TBL: 0 on a Lathe, a stage on the Headstock (R109). -/
def tblLit (e : CtxId) (lit : BitVec 5) : Bool := if isLathe e then lit == 0 else decide (lit.toNat < 12)

/-- A payload that a frame can carry, after `n` bytes (R361). -/
def plOk (n : Nat) (pl : List Byte) : Bool := decide (n + pl.length ≤ 256)

/-- The operands are legal ones of the row. -/
def WellFormed : Instr → Bool
  | .itop _ _ _ lit => litOk28 lit
  | .ptoi _ _ _ lit => litOk28 lit
  | .clarke _ d a _ => dstPair d && srcPair a
  | .clarke2 _ d a => dstPair d && srcPair a
  | .park _ d a _ => dstPair d && srcPair a
  | .ipark _ d a _ => dstPair d && srcPair a
  | .sincos _ d _ => dstPair d
  | .lim _ _ _ b => dstPair b
  | .tbl e _ _ _ lit _ _ => tblLit e lit
  | .tblu e _ _ _ lit _ _ => isLathe e && decide (lit.toNat < 16)
  | .grid _ _ _ q => decide (q.toNat ≤ 10)
  | .mtr _ _ _ q => decide (q.toNat ≤ 10)
  | .plant e _ _ sw _ => isLathe e && decide (sw.toNat < 96)
  | .planf e _ _ sw _ => isLathe e && decide (sw.toNat < 96)
  | .planc e sw => isLathe e && decide (sw.toNat < 96)
  | .commit e _ => isLathe e
  | .wait e d => isLathe e || d == 0
  | .evt e _ => isLathe e
  | .sfclr _ imm _ => decide (imm.toNat < 256)
  | .sysRd e _ _ _ => !isLathe e
  | .sysMrd e _ _ _ => !isLathe e
  | .sysWr e _ _ _ => !isLathe e
  | .sysCmd e _ _ _ _ _ _ => !isLathe e
  | .nop _ _ _ pl => plOk 0 pl
  | .ping _ _ _ pl => plOk 0 pl
  | .read _ _ _ pl _ _ => plOk 0 pl
  | .write _ _ pl => plOk 0 pl
  | .writeGroup _ _ pl => plOk 0 pl
  | .persistWrite _ _ pl => plOk 0 pl
  | .eraseInactiveBank _ _ pl => plOk 1 pl
  | .writeBank _ _ pl => plOk 1 pl
  | .checkBank _ _ pl => plOk 1 pl
  | .loadEngine _ _ pl => plOk 1 pl
  | .startStage _ _ pl => plOk 0 pl
  | .stopStage _ _ pl => plOk 0 pl
  | .setMode _ _ pl => plOk 0 pl
  | .setpoint _ _ pl => plOk 0 pl
  | .setpointGroup _ _ pl => plOk 0 pl
  | .claimAuthority _ _ pl => plOk 0 pl
  | .releaseAuthority _ _ pl => plOk 0 pl
  | .journalRead _ _ _ q => plOk 0 q.pl
  | .faultClear _ _ pl => plOk 0 pl
  | .resume _ _ pl => plOk 0 pl
  | .safetyAck _ _ pl => plOk 0 pl
  | .latchMeter _ _ pl => plOk 0 pl
  | .eventMask _ _ pl => plOk 0 pl
  | .arpRequest _ sha spa tpa => sha.length == 6 && spa.length == 4 && tpa.length == 4
  | .devarBadPacket crc op _ => crc || !(decide (1 ≤ op.toNat) && decide (op.toNat ≤ 4))
  | _ => true

end Sys2Proof
end

