-- ==== Sys2Proof/Decode.lean ====
section
/-! DEFINITION. Words and commands. No row of the opcode table gives bits, so no word spells a command of the block:
`decodeTableWord` answers none. What an engine fetches is decoded by `decodeFj`, and `encodeFj` is written from the same
formats (R84 to R86 and the group tables R93, R95, R98 to R102, R110 to R131). -/

namespace Sys2Proof

/-- The command that a word spells by the opcode table's bits: the table gives none. -/
def decodeTableWord (_nbits _w : Nat) : Option Instr := none

/-! ### Formats (R84) -/

/-- A word of the register format. -/
def regWord (op : BitVec 6) (d a b : VReg) (fx : BitVec 6) (lit : BitVec 5) : Word := op ++ d ++ a ++ b ++ fx ++ lit

/-- A word of the immediate, branch or jump format. -/
def immWord (op : BitVec 6) (d a : VReg) (imm : BitVec 16) : Word := op ++ d ++ a ++ imm

/-- The fields of a word. -/
def fjOp (w : Word) : BitVec 6 := w.extractLsb' 26 6
def fjD (w : Word) : VReg := w.extractLsb' 21 5
def fjA (w : Word) : VReg := w.extractLsb' 16 5
def fjB (w : Word) : VReg := w.extractLsb' 11 5
def fjFx (w : Word) : BitVec 6 := w.extractLsb' 5 6
def fjLit (w : Word) : BitVec 5 := w.extractLsb' 0 5
def fjImm (w : Word) : BitVec 16 := w.extractLsb' 0 16

/-- An instruction, if the fields that it does not use are 0 and its operands are legal (R84, R85, R108, R109). -/
def fjIf (c : Bool) (i : Instr) : Option Instr := if c then some i else none

/-! ### Parity of the reads of a decoded instruction -/

def parN (n : Nat) [NeZero n] (p : Par) (one : Fin n) : Fin n := if p = .replayPass then one else 0
def parBad {α : Type} (p : Par) (x : α) : Option α := if p = .replayFail then some x else none

/-! ### Groups -/

/-- Integer group, op 0x01 (R93). -/
def decodeInt (e : CtxId) (d a b : VReg) (fx : Nat) (lit : BitVec 5) : Option Instr :=
  let z := lit == 0
  let bz := b == 0
  match fx with
  | 0x00 => fjIf z (.add e d a b)
  | 0x01 => fjIf z (.sub e d a b)
  | 0x02 => fjIf z (.adds e d a b)
  | 0x03 => fjIf z (.subs e d a b)
  | 0x04 => fjIf z (.and e d a b)
  | 0x05 => fjIf z (.or e d a b)
  | 0x06 => fjIf z (.xor e d a b)
  | 0x07 => fjIf z (.andn e d a b)
  | 0x08 => fjIf z (.shl e d a b)
  | 0x09 => fjIf z (.shr e d a b)
  | 0x0A => fjIf z (.sar e d a b)
  | 0x0B => fjIf bz (.shli e d a lit)
  | 0x0C => fjIf bz (.shri e d a lit)
  | 0x0D => fjIf bz (.sari e d a lit)
  | 0x10 => fjIf z (.mul e d a b)
  | 0x11 => fjIf z (.mulh e d a b)
  | 0x12 => fjIf z (.div e d a b)
  | 0x14 => fjIf z (.clt e d a b)
  | 0x15 => fjIf z (.cltu e d a b)
  | 0x16 => fjIf z (.ceq e d a b)
  | 0x17 => fjIf z (.min e d a b)
  | 0x18 => fjIf z (.max e d a b)
  | 0x1E => fjIf (z && bz) (.jlr e d a)
  | 0x1F => fjIf (z && bz && a == 0) (.sfrd e d)
  | _ => none

/-- Per-unit group, op 0x02 (R95). -/
def decodePu (e : CtxId) (d a b : VReg) (fx : Nat) (lit : BitVec 5) : Option Instr :=
  let z := lit == 0
  let bz := b == 0
  match fx with
  | 0x00 => fjIf z (.padd e d a b)
  | 0x01 => fjIf z (.psub e d a b)
  | 0x02 => fjIf (z && bz) (.pneg e d a)
  | 0x03 => fjIf (z && bz) (.pabs e d a)
  | 0x04 => fjIf z (.pmul e d a b)
  | 0x05 => fjIf bz (.pshl e d a lit)
  | 0x06 => fjIf bz (.pshr e d a lit)
  | 0x07 => fjIf z (.pdiv e d a b)
  | 0x08 => fjIf (bz && litOk28 lit) (.itop e d a lit)
  | 0x09 => fjIf (bz && litOk28 lit) (.ptoi e d a lit)
  | _ => none

/-- Accumulator group, op 0x03; lit[1:0] is the accumulator and lit[4:2] must be 0 (R97, R98). -/
def decodeAcc (e : CtxId) (d a b : VReg) (fx : Nat) (lit : BitVec 5) : Option Instr :=
  let n : BitVec 2 := lit.extractLsb' 0 2
  let z := lit.extractLsb' 2 3 == 0
  let dz := z && d == 0
  let bz := z && b == 0
  match fx with
  | 0x00 => fjIf dz (.pmac e n a b)
  | 0x01 => fjIf dz (.pmsb e n a b)
  | 0x02 => fjIf (dz && b == 0) (.accld e n a)
  | 0x03 => fjIf (dz && b == 0) (.accadd e n a)
  | 0x04 => fjIf (bz && a == 0) (.accrd e d n)
  | 0x05 => fjIf (dz && a == 0 && b == 0) (.accclr e n)
  | 0x06 => fjIf (bz && a == 0) (.acclo e d n)
  | 0x07 => fjIf (bz && a == 0) (.acchi e d n)
  | 0x08 => fjIf dz (.accset e n a b)
  | _ => none

/-- CLARKE, op 0x20, and the pair forms 0x21 to 0x23 (R108, R110). -/
def decodeTransform (e : CtxId) (op : Nat) (d a b : VReg) (fx : Nat) (lit : BitVec 5) : Option Instr :=
  let z := lit == 0 && dstPair d
  match op, fx with
  | 0x20, 0 => fjIf (z && srcPair a) (.clarke e d a b)
  | 0x20, 1 => fjIf (z && srcPair a && b == 0) (.clarke2 e d a)
  | 0x21, 0 => fjIf (z && srcPair a) (.park e d a b)
  | 0x22, 0 => fjIf (z && srcPair a) (.ipark e d a b)
  | 0x23, 0 => fjIf (z && b == 0) (.sincos e d a)
  | _, _ => none

/-- LIM, TBL, TBLU, COMMIT, WAIT: register format with a primary opcode of their own (R109, R114, R117, R118, R124,
R125). -/
def decodeReg (e : CtxId) (op : Nat) (d a b : VReg) (fx : Nat) (lit : BitVec 5) (p : Par) : Option Instr :=
  match op, fx with
  | 0x25, 0 => fjIf (lit == 0 && dstPair b) (.lim e d a b)
  | 0x25, 1 => fjIf (lit == 0) (.lims e d a b)
  | 0x28, 0 => fjIf (tblLit e lit) (.tbl e d a b lit (parN 7 p 1) (parBad p (1, false)))
  | 0x29, 0 => fjIf (isLathe e && decide (lit.toNat < 16)) (.tblu e d a b lit (parN 7 p 1) (parBad p (1, false)))
  | 0x31, 0 => fjIf (isLathe e && a == 0 && b == 0 && lit == 0) (.commit e d)
  | 0x34, 0 => fjIf (a == 0 && b == 0 && lit == 0 && (isLathe e || d == 0)) (.wait e d)
  | _, _ => none

/-- SYS, op 0x3C, on the Headstock (R109, R129). -/
def decodeSys (e : CtxId) (d a b : VReg) (fx : Nat) (lit : BitVec 5) (p : Par) : Option Instr :=
  let z := lit == 0 && !isLathe e
  match fx with
  | 0 => fjIf (z && b == 0) (.sysRd e d a p)
  | 1 => fjIf (z && b == 0) (.sysMrd e d a p)
  | 2 => fjIf z (.sysWr e d a b)
  | 4 => fjIf (z && b == 0) (.sysCmd e d a (parN 67 p 1) (parBad p 0) [] 0)
  | _ => none

/-- PLAN, op 0x30 (R122): sw [6:0], p [9:8], mode [11:10]. -/
def decodePlan (e : CtxId) (d a : VReg) (imm : BitVec 16) : Option Instr :=
  let sw : BitVec 7 := imm.extractLsb' 0 7
  let p : BitVec 2 := imm.extractLsb' 8 2
  let z := isLathe e && imm.extractLsb' 7 1 == 0 && imm.extractLsb' 12 4 == 0 && decide (sw.toNat < 96)
  match (imm.extractLsb' 10 2).toNat with
  | 0 => fjIf z (.plant e d a sw p)
  | 1 => fjIf z (.planf e d a sw p)
  | 2 => fjIf (z && d == 0 && a == 0 && p == 0) (.planc e sw)
  | _ => none

/-- The reads of device data, op 0x2C to 0x2F (R119): a = 0. -/
def decodeData (e : CtxId) (op : Nat) (d a : VReg) (imm : BitVec 16) : Option Instr :=
  let z := a == 0
  let lo6 : Fin 64 := ⟨(imm.extractLsb' 0 6).toNat, (imm.extractLsb' 0 6).isLt⟩
  let lo2 : Fin 4 := ⟨(imm.extractLsb' 0 2).toNat, (imm.extractLsb' 0 2).isLt⟩
  let hi2 : Fin 4 := ⟨(imm.extractLsb' 6 2).toNat, (imm.extractLsb' 6 2).isLt⟩
  let q : BitVec 6 := imm.extractLsb' 2 6
  let top := imm.extractLsb' 8 8 == 0
  match op with
  | 0x2C => fjIf (z && top) (.avg e d lo6 hi2)
  | 0x2D => fjIf (z && imm.extractLsb' 7 9 == 0) (.smp e d lo6 (imm.extractLsb' 6 1 == 1))
  | 0x2E => fjIf (z && top && decide (q.toNat ≤ 10)) (.grid e d lo2 q)
  | 0x2F => fjIf (z && top && decide (q.toNat ≤ 10)) (.mtr e d lo2 q)
  | _ => none

/-- The immediate, branch and jump formats of the lower half (R99 to R102). -/
def decodeImm (e : CtxId) (op : Nat) (d a : VReg) (imm : BitVec 16) (p : Par) : Option Instr :=
  match op with
  | 0x04 => some (.ld e d a imm p)
  | 0x05 => some (.st e d a imm)
  | 0x07 => fjIf (a == 0) (.jl e d imm)
  | 0x08 => fjIf (a == 0) (.pli e d imm)
  | 0x09 => some (.paddi e d a imm)
  | 0x0A => some (.addi e d a imm)
  | 0x0B => some (.clti e d a imm)
  | 0x0C => some (.andi e d a imm)
  | 0x0D => some (.ori e d a imm)
  | 0x0E => some (.xori e d a imm)
  | 0x0F => fjIf (a == 0) (.lhi e d imm)
  | 0x10 => some (.beq e d a imm)
  | 0x11 => some (.bne e d a imm)
  | 0x12 => some (.blt e d a imm)
  | 0x13 => some (.bge e d a imm)
  | 0x14 => some (.bltu e d a imm)
  | 0x15 => some (.bgeu e d a imm)
  | 0x24 => some (.pi e d a imm (parN 6 p 1) (parBad p 0))
  | 0x26 => some (.ramp e d a imm (parN 3 p 1) (parBad p 0))
  | 0x35 => fjIf (isLathe e && d == 0 && a == 0) (.evt e imm)
  | 0x36 => fjIf (d == 0 && a == 0 && imm.extractLsb' 8 8 == 0) (.sfclr e imm false)
  | 0x3E => fjIf (d == 0 && a == 0) (.brk e imm)
  | _ => none

/-- The instruction that a fetched word is on the engine of `e`; none where it is a reserved encoding or illegal there
(R85, R86, R108, R109). `p` is the parity outcome of the reads of the instruction. -/
def decodeFj (e : CtxId) (w : Word) (p : Par) : Option Instr :=
  let op := (fjOp w).toNat
  let fx := (fjFx w).toNat
  match op with
  | 0x01 => decodeInt e (fjD w) (fjA w) (fjB w) fx (fjLit w)
  | 0x02 => decodePu e (fjD w) (fjA w) (fjB w) fx (fjLit w)
  | 0x03 => decodeAcc e (fjD w) (fjA w) (fjB w) fx (fjLit w)
  | 0x20 => decodeTransform e op (fjD w) (fjA w) (fjB w) fx (fjLit w)
  | 0x21 => decodeTransform e op (fjD w) (fjA w) (fjB w) fx (fjLit w)
  | 0x22 => decodeTransform e op (fjD w) (fjA w) (fjB w) fx (fjLit w)
  | 0x23 => decodeTransform e op (fjD w) (fjA w) (fjB w) fx (fjLit w)
  | 0x25 => decodeReg e op (fjD w) (fjA w) (fjB w) fx (fjLit w) p
  | 0x28 => decodeReg e op (fjD w) (fjA w) (fjB w) fx (fjLit w) p
  | 0x29 => decodeReg e op (fjD w) (fjA w) (fjB w) fx (fjLit w) p
  | 0x31 => decodeReg e op (fjD w) (fjA w) (fjB w) fx (fjLit w) p
  | 0x34 => decodeReg e op (fjD w) (fjA w) (fjB w) fx (fjLit w) p
  | 0x3C => decodeSys e (fjD w) (fjA w) (fjB w) fx (fjLit w) p
  | 0x30 => decodePlan e (fjD w) (fjA w) (fjImm w)
  | 0x2C => decodeData e op (fjD w) (fjA w) (fjImm w)
  | 0x2D => decodeData e op (fjD w) (fjA w) (fjImm w)
  | 0x2E => decodeData e op (fjD w) (fjA w) (fjImm w)
  | 0x2F => decodeData e op (fjD w) (fjA w) (fjImm w)
  | _ => decodeImm e op (fjD w) (fjA w) (fjImm w) p

/-! ### Encoder -/

/-- An accumulator index in lit[1:0]. -/
def accLit (n : BitVec 2) : BitVec 5 := (0 : BitVec 3) ++ n

/-- The imm16 of a PLAN (R122). -/
def planImm (mode p : BitVec 2) (sw : BitVec 7) : BitVec 16 := (0 : BitVec 4) ++ mode ++ p ++ (0 : BitVec 1) ++ sw

/-- The word of an instruction; 0 for a command that is no instruction. -/
def encodeFj : Instr → Word
  | .add _ d a b => regWord 0x01 d a b 0x00 0
  | .sub _ d a b => regWord 0x01 d a b 0x01 0
  | .adds _ d a b => regWord 0x01 d a b 0x02 0
  | .subs _ d a b => regWord 0x01 d a b 0x03 0
  | .and _ d a b => regWord 0x01 d a b 0x04 0
  | .or _ d a b => regWord 0x01 d a b 0x05 0
  | .xor _ d a b => regWord 0x01 d a b 0x06 0
  | .andn _ d a b => regWord 0x01 d a b 0x07 0
  | .shl _ d a b => regWord 0x01 d a b 0x08 0
  | .shr _ d a b => regWord 0x01 d a b 0x09 0
  | .sar _ d a b => regWord 0x01 d a b 0x0A 0
  | .shli _ d a lit => regWord 0x01 d a 0 0x0B lit
  | .shri _ d a lit => regWord 0x01 d a 0 0x0C lit
  | .sari _ d a lit => regWord 0x01 d a 0 0x0D lit
  | .mul _ d a b => regWord 0x01 d a b 0x10 0
  | .mulh _ d a b => regWord 0x01 d a b 0x11 0
  | .div _ d a b => regWord 0x01 d a b 0x12 0
  | .clt _ d a b => regWord 0x01 d a b 0x14 0
  | .cltu _ d a b => regWord 0x01 d a b 0x15 0
  | .ceq _ d a b => regWord 0x01 d a b 0x16 0
  | .min _ d a b => regWord 0x01 d a b 0x17 0
  | .max _ d a b => regWord 0x01 d a b 0x18 0
  | .jlr _ d a => regWord 0x01 d a 0 0x1E 0
  | .sfrd _ d => regWord 0x01 d 0 0 0x1F 0
  | .padd _ d a b => regWord 0x02 d a b 0x00 0
  | .psub _ d a b => regWord 0x02 d a b 0x01 0
  | .pneg _ d a => regWord 0x02 d a 0 0x02 0
  | .pabs _ d a => regWord 0x02 d a 0 0x03 0
  | .pmul _ d a b => regWord 0x02 d a b 0x04 0
  | .pshl _ d a lit => regWord 0x02 d a 0 0x05 lit
  | .pshr _ d a lit => regWord 0x02 d a 0 0x06 lit
  | .pdiv _ d a b => regWord 0x02 d a b 0x07 0
  | .itop _ d a lit => regWord 0x02 d a 0 0x08 lit
  | .ptoi _ d a lit => regWord 0x02 d a 0 0x09 lit
  | .pmac _ n a b => regWord 0x03 0 a b 0x00 (accLit n)
  | .pmsb _ n a b => regWord 0x03 0 a b 0x01 (accLit n)
  | .accld _ n a => regWord 0x03 0 a 0 0x02 (accLit n)
  | .accadd _ n a => regWord 0x03 0 a 0 0x03 (accLit n)
  | .accrd _ d n => regWord 0x03 d 0 0 0x04 (accLit n)
  | .accclr _ n => regWord 0x03 0 0 0 0x05 (accLit n)
  | .acclo _ d n => regWord 0x03 d 0 0 0x06 (accLit n)
  | .acchi _ d n => regWord 0x03 d 0 0 0x07 (accLit n)
  | .accset _ n a b => regWord 0x03 0 a b 0x08 (accLit n)
  | .ld _ d a imm _ => immWord 0x04 d a imm
  | .st _ d a imm => immWord 0x05 d a imm
  | .jl _ d t => immWord 0x07 d 0 t
  | .pli _ d imm => immWord 0x08 d 0 imm
  | .paddi _ d a imm => immWord 0x09 d a imm
  | .addi _ d a imm => immWord 0x0A d a imm
  | .clti _ d a imm => immWord 0x0B d a imm
  | .andi _ d a imm => immWord 0x0C d a imm
  | .ori _ d a imm => immWord 0x0D d a imm
  | .xori _ d a imm => immWord 0x0E d a imm
  | .lhi _ d imm => immWord 0x0F d 0 imm
  | .beq _ d a off => immWord 0x10 d a off
  | .bne _ d a off => immWord 0x11 d a off
  | .blt _ d a off => immWord 0x12 d a off
  | .bge _ d a off => immWord 0x13 d a off
  | .bltu _ d a off => immWord 0x14 d a off
  | .bgeu _ d a off => immWord 0x15 d a off
  | .clarke _ d a b => regWord 0x20 d a b 0 0
  | .clarke2 _ d a => regWord 0x20 d a 0 1 0
  | .park _ d a b => regWord 0x21 d a b 0 0
  | .ipark _ d a b => regWord 0x22 d a b 0 0
  | .sincos _ d a => regWord 0x23 d a 0 0 0
  | .pi _ d a blk _ _ => immWord 0x24 d a blk
  | .lim _ d a b => regWord 0x25 d a b 0 0
  | .lims _ d a b => regWord 0x25 d a b 1 0
  | .ramp _ d a blk _ _ => immWord 0x26 d a blk
  | .tbl _ d a b lit _ _ => regWord 0x28 d a b 0 lit
  | .tblu _ d a b lit _ _ => regWord 0x29 d a b 0 lit
  | .avg _ d x sel => immWord 0x2C d 0 ((0 : BitVec 8) ++ BitVec.ofFin (w := 2) sel ++ BitVec.ofFin (w := 6) x)
  | .smp _ d x raw => immWord 0x2D d 0 ((0 : BitVec 9) ++ BitVec.ofBool raw ++ BitVec.ofFin (w := 6) x)
  | .grid _ d g q => immWord 0x2E d 0 ((0 : BitVec 8) ++ q ++ BitVec.ofFin (w := 2) g)
  | .mtr _ d m q => immWord 0x2F d 0 ((0 : BitVec 8) ++ q ++ BitVec.ofFin (w := 2) m)
  | .plant _ d a sw p => immWord 0x30 d a (planImm 0 p sw)
  | .planf _ d a sw p => immWord 0x30 d a (planImm 1 p sw)
  | .planc _ sw => immWord 0x30 0 0 (planImm 2 0 sw)
  | .commit _ d => regWord 0x31 d 0 0 0 0
  | .wait _ d => regWord 0x34 d 0 0 0 0
  | .evt _ imm => immWord 0x35 0 0 imm
  | .sfclr _ imm _ => immWord 0x36 0 0 imm
  | .sysRd _ d a _ => regWord 0x3C d a 0 0 0
  | .sysMrd _ d a _ => regWord 0x3C d a 0 1 0
  | .sysWr _ d a b => regWord 0x3C d a b 2 0
  | .sysCmd _ d a _ _ _ _ => regWord 0x3C d a 0 4 0
  | .brk _ code => immWord 0x3E 0 0 code
  | _ => 0

/-! ### Engine and parity operands of an instruction -/

/-- The context that issues the instruction; none for a command that is no instruction. -/
def engineFj : Instr → Option CtxId
  | .add e _ _ _ => some e
  | .sub e _ _ _ => some e
  | .adds e _ _ _ => some e
  | .subs e _ _ _ => some e
  | .and e _ _ _ => some e
  | .or e _ _ _ => some e
  | .xor e _ _ _ => some e
  | .andn e _ _ _ => some e
  | .shl e _ _ _ => some e
  | .shr e _ _ _ => some e
  | .sar e _ _ _ => some e
  | .shli e _ _ _ => some e
  | .shri e _ _ _ => some e
  | .sari e _ _ _ => some e
  | .mul e _ _ _ => some e
  | .mulh e _ _ _ => some e
  | .div e _ _ _ => some e
  | .clt e _ _ _ => some e
  | .cltu e _ _ _ => some e
  | .ceq e _ _ _ => some e
  | .min e _ _ _ => some e
  | .max e _ _ _ => some e
  | .jlr e _ _ => some e
  | .sfrd e _ => some e
  | .padd e _ _ _ => some e
  | .psub e _ _ _ => some e
  | .pneg e _ _ => some e
  | .pabs e _ _ => some e
  | .pmul e _ _ _ => some e
  | .pshl e _ _ _ => some e
  | .pshr e _ _ _ => some e
  | .pdiv e _ _ _ => some e
  | .itop e _ _ _ => some e
  | .ptoi e _ _ _ => some e
  | .pmac e _ _ _ => some e
  | .pmsb e _ _ _ => some e
  | .accld e _ _ => some e
  | .accadd e _ _ => some e
  | .accrd e _ _ => some e
  | .accclr e _ => some e
  | .acclo e _ _ => some e
  | .acchi e _ _ => some e
  | .accset e _ _ _ => some e
  | .pli e _ _ => some e
  | .paddi e _ _ _ => some e
  | .addi e _ _ _ => some e
  | .clti e _ _ _ => some e
  | .andi e _ _ _ => some e
  | .ori e _ _ _ => some e
  | .xori e _ _ _ => some e
  | .lhi e _ _ => some e
  | .beq e _ _ _ => some e
  | .bne e _ _ _ => some e
  | .blt e _ _ _ => some e
  | .bge e _ _ _ => some e
  | .bltu e _ _ _ => some e
  | .bgeu e _ _ _ => some e
  | .jl e _ _ => some e
  | .ld e _ _ _ _ => some e
  | .st e _ _ _ => some e
  | .clarke e _ _ _ => some e
  | .clarke2 e _ _ => some e
  | .park e _ _ _ => some e
  | .ipark e _ _ _ => some e
  | .sincos e _ _ => some e
  | .pi e _ _ _ _ _ => some e
  | .lim e _ _ _ => some e
  | .lims e _ _ _ => some e
  | .ramp e _ _ _ _ _ => some e
  | .tbl e _ _ _ _ _ _ => some e
  | .tblu e _ _ _ _ _ _ => some e
  | .avg e _ _ _ => some e
  | .smp e _ _ _ => some e
  | .grid e _ _ _ => some e
  | .mtr e _ _ _ => some e
  | .plant e _ _ _ _ => some e
  | .planf e _ _ _ _ => some e
  | .planc e _ => some e
  | .commit e _ => some e
  | .wait e _ => some e
  | .evt e _ => some e
  | .sfclr e _ _ => some e
  | .sysRd e _ _ _ => some e
  | .sysMrd e _ _ _ => some e
  | .sysWr e _ _ _ => some e
  | .sysCmd e _ _ _ _ _ _ => some e
  | .brk e _ => some e
  | _ => none

/-- The instruction with every read clean: the parity outcome is no part of its word. -/
def cleanFj : Instr → Instr
  | .ld e d a imm _ => .ld e d a imm .clean
  | .pi e d a blk _ _ => .pi e d a blk 0 none
  | .ramp e d a blk _ _ => .ramp e d a blk 0 none
  | .tbl e d a b lit _ _ => .tbl e d a b lit 0 none
  | .tblu e d a b lit _ _ => .tblu e d a b lit 0 none
  | .sfclr e imm _ => .sfclr e imm false
  | .sysRd e d a _ => .sysRd e d a .clean
  | .sysMrd e d a _ => .sysMrd e d a .clean
  | .sysCmd e d a _ _ _ _ => .sysCmd e d a 0 none [] 0
  | i => i

end Sys2Proof
end

