-- ==== Sys2Proof/Machine/Immediate.lean ====
section
/-! DEFINITION. The immediate instructions (R99). -/

namespace Sys2Proof.Machine

/-- PLI: sext(imm16) × 2^16 (R99). -/
def execPli (e : CtxId) (d : VReg) (imm : BitVec 16) (s : State) : Res :=
  .next (s.regOp0 e d 1 fun _ => (imm ++ (0 : BitVec 16) : Word))

/-- PADDI (R99). -/
def execPaddi (e : CtxId) (d a : VReg) (imm : BitVec 16) (s : State) : Res :=
  .next (s.regOp e d 1 fun c => fPaddi (c.rd a) imm)

/-- ADDI: wraps (R99). -/
def execAddi (e : CtxId) (d a : VReg) (imm : BitVec 16) (s : State) : Res :=
  .next (s.regOp0 e d 1 fun c => c.rd a + imm.signExtend 32)

/-- CLTI (R99). -/
def execClti (e : CtxId) (d a : VReg) (imm : BitVec 16) (s : State) : Res :=
  .next (s.regOp0 e d 1 fun c => bword (decide ((c.rd a).toInt < imm.toInt)))

/-- ANDI (R99). -/
def execAndi (e : CtxId) (d a : VReg) (imm : BitVec 16) (s : State) : Res :=
  .next (s.regOp0 e d 1 fun c => c.rd a &&& imm.zeroExtend 32)

/-- ORI (R99). -/
def execOri (e : CtxId) (d a : VReg) (imm : BitVec 16) (s : State) : Res :=
  .next (s.regOp0 e d 1 fun c => c.rd a ||| imm.zeroExtend 32)

/-- XORI (R99). -/
def execXori (e : CtxId) (d a : VReg) (imm : BitVec 16) (s : State) : Res :=
  .next (s.regOp0 e d 1 fun c => c.rd a ^^^ imm.zeroExtend 32)

/-- LHI (R99). -/
def execLhi (e : CtxId) (d : VReg) (imm : BitVec 16) (s : State) : Res :=
  .next (s.regOp0 e d 1 fun _ => (imm ++ (0 : BitVec 16) : Word))

end Sys2Proof.Machine
end

