-- ==== Sys2Proof/Machine/Integer.lean ====
section
/-! DEFINITION. The integer group of Fjodjalek (R93, R94). -/

namespace Sys2Proof.Machine

/-- ADD: wraps (R93). -/
def execAdd (e : CtxId) (d a b : VReg) (s : State) : Res :=
  .next (s.regOp0 e d 1 fun c => c.rd a + c.rd b)

/-- SUB: wraps (R93). -/
def execSub (e : CtxId) (d a b : VReg) (s : State) : Res :=
  .next (s.regOp0 e d 1 fun c => c.rd a - c.rd b)

/-- ADDS (R93). -/
def execAdds (e : CtxId) (d a b : VReg) (s : State) : Res :=
  .next (s.regOp e d 1 fun c => fAdds (c.rd a) (c.rd b))

/-- SUBS (R93). -/
def execSubs (e : CtxId) (d a b : VReg) (s : State) : Res :=
  .next (s.regOp e d 1 fun c => fSubs (c.rd a) (c.rd b))

/-- AND (R93). -/
def execAnd (e : CtxId) (d a b : VReg) (s : State) : Res :=
  .next (s.regOp0 e d 1 fun c => c.rd a &&& c.rd b)

/-- OR (R93). -/
def execOr (e : CtxId) (d a b : VReg) (s : State) : Res :=
  .next (s.regOp0 e d 1 fun c => c.rd a ||| c.rd b)

/-- XOR (R93). -/
def execXor (e : CtxId) (d a b : VReg) (s : State) : Res :=
  .next (s.regOp0 e d 1 fun c => c.rd a ^^^ c.rd b)

/-- ANDN (R93). -/
def execAndn (e : CtxId) (d a b : VReg) (s : State) : Res :=
  .next (s.regOp0 e d 1 fun c => c.rd a &&& ~~~c.rd b)

/-- SHL by Vb[4:0] (R93). -/
def execShl (e : CtxId) (d a b : VReg) (s : State) : Res :=
  .next (s.regOp0 e d 1 fun c => c.rd a <<< ((c.rd b).toNat % 32))

/-- SHR by Vb[4:0] (R93). -/
def execShr (e : CtxId) (d a b : VReg) (s : State) : Res :=
  .next (s.regOp0 e d 1 fun c => c.rd a >>> ((c.rd b).toNat % 32))

/-- SAR by Vb[4:0] (R93). -/
def execSar (e : CtxId) (d a b : VReg) (s : State) : Res :=
  .next (s.regOp0 e d 1 fun c => (c.rd a).sshiftRight ((c.rd b).toNat % 32))

/-- SHLI (R93). -/
def execShli (e : CtxId) (d a : VReg) (lit : BitVec 5) (s : State) : Res :=
  .next (s.regOp0 e d 1 fun c => c.rd a <<< lit.toNat)

/-- SHRI (R93). -/
def execShri (e : CtxId) (d a : VReg) (lit : BitVec 5) (s : State) : Res :=
  .next (s.regOp0 e d 1 fun c => c.rd a >>> lit.toNat)

/-- SARI (R93). -/
def execSari (e : CtxId) (d a : VReg) (lit : BitVec 5) (s : State) : Res :=
  .next (s.regOp0 e d 1 fun c => (c.rd a).sshiftRight lit.toNat)

/-- MUL, 2 slots (R93). -/
def execMul (e : CtxId) (d a b : VReg) (s : State) : Res :=
  .next (s.regOp e d 2 fun c => fMul (c.rd a) (c.rd b))

/-- MULH, 2 slots (R93). -/
def execMulh (e : CtxId) (d a b : VReg) (s : State) : Res :=
  .next (s.regOp0 e d 2 fun c => fMulh (c.rd a) (c.rd b))

/-- DIV, 16 slots (R93, R94). -/
def execDiv (e : CtxId) (d a b : VReg) (s : State) : Res :=
  .next (s.regOp e d 16 fun c => fDiv (c.rd a) (c.rd b))

/-- CLT: signed (R93). -/
def execClt (e : CtxId) (d a b : VReg) (s : State) : Res :=
  .next (s.regOp0 e d 1 fun c => bword (decide ((c.rd a).toInt < (c.rd b).toInt)))

/-- CLTU: unsigned (R93). -/
def execCltu (e : CtxId) (d a b : VReg) (s : State) : Res :=
  .next (s.regOp0 e d 1 fun c => bword (decide ((c.rd a).toNat < (c.rd b).toNat)))

/-- CEQ (R93). -/
def execCeq (e : CtxId) (d a b : VReg) (s : State) : Res :=
  .next (s.regOp0 e d 1 fun c => bword (c.rd a == c.rd b))

/-- MIN: signed (R93). -/
def execMin (e : CtxId) (d a b : VReg) (s : State) : Res :=
  .next (s.regOp0 e d 1 fun c => fMin (c.rd a) (c.rd b))

/-- MAX: signed (R93). -/
def execMax (e : CtxId) (d a b : VReg) (s : State) : Res :=
  .next (s.regOp0 e d 1 fun c => fMax (c.rd a) (c.rd b))

/-- JLR: the target is what Va held before (R93, R94). -/
def execJlr (e : CtxId) (d a : VReg) (s : State) : Res :=
  .next (s.issue e fun s => s.jump e d (s.ctx[e].rd a).toNat)

/-- SFRD: SF is read, not cleared (R88, R93). -/
def execSfrd (e : CtxId) (d : VReg) (s : State) : Res :=
  .next (s.regOp0 e d 1 fun c => c.sf.zeroExtend 32)

end Sys2Proof.Machine
end

