-- ==== Sys2Proof/Machine/LoadStore.lean ====
section
/-! DEFINITION. Loads and stores of data memory (R102, R103), with their watchpoints (R428). -/

namespace Sys2Proof.Machine

/-- LD, 2 slots: the window is checked first, then the word's parity (R72, R102). -/
def execLd (e : CtxId) (d a : VReg) (imm : BitVec 16) (p : Par) (s : State) : Res :=
  .next (s.issue e fun s =>
    match s.window e (effOff (s.ctx[e].rd a) imm) with
    | none => s.engineFault e 3
    | some w => s.parityRead e p (dmemAddr e w) fun s x =>
      (s.done e d (x, 0) 2).watch e [w] [])

/-- ST: field d names the source (R102, R103). -/
def execSt (e : CtxId) (d a : VReg) (imm : BitVec 16) (s : State) : Res :=
  .next (s.issue e fun s =>
    let off := effOff (s.ctx[e].rd a) imm
    match s.window e off with
    | none => s.engineFault e 3
    | some w =>
      let s1 := s.storeWord e off w (s.ctx[e].rd d)
      (s1.setCtx e (s1.ctx[e].step 1)).watch e [] [w])

end Sys2Proof.Machine
end

