-- ==== Sys2Proof/Machine/LoopPrim.lean ====
section
/-! DEFINITION. Loop primitives: PI, LIM, RAMP (R112 to R115). -/

namespace Sys2Proof.Machine

/-- The byte address of word `j` of a block at window offset `blk`, if the block's `n` words lie in the window
(loop primitives: R112, R115). -/
def State.blockAt (s : State) (e : CtxId) (blk n : Nat) : Option Nat :=
  match s.window e blk, s.window e (blk + n - 1) with
  | some w, some _ => some w
  | _, _ => none

/-- What one step of PI computes (R112): the new integrator, the output and the flags. -/
def piStep (kp ki hi lo i err : Word) : Word × Word × BitVec 8 :=
  let pi := satFlag (rshRound (ki.toInt * err.toInt) 28) fSatMul
  let sm := satFlag (i.toInt + pi.1.toInt) fSatAdd
  let i' := clampInt lo.toInt hi.toInt sm.1.toInt
  let pp := satFlag (rshRound (kp.toInt * err.toInt) 28) fSatMul
  let o := satFlag (pp.1.toInt + i') fSatAdd
  let out := clampInt lo.toInt hi.toInt o.1.toInt
  (BitVec.ofInt 32 i', BitVec.ofInt 32 out,
    pi.2 ||| sm.2 ||| pp.2 ||| o.2 |||
      flagIf (decide (sm.1.toInt < lo.toInt) || decide (hi.toInt < sm.1.toInt)) fPiClamp)

/-- PI, 6 slots (R112, R113): `rp` words passed a parity replay, `bad` failed it. -/
def execPi (e : CtxId) (d a : VReg) (blk : BitVec 16) (rp : Fin 6) (bad : Option (Fin 5)) (s : State) : Res :=
  .next (s.issue e fun s =>
    match s.blockAt e blk.toNat 5 with
    | none => s.engineFault e 3
    | some w =>
      s.parityBlock e rp (bad.map fun j => (engineNo e, dmemAddr e (w + j))) fun s =>
        let m (j : Nat) : Word := s.mw (dmemAddr e (w + j))
        let r := piStep (m 0) (m 1) (m 2) (m 3) (m 4) (s.ctx[e].rd a)
        ((s.storeWord e (blk.toNat + 4) (w + 4) r.1).done e d r.2 6).watch e [w, w + 1, w + 2, w + 3, w + 4] [w + 4])

/-- LIM (R114): the limits are the pair b, 2 to 30. -/
def execLim (e : CtxId) (d a b : VReg) (s : State) : Res :=
  .next (s.issueIf e (dstPairOk b) fun s =>
    let c := s.ctx[e]
    s.done e d (BitVec.ofInt 32 (clampInt (c.rd (pairHi b)).toInt (c.rd b).toInt (c.rd a).toInt), 0) 1)

/-- LIMS (R114): the limit is sat(|Vb|). -/
def execLims (e : CtxId) (d a b : VReg) (s : State) : Res :=
  .next (s.regOp0 e d 1 fun c =>
    let m := (fPabs (c.rd b)).1.toInt
    BitVec.ofInt 32 (clampInt (-m) m (c.rd a).toInt))

/-- One ramp step from `x` toward `t` at rate `r` (R115). -/
def rampStep (r x t : Word) : Word :=
  if r.toInt ≤ 0 then x
  else if (t.toInt - x.toInt).natAbs ≤ r.toInt.natAbs then t
  else BitVec.ofInt 32 (x.toInt + r.toInt * isign (t.toInt - x.toInt))

/-- RAMP, 4 slots (R115, R103). -/
def execRamp (e : CtxId) (d a : VReg) (blk : BitVec 16) (rp : Fin 3) (bad : Option (Fin 2)) (s : State) : Res :=
  .next (s.issue e fun s =>
    match s.blockAt e blk.toNat 3 with
    | none => s.engineFault e 3
    | some w =>
      s.parityBlock e rp (bad.map fun j => (engineNo e, dmemAddr e (w + j))) fun s =>
        let t := s.ctx[e].rd a
        let x := rampStep (s.mw (dmemAddr e w)) (s.mw (dmemAddr e (w + 1))) t
        let s1 := s.storeWord e (blk.toNat + 1) (w + 1) x
        ((s1.storeWord e (blk.toNat + 2) (w + 2) (bword (x == t))).done e d (x, 0) 4).watch e [w, w + 1] [w + 1, w + 2])

end Sys2Proof.Machine
end

