-- ==== Sys2Proof/Machine/PerUnit.lean ====
section
/-! DEFINITION. The per-unit group (R94 to R96). -/

namespace Sys2Proof.Machine

/-- PADD (R95). -/
def execPadd (e : CtxId) (d a b : VReg) (s : State) : Res :=
  .next (s.regOp e d 1 fun c => fPadd (c.rd a) (c.rd b))

/-- PSUB (R95). -/
def execPsub (e : CtxId) (d a b : VReg) (s : State) : Res :=
  .next (s.regOp e d 1 fun c => fPsub (c.rd a) (c.rd b))

/-- PNEG (R95). -/
def execPneg (e : CtxId) (d a : VReg) (s : State) : Res :=
  .next (s.regOp e d 1 fun c => fPneg (c.rd a))

/-- PABS (R95). -/
def execPabs (e : CtxId) (d a : VReg) (s : State) : Res :=
  .next (s.regOp e d 1 fun c => fPabs (c.rd a))

/-- PMUL, 2 slots (R95, R96). -/
def execPmul (e : CtxId) (d a b : VReg) (s : State) : Res :=
  .next (s.regOp e d 2 fun c => fPmul (c.rd a) (c.rd b))

/-- PSHL (R95). -/
def execPshl (e : CtxId) (d a : VReg) (lit : BitVec 5) (s : State) : Res :=
  .next (s.regOp e d 1 fun c => fPshl (c.rd a) lit.toNat)

/-- PSHR (R95). -/
def execPshr (e : CtxId) (d a : VReg) (lit : BitVec 5) (s : State) : Res :=
  .next (s.regOp0 e d 1 fun c => fPshr (c.rd a) lit.toNat)

/-- PDIV, 16 slots (R94, R95). -/
def execPdiv (e : CtxId) (d a b : VReg) (s : State) : Res :=
  .next (s.regOp e d 16 fun c => fPdiv (c.rd a) (c.rd b))

/-- ITOP: a literal above 28 is a reserved encoding (R85, R95). -/
def execItop (e : CtxId) (d a : VReg) (lit : BitVec 5) (s : State) : Res :=
  .next (
    s.issueIf e (decide (lit.toNat ≤ 28)) fun s => s.done e d (fItop (s.ctx[e].rd a) lit.toNat) 1)

/-- PTOI: a literal above 28 is a reserved encoding (R85, R95). -/
def execPtoi (e : CtxId) (d a : VReg) (lit : BitVec 5) (s : State) : Res :=
  .next (
    s.issueIf e (decide (lit.toNat ≤ 28)) fun s => s.done e d (fPtoi (s.ctx[e].rd a) lit.toNat, 0) 1)

end Sys2Proof.Machine
end

