-- ==== Sys2Proof/Machine/Plans.lean ====
section
/-! DEFINITION. PLAN and COMMIT (R20, R82, R122 to R124). -/

namespace Sys2Proof.Machine

/-- The stage period that PLAN converts with: the length fixed for the next period, or STG_PER while the timebase is
stopped (R123, R173). -/
def State.planPeriod (s : State) (k : Stage) : Nat := if s.tbRuns k then s.tNext k else s.f (F.STG_PER_per k)

/-- An instant of PLAN in taps, limited to 0 to P_t, and whether it was limited (R123). -/
def planInstant (frac : Bool) (pt : Nat) (w : Word) : Nat × Bool :=
  let lim : Int := if frac then 268435456 else pt
  let x := clampInt 0 lim w.toInt
  ((if frac then rshRound (x * pt) 28 else x).toNat, decide (w.toInt < 0 ∨ lim < w.toInt))

/-- Write a pulse slot of the pending plan; a slot with off ≤ on is empty (R123). -/
def setSlot (p : Plan) (key on off : Nat) : Plan :=
  if on < off then smIns p key (on, off) else smErase p key

/-- A PLAN that writes a slot (R122, R123): illegal on the Headstock, reserved above SW95, discarded for a switch that
the stage does not own. -/
def State.planSlot (s : State) (e : CtxId) (d a : VReg) (sw : BitVec 7) (p : BitVec 2) (frac : Bool) : State :=
  s.issue e fun s =>
    match stageOf e with
    | none => s.engineFault e 1
    | some k =>
      if 96 ≤ sw.toNat then s.engineFault e 1
      else if s.owns k sw.toNat then
        let on := planInstant frac (s.planPeriod k) (s.ctx[e].rd d)
        let off := planInstant frac (s.planPeriod k) (s.ctx[e].rd a)
        let s1 := s.setStg k { s.stg[k] with pend := setSlot s.stg[k].pend (4 * sw.toNat + p.toNat) on.1 off.1 }
        s1.setCtx e ((s1.ctx[e].flag (flagIf (on.2 || off.2) fSatAdd)).step 2)
      else s.setCtx e (s.ctx[e].step 2)

/-- PLANT: instants in taps (R122, R123). -/
def execPlant (e : CtxId) (d a : VReg) (sw : BitVec 7) (p : BitVec 2) (s : State) : Res :=
  .next (s.planSlot e d a sw p false)

/-- PLANF: instants as fractions of the period (R122, R123). -/
def execPlanf (e : CtxId) (d a : VReg) (sw : BitVec 7) (p : BitVec 2) (s : State) : Res :=
  .next (s.planSlot e d a sw p true)

/-- PLANC: clears the four slots of a switch (R122, R123). -/
def execPlanc (e : CtxId) (sw : BitVec 7) (s : State) : Res :=
  .next (s.issue e fun s =>
    match stageOf e with
    | none => s.engineFault e 1
    | some k =>
      if 96 ≤ sw.toNat then s.engineFault e 1
      else
        let s1 := if s.owns k sw.toNat then
            s.setStg k { s.stg[k] with pend := s.stg[k].pend.filter fun x => x.1 / 4 != sw.toNat }
          else s
        s1.setCtx e (s1.ctx[e].step 2))

/-- LTH_MARGIN of a commit: the time to the opening of the guard window in REF cycles, 0 and deferred inside it; nothing
while the timebase is stopped (R82). -/
def State.noteMargin (s : State) (k : Stage) (late : Bool) : State :=
  let n := kn k
  let j := kc k
  let m := if late then 0 else (s.reloadAt k - guardTaps - s.etime) / refTaps
  let s1 := s.put (F.LTH_MARGIN_ref_cyc n j) (min m (s.f (F.LTH_MARGIN_ref_cyc n j)))
  if late then s1.put (F.LTH_MARGIN_deferred n j) 1 else s1

/-- The pending plan becomes the committed plan, or is held for the following period inside the guard window (R20,
R124). -/
def State.commitPlan (s : State) (k : Stage) : State :=
  let g := s.stg[k]
  if s.inWindow k then
    ((s.setStg k { g with held := some g.pend }).bump (F.STG_PLAN_DEFER_count k)).noteMargin k true
  else if s.inGuard k then
    ((s.setStg k { g with com := g.pend, held := none }).bump (F.STG_PLAN_DEFER_count k)).noteMargin k true
  else
    let s1 := s.setStg k { g with com := g.pend, held := none }
    if s.tbRuns k then s1.noteMargin k false else s1

/-- The status word of COMMIT. With the timebase stopped no reload instant is coming and no guard window is open, and bit 0 is
set (R124; assumption 86, DESIGN CHOICE: R124 does not speak of a stopped timebase). -/
def State.commitWord (s : State) (k : Stage) : Word :=
  BitVec.ofNat 32 ((if s.inGuard k then 2 else 1) + 4 * b2n (s.swStopped k))

/-- COMMIT; illegal on the Headstock (R109, R124). -/
def execCommit (e : CtxId) (d : VReg) (s : State) : Res :=
  .next (s.issue e fun s =>
    match stageOf e with
    | none => s.engineFault e 1
    | some k => (s.commitPlan k).done e d (s.commitWord k, 0) 2)

end Sys2Proof.Machine
end

