-- ==== Sys2Proof/Machine/Commands.lean ====
section
/-! DEFINITION. What each command does once it starts (R335, R336, R346 to R349, R365, R367 to R376, R382, R398, R415,
R436). -/

namespace Sys2Proof.Machine

/-- A command completes with a result that names no part (R364). -/
def State.answer (s : State) (c : Cmd) (r : Nat) : State := s.finishR c.id r

/-- A completion with data. -/
def State.answerData (s : State) (c : Cmd) (word : Nat) (data : List Byte) : State :=
  s.finish c.id rOk 0xFF rOk word data

/-! ### NOP, PING, READ -/

def State.runNop (s : State) (c : Cmd) : State := s.answer c (if c.pl.isEmpty then rOk else rBadArg)

def State.runPing (s : State) (c : Cmd) : State :=
  if c.pl.length ≤ 252 then s.answerData c 0 c.pl else s.answer c rBadArg

/-- The parity outcome of the word with index `i` of a command that reads several: `ps` are those of the words from index
`bad` on; every other word reads clean (R72). -/
def parAt (ps : List Par) (bad i : Nat) : Par := if i < bad then .clean else (ps[i - bad]?).getD .clean

/-- The words of a READ from `a`, with their parity outcomes (R72, R365). -/
def State.readWords (s : State) (a : Nat) (p : List Par) (bad : Nat) :
    Nat → Nat → List Word → Nat × Nat × List Word × State
  | _, 0, acc => (rOk, 0, acc.reverse, s)
  | i, n + 1, acc =>
    let (r, w, s1) := s.readWord a (parAt p bad i)
    if r ≠ rOk then (r, i, [], s1) else s1.readWords (a + 4) p bad (i + 1) n (w :: acc)

/-- READ (R365): judged whole, then read word by word. -/
def State.runRead (s : State) (c : Cmd) (p : List Par) (bad : Nat) : State :=
  let a := bytesAt c.pl 0 4
  let n := byteAt c.pl 4
  if c.pl.length ≠ 8 ∨ n = 0 ∨ 63 < n ∨ bytesAt c.pl 5 3 ≠ 0 then s.answer c rBadArg
  else match (List.range n).find? fun i => (a + 4 * i) % 4 != 0 || !mapped (a + 4 * i) with
    | some i => s.finish c.id rBadArg 0xFF rBadArg i []
    | none =>
      let (r, i, ws, s1) := s.readWords a p bad 0 n []
      if r ≠ rOk then s1.finish c.id r 0xFF r i [] else s1.answerData c 0 (ws.flatMap wordBytes)

/-! ### WRITE, PERSIST_WRITE -/

/-- WRITE (R370): completes when its last word has taken effect; what its words held is kept for a rollback (R375). A save
that it asks for in vain sets MTR_EVT.save_fail all the same (R301, R305). -/
def State.runWriteCmd (s : State) (c : Cmd) : State :=
  match s.cmdParts c with
  | some [ws] =>
    let saved := s.saveParts 0 [ws]
    let (r, i, s1) := s.write c.port (some c.id) ws
    if r ≠ rOk then s1.finish c.id r 0xFF r i [] else s1.applying c.id saved []
  | _ => s.answer c rBadArg

/-- The bank address of a persistent word: in the bank, or through a window (R214, R258, R371, R406). -/
def bankAddr (a : Nat) : Option Nat :=
  if a % 4 ≠ 0 then none
  else if 0xB0000 ≤ a ∧ a < 0xB1000 then some a
  else if (rowAt a).rp = 0 then none
  else if 0x50000 ≤ a ∧ a < 0x5C000 then
    some (0xB0400 + 8 * (8 * ((a - 0x50000) / 0x1000) + (a % 0x1000 - 0x100) / 0x20) + (a % 8))
  else if 0x71000 ≤ a ∧ a < 0x71400 then some (0xB0800 + (a - 0x71000))
  else none

/-- The rule of a persistent word by its bank address (R214, R259, R396, R407, R421): factory words, reserved words, the
bounds of an adaptive loop, a running interface or network. -/
def State.bankCode (s t : State) (b : Nat) (v : Word) : Nat :=
  let w := (b - 0xB0000) / 4
  if w < 0x10 then rBadArg
  else if 0x12 ≤ w ∧ w < 0x18 then (if v = 0 then rOk else rBadArg)
  else if 0x100 ≤ w ∧ w < 0x1C0 then
    let sw := (w - 0x100) / 2
    let n := sw / 8
    let i := sw % 8
    if t.f (F.GL_ABND0_dt_min n i) ≤ t.f (F.GL_ABND0_dt_max n i) ∧ t.f (F.GL_ABND1_src_min n i) ≤ t.f (F.GL_ABND1_src_max n i)
      ∧ t.f (F.GL_ABND1_snk_min n i) ≤ t.f (F.GL_ABND1_snk_max n i) then rOk else rBadArg
  else if 0x200 ≤ w ∧ w < 0x300 then
    if (w - 0x200) % 0x40 < 0x2C ∧ s.fb (F.GRD_CTL_en ((w - 0x200) / 0x40)) then rRunning else rOk
  else if 0x300 ≤ w ∧ w < 0x308 then
    if s.fb (F.PRT_NCTL_en ((w - 0x300) / 4)) then rRunning else rOk
  else rOk

/-- The bits of a persistent word that exist: the fields of its register, of the Devar settings, all of a word the spec
gives no fields; a reserved bit is not written and reads 0 (R7, R258, R396, R421). -/
def bankMask (b : Nat) : Nat :=
  if b = 0xB0044 then 0xFF01
  else if 0xB0800 ≤ b ∧ b < 0xB0C00 ∧ 0xB0 ≤ (b - 0xB0800) % 0x100 then 0
  else match regRow? (home b) with
    | some r => r.rp
    | none => 2 ^ 32 - 1

/-- PERSIST_WRITE (R368, R371): validated whole, with authority for the GL registers of a stage's switches; then its words go
to the write unit. -/
def State.runPersist (s : State) (c : Cmd) : State :=
  match s.cmdParts c with
  | some [ws] =>
    match ws.mapM fun w => bankAddr w.addr with
    | none => s.answer c rBadArg
    | some bs =>
      let t := ws.foldl (fun (s : State) w => s.setReg w.addr w.val) s
      let mine := firstBad (fun w => if s.mayWrite c.port w.addr then rOk else rAuthority) 0 ws
      let bad := if mine.1 ≠ rOk then mine else firstBad (fun x => s.bankCode t x.addr x.val) 0 ((bs.zip ws).map fun x => ⟨x.1, x.2.val⟩)
      if bad.1 ≠ rOk then s.finish c.id bad.1 0xFF bad.1 bad.2 []
      else match (List.range bs.length).find? fun i => s.atLimit ((bs[i]?).getD 0) with
        | some i => (s.refuseWord ((bs[i]?).getD 0)).finish c.id rEndurance 0xFF rEndurance i []
        | none =>
          let reqs := (bs.zip ws).map fun x => (⟨x.1, x.2.val &&& BitVec.ofNat 32 (bankMask x.1), 0, some c.id⟩ : WReq)
          let s1 := s.updCmd c.id fun c => { c with
            ph := .writing, res := rOk, part := 0xFF, cause := rOk, todo := reqs.map fun q => ⟨q.addr, q.val⟩ }
          { s1 with wq := s1.wq ++ reqs }.storeNext
  | _ => s.answer c rBadArg

/-! ### LOAD_PROGRAM (R372, R413 to R415) -/

/-- A function of the banks outside CONFIGURE and STANDBY; the download boot is the exception (R372, R398). -/
def State.bankMode (s : State) : Bool := s.mode == mConfigure || s.mode == mStandby || s.downloads

/-- Function 0. -/
def State.runErase (s : State) (c : Cmd) : State :=
  if 8 < c.pl.length then s.answer c rBadArg
  else if !s.bankMode then s.answer c rMode
  else if 10000 ≤ s.f (if s.activeB then F.PRS_PSA_erases else F.PRS_PSB_erases) then s.answer c rEndurance
  else { s.updCmd c.id fun c => { c with ph := .writing } with erasing := some (some c.id) }

/-- Function 1: inside the bank, into erased bytes, and not the generation word; with no data bytes it is done at once. -/
def State.runBankWrite (s : State) (c : Cmd) : State :=
  let o := bytesAt c.pl 4 4
  let d := c.pl.drop 8
  let n := d.length
  if !s.bankMode then s.answer c rMode
  else if o % 4 ≠ 0 ∨ 0x40000 < o + n ∨ (o < 0x40 ∧ 0x3C < o + n) then s.answer c rBadArg
  else if (List.range n).any fun i => s.mb (s.inactiveBase + o + i) != 0xFF then s.answer c rBadArg
  else
    let ws := wordsOf (d ++ List.replicate ((4 - n % 4) % 4) 0xFF)
    let reqs := (List.range ws.length).zip ws |>.map fun x => (⟨s.inactiveBase + o + 4 * x.1, x.2, some c.id⟩ : PReq)
    let s1 := s.updCmd c.id fun c => { c with ph := .writing }
    if n = 0 then s.answer c rOk else { s1 with pq := s1.pq ++ reqs }

/-- Function 2: a bank that passes gets the next generation and becomes active. -/
def State.runCheck (s : State) (c : Cmd) : State :=
  if 8 < c.pl.length then s.answer c rBadArg
  else if !s.bankMode then s.answer c rMode
  else if !s.imageOk s.inactiveBase then s.answer c rBadArg
  else
    let g := s.genOf s.activeBase
    let gen := if g = 0xFFFFFFFF then 1 else g + 1
    let s1 := s.updCmd c.id fun c => { c with ph := .writing }
    { s1 with pq := s1.pq ++ [⟨s.inactiveBase + 0x3C, BitVec.ofNat 32 gen, some c.id⟩] }

/-- Function 3: a Lathe needs both stages held and both contexts stopped, the Headstock to be stopped (R68, R368). -/
def State.runLoad (s : State) (c : Cmd) : State :=
  if h : byteAt c.pl 1 < 7 then
    let m : Fin 7 := ⟨byteAt c.pl 1, h⟩
    if 8 < c.pl.length then s.answer c rBadArg
    else if m.val < 6 ∧ (s.holder (2 * m.val) ≠ c.port ∨ s.holder (2 * m.val + 1) ≠ c.port) then s.answer c rAuthority
    else if (ctxsOf m).any s.ctxOn then s.answer c rRunning
    else (s.loadEngine s.activeBase m).finish c.id rOk 0xFF rOk 0 []
  else s.answer c rBadArg

def State.runProgram (s : State) (c : Cmd) : State :=
  if c.pl.length < 8 ∨ 256 < c.pl.length ∨ bytesAt c.pl 2 2 ≠ 0 then s.answer c rBadArg
  else match byteAt c.pl 0 with
    | 0 => s.runErase c
    | 1 => s.runBankWrite c
    | 2 => s.runCheck c
    | 3 => s.runLoad c
    | _ => s.answer c rBadArg

/-! ### Stages, mode, set-points -/

/-- The stages of a two-byte mask; none where the payload is not one, or names none (R365). -/
def maskOf (pl : List Byte) (n : Nat) : Option (List Stage) :=
  let m := bytesAt pl 0 2
  if pl.length = n ∧ m ≠ 0 ∧ m < 4096 then some (stages.filter fun k => natBit m k) else none

/-- A refusal of stage k: its code where it is the only one named, PART_FAILED where several are judged whole (R374). -/
def State.refuseStage (s : State) (c : Cmd) (ks : List Stage) (k : Stage) (r : Nat) : State :=
  if ks.length = 1 then s.finish c.id r k r 0 [] else s.finish c.id rPartFailed k r 0 []

/-- START_STAGE (R168, R345, R357, R368). -/
def State.runStart (s : State) (c : Cmd) : State :=
  match maskOf c.pl 2 with
  | none => s.answer c rBadArg
  | some ks =>
    let code (k : Stage) : Nat :=
      if s.holder k ≠ c.port then rAuthority
      else if !isSwitchMode s.mode || s.halted then rMode else s.startCheck k
    match ks.find? fun k => code k != rOk with
    | some k => s.refuseStage c ks k (code k)
    | none => (ks.foldl (fun s k => s.startStage k) s).answer c rOk

/-- STOP_STAGE (R182, R368). -/
def State.runStop (s : State) (c : Cmd) : State :=
  match maskOf c.pl 2 with
  | none => s.answer c rBadArg
  | some ks =>
    match ks.find? fun (k : Stage) => s.holder k != c.port with
    | some k => s.refuseStage c ks k rAuthority
    | none => (ks.foldl (fun s k => s.stopStage k) s).answer c rOk

/-- SET_MODE (R346 to R348): an orderly stop stays in flight until its last stage is READY. -/
def State.runMode (s : State) (c : Cmd) : State :=
  if c.pl.length ≠ 1 then s.answer c rBadArg
  else
    let (r, s1, fly) := s.setMode (byteAt c.pl 0)
    if fly then
      let s2 := s1.updCmd c.id fun c => { c with ph := .stopping }
      if s2.anySwitching then s2 else s2.orderlyDone
    else s1.answer c r

/-- SETPOINT (R252). -/
def State.runSetpoint (s : State) (c : Cmd) : State :=
  match s.cmdParts c, setpOf c.pl with
  | some _, some x =>
    let r := s.setpCode c.port x
    if r ≠ rOk then s.finish c.id r 0xFF r 0 []
    else (s.stageWords x.stage c.id (s.setpWords x)).applying c.id [] (s.setpTrack x)
  | _, _ => s.answer c rBadArg

/-! ### Authority (R369) -/

/-- A claim of stage k by a port would be granted. -/
def State.grants (s : State) (port : Nat) (take : Bool) (k : Stage) : Bool :=
  let h := s.holder k
  let t := s.f F.CMD_AUTHTO_t_ms
  h == 15 || h == port || (take && t != 0 &&
    decide (((s.ports[h]?).map (·.last)).getD 0 + t * 250000 ≤ s.cyc))

/-- The words of these commands that have not taken effect are dropped: those staged, those that have not left for a pod, and
those that the write unit has not begun. A word on its way to a pod, and one that is being written, goes on by itself
(assumption 91, DESIGN CHOICE). -/
def State.dropWords (s : State) (ids : List Nat) : State :=
  let own (c : Option Nat) : Bool := c.any fun i => ids.contains i
  let s1 := links.foldl (fun (s : State) (n : Link) => s.setLnk n { s.lnk[n] with
    cfg := (s.lnk[n].cfg.filter fun w => w.sent || !own w.cmd).map fun w => if own w.cmd then { w with cmd := none } else w }) s
  { s1 with
    staged := s1.staged.filter fun w => !own w.cmd
    wq := (s1.wq.take 1).map (fun q => if q.kind == 0 && own q.cmd then { q with cmd := none } else q) ++
      (s1.wq.drop 1).filter fun q => !(q.kind == 0 && own q.cmd) }

/-- A takeover ends the former holder's commands that touch the stage and have not taken effect: those that wait to start or
to commit, that have words staged or on their way to a pod, or words of a PERSIST_WRITE with the write unit (R369, R384). -/
def State.endTaken (s : State) (port : Nat) (k : Stage) : State :=
  let h := s.holder k
  if h = 15 ∨ h = port then s
  else
    let hit := s.cmds.filter fun c => c.port == h && (s.cmdStages c).contains k &&
      (c.ph == .queued || c.ph == .armed || (c.ph == .applying && s.refers c.id) ||
        (c.ph == .writing && !(s.wordsLeft c.id).isEmpty))
    hit.foldl (fun s c => s.finishR c.id rAuthority) (s.dropWords (hit.map (·.id)))

/-- CLAIM_AUTHORITY. -/
def State.runClaim (s : State) (c : Cmd) : State :=
  match maskOf c.pl 4 with
  | none => s.answer c rBadArg
  | some ks =>
    let take := byteAt c.pl 2 == 1
    if 1 < byteAt c.pl 2 ∨ byteAt c.pl 3 ≠ 0 then s.answer c rBadArg
    else match ks.find? fun k => !s.grants c.port take k with
      | some k => s.finish c.id rPartFailed k rAuthority 0 []
      | none => (ks.foldl (fun s k => (s.endTaken c.port k).setHolder k c.port) s).answer c rOk

/-- RELEASE_AUTHORITY. -/
def State.runRelease (s : State) (c : Cmd) : State :=
  match maskOf c.pl 2 with
  | none => s.answer c rBadArg
  | some ks =>
    match ks.find? fun (k : Stage) => s.holder k != c.port && s.holder k != 15 with
    | some k => s.finish c.id rPartFailed k rAuthority 0 []
    | none => (ks.foldl (fun s k => s.setHolder k 15) s).answer c rOk

/-! ### JOURNAL_READ (R382) -/

/-- Insert an entry's address among others in index order. -/
def insEntry (idx : Nat → Nat) (a : Nat) : List Nat → List Nat
  | [] => [a]
  | b :: t => if idx a < idx b then a :: b :: t else b :: insEntry idx a t

/-- The addresses of the entries that a source holds, in index order: the RAM journal, or the persistent journal, whose
copies were written in the order of completion (R378, R380, R382). -/
def State.journalAddrs (s : State) (persistent : Bool) : List Nat :=
  if persistent then
    let n := (s.reg A.UHL_PCNT).toNat
    ((List.range (min n 512)).map fun i => 0xB2000 + 32 * ((n - min n 512 + i) % 512)).foldr
      (insEntry fun a => (s.reg a).toNat) []
  else
    let n := (s.reg A.UHL_NEXT).toNat
    let lo := max s.jLow (n - 4096)
    (List.range (n - lo)).map fun i => jAddr (lo + i)

/-- A word of a journal entry, from RAM or from the persistent store. -/
def State.jWord (s : State) (a : Nat) : Word := if 0x100000 ≤ a then s.mw a else s.reg a

/-- The words at these addresses, in order, meet their parity outcomes: code, index of the word that failed, state (R72). -/
def State.journalReads (s : State) (p : List Par) (bad : Nat) : Nat → List Nat → Nat × Nat × State
  | _, [] => (rOk, 0, s)
  | i, a :: t =>
    let (r, s1) := s.parityOf a (parAt p bad i)
    if r ≠ rOk then (r, i, s1) else s1.journalReads p bad (i + 1) t

/-- JOURNAL_READ: up to count entries that match the filter at or above the first index, in index order. A word of those it
returns that fails its replay ends the command with BAD_FRAME (R72, R382; assumption 66, DEDUCED: as a READ of that
word). -/
def State.runJournal (s : State) (c : Cmd) (p : List Par) (bad : Nat) : State :=
  let first := bytesAt c.pl 0 4
  let n := byteAt c.pl 4
  let src := byteAt c.pl 5
  let flt := byteAt c.pl 6
  if c.pl.length ≠ 8 ∨ n = 0 ∨ 7 < n ∨ 1 < src ∨ (4 < flt ∧ flt ≠ 0xFF) ∨ byteAt c.pl 7 ≠ 0 then s.answer c rBadArg
  else
    let all := s.journalAddrs (src == 1)
    let idx (a : Nat) : Nat := (s.jWord a).toNat
    let hits := (all.filter fun a => decide (first ≤ idx a) &&
      (flt == 0xFF || getBits (s.jWord (a + 4)) 16 3 == flt)).take n
    let next := match hits.getLast?, all.getLast? with
      | some a, _ => idx a + 1
      | none, some a => if src = 1 then idx a + 1 else (s.reg A.UHL_NEXT).toNat
      | none, none => (s.reg A.UHL_NEXT).toNat
    let lost : Nat := match all.head? with
      | some a => if src = 0 then b2n (decide (first < idx a)) else b2n (decide (512 < (s.reg A.UHL_PCNT).toNat ∧ first < idx a))
      | none => b2n (decide (src = 0 ∧ first < s.jLow))
    let words := hits.flatMap fun a => (List.range 8).map fun i => a + 4 * i
    let (r, j, s1) := s.journalReads p bad 0 words
    if r ≠ rOk then s1.finish c.id r 0xFF r j []
    else s1.answerData c lost (leBytes next 4 ++ words.flatMap fun a => wordBytes (s.jWord a))

/-! ### Faults, safety, metering, events -/

/-- FAULT_CLEAR (R336), RESUME (R335): no payload. -/
def State.runFaultClear (s : State) (c : Cmd) : State :=
  if !c.pl.isEmpty then s.answer c rBadArg
  else
    let (r, s1) := s.faultClear c.port
    s1.answer c r

def State.runResume (s : State) (c : Cmd) : State :=
  if !c.pl.isEmpty then s.answer c rBadArg
  else
    let (r, s1) := s.resumeFault
    s1.answer c r

/-- SAFETY_ACK (R315): judged at the next tick. -/
def State.runSafetyAck (s : State) (c : Cmd) : State :=
  if c.pl.length ≠ 2 ∨ bytesAt c.pl 0 2 = 0 then s.answer c rBadArg
  else if c.port = 4 ∧ !s.fb F.SAF_CTL_hs_ack then s.answer c rAuthority
  else s.updCmd c.id fun c => { c with ph := .tick }

/-- LATCH_METER (R293). -/
def State.runLatch (s : State) (c : Cmd) : State :=
  let m := byteAt c.pl 0
  if c.pl.length ≠ 1 ∨ m = 0 ∨ 16 ≤ m ∨ (List.range 4).any fun i => natBit m i && !s.fb (F.MTR_CTL_en i) then s.answer c rBadArg
  else s.updCmd c.id fun c => { c with ph := .latching, points := m }

/-- EVENT_MASK (R436, R437): the mask is replaced; pending bits of events it removes clear. -/
def State.runEventMask (s : State) (c : Cmd) : State :=
  let t := byteAt c.pl 0
  if c.pl.length ≠ 20 ∨ 3 < t ∨ bytesAt c.pl 1 3 ≠ 0 then s.answer c rBadArg
  else
    ([0, 1, 2, 3].foldl (fun (s : State) i =>
      let m := BitVec.ofNat 32 (bytesAt c.pl (4 + 4 * i) 4)
      (s.setReg (A.SYS_EVRT t i) m).setReg (A.SYS_EVPND t i) (s.reg (A.SYS_EVPND t i) &&& m)) s).answer c rOk

/-! ### One command -/

/-- The command is permitted in the present mode: in HOLDUP only reading ones; in a download boot those of R398 (R356). -/
def State.opAllowed (s : State) (c : Cmd) : Bool :=
  if s.mode = mHoldup then [opNop, opPing, opRead, opJournal].contains c.op
  else if s.downloads then
    [opNop, opPing, opRead].contains c.op || (c.op == opLoad && decide (byteAt c.pl 0 ≤ 2) && !c.pl.isEmpty)
  else true

/-- A started command runs. `p` are the parity outcomes of the words of a READ or JOURNAL_READ from index `bad` on. -/
def State.runCmd (s : State) (c : Cmd) (p : List Par) (bad : Nat) : State :=
  if !s.opAllowed c then s.answer c rMode
  else match c.op with
    | 0x00 => s.runNop c
    | 0x01 => s.runPing c
    | 0x02 => s.runRead c p bad
    | 0x03 => s.runWriteCmd c
    | 0x04 => s.startGroup c
    | 0x05 => s.runPersist c
    | 0x06 => s.runProgram c
    | 0x10 => s.runStart c
    | 0x11 => s.runStop c
    | 0x12 => s.runMode c
    | 0x13 => s.runSetpoint c
    | 0x14 => s.startGroup c
    | 0x20 => s.runClaim c
    | 0x21 => s.runRelease c
    | 0x22 => s.runJournal c p bad
    | 0x30 => s.runFaultClear c
    | 0x31 => s.runResume c
    | 0x32 => s.runSafetyAck c
    | 0x33 => s.runLatch c
    | 0x34 => s.runEventMask c
    | _ => s.answer c rBadArg

end Sys2Proof.Machine
end

