-- ==== Sys2Proof/Machine/Submit.lean ====
section
/-! DEFINITION. Acceptance and order of commands (R360 to R364, R367, R377): the frame check, the sequence rule, quotas,
starts; and the rows that are a well-formed command frame of a port. -/

namespace Sys2Proof.Machine

/-! ### The frame check -/

/-- A frame fails its frame check, the sequence rule apart (R362). -/
def frameBad (b : List Byte) : Bool :=
  let l := bytesAt b 4 2
  let fl := byteAt b 3
  decide (b.length < 12) || decide (256 < l) || b.length != 12 + l || byteAt b 6 != 1 || byteAt b 7 != 0 ||
    Nat.land fl 0xF9 != 0 || !knownOps.contains (byteAt b 2) ||
    (natBit fl 2 && !([opNop, opPing, opRead, opJournal].contains (byteAt b 2))) ||
    crc32 (b.take (8 + l)) != BitVec.ofNat 32 (bytesAt b (8 + l) 4)

/-- The quota of a port (R367). -/
def State.quota (s : State) (p : Nat) : Nat :=
  match p with
  | 0 => s.f F.CMD_QUOTA0_q0
  | 1 => s.f F.CMD_QUOTA0_q1
  | 2 => s.f F.CMD_QUOTA0_q2
  | 3 => s.f F.CMD_QUOTA0_q3
  | _ => s.f F.CMD_QUOTA1_q4

/-- No further command of a port is accepted: its quota, or 64 in all (R367). -/
def State.full (s : State) (p : Nat) : Bool := decide (s.quota p ≤ s.inflight p) || decide (64 ≤ s.inflightAll)

/-- The next sequence number of a port (R363). -/
def State.nextSeq (s : State) (p : Nat) : Nat := (s.f (F.CMD_PORTSTAT_last_seq p) + 1) % 65536

/-- A port takes frames: none in RESET; in a download boot only the strapped one; a network while it is enabled (R24, R32,
R398). -/
def State.portLive (s : State) (p : Nat) : Bool :=
  s.mode != mReset &&
    (if s.downloads then p == (if s.straps = 1 then 0 else 2)
    else decide (p < 2) || p == 4 || s.fb (F.PRT_NCTL_en (p - 2)))

/-! ### Start -/

/-- The registers and words that a command writes: START_STAGE and STOP_STAGE write STG_CTL.run, EVENT_MASK the masks of its
target (R168, R182, R436). -/
def State.writesOf (s : State) (c : Cmd) : List Nat :=
  if c.op = opStart ∨ c.op = opStop then (s.cmdStages c).map fun (k : Stage) => A.STG_CTL k
  else if c.op = opEventMask then [0, 1, 2, 3].map fun i => A.SYS_EVRT (byteAt c.pl 0) i
  else (s.cmdWords c).map (·.addr)

/-- A WRITE that causes a pod configuration word is a group of one part, under way until its answer or its rollback is
(R375). -/
def State.singleOn (s : State) (c : Cmd) : Bool :=
  c.op == opWrite && (c.ph == .failed || c.ph == .rolling ||
    (c.ph == .applying && (s.cmdWords c).any fun w => (podAddr w.addr).isSome))

/-- Nothing of a staged or applying group stands in the way (R367, R373, R375). -/
def State.groupsFree (s : State) (c : Cmd) : Bool :=
  let on := s.cmds.filter fun g => (g.groupOn || s.singleOn g) && g.id != c.id
  let mine := s.writesOf c
  let isGroup := c.op == opWriteGroup || c.op == opSetGroup
  on.all (fun g =>
    !((s.cmdWords g).any fun w => mine.contains w.addr) &&
      !((s.cmdStages g).any fun k => mine.contains (A.STG_PER k) || mine.contains (A.STG_SYNC k))) &&
    (!isGroup || decide ((on.filter Cmd.groupOn).length < 4))

/-- A LOAD_PROGRAM of another port, of a function from `lo` to 2, is in flight: accepted before this command, or already
started (R367, R372). -/
def State.loadAhead (s : State) (c : Cmd) (lo : Nat) : Bool :=
  let ahead := (s.cmds.takeWhile fun d => d.id != c.id).map (·.id)
  s.cmds.any fun d => d.port != c.port && d.op == opLoad && decide (lo ≤ byteAt d.pl 0) && decide (byteAt d.pl 0 ≤ 2) &&
    (ahead.contains d.id || d.ph != .queued)

/-- LOAD_PROGRAM functions 1 to 3 wait for functions 0 to 2 of another port in flight, an erase for a function 2 of another
port and for the stores to be idle; RELEASE_AUTHORITY waits for the port's own groups and ramp-tracked set-points on the
stages (R372, R384, R416). -/
def State.storesFree (s : State) (c : Cmd) : Bool :=
  if c.op = opLoad then
    if byteAt c.pl 0 = 0 then s.erasing.isNone && s.pq.isEmpty && !s.loadAhead c 2
    else !s.loadAhead c 0
  else if c.op = opRelease then
    !(s.cmds.any fun d => d.port == c.port && d.id != c.id && (d.groupOn || !d.tracks.isEmpty) &&
      (s.cmdStages d).any fun k => (s.cmdStages c).contains k)
  else true

/-- A waiting command may start: in its port's order, behind a fence, and clear of groups (R367). -/
def State.ready (s : State) (c : Cmd) : Bool :=
  let own := (s.cmds.takeWhile fun d => d.id != c.id).filter fun d => d.port == c.port
  c.ph == .queued && !(own.any fun d => d.ph == .queued) && (!c.fence || own.isEmpty) && s.groupsFree c && s.storesFree c

/-- Start a command if it is ready. -/
def State.tryStart (s : State) (id : Nat) (p : List Par) (bad : Nat) : State :=
  match s.cmd? id with
  | some c => if s.ready c then s.runCmd c p bad else s
  | none => s

/-- COMMAND_START: the first waiting command that is ready begins (R367). -/
def execCommandStart (p : List Par) (bad : Fin 63) (s : State) : Res :=
  .next (match s.cmds.find? s.ready with
    | some c => s.runCmd c p bad
    | none => s)

/-! ### Acceptance -/

/-- The command that an accepted frame makes (R361, R363, R377). -/
def State.newCmd (s : State) (p : Nat) (src b : List Byte) (desc : Option Nat) : Cmd :=
  let l := bytesAt b 4 2
  let nseq := natBit (byteAt b 3) 2
  let c : Cmd := ⟨s.nextId, p, bytesAt b 0 2, byteAt b 2, natBit (byteAt b 3) 1, nseq, (b.drop 8).take l,
    BitVec.ofNat 32 (bytesAt b (8 + l) 4), if nseq then none else some (s.reg A.UHL_NEXT).toNat, s.cyc, .queued, [], [], [], 0,
    rOk, 0xFF, rOk, 0, desc, 0, 0, 0, [], false, [], src⟩
  { c with ent := if nseq then [] else s.jEntry c }

/-- A command enters the queue: sequence, account and journal entry; a descriptor shows busy (R130, R363, R367, R377). -/
def State.enqueue (s : State) (c : Cmd) : State :=
  let s1 := if c.nseq then s else (s.put (F.CMD_PORTSTAT_last_seq c.port) c.seq).put (F.CMD_PORTSTAT_valid c.port) 1
  let s2 := if c.nseq then s1 else s1.jOpen c
  let acc : Vector PortAcc 5 := if h : c.port < 5 then s2.ports.set c.port ⟨s2.cyc, c.src⟩ else s2.ports
  let s3 := match c.desc with
    | some a => s2.setMw a (BitVec.ofNat 32 (2 ^ 31 + 256 * c.seq))
    | none => s2
  { s3 with cmds := s3.cmds ++ [c], nextId := s3.nextId + 1, ports := acc }

/-- An accepted command enters the queue, and starts if nothing holds it (R363, R367). -/
def State.accept (s : State) (p : Nat) (src b : List Byte) (desc : Option Nat) (par : List Par) (bad : Nat) : State :=
  (s.enqueue (s.newCmd p src b desc)).tryStart s.nextId par bad

/-- An answer to a frame that is not accepted (R362, R367). -/
def State.turnAway (s : State) (p : Nat) (src b : List Byte) (r : Nat) : State :=
  (if r = rQueueFull then s.bump F.CMD_CNT_queue_full else s.bump F.CMD_CNT_bad_frame).deliver p false src
    (respFrame (bytesAt b 0 2) (byteAt b 2) r 0xFF r 0 [] (byteAt b 6))

/-- The RAM journal's newest entry of a port and sequence number, as its address (R363). -/
def State.entryFor (s : State) (p q : Nat) : Option Nat :=
  (s.journalAddrs false).reverse.find? fun a =>
    getBits (s.mw (a + 4)) 0 16 == q && getBits (s.mw (a + 4)) 16 3 == p

/-- The words of a journal entry that an answer is built from meet the parity outcome `p`: a replay that passes is counted,
one that fails is class A type 0x05, instance 8 (R72, R332; assumption 66, DEDUCED). -/
def State.entryRead (s : State) (a : Nat) : Par → Bool × State
  | .clean => (true, s)
  | .replayPass => (true, s.extReplay a)
  | .replayFail => (false, (s.extReplay a).report 0x0508 .A (BitVec.ofNat 32 a))

/-- A frame with the port's last sequence number is answered from its entry, or, while it is in flight, at its completion
(R363). Where the entry cannot be read, the frame fails as where it is no longer held (R72; assumption 66, DEDUCED). -/
def State.resend (s : State) (p : Nat) (src b : List Byte) (par : Par) : State :=
  let q := bytesAt b 0 2
  if s.cmds.any fun c => c.port == p && c.seq == q && c.jidx.isSome then s
  else match s.entryFor p q with
    | some a =>
      let (ok, s1) := s.entryRead (a + 8) par
      if ok then s1.deliver p false src
        (respFrame q (s.mb (a + 7)).toNat (s.mb (a + 9)).toNat (s.mb (a + 10)).toNat (s.mb (a + 11)).toNat 0 [])
      else s1.turnAway p src b rBadFrame
    | none => s.turnAway p src b rBadFrame

/-- A frame arrives at a port (R362, R363, R367). -/
def State.submit (s : State) (p : Nat) (src b : List Byte) (par : List Par) (bad : Nat) : State :=
  let q := bytesAt b 0 2
  let nseq := natBit (byteAt b 3) 2
  let valid := s.fb (F.CMD_PORTSTAT_valid p)
  if frameBad b then s.turnAway p src b rBadFrame
  else if !nseq && valid && q == s.f (F.CMD_PORTSTAT_last_seq p) then s.resend p src b (parAt par bad 0)
  else if !nseq && valid && q != s.nextSeq p then s.turnAway p src b rBadFrame
  else if s.full p then s.turnAway p src b rQueueFull
  else s.accept p src b none par bad

/-- The well-formed frame of a command with the port's next sequence number. -/
def State.frameOf (s : State) (p op : Nat) (fence nseq : Bool) (pl : List Byte) : List Byte :=
  frame (s.nextSeq p) op (2 * b2n fence + 4 * b2n nseq) pl

/-- The row of a command: its frame arrives at partner port `p`; on a network from the latest source there. -/
def State.command (s : State) (p : Fin 4) (op : Nat) (fence nseq : Bool) (pl : List Byte) (par : List Par := [])
    (bad : Nat := 0) : Res :=
  .next (if s.portLive p then
    s.submit p (if p.val < 2 then [] else s.ports[p.val].src) (s.frameOf p op fence nseq pl) par bad else s)

/-! ### The commands' rows (R365); each takes its port, flags and payload -/

/-- NOP. -/
def execNop (p : Fin 4) (fence nseq : Bool) (pl : List Byte) (s : State) : Res := s.command p opNop fence nseq pl

/-- PING. -/
def execPing (p : Fin 4) (fence nseq : Bool) (pl : List Byte) (s : State) : Res := s.command p opPing fence nseq pl

/-- READ; `par` are the parity outcomes of its words from index `bad` on. -/
def execRead (p : Fin 4) (fence nseq : Bool) (pl : List Byte) (par : List Par) (bad : Fin 63) (s : State) : Res :=
  s.command p opRead fence nseq pl par bad

/-- WRITE. -/
def execWrite (p : Fin 4) (fence : Bool) (pl : List Byte) (s : State) : Res := s.command p opWrite fence false pl

/-- WRITE_GROUP. -/
def execWriteGroup (p : Fin 4) (fence : Bool) (pl : List Byte) (s : State) : Res := s.command p opWriteGroup fence false pl

/-- PERSIST_WRITE. -/
def execPersistWrite (p : Fin 4) (fence : Bool) (pl : List Byte) (s : State) : Res := s.command p opPersist fence false pl

/-- LOAD_PROGRAM functions 0 to 3; `pl` is the payload after the function byte. -/
def execEraseInactiveBank (p : Fin 4) (fence : Bool) (pl : List Byte) (s : State) : Res :=
  s.command p opLoad fence false (0 :: pl)

def execWriteBank (p : Fin 4) (fence : Bool) (pl : List Byte) (s : State) : Res := s.command p opLoad fence false (1 :: pl)

def execCheckBank (p : Fin 4) (fence : Bool) (pl : List Byte) (s : State) : Res := s.command p opLoad fence false (2 :: pl)

def execLoadEngine (p : Fin 4) (fence : Bool) (pl : List Byte) (s : State) : Res := s.command p opLoad fence false (3 :: pl)

/-- START_STAGE. -/
def execStartStage (p : Fin 4) (fence : Bool) (pl : List Byte) (s : State) : Res := s.command p opStart fence false pl

/-- STOP_STAGE. -/
def execStopStage (p : Fin 4) (fence : Bool) (pl : List Byte) (s : State) : Res := s.command p opStop fence false pl

/-- SET_MODE. -/
def execSetMode (p : Fin 4) (fence : Bool) (pl : List Byte) (s : State) : Res := s.command p opSetMode fence false pl

/-- SETPOINT. -/
def execSetpoint (p : Fin 4) (fence : Bool) (pl : List Byte) (s : State) : Res := s.command p opSetpoint fence false pl

/-- SETPOINT_GROUP. -/
def execSetpointGroup (p : Fin 4) (fence : Bool) (pl : List Byte) (s : State) : Res := s.command p opSetGroup fence false pl

/-- CLAIM_AUTHORITY. -/
def execClaimAuthority (p : Fin 4) (fence : Bool) (pl : List Byte) (s : State) : Res := s.command p opClaim fence false pl

/-- RELEASE_AUTHORITY. -/
def execReleaseAuthority (p : Fin 4) (fence : Bool) (pl : List Byte) (s : State) : Res :=
  s.command p opRelease fence false pl

/-- JOURNAL_READ, with the parity outcomes of the words it returns. -/
def execJournalRead (p : Fin 4) (fence nseq : Bool) (q : JournalAsk) (s : State) : Res :=
  s.command p opJournal fence nseq q.pl q.par q.bad

/-- FAULT_CLEAR. -/
def execFaultClear (p : Fin 4) (fence : Bool) (pl : List Byte) (s : State) : Res := s.command p opFaultClear fence false pl

/-- RESUME. -/
def execResume (p : Fin 4) (fence : Bool) (pl : List Byte) (s : State) : Res := s.command p opResume fence false pl

/-- SAFETY_ACK. -/
def execSafetyAck (p : Fin 4) (fence : Bool) (pl : List Byte) (s : State) : Res := s.command p opSafetyAck fence false pl

/-- LATCH_METER. -/
def execLatchMeter (p : Fin 4) (fence : Bool) (pl : List Byte) (s : State) : Res := s.command p opLatch fence false pl

/-- EVENT_MASK. -/
def execEventMask (p : Fin 4) (fence : Bool) (pl : List Byte) (s : State) : Res := s.command p opEventMask fence false pl

end Sys2Proof.Machine
end

