-- ==== Sys2Proof/Machine/System.lean ====
section
/-! DEFINITION. The Headstock's SYS instructions (R129, R130) and BRK (R131). -/

namespace Sys2Proof.Machine

/-- The unit that a memory word's failed replay names (R332). -/
def memUnit (a : Nat) : Nat :=
  if 0x200000 ≤ a ∧ a < 0x260000 then (a - 0x200000) / 0x10000
  else if 0x280000 ≤ a ∧ a < 0x290000 then 6
  else if 0x300000 ≤ a ∧ a < 0x318000 then 7
  else if 0x340000 ≤ a ∧ a < 0x360000 then 8
  else 10

/-- A register read by SYS RD: the word, and the state after the read's side effects. A refused window of a context that is
not in HALT and a register-bus word that fails its replay have no stated value (R72, R129, R408, R433; assumption 2, DESIGN
CHOICE). A read of a companion or of a read-to-clear register whose replay fails has its side effects as one that passes
(R72, R82; assumption 87, DESIGN CHOICE). -/
def State.sysRead (s : State) (e : CtxId) (a : Nat) (p : Par) : Word × State :=
  if a % 4 ≠ 0 ∨ 0xE0000 ≤ a ∨ !mapped a then (0, s)
  else if s.windowCode a ≠ rOk then s.fresh
  else if storeWordAt a then ((s.readWord a p).2.1, (s.readWord a p).2.2)
  else match p with
    | .clean => (s.show a, s.touch a)
    | .replayPass => (s.show a, (s.touch a).replayOf e)
    | .replayFail => (((s.touch a).replayOf e).report 0x0509 .A (BitVec.ofNat 32 a)).fresh

/-- SYS RD, 6 slots (R129). -/
def execSysRd (e : CtxId) (d a : VReg) (p : Par) (s : State) : Res :=
  .next (s.issueIf e (e == hs) fun s =>
    let (w, s1) := s.sysRead e (s.ctx[e].rd a).toNat p
    s1.done e d (w, 0) 6)

/-- SYS MRD, 6 slots, 12 in the program-store window, whose words carry no parity (R72, R129). -/
def execSysMrd (e : CtxId) (d a : VReg) (p : Par) (s : State) : Res :=
  .next (s.issueIf e (e == hs) fun s =>
    let x := (s.ctx[e].rd a).toNat
    if x % 4 ≠ 0 ∨ x < 0x100000 ∨ !mapped x then s.done e d (0, 0) (if 0x400000 ≤ x ∧ x < 0x480000 then 12 else 6)
    else if 0x400000 ≤ x then s.done e d (s.mw x, 0) 12
    else match p with
      | .clean => s.done e d (s.mw x, 0) 6
      | .replayPass => (s.replayOf e).done e d (s.mw x, 0) 6
      | .replayFail => s.parityFail e (memUnit x) x)

/-- SYS WR, 2 slots (R76, R129). An address inside the Headstock data memory that is not word-aligned is refused as one
outside it is: Vd = 1, nothing written (R129; assumption 74, DESIGN CHOICE: R129 gives that outcome for RD and MRD
alone). -/
def execSysWr (e : CtxId) (d a b : VReg) (s : State) : Res :=
  .next (s.issueIf e (e == hs) fun s =>
    let x := (s.ctx[e].rd a).toNat
    if x % 4 = 0 ∧ 0x280000 ≤ x ∧ x < 0x290000 then (s.setMw x (s.ctx[e].rd b)).done e d (0, 0) 2
    else s.done e d (1, 0) 2)

/-- `n` bytes of memory from `a`. -/
def State.bytesFrom (s : State) (a n : Nat) : List Byte := (List.range n).map fun i => s.mb (a + i)

/-- The descriptor at data word `w` of the Headstock: its opcode and flags, the payload's length (R130). -/
def State.descOf (s : State) (w : Nat) : Nat × Nat × Nat :=
  let x := (s.mw (dmemAddr hs (w + 1))).toNat
  (getBits x 0 8, getBits x 8 8, getBits x 16 16)

/-- The descriptor's words, to the last that its payload needs, lie in the data memory (R129). -/
def State.descFits (s : State) (w : Nat) : Bool :=
  decide (w + 1 < 16384) && decide (w + 2 + ((s.descOf w).2.2 + 3) / 4 ≤ 16384)

/-- A descriptor's command enters the queue, or is refused at once (R129, R130, R362, R367): the Vd value. -/
def State.submitDesc (s : State) (w : Nat) (par : List Par) (bad : Nat) : Word × State :=
  let (op, fl, n) := s.descOf w
  let a := dmemAddr hs w
  let b := frame (s.nextSeq 4) op fl (s.bytesFrom (a + 8) n)
  if frameBad b then (1, (s.bump F.CMD_CNT_bad_frame).setMw a (BitVec.ofNat 32 rBadFrame))
  else if s.full 4 then (1, (s.bump F.CMD_CNT_queue_full).setMw a (BitVec.ofNat 32 rQueueFull))
  else (0, s.accept 4 [] b (some a) par bad)

/-- SYS CMD, 8 slots (R129, R130): `rp` words of the descriptor passed a parity replay, word `lost` failed it; `par`
are the parity outcomes of the words that a READ command reads as it starts, from index `bad` on. -/
def execSysCmd (e : CtxId) (d a : VReg) (rp : Fin 67) (lost : Option (Fin 66)) (par : List Par) (bad : Fin 63) (s : State) : Res :=
  .next (s.issueIf e (e == hs) fun s =>
    let w := (s.ctx[e].rd a).toNat
    if !s.descFits w then s.done e d (1, 0) 8
    else
      s.parityBlock e rp (lost.map fun j => (6, dmemAddr hs (w + j))) fun s =>
        let (v, s1) := s.submitDesc w par bad
        s1.done e d (v, 0) 8)

/-- BRK (R131, R429): halts its engine after itself if an unlocked session has software breakpoints enabled there. -/
def execBrk (e : CtxId) (code : BitVec 16) (s : State) : Res :=
  .next (s.issue e fun s =>
    let s1 := s.setCtx e (s.ctx[e].step 1)
    let m := engineOf e
    if s1.fb (F.DBG_ECFG_sw_en m) && s1.fb F.DBG_STAT_unlocked then
      (s1.put (F.DBG_ESTAT_brk m) code.toNat).trigger e 4 0
    else s1)

end Sys2Proof.Machine
end

