-- ==== Sys2Proof/Machine/Triggers.lean ====
section
/-! DEFINITION. The rows of the table that are a write of one register by itself (R6): the writer is partner port `p`, 0 to
4, or 5 for the Devar port. Each is judged and carried out as the write of that register; the result code goes back to
the writer. -/

namespace Sys2Proof.Machine

/-- A write of `v` to the register at `a` by writer `p`. -/
def State.direct (s : State) (p : Fin 6) (a : Nat) (v : Word) : Res := .next (s.writeOut p a v)

/-- The bit `b` of a word. -/
def bit (b : Nat) : Word := BitVec.ofNat 32 (2 ^ b)

/-- START_CONTEXT, STOP_CONTEXT, CLEAR_CONTEXT_STATS: LTH_CTL of a Lathe context (R62, R81). -/
def execStartContext (p : Fin 6) (k : Stage) (s : State) : Res := s.direct p (A.LTH_CTL (kn k)) (bit (kc k))

def execStopContext (p : Fin 6) (k : Stage) (s : State) : Res := s.direct p (A.LTH_CTL (kn k)) (bit (4 + kc k))

def execClearContextStats (p : Fin 6) (k : Stage) (s : State) : Res := s.direct p (A.LTH_CTL (kn k)) (bit (8 + kc k))

/-- HS_START, HS_STOP, HS_CLEAR_RUNMAX: LTH_HS_CTL (R83). -/
def execHsStart (p : Fin 6) (s : State) : Res := s.direct p A.LTH_HS_CTL (bit 0)

def execHsStop (p : Fin 6) (s : State) : Res := s.direct p A.LTH_HS_CTL (bit 1)

def execHsClearRunmax (p : Fin 6) (s : State) : Res := s.direct p A.LTH_HS_CTL (bit 2)

/-- HS_TIMER_WRITE (R79). -/
def execHsTimerWrite (p : Fin 6) (i : Fin 2) (v : Word) (s : State) : Res := s.direct p (A.LTH_HS_TMR i) v

/-- ADC_RESTART, ADC_CALIBRATE: ADC_CTL (R135, R152). -/
def execAdcRestart (p : Fin 6) (mask : BitVec 4) (s : State) : Res := s.direct p A.ADC_CTL (mask.zeroExtend 32)

def execAdcCalibrate (p : Fin 6) (s : State) : Res := s.direct p A.ADC_CTL (bit 8)

/-- ADC_SCAN_WRITE (R134). -/
def execAdcScanWrite (p : Fin 6) (a : Fin 4) (mask : BitVec 16) (s : State) : Res :=
  s.direct p (A.ADC_SCAN a) (mask.zeroExtend 32)

/-- MM_CLR: ADC_PLST.mm_clr (R144). -/
def execMmClr (p : Fin 6) (e : Fin 64) (s : State) : Res := s.direct p (A.ADC_PLST e) (bit 8)

/-- COMPARATOR_ENABLE: CMP_CFG with en set (R162). -/
def execComparatorEnable (p : Fin 6) (c : Fin 24) (s : State) : Res :=
  s.direct p (A.CMP_CFG c) (s.reg (A.CMP_CFG c) ||| bit 0)

/-- CMP_TRIP_CLEAR: CMP_STAT.trip (R165). -/
def execCmpTripClear (p : Fin 6) (c : Fin 24) (s : State) : Res := s.direct p (A.CMP_STAT c) (bit 2)

/-- STG_RUN_SET, STG_RUN_CLEAR, STG_TB_WRITE, STG_CLR: STG_CTL (R168, R182, R189). -/
def execStgRunSet (p : Fin 6) (k : Stage) (s : State) : Res := s.direct p (A.STG_CTL k) (s.reg (A.STG_CTL k) ||| bit 1)

def execStgRunClear (p : Fin 6) (k : Stage) (s : State) : Res :=
  s.direct p (A.STG_CTL k) (s.reg (A.STG_CTL k) &&& ~~~bit 1)

def execStgTbWrite (p : Fin 6) (k : Stage) (on : Bool) (s : State) : Res :=
  s.direct p (A.STG_CTL k) ((s.reg (A.STG_CTL k) &&& ~~~bit 0) ||| BitVec.ofNat 32 (b2n on))

def execStgClr (p : Fin 6) (k : Stage) (s : State) : Res := s.direct p (A.STG_CTL k) (s.reg (A.STG_CTL k) ||| bit 4)

/-- TABLE_CLEAR_BAND, TABLE_STAT_CLEAR: STG_TBLCTL (R229, R232). -/
def execTableClearBand (p : Fin 6) (k : Stage) (bands : BitVec 4) (s : State) : Res :=
  s.direct p (A.STG_TBLCTL k) ((s.reg (A.STG_TBLCTL k)) ||| (bands.zeroExtend 32 <<< 8))

def execTableStatClear (p : Fin 6) (k : Stage) (s : State) : Res :=
  s.direct p (A.STG_TBLCTL k) (s.reg (A.STG_TBLCTL k) ||| bit 12)

/-- ENSEQ_REQUEST: GL_CTL.enseq (R203). -/
def execEnseqRequest (p : Fin 6) (n : Link) (s : State) : Res := s.direct p (A.GL_CTL n) (s.reg (A.GL_CTL n) ||| bit 1)

/-- GRD_TCLR, GRD_ENABLE: GRD_CTL (R247, R257). -/
def execGrdTclr (p : Fin 6) (g : Fin 4) (s : State) : Res := s.direct p (A.GRD_CTL g) (s.reg (A.GRD_CTL g) ||| bit 3)

def execGrdEnable (p : Fin 6) (g : Fin 4) (s : State) : Res := s.direct p (A.GRD_CTL g) (s.reg (A.GRD_CTL g) ||| bit 0)

/-- ISL_TCLR, RC_START: ISL_CTL (R278, R283). -/
def execIslTclr (p : Fin 6) (g : Fin 4) (s : State) : Res := s.direct p (A.ISL_CTL g) (s.reg (A.ISL_CTL g) ||| bit 3)

def execRcStart (p : Fin 6) (g : Fin 4) (s : State) : Res := s.direct p (A.ISL_CTL g) (s.reg (A.ISL_CTL g) ||| bit 4)

/-- CONTACTOR_CLOSE, CONTACTOR_OPEN: ISL_KCTL (R280). -/
def execContactorClose (p : Fin 6) (s : State) : Res := s.direct p A.ISL_KCTL (bit 0)

def execContactorOpen (p : Fin 6) (s : State) : Res := s.direct p A.ISL_KCTL (bit 1)

/-- ENERGY_SAVE_NOW: MTR_SAVE.now (R297). -/
def execEnergySaveNow (p : Fin 6) (s : State) : Res := s.direct p A.MTR_SAVE (s.reg A.MTR_SAVE ||| bit 16)

/-- METER_DISCARD, METER_ENABLE: MTR_CTL (R285, R299). -/
def execMeterDiscard (p : Fin 6) (m : Fin 4) (s : State) : Res := s.direct p (A.MTR_CTL m) (s.reg (A.MTR_CTL m) ||| bit 1)

def execMeterEnable (p : Fin 6) (m : Fin 4) (s : State) : Res := s.direct p (A.MTR_CTL m) (s.reg (A.MTR_CTL m) ||| bit 0)

/-- SAF_CLR: SAF_CTL.clr (R326). -/
def execSafClr (p : Fin 6) (s : State) : Res := s.direct p A.SAF_CTL (s.reg A.SAF_CTL ||| bit 4)

/-- FLT_CCLR, AUTO_EN_WRITE: FLT_CTL (R338, R342). -/
def execFltCclr (p : Fin 6) (s : State) : Res := s.direct p A.FLT_CTL (s.reg A.FLT_CTL ||| bit 4)

def execAutoEnWrite (p : Fin 6) (on : Bool) (s : State) : Res :=
  s.direct p A.FLT_CTL (BitVec.ofNat 32 (b2n on))

/-- SYS_MODEREQ_WRITE (R359). -/
def execSysModereqWrite (p : Fin 6) (target : BitVec 4) (s : State) : Res :=
  s.direct p A.SYS_MODEREQ (target.zeroExtend 32)

/-- NET_ENABLE: PRT_NCTL with en set (R394). -/
def execNetEnable (p : Fin 6) (i : Fin 2) (s : State) : Res :=
  s.direct p (A.PRT_NCTL i) (s.reg (A.PRT_NCTL i) ||| bit 0)

/-- MDIO_START: PRT_MDIO with go set; address, direction and data as given (R399). -/
def execMdioStart (p : Fin 6) (reg phy : BitVec 5) (wr : Bool) (data : BitVec 16) (s : State) : Res :=
  s.direct p A.PRT_MDIO (BitVec.ofNat 32
    (reg.toNat + 32 * phy.toNat + 1024 * b2n wr + 2048 + 65536 * data.toNat))

/-- RTC_SET: a write of SYS_RTC_SEC (R441). -/
def execRtcSet (p : Fin 6) (sec : Word) (s : State) : Res := s.direct p A.SYS_RTC_SEC sec

/-- RTC_SET_DONE: the RTC's handshake completes: seconds set, sub-second count 0, valid set (R441). -/
def execRtcSetDone (s : State) : Res :=
  .next (match s.rtcPend with
    | none => s
    | some v =>
      { ((s.setReg A.SYS_RTC_SEC v).put F.SYS_RTC_SUB_ms 0).put F.SYS_RTC_SUB_valid 1 with rtcPend := none, rtcSub := 0 })

end Sys2Proof.Machine
end

