-- ==== Sys2Proof/Machine/Debug.lean ====
section
/-! DEFINITION. The Devar debug port (R418 to R433) and the reserved encodings (R85): packets, the session, single
steps, breakpoints. -/

namespace Sys2Proof.Machine

/-! ### Running one fetched word -/

/-- The state that an outcome goes on with. -/
def nextOr (s : State) : Res → State
  | .next t => t
  | _ => s

/-- A decoded instruction of an engine issues. -/
def issueFj (s : State) : Instr → State
  | .add e d a b => nextOr s (execAdd e d a b s)
  | .sub e d a b => nextOr s (execSub e d a b s)
  | .adds e d a b => nextOr s (execAdds e d a b s)
  | .subs e d a b => nextOr s (execSubs e d a b s)
  | .and e d a b => nextOr s (execAnd e d a b s)
  | .or e d a b => nextOr s (execOr e d a b s)
  | .xor e d a b => nextOr s (execXor e d a b s)
  | .andn e d a b => nextOr s (execAndn e d a b s)
  | .shl e d a b => nextOr s (execShl e d a b s)
  | .shr e d a b => nextOr s (execShr e d a b s)
  | .sar e d a b => nextOr s (execSar e d a b s)
  | .shli e d a lit => nextOr s (execShli e d a lit s)
  | .shri e d a lit => nextOr s (execShri e d a lit s)
  | .sari e d a lit => nextOr s (execSari e d a lit s)
  | .mul e d a b => nextOr s (execMul e d a b s)
  | .mulh e d a b => nextOr s (execMulh e d a b s)
  | .div e d a b => nextOr s (execDiv e d a b s)
  | .clt e d a b => nextOr s (execClt e d a b s)
  | .cltu e d a b => nextOr s (execCltu e d a b s)
  | .ceq e d a b => nextOr s (execCeq e d a b s)
  | .min e d a b => nextOr s (execMin e d a b s)
  | .max e d a b => nextOr s (execMax e d a b s)
  | .jlr e d a => nextOr s (execJlr e d a s)
  | .sfrd e d => nextOr s (execSfrd e d s)
  | .padd e d a b => nextOr s (execPadd e d a b s)
  | .psub e d a b => nextOr s (execPsub e d a b s)
  | .pneg e d a => nextOr s (execPneg e d a s)
  | .pabs e d a => nextOr s (execPabs e d a s)
  | .pmul e d a b => nextOr s (execPmul e d a b s)
  | .pshl e d a lit => nextOr s (execPshl e d a lit s)
  | .pshr e d a lit => nextOr s (execPshr e d a lit s)
  | .pdiv e d a b => nextOr s (execPdiv e d a b s)
  | .itop e d a lit => nextOr s (execItop e d a lit s)
  | .ptoi e d a lit => nextOr s (execPtoi e d a lit s)
  | .pmac e n a b => nextOr s (execPmac e n a b s)
  | .pmsb e n a b => nextOr s (execPmsb e n a b s)
  | .accld e n a => nextOr s (execAccld e n a s)
  | .accadd e n a => nextOr s (execAccadd e n a s)
  | .accrd e d n => nextOr s (execAccrd e d n s)
  | .accclr e n => nextOr s (execAccclr e n s)
  | .acclo e d n => nextOr s (execAcclo e d n s)
  | .acchi e d n => nextOr s (execAcchi e d n s)
  | .accset e n a b => nextOr s (execAccset e n a b s)
  | .pli e d imm => nextOr s (execPli e d imm s)
  | .paddi e d a imm => nextOr s (execPaddi e d a imm s)
  | .addi e d a imm => nextOr s (execAddi e d a imm s)
  | .clti e d a imm => nextOr s (execClti e d a imm s)
  | .andi e d a imm => nextOr s (execAndi e d a imm s)
  | .ori e d a imm => nextOr s (execOri e d a imm s)
  | .xori e d a imm => nextOr s (execXori e d a imm s)
  | .lhi e d imm => nextOr s (execLhi e d imm s)
  | .beq e d a off => nextOr s (execBeq e d a off s)
  | .bne e d a off => nextOr s (execBne e d a off s)
  | .blt e d a off => nextOr s (execBlt e d a off s)
  | .bge e d a off => nextOr s (execBge e d a off s)
  | .bltu e d a off => nextOr s (execBltu e d a off s)
  | .bgeu e d a off => nextOr s (execBgeu e d a off s)
  | .jl e d target => nextOr s (execJl e d target s)
  | .ld e d a imm p => nextOr s (execLd e d a imm p s)
  | .st e d a imm => nextOr s (execSt e d a imm s)
  | .clarke e d a b => nextOr s (execClarke e d a b s)
  | .clarke2 e d a => nextOr s (execClarke2 e d a s)
  | .park e d a b => nextOr s (execPark e d a b s)
  | .ipark e d a b => nextOr s (execIpark e d a b s)
  | .sincos e d a => nextOr s (execSincos e d a s)
  | .pi e d a blk rp bad => nextOr s (execPi e d a blk rp bad s)
  | .lim e d a b => nextOr s (execLim e d a b s)
  | .lims e d a b => nextOr s (execLims e d a b s)
  | .ramp e d a blk rp bad => nextOr s (execRamp e d a blk rp bad s)
  | .tbl e d a b lit rp bad => nextOr s (execTbl e d a b lit rp bad s)
  | .tblu e d a b lit rp bad => nextOr s (execTblu e d a b lit rp bad s)
  | .avg e d x sel => nextOr s (execAvg e d x sel s)
  | .smp e d x raw => nextOr s (execSmp e d x raw s)
  | .grid e d g q => nextOr s (execGrid e d g q s)
  | .mtr e d m q => nextOr s (execMtr e d m q s)
  | .plant e d a sw p => nextOr s (execPlant e d a sw p s)
  | .planf e d a sw p => nextOr s (execPlanf e d a sw p s)
  | .planc e sw => nextOr s (execPlanc e sw s)
  | .commit e d => nextOr s (execCommit e d s)
  | .wait e d => nextOr s (execWait e d s)
  | .evt e imm => nextOr s (execEvt e imm s)
  | .sfclr e imm fp => nextOr s (execSfclr e imm fp s)
  | .sysRd e d a p => nextOr s (execSysRd e d a p s)
  | .sysMrd e d a p => nextOr s (execSysMrd e d a p s)
  | .sysWr e d a b => nextOr s (execSysWr e d a b s)
  | .sysCmd e d a rp lost par bad => nextOr s (execSysCmd e d a rp lost par bad s)
  | .brk e code => nextOr s (execBrk e code s)
  | _ => s

/-- The next instruction of context `e` is fetched and issues; `p` is the parity of its reads. A reserved encoding faults
(R84, R85). -/
def State.issueFetched (s : State) (e : CtxId) (p : Par) : State :=
  match decodeFj e (s.mw (imemAddr e s.ctx[e].pc)) p with
  | some i => issueFj s i
  | none => s.issue e fun s => s.engineFault e 1

/-- ILLEGAL_OPCODE: a fetched reserved encoding; nothing for a word that is an instruction (R63, R85). -/
def execIllegalOpcode (e : CtxId) (w : Word) (s : State) : Res :=
  .next (if (decodeFj e w .clean).isNone then s.issue e fun s => s.engineFault e 1 else s)

/-! ### A single step -/

/-- The end of a step: HALT again, cause 5, EV126, unless a watchpoint or BRK of the instruction has halted the engine; a
context that has left RUN and WAIT keeps its state (R426). -/
def State.endStep (s : State) (e : CtxId) (before : CtxSt) (sleeps : Bool) : State :=
  let m := engineOf e
  let s1 :=
    if s.ctx[e].st = .halt then s
    else
      (((((s.setCtx e s.ctx[e].halt).put (F.DBG_ESTAT_cause m) 5).put (F.DBG_ESTAT_index m) 0).put (F.DBG_ESTAT_ctx m)
        (ctxBit e)).put (if ctxBit e = 0 then F.DBG_ESTAT_prev_0 m else F.DBG_ESTAT_prev_1 m) before.code)
  (s1.putB (F.DBG_ESTAT_step_wait m) sleeps).src F.DBG_EVT_step 126

/-- A context that sleeps at a WAIT takes it up again: it returns if its event has arrived (R64, R77, R426). -/
def State.stepWait (s : State) (e : CtxId) : State :=
  let s0 := s.setCtx e { s.ctx[e] with st := .wait, bpSkip := 1 }
  if e.val < 12 then (if s.ctx[e].latch then s0.waitReturn e s.ctx[e].waitD else s0)
  else match s0.hsPick with
    | some ev => s0.hsDispatch ev
    | none => s0

/-- A stepped fetch with its parity: after a replay or a repair the instruction issues; where the repair fails it does not
(R72, R73, R426). -/
def State.stepFetched (s : State) (e : CtxId) (p : StepPar) : State :=
  let s1 := match p.fetch with
    | some r => s.fetch e fun s => s.repairFetch e r
    | none => s
  s1.issueFetched e p.reads

/-- DBG_CTL op 3: context `e` of a halted engine issues exactly one instruction (R426). Nothing where it is not in
HALT. -/
def State.debugStep (s : State) (e : CtxId) (p : StepPar) : State :=
  let c := s.ctx[e]
  if c.st ≠ .halt then s
  else
    let t :=
      if c.prev = .wait then s.stepWait e
      else (s.setCtx e { c with st := .run, bpSkip := 2 }).stepFetched e p
    t.endStep e c.prev (t.ctx[e].st = .wait)

/-- The context that a DBG_CTL word names. -/
def stepCtx (v : Word) : Option CtxId :=
  let m := getBits v 0 3
  if h : m < 6 then some ⟨2 * m + getBits v 3 1 % 2, by omega⟩ else if m = 6 then some hs else none

/-- A write through the Devar port: code and state (R422, R423, R426); a refused one is counted (R431). -/
def State.devarWrite (s : State) (a : Nat) (v : Word) (p : StepPar) : Nat × State :=
  let c := s.accessCode pDevar
  if c ≠ rOk then (c, s.bump F.DBG_CNT_refused)
  else
    let (r, _, t) := s.write pDevar none [⟨a, v⟩]
    if r ≠ rOk then (r, t.bump F.DBG_CNT_refused)
    else if a = A.DBG_CTL ∧ getBits v 4 2 = 3 then
      match stepCtx v with
      | some e => (rOk, t.debugStep e p)
      | none => (rOk, t)
    else (rOk, t)

/-! ### Packets -/

/-- The answer to a packet: status byte, data, CRC-8 (R419). -/
def State.devarAnswer (s : State) (r : Nat) (tag : BitVec 4) (data : List Byte) : State :=
  let b := BitVec.ofNat 8 (r + 16 * tag.toNat) :: data
  s.emit (.devar (b ++ [BitVec.ofNat 8 (crc8 b)]))

/-- A packet reaches the port: nothing in RESET; while the port is not in use every packet is answered with
REFUSED_AUTHORITY (R24, R421). -/
def State.devarPacket (s : State) (tag : BitVec 4) (isRead : Bool) (f : State → Nat × Word × State) : Res :=
  .next (
    if s.mode = mReset then s
    else
      let (r, w, t) := if s.fb F.DBG_STAT_port_en then f s else (rAuthority, 0, s)
      t.devarAnswer r tag (if isRead then wordBytes w else []))

/-- DEVAR_READ (R422, R423). -/
def execDevarRead (a : Word) (tag : BitVec 4) (p : Par) (s : State) : Res :=
  s.devarPacket tag true fun s =>
    if s.fb F.DBG_STAT_unlocked ∨ a.toNat = A.DBG_STAT then s.readWord a.toNat p else (rAuthority, 0, s)

/-- DEVAR_WRITE (R422, R423); `p` is the parity of an instruction that it steps. -/
def execDevarWrite (a v : Word) (tag : BitVec 4) (p : StepPar) (s : State) : Res :=
  s.devarPacket tag false fun s =>
    let (r, t) := s.devarWrite a.toNat v p
    (r, 0, t)

/-- UNLOCK (R422). -/
def execUnlock (key : Word) (tag : BitVec 4) (s : State) : Res :=
  s.devarPacket tag false fun s =>
    if s.fb F.DBG_STAT_blocked ∨ s.fb F.DBG_STAT_lockout then (rMode, 0, s.src F.DBG_EVT_session 127)
    else if key = s.reg 0xB0040 then (rOk, 0, (s.put F.DBG_STAT_unlocked 1).src F.DBG_EVT_session 127)
    else
      let s1 := (s.bump F.DBG_STAT_fails).put F.DBG_STAT_lockout 1
      (rAuthority, 0, (s1.putB F.DBG_STAT_blocked (decide (s.dbgLim ≤ s1.f F.DBG_STAT_fails))).src F.DBG_EVT_session 127)

/-- LOCK (R422). -/
def execLock (tag : BitVec 4) (s : State) : Res :=
  s.devarPacket tag false fun s => (rOk, 0, (s.put F.DBG_STAT_unlocked 0).src F.DBG_EVT_session 127)

/-- DEVAR_BAD_PACKET: a wrong CRC, counted also while the port is not in use, or an op that R419 does not list (R420,
R421). -/
def execDevarBadPacket (crc : Bool) (op tag : BitVec 4) (s : State) : Res :=
  if !crc ∧ 1 ≤ op.toNat ∧ op.toNat ≤ 4 then .next s
  else if s.mode = mReset then .next s
  else (if crc then s.bump F.DBG_CNT_crc else s).devarPacket tag (op.toNat = 1) fun s => (rBadFrame, 0, s)

/-- DEVAR_IDLE_ABANDON: the packet in progress is dropped; packets of this model take effect whole (R420). -/
def execDevarIdleAbandon (s : State) : Res := .next s

/-- UNLOCK_LOCKOUT_END (R422). -/
def execUnlockLockoutEnd (s : State) : Res := .next (s.put F.DBG_STAT_lockout 0)

/-! ### DBG_CTL, and breakpoints -/

/-- The word of DBG_CTL for an engine and an operation. -/
def dbgWord (m : Fin 7) (c op : Nat) (all : Bool) : Word := BitVec.ofNat 32 (m.val + 8 * c + 16 * op + 256 * b2n all)

/-- A write of DBG_CTL by the debugger; its code goes to the writer. -/
def State.dbgCtl (s : State) (v : Word) (p : StepPar) : Res :=
  .next (
    if s.mode = mReset then s
    else
      let (r, t) := s.devarWrite A.DBG_CTL v p
      t.emit (.access r v))

/-- DEBUG_HALT (R424). -/
def execDebugHalt (m : Fin 7) (all : Bool) (s : State) : Res := s.dbgCtl (dbgWord m 0 1 all) ⟨none, .clean⟩

/-- DEBUG_RUN (R425). -/
def execDebugRun (m : Fin 7) (all : Bool) (s : State) : Res := s.dbgCtl (dbgWord m 0 2 all) ⟨none, .clean⟩

/-- DEBUG_STEP (R426): `p` is the parity of the instruction. -/
def execDebugStep (e : CtxId) (p : StepPar) (s : State) : Res := s.dbgCtl (dbgWord (engineOf e) (ctxBit e) 3 false) p

/-- REGISTER_WRITE (R6). The debugger's write of DBG_CTL steps as DEVAR_WRITE does, every read clean (R426). -/
def execRegisterWrite (p : Fin 6) (a v : Word) (s : State) : Res :=
  if p = 5 ∧ a.toNat = A.DBG_CTL then s.dbgCtl v ⟨none, .clean⟩ else s.direct p a.toNat v

/-- BREAKPOINT_HALT: the engine halts before the instruction of context `e` that a breakpoint names (R427). -/
def execBreakpointHalt (e : CtxId) (s : State) : Res :=
  .next (
    if s.ctx[e].st = .run then
      match s.bpStop e with
      | some i => s.haltEngine (engineOf e) 2 i (ctxBit e)
      | none => s
    else s)

end Sys2Proof.Machine
end

