-- ==== Sys2Proof/Machine/Ports.lean ====
section
/-! DEFINITION. Host ports, network ports, MDIO and the peer link (R386 to R404). -/

namespace Sys2Proof.Machine

/-! ### Host ports -/

/-- PRT_EVT bit `b` with EV(104 + b) (R405). -/
def State.prtEvt (s : State) (b : Nat) : State := s.src ⟨A.PRT_EVT, b, 1⟩ (104 + b)

/-- The pending-response count of a host port, saturating at 255 (R386). -/
def State.pendCount (s : State) (h : Fin 2) : Byte := BitVec.ofNat 8 (min 255 s.host[h].length)

/-- SDO in a transaction: 0x00 during the instruction byte, then `n` bytes, those of `b` and 0x00 after them (R386). -/
def State.shiftOut (s : State) (h : Fin 2) (n : Nat) (b : List Byte) : State :=
  s.emit (.host h (0 :: (b.take n ++ List.replicate (n - b.length) 0)))

/-- HOST_WRITE_FRAME: CSN rises after the frame's bytes, each of which has returned the count of the instruction byte
(R386, R387). -/
def execHostWriteFrame (h : Fin 2) (b : List Byte) (par : List Par) (bad : Fin 63) (s : State) : Res :=
  .next (if s.portLive h then
    (s.shiftOut h b.length (List.replicate b.length (s.pendCount h))).submit h [] b par bad
  else s)

/-- What a read transaction has to send: the count, the length of the oldest response, its bytes (R386). -/
def State.readBytes (s : State) (h : Fin 2) : List Byte :=
  let r : List Byte := match s.host[h] with
    | [] => []
    | a :: _ => a.bytes
  s.pendCount h :: leBytes r.length 2 ++ r

/-- HOST_READ_RESPONSE: `n` bytes are clocked after the instruction; the response is removed where CSN rises after its
last byte (R386, R387). -/
def execHostReadResponse (h : Fin 2) (n : Nat) (s : State) : Res :=
  .next (if s.portLive h then
    let b := s.readBytes h
    let s1 := s.shiftOut h n b
    if b.length ≤ n then { s1 with host := s1.host.set h s1.host[h].tail } else s1
  else s)

/-- HOST_BAD_INSTRUCTION: every byte of the transaction returns 0x00 (R386, R405). -/
def execHostBadInstruction (x : Clocked) (s : State) : Res :=
  .next (if s.portLive x.port then ((s.shiftOut x.port x.n []).bump F.PRT_HSTAT_bad_instr).prtEvt x.port else s)

/-- The level of HA_IRQN or HB_IRQN is low: a response is pending, or an event routed to the port (R388). -/
def State.irqLow (s : State) (h : Fin 2) : Bool :=
  !s.host[h].isEmpty || [0, 1, 2, 3].any fun i => s.reg (A.SYS_EVPND h i) != 0

/-! ### Network ports -/

/-- The ones' complement sum of 16-bit words, most significant byte first (R392). -/
def onesSum : List Byte → Nat
  | [] => 0
  | [a] => 256 * a.toNat
  | a :: b :: t =>
    let x := 256 * a.toNat + b.toNat + onesSum t
    if 65535 < x then x - 65535 else x

/-- A number of two bytes, most significant first. -/
def be16 (b : List Byte) (i : Nat) : Nat := 256 * byteAt b i + byteAt b (i + 1)

/-- The UDP payload of an IPv4 datagram to the port's command endpoint, with source address and port; none where R392 drops
it. -/
def State.udpOf (s : State) (i : Fin 2) (d : List Byte) : Option (List Byte × List Byte) :=
  let n := be16 d 2
  let u := (d.take n).drop 20
  let l := be16 u 4
  if 28 ≤ n ∧ n ≤ d.length ∧ byteAt d 0 = 0x45 ∧ onesSum (d.take 20) = 65535 ∧ (d.drop 16).take 4 = s.netId[i].ip ∧
      be16 d 6 % 0x4000 = 0 ∧ byteAt d 9 = 17 ∧ be16 u 2 = 49612 ∧ 8 ≤ l ∧ l ≤ u.length ∧
      (be16 u 6 = 0 ∨ onesSum ((d.drop 12).take 8 ++ [0, 17] ++ (u.drop 4).take 2 ++ u.take l) = 65535) then
    some ((u.take l).drop 8, (d.drop 12).take 4 ++ u.take 2)
  else none

/-- A dropped datagram or safety frame (R392, R397). -/
def State.ipDrop (s : State) (i : Fin 2) : State := (s.bump (F.PRT_NCNT_ip_drop i)).prtEvt (2 + i)

/-- A frame has been received, as rx_act shows for 1 s (R405). -/
def State.netHeard (s : State) (i : Fin 2) : State := { s with netLast := s.netLast.set i (some s.cyc) }

/-- A frame of the safety EtherType: to the channels while telegram reception is enabled, else dropped and counted
(R397). -/
def State.safetyFrame (s : State) (i : Fin 2) (src b : List Byte) : State :=
  if s.fb F.SAF_TGCTL_en then s.tgCopy i src b else s.ipDrop i

/-- An ARP request for the port's own address is answered to the requester (R394). -/
def State.arpReply (s : State) (i : Fin 2) (sha spa tag : List Byte) : State :=
  s.emit (.net i 5 (sha ++ tag) (arpPacket 2 s.netId[i].mac s.netId[i].ip sha spa))

/-- A frame's content after its addresses and tag (R391 to R394, R397). -/
def State.frameBody (s : State) (i : Fin 2) (dst sa tag : List Byte) (typ : Nat) (d : List Byte) (par : List Par) (bad : Nat) :
    State :=
  let own := dst == s.netId[i].mac
  let arp := typ == 0x0806 && d.take 8 == ([0, 1, 8, 0, 6, 4, 0, 1] : List Byte)
  if arp && (own || dst == List.replicate 6 0xFF) then
    if (d.drop 24).take 4 = s.netId[i].ip then s.arpReply i ((d.drop 8).take 6) ((d.drop 14).take 4) tag else s
  else if !own then s
  else if typ = s.netId[i].etype then
    s.safetyFrame i (sa ++ tag) (d.take 12)
  else if typ = 0x0800 then
    match s.udpOf i d with
    | some (b, x) => s.submit (2 + i) (sa ++ x ++ tag) b par bad
    | none => s.ipDrop i
  else s

/-- The FCS and the length of a frame are right (R390). -/
def frameOk (b : List Byte) : Bool :=
  decide (64 ≤ b.length ∧ b.length ≤ 1522) &&
    crc32 (b.take (b.length - 4)) == BitVec.ofNat 32 (bytesAt b (b.length - 4) 4)

/-- A frame leaves the receive queue: dropped for its tags, or passed on without its tag and FCS (R391). -/
def State.rxFrame (s : State) (i : Fin 2) (x : RxFrame) : State :=
  let b := x.bytes
  let typ := be16 b 12
  if typ = 0x88A8 ∨ (typ = 0x8100 ∧ (be16 b 16 = 0x8100 ∨ be16 b 16 = 0x88A8)) then s.prtEvt (2 + i)
  else
    let t := if typ = 0x8100 then 4 else 0
    s.frameBody i (b.take 6) ((b.drop 6).take 6) ((b.drop 12).take t) (be16 b (12 + t)) ((b.take (b.length - 4)).drop (14 + t))
      x.par x.bad

/-- The frames that wait are taken in the order of their arrival (R390). -/
def State.rxTake (s : State) (i : Fin 2) : State :=
  s.rxq[i].foldl (fun s x => s.rxFrame i x) { s with rxq := s.rxq.set i [] }

/-- A frame has arrived: those that wait go before it (R390). -/
def State.rxNext (s : State) (i : Fin 2) : State := (s.netHeard i).rxTake i

/-- A received frame: dropped for its FCS or length, or because 4 frames wait already, or queued (R390, R405). -/
def State.rxArrive (s : State) (i : Fin 2) (x : RxFrame) : State :=
  if !frameOk x.bytes then s.prtEvt (2 + i)
  else if 4 ≤ s.rxq[i].length then (s.bump (F.PRT_NCNT_rx_drop i)).prtEvt (2 + i)
  else { s with rxq := s.rxq.set i (s.rxq[i] ++ [x]) }

/-- ETHERNET_FRAME: a whole frame with its FCS; `hold` says that the frames of the queue wait on, which the spec leaves open
(R390; assumption 93, DESIGN CHOICE). -/
def execEthernetFrame (i : Fin 2) (b : List Byte) (hold : Bool) (par : List Par) (bad : Fin 63) (s : State) : Res :=
  .next (if s.portLive (2 + i) then
    let s1 := (s.netHeard i).rxArrive i ⟨b, par, bad⟩
    if hold then s1 else s1.rxTake i
  else s)

/-- COMMAND_DATAGRAM: a UDP payload that must be one command frame; `src` is where its response goes (R393). -/
def execCommandDatagram (i : Fin 2) (src b : List Byte) (par : List Par) (bad : Fin 63) (s : State) : Res :=
  .next (if s.portLive (2 + i) then (s.rxNext i).submit (2 + i) src b par bad else s)

/-- SAFETY_TELEGRAM_COPY: the payload of a safety frame to the port's own address (R321, R397). -/
def execSafetyTelegramCopy (net : Fin 2) (src b : List Byte) (s : State) : Res :=
  .next (if s.portLive (2 + net) then (s.rxNext net).safetyFrame net src b else s)

/-- ARP_REQUEST: from hardware address `sha` and address `spa` for address `tpa` (R394). -/
def execArpRequest (i : Fin 2) (sha spa tpa : List Byte) (s : State) : Res :=
  .next (if s.portLive (2 + i) then
    let s1 := s.rxNext i
    if tpa == s1.netId[i].ip then s1.arpReply i sha spa [] else s1
  else s)

/-- PRT_NNOTE.gap ms have passed since the latest notification (R395, R405). -/
def State.noteGap (s : State) (i : Fin 2) : Bool :=
  s.noteAt[i].all fun c => decide (c + 250000 * max 1 (s.f (F.PRT_NNOTE_gap i)) ≤ s.cyc)

/-- NOTIFICATION: the pending routed events and the RTC seconds; what is reported clears (R395, R437). -/
def execNotification (i : Fin 2) (s : State) : Res :=
  .next (
    let t := 2 + i.val
    let mac := (s.ports[(⟨t, by omega⟩ : Fin 5)].src).take 6
    let ev := [0, 1, 2, 3].map fun j => s.reg (A.SYS_EVPND t j)
    if s.portLive t && s.fb (F.PRT_NNOTE_en i) && !mac.isEmpty && ev.any (· != 0) && s.noteGap i then
      let pl := ev.flatMap wordBytes ++ wordBytes (s.reg A.SYS_RTC_SEC)
      let dst := mac ++ beBytes (s.f (F.PRT_NDST_IP_ip i)) 4 ++ beBytes (s.f (F.PRT_NNOTE_dport i)) 2
      ({ [0, 1, 2, 3].foldl (fun (s : State) j => s.setReg (A.SYS_EVPND t j) 0) s with
        noteAt := s.noteAt.set i (some s.cyc) }).emit (.net i 4 dst (frame 0 0x7F 5 pl))
    else s)

/-- MDIO_DONE: the frame ends, with the data of a read (R399). -/
def execMdioDone (data : BitVec 16) (s : State) : Res :=
  .next (if s.fb F.PRT_MDIO_busy then
    let s1 := s.put F.PRT_MDIO_busy 0
    (if s1.fb F.PRT_MDIO_wr then s1 else s1.put F.PRT_MDIO_data data.toNat).prtEvt 7
  else s)

/-! ### Peer link -/

/-- The peer link is in use; this device leads its ring (R402). -/
def State.peerOn (s : State) : Bool := s.mode != mReset && s.fb F.PRT_PCFG_en
def State.leads (s : State) : Bool := s.f F.PRT_PCFG_pos == 0

/-- The next device of the ring is not the leader, so a word of the leader goes on (R400). -/
def State.forwards (s : State) : Bool := !s.leads && s.f F.PRT_PCFG_pos + 1 != s.f F.PRT_PCFG_n

/-- The hop delay in use: measured plus trim (R402). -/
def State.hop (s : State) : Int := (s.f F.PRT_PHOP_meas : Int) + s.fInt F.PRT_PHOP_trim

/-- The leader sends a ring trip (R402). -/
def State.sendTrip (s : State) : State := { s with ringWait := true }.emit (.peer 3 [0, 0])

/-- PEER_STATUS_WORD: the leader starts the ring trip when position n − 1 is heard; after a loss it waits for the retry
(R400, R402). -/
def execPeerStatusWord (pos : Fin 8) (_flags : BitVec 2) (s : State) : Res :=
  .next (if s.peerOn && s.leads && pos.val + 1 == s.f F.PRT_PCFG_n && !s.fb F.PRT_PSTAT_up && !s.ringWait &&
      !s.ringLost then s.sendTrip
    else s)

/-- CARRIER_PHASE_WORD: first bit arrives at EDGE time `t`; it leaves again `own` taps later where it is forwarded (R401).
The phase instant is the arrival less 48 ns, the hop delay and late. -/
def execCarrierPhaseWord (late own : BitVec 16) (data : Word) (t : Nat) (s0 : State) : Res :=
  .next (
    let s := s0.toInstant t
    if s.peerOn && !s.leads then
      let c := ((t : Int) - 384 - s.hop - late.toNat).toNat
      let s1 := if s.fb F.PRT_PSTAT_up then s.syncEvent 3 c t else s
      if s.forwards then
        s1.emit (.peer 1 (leBytes ((late.toNat : Int) + s.hop + own.toNat).toNat 2 ++ wordBytes data))
      else s1
    else s)

/-- INJECTION_PARITY_WORD: first bit arrives at EDGE time `x.t`, its phase instant 48 ns and the hop delay before; the
parity of a unit in mode 2 that has not lost its peer; forwarded (R274, R400, R401). -/
def execInjectionParityWord (g : Fin 4) (x : ParityWord) (s0 : State) : Res :=
  .next (
    let s := s0.toInstant x.t
    if s.peerOn && !s.leads then
      let s1 := if s.peered g then s.peerParity g x.p ((x.t : Int) - 384 - s.hop).toNat else s
      if s1.forwards then s1.emit (.peer 2 [BitVec.ofNat 8 (g.val + 4 * b2n x.p)]) else s1
    else s)

/-- The ring comes up with hop delay `h` (R402). -/
def State.ringUp (s : State) (h : Nat) : State :=
  { ((s.put F.PRT_PHOP_meas h).put F.PRT_PSTAT_up 1) with ringWait := false, ringLost := false }.prtEvt 4

/-- RING_TRIP: forwarded with the time `t` it took here added; or back at the leader after `t` taps, which computes the hop
delay and sends the result (R402). -/
def execRingTrip (acc t : BitVec 16) (s : State) : Res :=
  .next (if !s.peerOn then s
  else if s.leads then
    if s.ringWait then
      let n := max 1 (s.f F.PRT_PCFG_n)
      let h := (divRound ((t.toNat : Int) - acc.toNat) n).toNat
      (s.ringUp h).emit (.peer 4 (leBytes h 2 ++ [BitVec.ofNat 8 n]))
    else s
  else s.emit (.peer 3 (leBytes (acc.toNat + t.toNat) 2)))

/-- RING_RESULT: the hop delay; forwarded (R402). -/
def execRingResult (h : BitVec 16) (n : Byte) (s : State) : Res :=
  .next (if s.peerOn && !s.leads then
    let s1 := s.ringUp h.toNat
    if s1.forwards then s1.emit (.peer 4 (leBytes h.toNat 2 ++ [n])) else s1
  else s)

/-- PARTING_RELAY: dropped at its origin; otherwise a force on the own links, forwarded unless the next device is its
origin, and type 0x2F (R400, R403). -/
def execPartingRelay (origin : Fin 8) (s : State) : Res :=
  .next (if s.peerOn && s.fb F.PRT_PCFG_relay_en && origin.val != s.f F.PRT_PCFG_pos then
    let s1 := (s.put F.PRT_PSTAT_last_relay origin).prtEvt 6
    let s2 := if (s.f F.PRT_PCFG_pos + 1) % s.f F.PRT_PCFG_n == origin.val then s1
      else s1.emit (.peer 6 [BitVec.ofNat 8 origin.val])
    (s2.collect (0x2F00 + origin.val) .BC 0).partAll false
  else s)

/-- RING_LOST (R402): synchronised stages and units of mode 2 fall back by themselves (R170, R274). -/
def execRingLost (s : State) : Res :=
  .next (if s.peerOn && s.fb F.PRT_PSTAT_up then ({ s.put F.PRT_PSTAT_up 0 with ringLost := true }.prtEvt 5).peerLost
    else { s with ringWait := false })

/-- RING_RETRY: the leader tries again after a loss, or where its trip has not come back (R402). -/
def execRingRetry (s : State) : Res :=
  .next (if s.peerOn && s.leads && !s.fb F.PRT_PSTAT_up && (s.ringLost || s.ringWait) then s.sendTrip else s)

end Sys2Proof.Machine
end

