-- ==== Sys2Proof/Machine/Dispatch.lean ====
section
/-! DEFINITION. The dispatcher: one arm per command, each a direct call of its meaning. -/

namespace Sys2Proof.Machine

def exec (i : Instr) (s : State) : Host.Outcome State Fault Refusal :=
  match i with
  | .add e d a b => Sys2Proof.Machine.execAdd e d a b s
  | .sub e d a b => Sys2Proof.Machine.execSub e d a b s
  | .adds e d a b => Sys2Proof.Machine.execAdds e d a b s
  | .subs e d a b => Sys2Proof.Machine.execSubs e d a b s
  | .and e d a b => Sys2Proof.Machine.execAnd e d a b s
  | .or e d a b => Sys2Proof.Machine.execOr e d a b s
  | .xor e d a b => Sys2Proof.Machine.execXor e d a b s
  | .andn e d a b => Sys2Proof.Machine.execAndn e d a b s
  | .shl e d a b => Sys2Proof.Machine.execShl e d a b s
  | .shr e d a b => Sys2Proof.Machine.execShr e d a b s
  | .sar e d a b => Sys2Proof.Machine.execSar e d a b s
  | .shli e d a lit => Sys2Proof.Machine.execShli e d a lit s
  | .shri e d a lit => Sys2Proof.Machine.execShri e d a lit s
  | .sari e d a lit => Sys2Proof.Machine.execSari e d a lit s
  | .mul e d a b => Sys2Proof.Machine.execMul e d a b s
  | .mulh e d a b => Sys2Proof.Machine.execMulh e d a b s
  | .div e d a b => Sys2Proof.Machine.execDiv e d a b s
  | .clt e d a b => Sys2Proof.Machine.execClt e d a b s
  | .cltu e d a b => Sys2Proof.Machine.execCltu e d a b s
  | .ceq e d a b => Sys2Proof.Machine.execCeq e d a b s
  | .min e d a b => Sys2Proof.Machine.execMin e d a b s
  | .max e d a b => Sys2Proof.Machine.execMax e d a b s
  | .jlr e d a => Sys2Proof.Machine.execJlr e d a s
  | .sfrd e d => Sys2Proof.Machine.execSfrd e d s
  | .padd e d a b => Sys2Proof.Machine.execPadd e d a b s
  | .psub e d a b => Sys2Proof.Machine.execPsub e d a b s
  | .pneg e d a => Sys2Proof.Machine.execPneg e d a s
  | .pabs e d a => Sys2Proof.Machine.execPabs e d a s
  | .pmul e d a b => Sys2Proof.Machine.execPmul e d a b s
  | .pshl e d a lit => Sys2Proof.Machine.execPshl e d a lit s
  | .pshr e d a lit => Sys2Proof.Machine.execPshr e d a lit s
  | .pdiv e d a b => Sys2Proof.Machine.execPdiv e d a b s
  | .itop e d a lit => Sys2Proof.Machine.execItop e d a lit s
  | .ptoi e d a lit => Sys2Proof.Machine.execPtoi e d a lit s
  | .pmac e n a b => Sys2Proof.Machine.execPmac e n a b s
  | .pmsb e n a b => Sys2Proof.Machine.execPmsb e n a b s
  | .accld e n a => Sys2Proof.Machine.execAccld e n a s
  | .accadd e n a => Sys2Proof.Machine.execAccadd e n a s
  | .accrd e d n => Sys2Proof.Machine.execAccrd e d n s
  | .accclr e n => Sys2Proof.Machine.execAccclr e n s
  | .acclo e d n => Sys2Proof.Machine.execAcclo e d n s
  | .acchi e d n => Sys2Proof.Machine.execAcchi e d n s
  | .accset e n a b => Sys2Proof.Machine.execAccset e n a b s
  | .pli e d imm => Sys2Proof.Machine.execPli e d imm s
  | .paddi e d a imm => Sys2Proof.Machine.execPaddi e d a imm s
  | .addi e d a imm => Sys2Proof.Machine.execAddi e d a imm s
  | .clti e d a imm => Sys2Proof.Machine.execClti e d a imm s
  | .andi e d a imm => Sys2Proof.Machine.execAndi e d a imm s
  | .ori e d a imm => Sys2Proof.Machine.execOri e d a imm s
  | .xori e d a imm => Sys2Proof.Machine.execXori e d a imm s
  | .lhi e d imm => Sys2Proof.Machine.execLhi e d imm s
  | .beq e d a off => Sys2Proof.Machine.execBeq e d a off s
  | .bne e d a off => Sys2Proof.Machine.execBne e d a off s
  | .blt e d a off => Sys2Proof.Machine.execBlt e d a off s
  | .bge e d a off => Sys2Proof.Machine.execBge e d a off s
  | .bltu e d a off => Sys2Proof.Machine.execBltu e d a off s
  | .bgeu e d a off => Sys2Proof.Machine.execBgeu e d a off s
  | .jl e d target => Sys2Proof.Machine.execJl e d target s
  | .ld e d a imm p => Sys2Proof.Machine.execLd e d a imm p s
  | .st e d a imm => Sys2Proof.Machine.execSt e d a imm s
  | .clarke e d a b => Sys2Proof.Machine.execClarke e d a b s
  | .clarke2 e d a => Sys2Proof.Machine.execClarke2 e d a s
  | .park e d a b => Sys2Proof.Machine.execPark e d a b s
  | .ipark e d a b => Sys2Proof.Machine.execIpark e d a b s
  | .sincos e d a => Sys2Proof.Machine.execSincos e d a s
  | .pi e d a blk rp bad => Sys2Proof.Machine.execPi e d a blk rp bad s
  | .lim e d a b => Sys2Proof.Machine.execLim e d a b s
  | .lims e d a b => Sys2Proof.Machine.execLims e d a b s
  | .ramp e d a blk rp bad => Sys2Proof.Machine.execRamp e d a blk rp bad s
  | .tbl e d a b lit rp bad => Sys2Proof.Machine.execTbl e d a b lit rp bad s
  | .tblu e d a b lit rp bad => Sys2Proof.Machine.execTblu e d a b lit rp bad s
  | .avg e d x sel => Sys2Proof.Machine.execAvg e d x sel s
  | .smp e d x raw => Sys2Proof.Machine.execSmp e d x raw s
  | .grid e d g q => Sys2Proof.Machine.execGrid e d g q s
  | .mtr e d m q => Sys2Proof.Machine.execMtr e d m q s
  | .plant e d a sw p => Sys2Proof.Machine.execPlant e d a sw p s
  | .planf e d a sw p => Sys2Proof.Machine.execPlanf e d a sw p s
  | .planc e sw => Sys2Proof.Machine.execPlanc e sw s
  | .commit e d => Sys2Proof.Machine.execCommit e d s
  | .wait e d => Sys2Proof.Machine.execWait e d s
  | .evt e imm => Sys2Proof.Machine.execEvt e imm s
  | .sfclr e imm fp => Sys2Proof.Machine.execSfclr e imm fp s
  | .sysRd e d a p => Sys2Proof.Machine.execSysRd e d a p s
  | .sysMrd e d a p => Sys2Proof.Machine.execSysMrd e d a p s
  | .sysWr e d a b => Sys2Proof.Machine.execSysWr e d a b s
  | .sysCmd e d a rp lost par bad => Sys2Proof.Machine.execSysCmd e d a rp lost par bad s
  | .brk e code => Sys2Proof.Machine.execBrk e code s
  | .illegalOpcode e w => Sys2Proof.Machine.execIllegalOpcode e w s
  | .instructionRepair e r => Sys2Proof.Machine.execInstructionRepair e r s
  | .scrubRead m r => Sys2Proof.Machine.execScrubRead m r s
  | .stageEvent k => Sys2Proof.Machine.execStageEvent k s
  | .contextWake k => Sys2Proof.Machine.execContextWake k s
  | .hsDispatch => Sys2Proof.Machine.execHsDispatch s
  | .hsWatchdogExpiry => Sys2Proof.Machine.execHsWatchdogExpiry s
  | .hsTimerExpiry j => Sys2Proof.Machine.execHsTimerExpiry j s
  | .startContext p k => Sys2Proof.Machine.execStartContext p k s
  | .stopContext p k => Sys2Proof.Machine.execStopContext p k s
  | .clearContextStats p k => Sys2Proof.Machine.execClearContextStats p k s
  | .hsStart p => Sys2Proof.Machine.execHsStart p s
  | .hsStop p => Sys2Proof.Machine.execHsStop p s
  | .hsClearRunmax p => Sys2Proof.Machine.execHsClearRunmax p s
  | .hsTimerWrite p j v => Sys2Proof.Machine.execHsTimerWrite p j v s
  | .sfReadClear e => Sys2Proof.Machine.execSfReadClear e s
  | .adcSample e t raw clamp code out => Sys2Proof.Machine.execAdcSample e t raw clamp code out s
  | .windowClose k => Sys2Proof.Machine.execWindowClose k s
  | .freezeFail e code => Sys2Proof.Machine.execFreezeFail e code s
  | .rangeFail e code => Sys2Proof.Machine.execRangeFail e code s
  | .xchkFail e => Sys2Proof.Machine.execXchkFail e s
  | .internalEntryFail a n code => Sys2Proof.Machine.execInternalEntryFail a n code s
  | .adcRestart p mask => Sys2Proof.Machine.execAdcRestart p mask s
  | .adcCalibrate p => Sys2Proof.Machine.execAdcCalibrate p s
  | .adcCalDone ok => Sys2Proof.Machine.execAdcCalDone ok s
  | .adcScanWrite p a mask => Sys2Proof.Machine.execAdcScanWrite p a mask s
  | .mmClr p e => Sys2Proof.Machine.execMmClr p e s
  | .adcAvgRead e => Sys2Proof.Machine.execAdcAvgRead e s
  | .comparatorDecision c t lvl => Sys2Proof.Machine.execComparatorDecision c t lvl s
  | .comparatorArmed c => Sys2Proof.Machine.execComparatorArmed c s
  | .comparatorEnable p c => Sys2Proof.Machine.execComparatorEnable p c s
  | .cmpTripClear p c => Sys2Proof.Machine.execCmpTripClear p c s
  | .timebaseStart k => Sys2Proof.Machine.execTimebaseStart k s
  | .reloadInstant k => Sys2Proof.Machine.execReloadInstant k s
  | .syncMiss k => Sys2Proof.Machine.execSyncMiss k s
  | .periodStart k => Sys2Proof.Machine.execPeriodStart k s
  | .hiccupEnd k => Sys2Proof.Machine.execHiccupEnd k s
  | .edgeCommand n => Sys2Proof.Machine.execEdgeCommand n s
  | .immediateOff n => Sys2Proof.Machine.execImmediateOff n s
  | .syncWord n t => Sys2Proof.Machine.execSyncWord n t s
  | .configurationWord n => Sys2Proof.Machine.execConfigurationWord n s
  | .startStage p fence pl => Sys2Proof.Machine.execStartStage p fence pl s
  | .stopStage p fence pl => Sys2Proof.Machine.execStopStage p fence pl s
  | .stgRunSet p k => Sys2Proof.Machine.execStgRunSet p k s
  | .stgRunClear p k => Sys2Proof.Machine.execStgRunClear p k s
  | .stgTbWrite p k on => Sys2Proof.Machine.execStgTbWrite p k on s
  | .stgClr p k => Sys2Proof.Machine.execStgClr p k s
  | .tableClearBand p k bands => Sys2Proof.Machine.execTableClearBand p k bands s
  | .tableStatClear p k => Sys2Proof.Machine.execTableStatClear p k s
  | .statusWord u states flags idx val => Sys2Proof.Machine.execStatusWord u states flags idx val s
  | .linkSilence n => Sys2Proof.Machine.execLinkSilence n s
  | .tripPair n => Sys2Proof.Machine.execTripPair n s
  | .crossingWord u j pol seq t1 t2 => Sys2Proof.Machine.execCrossingWord u j pol seq t1 t2 s
  | .idWord u rev tpod fitted cap typ => Sys2Proof.Machine.execIdWord u rev tpod fitted cap typ s
  | .echoResponse n rt => Sys2Proof.Machine.execEchoResponse n rt s
  | .didtTrip u sw => Sys2Proof.Machine.execDidtTrip u sw s
  | .desaturationTrip u sw => Sys2Proof.Machine.execDesaturationTrip u sw s
  | .gateSupplyFault u idx val => Sys2Proof.Machine.execGateSupplyFault u idx val s
  | .overtempShutdown u temp => Sys2Proof.Machine.execOvertempShutdown u temp s
  | .overtempWarning u temp => Sys2Proof.Machine.execOvertempWarning u temp s
  | .configurationAck u tag => Sys2Proof.Machine.execConfigurationAck u tag s
  | .configurationNak u tag reason => Sys2Proof.Machine.execConfigurationNak u tag reason s
  | .downstreamWordDiscarded u count => Sys2Proof.Machine.execDownstreamWordDiscarded u count s
  | .lateTimedCommand u sw seq => Sys2Proof.Machine.execLateTimedCommand u sw seq s
  | .podInterlockDrop u sw seq => Sys2Proof.Machine.execPodInterlockDrop u sw seq s
  | .edgeQueueFull u sw seq => Sys2Proof.Machine.execEdgeQueueFull u sw seq s
  | .upstreamWordDiscarded n => Sys2Proof.Machine.execUpstreamWordDiscarded n s
  | .rxLock n => Sys2Proof.Machine.execRxLock n s
  | .rxLoss n => Sys2Proof.Machine.execRxLoss n s
  | .enseqRequest p n => Sys2Proof.Machine.execEnseqRequest p n s
  | .enableTimeout n => Sys2Proof.Machine.execEnableTimeout n s
  | .configurationAckTimeout n => Sys2Proof.Machine.execConfigurationAckTimeout n s
  | .linkToDis n => Sys2Proof.Machine.execLinkToDis n s
  | .gateEnFall => Sys2Proof.Machine.execGateEnFall s
  | .gateEnRise long => Sys2Proof.Machine.execGateEnRise long s
  | .resetnLow => Sys2Proof.Machine.execResetnLow s
  | .resetRelease r => Sys2Proof.Machine.execResetRelease r s
  | .powerOn vbk sec ms => Sys2Proof.Machine.execPowerOn vbk sec ms s
  | .monitorTrip r => Sys2Proof.Machine.execMonitorTrip r s
  | .monitorRelease r => Sys2Proof.Machine.execMonitorRelease r s
  | .pfiAssert => Sys2Proof.Machine.execPfiAssert s
  | .holdupReleaseReset => Sys2Proof.Machine.execHoldupReleaseReset s
  | .rbsQualified => Sys2Proof.Machine.execRbsQualified s
  | .rbsOff => Sys2Proof.Machine.execRbsOff s
  | .aliveToggle => Sys2Proof.Machine.execAliveToggle s
  | .lockQualified => Sys2Proof.Machine.execLockQualified s
  | .lockLost => Sys2Proof.Machine.execLockLost s
  | .acquisitionRestart => Sys2Proof.Machine.execAcquisitionRestart s
  | .refLoss => Sys2Proof.Machine.execRefLoss s
  | .refMeasure khz => Sys2Proof.Machine.execRefMeasure khz s
  | .refReturn => Sys2Proof.Machine.execRefReturn s
  | .syncInCapture x => Sys2Proof.Machine.execSyncInCapture x s
  | .syncInTimeout => Sys2Proof.Machine.execSyncInTimeout s
  | .etimeRead r => Sys2Proof.Machine.execEtimeRead r s
  | .gridLock g => Sys2Proof.Machine.execGridLock g s
  | .gridUnlock g => Sys2Proof.Machine.execGridUnlock g s
  | .syncOk g => Sys2Proof.Machine.execSyncOk g s
  | .rtTick => Sys2Proof.Machine.execRtTick s
  | .episodeDeclared g hv => Sys2Proof.Machine.execEpisodeDeclared g hv s
  | .recoveryEnd g => Sys2Proof.Machine.execRecoveryEnd g s
  | .voltageTrip g hv => Sys2Proof.Machine.execVoltageTrip g hv s
  | .frequencyTrip g hi j => Sys2Proof.Machine.execFrequencyTrip g hi j s
  | .grdTclr p g => Sys2Proof.Machine.execGrdTclr p g s
  | .grdEnable p g => Sys2Proof.Machine.execGrdEnable p g s
  | .islandPassiveTrip g j => Sys2Proof.Machine.execIslandPassiveTrip g j s
  | .correlationWindowEnd g zmag zang low => Sys2Proof.Machine.execCorrelationWindowEnd g zmag zang low s
  | .listenStart g => Sys2Proof.Machine.execListenStart g s
  | .listenEnd g mag aligned => Sys2Proof.Machine.execListenEnd g mag aligned s
  | .injectionParityWord g x => Sys2Proof.Machine.execInjectionParityWord g x s
  | .reconnectDone g => Sys2Proof.Machine.execReconnectDone g s
  | .islTclr p g => Sys2Proof.Machine.execIslTclr p g s
  | .rcStart p g => Sys2Proof.Machine.execRcStart p g s
  | .contactorClose p => Sys2Proof.Machine.execContactorClose p s
  | .contactorOpen p => Sys2Proof.Machine.execContactorOpen p s
  | .kfbChange b w t => Sys2Proof.Machine.execKfbChange b w t s
  | .contactorTimeout => Sys2Proof.Machine.execContactorTimeout s
  | .prechargeEvaluate => Sys2Proof.Machine.execPrechargeEvaluate s
  | .prechargeDone => Sys2Proof.Machine.execPrechargeDone s
  | .prechargeTimeout => Sys2Proof.Machine.execPrechargeTimeout s
  | .prechargeProgressCheck => Sys2Proof.Machine.execPrechargeProgressCheck s
  | .prechargeOverlapEnd => Sys2Proof.Machine.execPrechargeOverlapEnd s
  | .zeroCrossing m pos t => Sys2Proof.Machine.execZeroCrossing m pos t s
  | .freeRun m => Sys2Proof.Machine.execFreeRun m s
  | .freeRunHalfCycle m => Sys2Proof.Machine.execFreeRunHalfCycle m s
  | .mtrVrms0Read m => Sys2Proof.Machine.execMtrVrms0Read m s
  | .mtrLseqRead m => Sys2Proof.Machine.execMtrLseqRead m s
  | .energySaveStart => Sys2Proof.Machine.execEnergySaveStart s
  | .energySaveNow p => Sys2Proof.Machine.execEnergySaveNow p s
  | .energySaveDone hot => Sys2Proof.Machine.execEnergySaveDone hot s
  | .meterDiscard p m => Sys2Proof.Machine.execMeterDiscard p m s
  | .meterEnable p m => Sys2Proof.Machine.execMeterEnable p m s
  | .safetyTick a b rbA rbB => Sys2Proof.Machine.execSafetyTick a b rbA rbB s
  | .filterChange p b level => Sys2Proof.Machine.execFilterChange p b level s
  | .discrepancyFault p => Sys2Proof.Machine.execDiscrepancyFault p s
  | .testPulseStart ch => Sys2Proof.Machine.execTestPulseStart ch s
  | .testPulseCheck ch balls => Sys2Proof.Machine.execTestPulseCheck ch balls s
  | .testFault p ch => Sys2Proof.Machine.execTestFault p ch s
  | .strobeIntervalFault n => Sys2Proof.Machine.execStrobeIntervalFault n s
  | .channelDisagreement u => Sys2Proof.Machine.execChannelDisagreement u s
  | .safeOutputDrop ch => Sys2Proof.Machine.execSafeOutputDrop ch s
  | .safetyTelegramCopy net src b => Sys2Proof.Machine.execSafetyTelegramCopy net src b s
  | .telegramSkewExpiry => Sys2Proof.Machine.execTelegramSkewExpiry s
  | .telegramWatchdog => Sys2Proof.Machine.execTelegramWatchdog s
  | .safClr p => Sys2Proof.Machine.execSafClr p s
  | .faultReport code arg => Sys2Proof.Machine.execFaultReport code arg s
  | .holdExpiry => Sys2Proof.Machine.execHoldExpiry s
  | .quietExpiry => Sys2Proof.Machine.execQuietExpiry s
  | .recoveryWindowEnd => Sys2Proof.Machine.execRecoveryWindowEnd s
  | .fltBlockCleared => Sys2Proof.Machine.execFltBlockCleared s
  | .fltCclr p => Sys2Proof.Machine.execFltCclr p s
  | .autoEnWrite p on => Sys2Proof.Machine.execAutoEnWrite p on s
  | .bootDone => Sys2Proof.Machine.execBootDone s
  | .selftestDone fail arg pods ms => Sys2Proof.Machine.execSelftestDone fail arg pods ms s
  | .softResetAssert => Sys2Proof.Machine.execSoftResetAssert s
  | .nop p fence nseq pl => Sys2Proof.Machine.execNop p fence nseq pl s
  | .ping p fence nseq pl => Sys2Proof.Machine.execPing p fence nseq pl s
  | .read p fence nseq pl par bad => Sys2Proof.Machine.execRead p fence nseq pl par bad s
  | .write p fence pl => Sys2Proof.Machine.execWrite p fence pl s
  | .writeGroup p fence pl => Sys2Proof.Machine.execWriteGroup p fence pl s
  | .persistWrite p fence pl => Sys2Proof.Machine.execPersistWrite p fence pl s
  | .eraseInactiveBank p fence pl => Sys2Proof.Machine.execEraseInactiveBank p fence pl s
  | .writeBank p fence pl => Sys2Proof.Machine.execWriteBank p fence pl s
  | .checkBank p fence pl => Sys2Proof.Machine.execCheckBank p fence pl s
  | .loadEngine p fence pl => Sys2Proof.Machine.execLoadEngine p fence pl s
  | .setMode p fence pl => Sys2Proof.Machine.execSetMode p fence pl s
  | .orderlyStopDone => Sys2Proof.Machine.execOrderlyStopDone s
  | .setpoint p fence pl => Sys2Proof.Machine.execSetpoint p fence pl s
  | .setpointGroup p fence pl => Sys2Proof.Machine.execSetpointGroup p fence pl s
  | .claimAuthority p fence pl => Sys2Proof.Machine.execClaimAuthority p fence pl s
  | .releaseAuthority p fence pl => Sys2Proof.Machine.execReleaseAuthority p fence pl s
  | .journalRead p fence nseq q => Sys2Proof.Machine.execJournalRead p fence nseq q s
  | .faultClear p fence pl => Sys2Proof.Machine.execFaultClear p fence pl s
  | .resume p fence pl => Sys2Proof.Machine.execResume p fence pl s
  | .safetyAck p fence pl => Sys2Proof.Machine.execSafetyAck p fence pl s
  | .latchMeter p fence pl => Sys2Proof.Machine.execLatchMeter p fence pl s
  | .eventMask p fence pl => Sys2Proof.Machine.execEventMask p fence pl s
  | .commandStart p bad => Sys2Proof.Machine.execCommandStart p bad s
  | .groupCommit j => Sys2Proof.Machine.execGroupCommit j s
  | .groupRollback j => Sys2Proof.Machine.execGroupRollback j s
  | .sysModereqWrite p target => Sys2Proof.Machine.execSysModereqWrite p target s
  | .registerWrite p a v => Sys2Proof.Machine.execRegisterWrite p a v s
  | .hostWriteFrame h b par bad => Sys2Proof.Machine.execHostWriteFrame h b par bad s
  | .hostReadResponse h n => Sys2Proof.Machine.execHostReadResponse h n s
  | .hostBadInstruction x => Sys2Proof.Machine.execHostBadInstruction x s
  | .ethernetFrame j b hold par bad => Sys2Proof.Machine.execEthernetFrame j b hold par bad s
  | .arpRequest j sha spa tpa => Sys2Proof.Machine.execArpRequest j sha spa tpa s
  | .commandDatagram j src b par bad => Sys2Proof.Machine.execCommandDatagram j src b par bad s
  | .netEnable p j => Sys2Proof.Machine.execNetEnable p j s
  | .notification j => Sys2Proof.Machine.execNotification j s
  | .mdioStart p reg phy wr data => Sys2Proof.Machine.execMdioStart p reg phy wr data s
  | .mdioDone data => Sys2Proof.Machine.execMdioDone data s
  | .peerStatusWord pos flags => Sys2Proof.Machine.execPeerStatusWord pos flags s
  | .carrierPhaseWord late own data t => Sys2Proof.Machine.execCarrierPhaseWord late own data t s
  | .ringTrip acc t => Sys2Proof.Machine.execRingTrip acc t s
  | .ringResult h n => Sys2Proof.Machine.execRingResult h n s
  | .partingRelay origin => Sys2Proof.Machine.execPartingRelay origin s
  | .ringLost => Sys2Proof.Machine.execRingLost s
  | .ringRetry => Sys2Proof.Machine.execRingRetry s
  | .persistWordDone hot => Sys2Proof.Machine.execPersistWordDone hot s
  | .eraseDone => Sys2Proof.Machine.execEraseDone s
  | .rtcSet p sec => Sys2Proof.Machine.execRtcSet p sec s
  | .rtcSetDone => Sys2Proof.Machine.execRtcSetDone s
  | .rtcRead => Sys2Proof.Machine.execRtcRead s
  | .devarRead a tag p => Sys2Proof.Machine.execDevarRead a tag p s
  | .devarWrite a v tag p => Sys2Proof.Machine.execDevarWrite a v tag p s
  | .unlock key tag => Sys2Proof.Machine.execUnlock key tag s
  | .lock tag => Sys2Proof.Machine.execLock tag s
  | .devarBadPacket crc op tag => Sys2Proof.Machine.execDevarBadPacket crc op tag s
  | .devarIdleAbandon => Sys2Proof.Machine.execDevarIdleAbandon s
  | .unlockLockoutEnd => Sys2Proof.Machine.execUnlockLockoutEnd s
  | .debugHalt m all => Sys2Proof.Machine.execDebugHalt m all s
  | .debugRun m all => Sys2Proof.Machine.execDebugRun m all s
  | .debugStep e p => Sys2Proof.Machine.execDebugStep e p s
  | .breakpointHalt e => Sys2Proof.Machine.execBreakpointHalt e s
  | .programmingDone => Sys2Proof.Machine.execProgrammingDone s

end Sys2Proof.Machine
end

