-- ==== Sys2Proof/Machine/Idle.lean ====
section
/-! DEFINITION. The passage of time on an empty queue (assumption 1, DESIGN CHOICE): one REF cycle of EDGE time, SYNC_OUT,
the RTC's milliseconds, the peer link's status word, the recovery window and the reconnect timers. What happens at an
instant of its own is a row of the table. -/

namespace Sys2Proof.Machine

/-- One millisecond of the RTC (R441). -/
def State.rtcTick (s : State) : State :=
  if s.rtcMs < 999 then s.put F.SYS_RTC_SUB_ms (s.rtcMs + 1)
  else (s.setReg A.SYS_RTC_SEC (s.reg A.SYS_RTC_SEC + 1)).put F.SYS_RTC_SUB_ms 0

/-- One millisecond of the recovery window; its end clears the count (R339). -/
def State.recovTick (s : State) : State :=
  if s.recovMs = 0 then s else if s.recovMs = 1 then s.recoveryEnd else { s with recovMs := s.recovMs - 1 }

/-- The status word that every device of a peer ring sends each µs: its position, whether a stage is switching, and
relay_en (R400). -/
def State.peerStatus (s : State) : State :=
  if s.fb F.PRT_PCFG_en then
    s.emit (.peer 0 [BitVec.ofNat 8 (s.f F.PRT_PCFG_pos),
      BitVec.ofNat 8 (b2n s.anySwitching + 2 * s.f F.PRT_PCFG_relay_en)])
  else s

/-- One REF cycle of 4 ns with no command (R49, R51, R278, R400, R441). -/
def State.idle (s : State) : State :=
  let s1 := { s with
    cyc := s.cyc + 1, etime := if s.eRun then s.etime + refTaps else s.etime, rtcSub := (s.rtcSub + 1) % 250000 }
  let s2 := s1.syncoCycle
  let s3 := if s2.rtcSub % 250 = 0 then s2.peerStatus else s2
  if s3.rtcSub = 0 then s3.rtcTick.recovTick.rcTick else s3

end Sys2Proof.Machine
end

