-- ==== Sys2Proof/Machine/Step.lean ====
section
/-! DEFINITION. One step of the block: the command at the front of the queue; on an empty queue one REF cycle passes
(assumption 1, DESIGN CHOICE). -/

namespace Sys2Proof.Machine

/-- The next outcome of the block. -/
def step (s : State) : Host.Outcome State Fault Refusal :=
  match s.pending with
  | i :: t => exec i { s with pending := t }
  | [] => .next s.idle

/-- The state with the command that a word spells in front of its queue: no word spells one. -/
def State.withFetchWord (s : State) (nbits w : Nat) : State :=
  match Sys2Proof.decodeTableWord nbits w with
  | some i => { s with pending := i :: s.pending }
  | none => s

end Sys2Proof.Machine
end

