-- ==== Sys2Proof/Safety.lean ====
section
/-! DEFINITION. What statements are said in terms of: an engine context that can issue its next instruction, a register write
that is let through, and the canonical form of the stores. -/

namespace Sys2Proof.Machine

/-- Context `e` issues its next instruction: it is in RUN, no breakpoint stops it there, and the address lies in the
instruction memory (R61, R63, R427). -/
def State.canIssue (s : State) (e : CtxId) : Prop := s.ctx[e].st = .run ∧ s.bpStop e = none ∧ s.ctx[e].pc < pcLimit e

/-- A write of `v` to `a` by writer `p` is let through: not in RESET, the writer's access is open, and nothing of the class,
authority, running and value checks refuses it (R6, R24, R368, R370, R422). -/
def State.letsWrite (s : State) (p : Fin 6) (a : Nat) (v : Word) : Prop :=
  s.mode ≠ mReset ∧ s.accessCode p = rOk ∧ (s.judge p [⟨a, v⟩]).1 = rOk

/-- A direct write of `v` by writer `p` that is refused with code `r` changes nothing but that the code goes to the writer, and of
the Devar port that it is counted (R6, R423, R431). -/
def State.refusedTo (s : State) (p : Fin 6) (r : Nat) (v : Word) : State :=
  (if p = 5 then s.bump F.DBG_CNT_refused else s).emit (.access r v)

/-- Both stores are in canonical form: rising keys and no entry equal to what an unlisted key reads as. -/
def State.canonical (s : State) : Prop := Memory.wf s.mem = true ∧ smWf regReset s.regs = true

/-- What every command respects from `s` to `t`: the stores stay in canonical form, the queue is not touched, and what has left
the device stays on record. -/
def State.follows (s t : State) : Prop := (s.canonical → t.canonical) ∧ t.pending = s.pending ∧ s.out <:+ t.out

/-- The same of every next state that an outcome answers. -/
def State.followedBy (s : State) (r : Res) : Prop := ∀ t, r = .next t → s.follows t

/-! ### Results of engine instructions -/

/-- `v` limited to the range of int32 and pu28 (R3, R95). -/
def satInt (v : Int) : Int := max (-2147483648) (min v 2147483647)

/-- `v` limited to the range of an accumulator (R97). -/
def satAccInt (v : Int) : Int := max (-140737488355328) (min v 140737488355327)

/-- `v × 2^−n` rounded to nearest, halves upward (R96). -/
def roundInt (v : Int) (n : Nat) : Int := (2 * v + 2 ^ n) / 2 ^ (n + 1)

/-- From `s` to `t` nothing changes but context `e` and, on a Lathe, the note of its program counter in LTH_PC (R82, R87,
R90). -/
def State.onlyCtx (s : State) (e : CtxId) (t : State) : Prop :=
  (∀ x, x ≠ e → t.ctx[x] = s.ctx[x]) ∧ (∀ a, t.mb a = s.mb a) ∧
  (∀ a, home a ≠ home (A.LTH_PC (e.val / 2) (e.val % 2)) ∨ 12 ≤ e.val → t.reg a = s.reg a) ∧
  { t with ctx := s.ctx, regs := s.regs } = s

/-- Context `e` of `t` stands at the word after that of `s` in RUN, `n` slots later, with the sticky flags `m` added (R88,
R90, R91). -/
def State.wentOn (s : State) (e : CtxId) (m : BitVec 8) (n : Nat) (t : State) : Prop :=
  t.ctx[e].st = .run ∧ t.ctx[e].pc = s.ctx[e].pc + 1 ∧ t.ctx[e].slots = s.ctx[e].slots + n ∧
  t.ctx[e].sf = s.ctx[e].sf ||| m

/-- The V registers of context `e` are kept but for those that the list names (R89). -/
def State.keepsV (s : State) (e : CtxId) (l : List VReg) (t : State) : Prop :=
  ∀ r, r ∉ l → t.ctx[e].rd r = s.ctx[e].rd r

/-- Instruction `i` of context `e` completes with `w` in register `d` (nothing in V0), flags `m` and `n` slots, and changes
nothing else. -/
def State.givesReg (s : State) (e : CtxId) (i : Instr) (d : VReg) (w : Word) (m : BitVec 8) (n : Nat) : Prop :=
  ∃ t, exec i s = .next t ∧ t.ctx[e].rd d = (if d = 0 then 0 else w) ∧ s.keepsV e [d] t ∧
    t.ctx[e].acc = s.ctx[e].acc ∧ s.wentOn e m n t ∧ s.onlyCtx e t

/-- The same with the value `v` saturated to 32 bits, and flag `m` where it saturates. -/
def State.givesSat (s : State) (e : CtxId) (i : Instr) (d : VReg) (v : Int) (m : BitVec 8) (n : Nat) : Prop :=
  ∃ w : Word, w.toInt = satInt v ∧ s.givesReg e i d w (if satInt v = v then 0 else m) n

/-- Instruction `i` of context `e` completes with a pair of registers written together (R108). -/
def State.givesPair (s : State) (e : CtxId) (i : Instr) (d : VReg) (w x : Word) (m : BitVec 8) (n : Nat) : Prop :=
  ∃ t, exec i s = .next t ∧ t.ctx[e].rd d = w ∧ t.ctx[e].rd (d + 1) = x ∧ s.keepsV e [d, d + 1] t ∧
    t.ctx[e].acc = s.ctx[e].acc ∧ s.wentOn e m n t ∧ s.onlyCtx e t

/-- Instruction `i` of context `e` completes with accumulator `n` holding `x`, flags `m` and one slot, and changes nothing
else. -/
def State.givesAcc (s : State) (e : CtxId) (i : Instr) (n : BitVec 2) (x : BitVec 48) (m : BitVec 8) : Prop :=
  ∃ t, exec i s = .next t ∧ t.ctx[e].rdAcc n = x ∧ (∀ k, k ≠ n → t.ctx[e].rdAcc k = s.ctx[e].rdAcc k) ∧
    s.keepsV e [] t ∧ s.wentOn e m 1 t ∧ s.onlyCtx e t

/-- The same with the value `v` saturated to 48 bits, and sat_acc where it saturates (R97). -/
def State.givesAccSat (s : State) (e : CtxId) (i : Instr) (n : BitVec 2) (v : Int) : Prop :=
  ∃ x : BitVec 48, x.toInt = satAccInt v ∧ s.givesAcc e i n x (if satAccInt v = v then 0 else 0x04)

/-- Instruction `i` of context `e` faults with cause `c`: the effect is the fault's alone, at its own address (R63, R92). -/
def State.faultsAt (s : State) (e : CtxId) (i : Instr) (c : Nat) : Prop :=
  exec i s = .next ((s.fetched e).engineFault e c)

/-- As `wentOn`, after `rp` words that passed a parity replay, 3 slots each, with parity_replay (R72). -/
def State.wentOnAfter (s : State) (e : CtxId) (rp : Nat) (m : BitVec 8) (n : Nat) (t : State) : Prop :=
  s.wentOn e ((if rp = 0 then 0 else 0x80) ||| m) (3 * rp + n) t

/-- Instruction `i` of context `e` meets a word that fails its parity replay: its context stops in FAULT with its registers kept,
and the class A report names the unit and the word's address (R72, R332). -/
def State.parityStops (s : State) (e : CtxId) (i : Instr) (unit addr : Nat) : Prop :=
  ∃ u : State, exec i s = .next (u.report (0x0500 + unit) .A (BitVec.ofNat 32 addr)) ∧ u.ctx[e].st = .fault ∧
    s.keepsV e [] u ∧ u.ctx[e].acc = s.ctx[e].acc ∧ (s.cmds = [] → u.mem = s.mem)

/-! ### Acquisition -/

/-- It is the turn of entry `e` on the CONV edge at `t`: its ADC converts and no list waits for it, this is its next edge, and
the entry is the next one of its pass (R132 to R135). -/
def State.adcTurn (s : State) (e : Fin 64) (t : Nat) : Prop :=
  let a : Fin 4 := ⟨e / 16, by omega⟩
  s.calDone = true ∧ s.calRun = false ∧ s.f (F.ADC_SCAN_mask a) ≠ 0 ∧ s.scanPend[a] = none ∧ t % 160 = 0 ∧ s.adcDue[a] = t ∧
    nextConv (s.f (F.ADC_SCAN_mask a)) s.adcLast[a] = some (e.val % 16)

/-- No unit that takes the raw stream is on (R233, R271, R285). -/
def State.noRawUnits (s : State) : Prop :=
  ∀ i : Fin 4, s.fb (F.GRD_CTL_en i) = false ∧ s.fb (F.ISL_CTL_en i) = false ∧ s.fb (F.MTR_CTL_en i) = false

/-! ### Commands of a port -/

/-- Partner port `p` is open for a command with a payload of `n` bytes, and no command is in flight (R356, R361, R367,
R398). -/
def State.portFree (s : State) (p : Fin 4) (n : Nat) : Prop :=
  s.portLive p = true ∧ s.cmds = [] ∧ s.full p = false ∧ n ≤ 256 ∧ s.mode ≠ mHoldup ∧ s.downloads = false ∧
    s.erasing = none ∧ s.pq = []

/-- The command that the frame of a row makes at partner port `p`: the port's next sequence number, from the latest source on a
network (R361, R363, R393). -/
def State.entered (s : State) (p : Fin 4) (op : Nat) (fence nseq : Bool) (pl : List Byte) : Cmd :=
  s.newCmd p (if p.val < 2 then [] else s.ports[p.val].src) (s.frameOf p op fence nseq pl) none

/-- The state once the frame of a row has entered the queue, before its command runs (R363, R367, R377). -/
def State.queued (s : State) (p : Fin 4) (op : Nat) (fence nseq : Bool) (pl : List Byte) : State :=
  s.enqueue (s.entered p op fence nseq pl)

/-- In `t` the command that a row sent from `s` at port `p` is answered and out of flight: its response, with result, part, cause,
a word and data, is the host port's newest, or has left on the network to the latest source there (R364, R387, R393). -/
def State.answered (s : State) (p : Fin 4) (op res part cause word : Nat) (data : List Byte) (t : State) : Prop :=
  let b := respFrame (s.nextSeq p) op res part cause word data
  t.cmds = [] ∧ (∀ h : Fin 2, h.val = p.val → t.host[h] = s.host[h] ++ [⟨true, b⟩]) ∧
    (2 ≤ p.val → .net (p.val - 2) 0 s.ports[p.val].src b ∈ t.out)

/-- Row `i` is answered so, in a next state with `P`. -/
def State.answers (s : State) (i : Instr) (p : Fin 4) (op res part cause word : Nat) (data : List Byte) (P : State → Prop) :
    Prop :=
  ∃ t, exec i s = .next t ∧ s.answered p op res part cause word data t ∧ P t

/-- Row `i` is answered with result `r` alone, which names no part, in a next state with `P`. -/
def State.answersR (s : State) (i : Instr) (p : Fin 4) (op r : Nat) (P : State → Prop) : Prop :=
  s.answers i p op r 0xFF r 0 [] P

/-- Row `i` leaves its command in flight as `c`, the only one, in a next state with `P`. -/
def State.leavesInFlight (s : State) (i : Instr) (c : Cmd) (P : State → Prop) : Prop :=
  ∃ t, exec i s = .next t ∧ t.cmds = [c] ∧ P t

end Sys2Proof.Machine
end

