-- ==== Sys2Proof/Certificates/Slice0/Obligations.lean ====
section
/-! DEFINITION. The statements for the provers. Each docstring says what the Lean states and names the rules of the spec. -/

open Sys2Proof Sys2Proof.Machine

/-- The command at the front of the queue is what a step runs, on the state with the queue's rest. -/
def Obligations.StepRunsFrontCommand : Prop :=
  ∀ (s : State) (c : Instr) (q : List Instr), s.pending = c :: q → step s = exec c { s with pending := q }

/-- With no command one REF cycle passes (the model's choice, assumption 1): EDGE time rises by 32 taps once it runs
(R49), nothing leaves the device but each µs the status word of an enabled peer link (R400), and SYNC_OUT at REF ÷ div
begins its next period where the last one ends (R51). -/
def Obligations.IdleStepIsOneRefCycle : Prop :=
  ∀ s : State, s.pending = [] → ∃ t, step s = .next t ∧ t.cyc = s.cyc + 1 ∧
    t.etime = (if s.eRun then s.etime + 32 else s.etime) ∧ t.ctx = s.ctx ∧ t.mem = s.mem ∧ t.pending = [] ∧
    t.out = (if s.fb F.PRT_PCFG_en = true ∧ (s.rtcSub + 1) % 250 = 0 then
      .peer 0 [BitVec.ofNat 8 (s.f F.PRT_PCFG_pos), BitVec.ofNat 8 (b2n s.anySwitching + 2 * s.f F.PRT_PCFG_relay_en)] :: s.out
      else s.out) ∧
    (s.synco.src = 0 → s.syncoWant = 0 → t.synco = s.synco) ∧
    (∀ t0, s.synco.src = 13 → s.synco.start = some t0 → s.syncoWant = 13 →
      t.synco.start = some (if t0 + s.synco.len ≤ t.etime then t0 + s.synco.len else t0))

/-- Every step answers a next state, takes exactly the front command off the queue, adds none, and keeps the record of
what has left the device. -/
def Obligations.StepTakesOneCommand : Prop :=
  ∀ s : State, ∃ t, step s = .next t ∧ t.pending = s.pending.tail ∧ s.out <:+ t.out

/-- Every step keeps memory and the register store in canonical form. -/
def Obligations.StepKeepsCanonical : Prop :=
  ∀ s t : State, s.canonical → step s = .next t → t.canonical

/-- What reset leaves: mode RESET with every link PART, contexts IDLE with flags cleared, timebases stopped, no stage held
by a port (15 is no port), and nothing queued (R24, R61, R62, R191, R344, R368). The spec gives V registers and
accumulators no reset value: their 0 is the model's choice (assumption 3). The state after reset is canonical. -/
def Obligations.ResetState : Prop :=
  (State.reset.mode = mReset ∧ (∀ n : Link, State.reset.lnkSt n = lPart) ∧
    (∀ e : CtxId, State.reset.ctx[e].st = .idle ∧ (∀ r, State.reset.ctx[e].rd r = 0) ∧
      (∀ n, State.reset.ctx[e].rdAcc n = 0) ∧ State.reset.ctx[e].sf = 0) ∧
    (∀ k : Stage, State.reset.tbRuns k = false ∧ State.reset.holder k = 15) ∧
    State.reset.pending = [] ∧ State.reset.cmds = [] ∧ State.reset.out = []) ∧
  (State.reset.canonical)

/-- Every well-formed instruction of an engine is read back from its word; a word carries no parity outcome. The words of
the worked example, and the two words that a program runs off into (R84, R85). -/
def Obligations.DecodeReadsEncoding : Prop :=
  (∀ (i : Instr) (e : CtxId), WellFormed i = true → engineFj i = some e → decodeFj e (encodeFj i) .clean = some (cleanFj i)) ∧
  (∀ e : CtxId, decodeFj e 0x04000000 .clean = some (.add e 0 0 0) ∧
      decodeFj e 0x20400C00 .clean = some (.pli e 2 0x0C00) ∧
      decodeFj e 0x1065000C .clean = some (.ld e 3 5 12 .clean) ∧
      decodeFj e 0x0C042801 .clean = some (.pmac e 1 4 5) ∧
      decodeFj e 0x48E0FFFD .clean = some (.blt e 7 0 0xFFFD) ∧
      decodeFj e 0 .clean = none ∧ decodeFj e 0xFFFFFFFF .clean = none)

/-- A word whose opcode R86 does not list is a reserved encoding, and its issue stops the context with cause 1 and no
other effect (R63, R85, R86). A listed opcode with a reserved fx value, or with a field that its instruction does not
use and that is not 0, is a reserved encoding as well and stops the context in the same way (R63, R85). The list of
groups: R93, R95, R98, R99, R101, R109, R110, R114, R117 to R119, R122, R124 to R126, R128, R129, R131. A pair at an
odd register, or a destination pair at V0, is a reserved encoding (R85, R108). PLAN, COMMIT, EVT and TBLU are illegal
on the Headstock, SYS on a Lathe, and a switch of 96 or more is reserved (R109, R122). -/
def Obligations.ReservedEncodingsFault : Prop :=
  (∀ (s : State) (e : CtxId) (w : Word) (p : Par), s.canIssue e →
      (w.toNat / 2 ^ 26) ∉ [0x01, 0x02, 0x03, 0x04, 0x05, 0x07, 0x08, 0x09, 0x0A, 0x0B, 0x0C, 0x0D, 0x0E, 0x0F, 0x10, 0x11,
        0x12, 0x13, 0x14, 0x15, 0x20, 0x21, 0x22, 0x23, 0x24, 0x25, 0x26, 0x28, 0x29, 0x2C, 0x2D, 0x2E, 0x2F, 0x30, 0x31,
        0x34, 0x35, 0x36, 0x3C, 0x3E] →
      decodeFj e w p = none ∧ s.faultsAt e (.illegalOpcode e w) 1) ∧
  (∀ (s : State) (e : CtxId) (p : Par), s.canIssue e →
      let bad : Word → Prop := fun w => decodeFj e w p = none ∧ s.faultsAt e (.illegalOpcode e w) 1
      (∀ (d a b : VReg) (fx : BitVec 6) (lit : BitVec 5),
        (∀ (op : BitVec 6) (fxs : List (BitVec 6)), (op, fxs) ∈ [(0x01, [0x00, 0x01, 0x02, 0x03, 0x04, 0x05, 0x06, 0x07, 0x08,
            0x09, 0x0A, 0x0B, 0x0C, 0x0D, 0x10, 0x11, 0x12, 0x14, 0x15, 0x16, 0x17, 0x18, 0x1E, 0x1F]),
          (0x02, [0, 1, 2, 3, 4, 5, 6, 7, 8, 9]), (0x03, [0, 1, 2, 3, 4, 5, 6, 7, 8]), (0x20, [0, 1]), (0x21, [0]), (0x22, [0]),
          (0x23, [0]), (0x25, [0, 1]), (0x28, [0]), (0x29, [0]), (0x31, [0]), (0x34, [0]), (0x3C, [0, 1, 2, 4])] →
          fx ∉ fxs → bad (regWord op d a b fx lit)) ∧
        (∀ (op : BitVec 6) (fxs : List (BitVec 6)) (used : Bool), (op, fxs, used) ∈
          [(0x01, [0x00, 0x01, 0x02, 0x03, 0x04, 0x05, 0x06, 0x07, 0x08, 0x09, 0x0A, 0x10, 0x11, 0x12, 0x14, 0x15, 0x16, 0x17,
              0x18, 0x1E, 0x1F], lit != 0), (0x01, [0x0B, 0x0C, 0x0D, 0x1E, 0x1F], b != 0), (0x01, [0x1F], a != 0),
            (0x02, [0, 1, 2, 3, 4, 7], lit != 0), (0x02, [2, 3, 5, 6, 8, 9], b != 0),
            (0x03, [0, 1, 2, 3, 4, 5, 6, 7, 8], decide (4 ≤ lit.toNat)), (0x03, [0, 1, 2, 3, 5, 8], d != 0),
            (0x03, [4, 5, 6, 7], a != 0), (0x03, [2, 3, 4, 5, 6, 7], b != 0),
            (0x20, [0, 1], lit != 0), (0x20, [1], b != 0), (0x21, [0], lit != 0), (0x22, [0], lit != 0),
            (0x23, [0], lit != 0 || b != 0), (0x25, [0, 1], lit != 0), (0x31, [0], lit != 0 || b != 0 || a != 0),
            (0x34, [0], lit != 0 || b != 0 || a != 0), (0x3C, [0, 1, 2, 4], lit != 0), (0x3C, [0, 1, 4], b != 0)] →
          fx ∈ fxs → used = true → bad (regWord op d a b fx lit))) ∧
      (∀ (d a : VReg) (imm : BitVec 16) (op : BitVec 6) (used : Bool), (op, used) ∈
        [(0x07, a != 0), (0x08, a != 0), (0x0F, a != 0), (0x2C, a != 0 || decide (2 ^ 8 ≤ imm.toNat)),
          (0x2D, a != 0 || decide (2 ^ 7 ≤ imm.toNat)), (0x2E, a != 0 || decide (2 ^ 8 ≤ imm.toNat)),
          (0x2F, a != 0 || decide (2 ^ 8 ≤ imm.toNat)),
          (0x30, decide (2 ^ 12 ≤ imm.toNat ∨ imm.toNat / 2 ^ 7 % 2 = 1 ∨ imm.toNat / 2 ^ 10 % 4 = 3) ||
            (decide (imm.toNat / 2 ^ 10 % 4 = 2) && (d != 0 || a != 0 || decide (imm.toNat / 2 ^ 8 % 4 ≠ 0)))),
          (0x35, d != 0 || a != 0), (0x36, d != 0 || a != 0 || decide (2 ^ 8 ≤ imm.toNat)), (0x3E, d != 0 || a != 0)] →
        used = true → bad (immWord op d a imm))) ∧
  (∀ (s : State) (e : CtxId), s.canIssue e → ∀ d a b : VReg,
      (d.toNat % 2 = 1 ∨ d = 0 → s.faultsAt e (.clarke e d a b) 1 ∧ s.faultsAt e (.clarke2 e d a) 1 ∧
        s.faultsAt e (.park e d a b) 1 ∧ s.faultsAt e (.ipark e d a b) 1 ∧ s.faultsAt e (.sincos e d a) 1 ∧
        s.faultsAt e (.lim e b a d) 1) ∧
      (a.toNat % 2 = 1 → s.faultsAt e (.clarke e d a b) 1 ∧ s.faultsAt e (.clarke2 e d a) 1 ∧
        s.faultsAt e (.park e d a b) 1 ∧ s.faultsAt e (.ipark e d a b) 1)) ∧
  (∀ (s : State) (e : CtxId), s.canIssue e → ∀ (d a b : VReg) (sw : BitVec 7) (p : BitVec 2) (imm : BitVec 16),
      (12 ≤ e.val ∨ 96 ≤ sw.toNat → s.faultsAt e (.plant e d a sw p) 1 ∧ s.faultsAt e (.planf e d a sw p) 1 ∧
        s.faultsAt e (.planc e sw) 1) ∧
      (12 ≤ e.val → s.faultsAt e (.commit e d) 1 ∧ s.faultsAt e (.evt e imm) 1 ∧ (d ≠ 0 → s.faultsAt e (.wait e d) 1)) ∧
      (e.val < 12 → (∀ q, s.faultsAt e (.sysRd e d a q) 1 ∧ s.faultsAt e (.sysMrd e d a q) 1) ∧
        s.faultsAt e (.sysWr e d a b) 1 ∧ ∀ rp lost par bad, s.faultsAt e (.sysCmd e d a rp lost par bad) 1))

/-- An engine fault stops its context in FAULT and records cause and address; registers, accumulators and flags keep their
values, every other context its state, and memory where no command is in flight whose journal entry the fault
completes (R63, R92, R254). -/
def Obligations.EngineFaultEffect : Prop :=
  ∀ (s : State) (e : CtxId) (c : Nat), c < 8 → s.ctx[e].pc < pcLimit e →
    (s.engineFault e c).ctx[e].st = .fault ∧ (∀ r, (s.engineFault e c).ctx[e].rd r = s.ctx[e].rd r) ∧
    (s.engineFault e c).ctx[e].acc = s.ctx[e].acc ∧ (s.engineFault e c).ctx[e].sf = s.ctx[e].sf ∧
    (∀ x, x ≠ e → (s.engineFault e c).ctx[x] = s.ctx[x]) ∧ (s.cmds = [] → (s.engineFault e c).mem = s.mem) ∧
    (s.engineFault e c).f (if e.val < 12 then F.LTH_FAULT_cause (e.val / 2) else F.LTH_HS_FAULT_cause) = c ∧
    (s.engineFault e c).f (if e.val < 12 then F.LTH_FAULT_pc (e.val / 2) else F.LTH_HS_FAULT_pc) = s.ctx[e].pc

/-- The integer group but DIV and JLR: results, flags and slots (R93). -/
def Obligations.IntegerResults : Prop :=
  ∀ (s : State) (e : CtxId), s.canIssue e → ∀ (d a b : VReg) (lit : BitVec 5),
    let x := s.ctx[e].rd a
    let y := s.ctx[e].rd b
    s.givesReg e (.add e d a b) d (x + y) 0 1 ∧ s.givesReg e (.sub e d a b) d (x - y) 0 1 ∧
    s.givesSat e (.adds e d a b) d (x.toInt + y.toInt) 0x40 1 ∧ s.givesSat e (.subs e d a b) d (x.toInt - y.toInt) 0x40 1 ∧
    s.givesReg e (.and e d a b) d (x &&& y) 0 1 ∧ s.givesReg e (.or e d a b) d (x ||| y) 0 1 ∧
    s.givesReg e (.xor e d a b) d (x ^^^ y) 0 1 ∧ s.givesReg e (.andn e d a b) d (x &&& ~~~y) 0 1 ∧
    s.givesReg e (.shl e d a b) d (x <<< (y.toNat % 32)) 0 1 ∧ s.givesReg e (.shr e d a b) d (x >>> (y.toNat % 32)) 0 1 ∧
    s.givesReg e (.sar e d a b) d (x.sshiftRight (y.toNat % 32)) 0 1 ∧
    s.givesReg e (.shli e d a lit) d (x <<< lit.toNat) 0 1 ∧ s.givesReg e (.shri e d a lit) d (x >>> lit.toNat) 0 1 ∧
    s.givesReg e (.sari e d a lit) d (x.sshiftRight lit.toNat) 0 1 ∧
    s.givesReg e (.mul e d a b) d (x * y) (if satInt (x.toInt * y.toInt) = x.toInt * y.toInt then 0 else 0x40) 2 ∧
    (∃ w : Word, w.toInt = x.toInt * y.toInt / 2 ^ 32 ∧ s.givesReg e (.mulh e d a b) d w 0 2) ∧
    s.givesReg e (.clt e d a b) d (if x.toInt < y.toInt then 1 else 0) 0 1 ∧
    s.givesReg e (.cltu e d a b) d (if x.toNat < y.toNat then 1 else 0) 0 1 ∧
    s.givesReg e (.ceq e d a b) d (if x = y then 1 else 0) 0 1 ∧
    (∃ w : Word, w.toInt = min x.toInt y.toInt ∧ s.givesReg e (.min e d a b) d w 0 1) ∧
    (∃ w : Word, w.toInt = max x.toInt y.toInt ∧ s.givesReg e (.max e d a b) d w 0 1) ∧
    s.givesReg e (.sfrd e d) d (s.ctx[e].sf.zeroExtend 32) 0 1

/-- DIV and PDIV: the quotient truncated toward zero, saturated with ovf_int or sat_mul; a zero divisor gives a result by
the sign of the dividend, with div0. JLR jumps to what Va held before, also where it is Vd, and faults outside the
memory (R93 to R95). -/
def Obligations.DivisionResults : Prop :=
  ∀ (s : State) (e : CtxId), s.canIssue e → ∀ d a b : VReg,
    let x := s.ctx[e].rd a
    let y := s.ctx[e].rd b
    let z : Word := if 0 < x.toInt then 0x7FFFFFFF else if x.toInt < 0 then 0x80000000 else 0
    (y = 0 → s.givesReg e (.div e d a b) d z 0x10 16 ∧ s.givesReg e (.pdiv e d a b) d z 0x10 16) ∧
    (y ≠ 0 → s.givesSat e (.div e d a b) d (x.toInt.tdiv y.toInt) 0x40 16 ∧
      s.givesSat e (.pdiv e d a b) d ((x.toInt * 2 ^ 28).tdiv y.toInt) 0x02 16) ∧
    (pcLimit e ≤ x.toNat → s.faultsAt e (.jlr e d a) 2) ∧
    (x.toNat < pcLimit e → ∃ t, exec (.jlr e d a) s = .next t ∧ t.ctx[e].pc = x.toNat ∧
      t.ctx[e].rd d = (if d = 0 then 0 else BitVec.ofNat 32 (s.ctx[e].pc + 1)))

/-- The per-unit group but PDIV: exact results, rounded, then saturated (R95, R96). -/
def Obligations.PerUnitResults : Prop :=
  ∀ (s : State) (e : CtxId), s.canIssue e → ∀ (d a b : VReg) (lit : BitVec 5),
    let x := (s.ctx[e].rd a).toInt
    let y := (s.ctx[e].rd b).toInt
    s.givesSat e (.padd e d a b) d (x + y) 0x01 1 ∧ s.givesSat e (.psub e d a b) d (x - y) 0x01 1 ∧
    s.givesSat e (.pneg e d a) d (-x) 0x01 1 ∧ s.givesSat e (.pabs e d a) d x.natAbs 0x01 1 ∧
    s.givesSat e (.pmul e d a b) d (roundInt (x * y) 28) 0x02 2 ∧ s.givesSat e (.pshl e d a lit) d (x * 2 ^ lit.toNat) 0x02 1 ∧
    (∃ w : Word, w.toInt = roundInt x lit.toNat ∧ s.givesReg e (.pshr e d a lit) d w 0 1) ∧
    (lit.toNat ≤ 28 → s.givesSat e (.itop e d a lit) d (x * 2 ^ (28 - lit.toNat)) 0x02 1 ∧
      ∃ w : Word, w.toInt = roundInt x (28 - lit.toNat) ∧ s.givesReg e (.ptoi e d a lit) d w 0 1) ∧
    (28 < lit.toNat → s.faultsAt e (.itop e d a lit) 1 ∧ s.faultsAt e (.ptoi e d a lit) 1)

/-- The accumulator group: the terms are exact or rounded to 36 fraction bits, sums saturate to 48 bits with sat_acc, raw
moves are exact (R97, R98). -/
def Obligations.AccumulatorResults : Prop :=
  ∀ (s : State) (e : CtxId), s.canIssue e → ∀ (n : BitVec 2) (d a b : VReg),
    let x := s.ctx[e].rd a
    let y := s.ctx[e].rd b
    let c := s.ctx[e].rdAcc n
    s.givesAccSat e (.pmac e n a b) n (c.toInt + roundInt (x.toInt * y.toInt) 20) ∧
    s.givesAccSat e (.pmsb e n a b) n (c.toInt - roundInt (x.toInt * y.toInt) 20) ∧
    (∃ v : BitVec 48, v.toInt = x.toInt * 2 ^ 8 ∧ s.givesAcc e (.accld e n a) n v 0) ∧
    s.givesAccSat e (.accadd e n a) n (c.toInt + x.toInt * 2 ^ 8) ∧
    s.givesSat e (.accrd e d n) d (roundInt c.toInt 8) 0x04 2 ∧ s.givesAcc e (.accclr e n) n 0 0 ∧
    s.givesReg e (.acclo e d n) d (BitVec.ofNat 32 c.toNat) 0 1 ∧
    (∃ w : Word, w.toInt = c.toInt / 2 ^ 32 ∧ s.givesReg e (.acchi e d n) d w 0 1) ∧
    (∃ v : BitVec 48, v.toNat = x.toNat % 2 ^ 16 * 2 ^ 32 + y.toNat ∧ s.givesAcc e (.accset e n a b) n v 0)

/-- The immediate instructions (R99). -/
def Obligations.ImmediateResults : Prop :=
  ∀ (s : State) (e : CtxId), s.canIssue e → ∀ (d a : VReg) (imm : BitVec 16),
    let x := s.ctx[e].rd a
    (∃ w : Word, w.toInt = imm.toInt * 2 ^ 16 ∧ s.givesReg e (.pli e d imm) d w 0 1) ∧
    s.givesSat e (.paddi e d a imm) d (x.toInt + imm.toInt * 2 ^ 16) 0x01 1 ∧
    (∃ w : Word, w = BitVec.ofInt 32 (x.toInt + imm.toInt) ∧ s.givesReg e (.addi e d a imm) d w 0 1) ∧
    s.givesReg e (.clti e d a imm) d (if x.toInt < imm.toInt then 1 else 0) 0 1 ∧
    s.givesReg e (.andi e d a imm) d (x &&& BitVec.ofNat 32 imm.toNat) 0 1 ∧
    s.givesReg e (.ori e d a imm) d (x ||| BitVec.ofNat 32 imm.toNat) 0 1 ∧
    s.givesReg e (.xori e d a imm) d (x ^^^ BitVec.ofNat 32 imm.toNat) 0 1 ∧
    (∃ w : Word, w.toNat = imm.toNat * 2 ^ 16 ∧ s.givesReg e (.lhi e d imm) d w 0 1)

/-- A conditional branch of 2 slots: the next word where the condition fails; the target where it holds and lies in the
instruction memory; a fault at the branch's own address where it holds and the target does not (R63, R92, R100, R101).
JL and JLR: the next address goes to Vd and the program goes on at the target, which JLR takes from Va as it was
before the instruction; a target outside the instruction memory faults (R93, R94, R101). -/
def Obligations.BranchesAndJumps : Prop :=
  (∀ (s : State) (e : CtxId), s.canIssue e → ∀ (d a : VReg) (off : BitVec 16) (i : Instr) (c : Bool),
      let x := s.ctx[e].rd d
      let y := s.ctx[e].rd a
      (i, c) ∈ [(Instr.beq e d a off, decide (x = y)), (.bne e d a off, decide (x ≠ y)),
        (.blt e d a off, decide (x.toInt < y.toInt)), (.bge e d a off, decide (y.toInt ≤ x.toInt)),
        (.bltu e d a off, decide (x.toNat < y.toNat)), (.bgeu e d a off, decide (y.toNat ≤ x.toNat))] →
      let g : Int := s.ctx[e].pc + 1 + off.toInt
      let inside : Prop := 0 ≤ g ∧ g < pcLimit e
      (c = true ∧ ¬inside → s.faultsAt e i 2) ∧
      (c = false ∨ inside → ∃ t, exec i s = .next t ∧ (t.ctx[e].pc : Int) = (if c then g else s.ctx[e].pc + 1) ∧
        t.ctx[e].st = .run ∧ t.ctx[e].slots = s.ctx[e].slots + 2 ∧ t.ctx[e].sf = s.ctx[e].sf ∧ t.ctx[e].acc = s.ctx[e].acc ∧
        s.keepsV e [] t ∧ s.onlyCtx e t)) ∧
  (∀ (s : State) (e : CtxId), s.canIssue e → ∀ (d a : VReg) (target : BitVec 16) (i : Instr) (g : Nat),
      (i, g) ∈ [(Instr.jl e d target, target.toNat), (.jlr e d a, (s.ctx[e].rd a).toNat)] →
      (pcLimit e ≤ g → s.faultsAt e i 2) ∧
      (g < pcLimit e → ∃ t, exec i s = .next t ∧ t.ctx[e].pc = g ∧ t.ctx[e].st = .run ∧
        t.ctx[e].rd d = (if d = 0 then 0 else BitVec.ofNat 32 (s.ctx[e].pc + 1)) ∧ s.keepsV e [d] t ∧
        t.ctx[e].slots = s.ctx[e].slots + 2 ∧ t.ctx[e].sf = s.ctx[e].sf ∧ t.ctx[e].acc = s.ctx[e].acc ∧ s.onlyCtx e t))

/-- LD: an offset outside the window faults; otherwise the data word goes to Vd where no watchpoint names it, after a
replay that passed with parity_replay and 3 slots more. A word that fails its replay stops the context in FAULT with a
class A report (R72, R102). ST: an offset outside the window faults; where no watchpoint names the word, one in the
coefficient region of a closed loop keeps its value and is counted and reported, and any other word takes Vd, and no
byte outside it changes (R71, R102, R103). -/
def Obligations.LoadsAndStores : Prop :=
  (∀ (s : State) (e : CtxId), s.canIssue e → ∀ (d a : VReg) (imm : BitVec 16),
      let o := effOff (s.ctx[e].rd a) imm
      (s.window e o = none → ∀ p, s.faultsAt e (.ld e d a imm p) 3) ∧
      (∀ w, s.window e o = some w → s.wpHit e [w] [] = none →
        s.givesReg e (.ld e d a imm .clean) d (s.mw (dmemAddr e w)) 0 2 ∧
        ∃ t, exec (.ld e d a imm .replayPass) s = .next t ∧ t.ctx[e].rd d = (if d = 0 then 0 else s.mw (dmemAddr e w)) ∧
          s.keepsV e [d] t ∧ t.ctx[e].acc = s.ctx[e].acc ∧ s.wentOn e 0x80 5 t ∧ t.mem = s.mem) ∧
      (∀ w, s.window e o = some w → s.parityStops e (.ld e d a imm .replayFail) (engineNo e) (dmemAddr e w))) ∧
  (∀ (s : State) (e : CtxId), s.canIssue e → ∀ (d a : VReg) (imm : BitVec 16),
      let o := effOff (s.ctx[e].rd a) imm
      (s.window e o = none → s.faultsAt e (.st e d a imm) 3) ∧
      (∀ w, s.window e o = some w → s.wpHit e [] [w] = none → s.cregClosed e o = false →
        ∃ t, exec (.st e d a imm) s = .next t ∧ t.mw (dmemAddr e w) = s.ctx[e].rd d ∧
          (∀ b, b < dmemAddr e w ∨ dmemAddr e w + 4 ≤ b → t.mb b = s.mb b) ∧ s.keepsV e [] t ∧
          t.ctx[e].acc = s.ctx[e].acc ∧ s.wentOn e 0 1 t ∧ (∀ x, x ≠ e → t.ctx[x] = s.ctx[x]) ∧
          (∀ b, home b ≠ home (A.LTH_PC (e.val / 2) (e.val % 2)) ∨ 12 ≤ e.val → t.reg b = s.reg b)) ∧
      (∀ w, s.window e o = some w → s.wpHit e [] [w] = none → s.cregClosed e o = true →
        ∃ t, exec (.st e d a imm) s = .next t ∧ t.mem = s.mem ∧ s.keepsV e [] t ∧ s.wentOn e 0 1 t ∧ t.mode = s.mode ∧
          t.f (F.LTH_FAULT_creg_viol (e.val / 2)) =
            satInc (F.LTH_FAULT_creg_viol (e.val / 2)).wd (s.f (F.LTH_FAULT_creg_viol (e.val / 2))) ∧
          t.f F.FLT_CLAST_code = 0x6500 + e.val))

/-- The transforms but SINCOS: the pair of results of R110, each rounded once, saturated to pu28 with sat_mul, both
registers written together; the sine and cosine are the generator's. -/
def Obligations.TransformResults : Prop :=
  ∀ (s : State) (e : CtxId), s.canIssue e → ∀ d a b : VReg, d.toNat % 2 = 0 → d ≠ 0 → a.toNat % 2 = 0 →
    let x := (s.ctx[e].rd a).toInt
    let y := (s.ctx[e].rd (a + 1)).toInt
    let th := s.ctx[e].rd b
    ∀ (i : Instr) (u v : Int),
      (i, u, v) ∈ [(Instr.clarke e d a b, (2 * (2 * x - y - th.toInt) + 3) / 6, overSqrt3 (y - th.toInt)),
        (.clarke2 e d a, x, overSqrt3 (x + 2 * y)),
        (.park e d a b, roundInt (x * cosGen th + y * sinGen th) 28, roundInt (-x * sinGen th + y * cosGen th) 28),
        (.ipark e d a b, roundInt (x * cosGen th - y * sinGen th) 28, roundInt (x * sinGen th + y * cosGen th) 28)] →
      ∃ p q : Word, p.toInt = satInt u ∧ q.toInt = satInt v ∧
        s.givesPair e i d p q (if satInt u = u ∧ satInt v = v then 0 else 0x02) 4

/-- SINCOS completes with sine and cosine in its pair and no flag. The generator's values are never above 1.0 pu in
magnitude (2^−28 pu the unit), stay within 15 LSB of the model's sine by an error that the model leaves free
(assumption 2, DESIGN CHOICE), and are exact at a quarter turn; the model's sine at 0, 30°, 45°, 60°, 90°, 210° and
270° is the rounded true value (R110, R111). β of CLARKE and CLARKE2 lies within 1 LSB of the exact `n / √3` (R111). -/
def Obligations.SincosAndClarkeBounds : Prop :=
  ((∀ (s : State) (e : CtxId), s.canIssue e → ∀ d a : VReg, d.toNat % 2 = 0 → d ≠ 0 →
      ∃ p q : Word, p.toInt = sinGen (s.ctx[e].rd a) ∧ q.toInt = cosGen (s.ctx[e].rd a) ∧
        s.givesPair e (.sincos e d a) d p q 0 4) ∧
    (∀ th : Word, (sinGen th).natAbs ≤ 2 ^ 28 ∧ (cosGen th).natAbs ≤ 2 ^ 28) ∧
    (∀ th : Word, (sinTrue th).natAbs ≤ 2 ^ 28 → (sinGen th - sinTrue th).natAbs ≤ 15 ∧
      ((sinTrue (th + 0x40000000)).natAbs ≤ 2 ^ 28 → (cosGen th - sinTrue (th + 0x40000000)).natAbs ≤ 15)) ∧
    sinGen 0x40000000 = 2 ^ 28 ∧ cosGen 0x40000000 = 0 ∧ sinTrue 0 = 0 ∧ sinTrue 0x15555555 = 134217728 ∧
    sinTrue 0x20000000 = 189812531 ∧ sinTrue 0x2AAAAAAB = 232471924 ∧ sinTrue 0x40000000 = 2 ^ 28 ∧
    sinTrue 0x95555555 = -134217728 ∧ sinTrue 0xC0000000 = -2 ^ 28) ∧
  (∀ n : Int, n.natAbs < 2 ^ 34 →
      let b := (overSqrt3 n).natAbs
      3 * (b - 1) * (b - 1) ≤ n.natAbs * n.natAbs ∧ n.natAbs * n.natAbs ≤ 3 * (b + 1) * (b + 1) ∧
        (0 ≤ n → 0 ≤ overSqrt3 n) ∧ (n ≤ 0 → overSqrt3 n ≤ 0))

/-- One step of PI where no watchpoint names its words: the integrator is limited and stored at blk + 4, the output goes
to Vd, pi_clamp, sat_mul and sat_add are set as R112 says, after as many replays that passed as there were; a word
that fails its replay stops the context; a block not wholly in the window faults (R72, R112, R113). -/
def Obligations.PiStep : Prop :=
  ∀ (s : State) (e : CtxId), s.canIssue e → ∀ (d a : VReg) (blk : BitVec 16),
    ((s.window e blk.toNat = none ∨ s.window e (blk.toNat + 4) = none) →
      ∀ rp bad, s.faultsAt e (.pi e d a blk rp bad) 3) ∧
    ∀ w, s.window e blk.toNat = some w → s.window e (blk.toNat + 4) = some (w + 4) →
      (∀ rp (j : Fin 5), s.parityStops e (.pi e d a blk rp (some j)) (engineNo e) (dmemAddr e (w + j))) ∧
      ∀ rp, s.cregClosed e (blk.toNat + 4) = false → s.wpHit e [w, w + 1, w + 2, w + 3, w + 4] [w + 4] = none →
      let m (j : Nat) : Int := (s.mw (dmemAddr e (w + j))).toInt
      let x := (s.ctx[e].rd a).toInt
      let ki := roundInt (m 1 * x) 28
      let su := m 4 + satInt ki
      let i' := min (max (satInt su) (m 3)) (m 2)
      let kp := roundInt (m 0 * x) 28
      let o := satInt kp + i'
      ∃ t, exec (.pi e d a blk rp none) s = .next t ∧ (t.mw (dmemAddr e (w + 4))).toInt = i' ∧
        (d ≠ 0 → (t.ctx[e].rd d).toInt = min (max (satInt o) (m 3)) (m 2)) ∧ s.keepsV e [d] t ∧
        s.wentOnAfter e rp ((if satInt ki = ki ∧ satInt kp = kp then 0 else 0x02) |||
          (if satInt su = su ∧ satInt o = o then 0 else 0x01) ||| (if satInt su < m 3 ∨ m 2 < satInt su then 0x08 else 0)) 6 t ∧
        (∀ b, b < dmemAddr e (w + 4) ∨ dmemAddr e (w + 4) + 4 ≤ b → t.mb b = s.mb b)

/-- LIM and LIMS: the limited value, the upper limit winning, and no flag (R114). One step of RAMP where no watchpoint
names its words: x moves toward the target by at most the rate, never past it; x, the status word and Vd are written,
after as many replays that passed as there were; a word that fails its replay stops the context; a block not wholly in
the window faults (R72, R115). -/
def Obligations.LimitAndRamp : Prop :=
  (∀ (s : State) (e : CtxId), s.canIssue e → ∀ d a b : VReg,
      let x := (s.ctx[e].rd a).toInt
      let y := (s.ctx[e].rd b).toInt
      (b.toNat % 2 = 0 → b ≠ 0 → ∃ w : Word, w.toInt = min (max x (s.ctx[e].rd (b + 1)).toInt) y ∧
        s.givesReg e (.lim e d a b) d w 0 1) ∧
      ∃ w : Word, w.toInt = min (max x (-satInt y.natAbs)) (satInt y.natAbs) ∧ s.givesReg e (.lims e d a b) d w 0 1) ∧
  (∀ (s : State) (e : CtxId), s.canIssue e → ∀ (d a : VReg) (blk : BitVec 16),
      ((s.window e blk.toNat = none ∨ s.window e (blk.toNat + 2) = none) →
        ∀ rp bad, s.faultsAt e (.ramp e d a blk rp bad) 3) ∧
      ∀ w, s.window e blk.toNat = some w → s.window e (blk.toNat + 2) = some (w + 2) →
        (∀ rp (j : Fin 2), s.parityStops e (.ramp e d a blk rp (some j)) (engineNo e) (dmemAddr e (w + j))) ∧
        ∀ rp, s.cregClosed e (blk.toNat + 1) = false → s.cregClosed e (blk.toNat + 2) = false →
        s.wpHit e [w, w + 1] [w + 1, w + 2] = none →
        let r := (s.mw (dmemAddr e w)).toInt
        let x := (s.mw (dmemAddr e (w + 1))).toInt
        let g := (s.ctx[e].rd a).toInt
        let n := if r ≤ 0 then x else if g - x ≤ r ∧ x - g ≤ r then g else if x < g then x + r else x - r
        ∃ t, exec (.ramp e d a blk rp none) s = .next t ∧ (t.mw (dmemAddr e (w + 1))).toInt = n ∧
          t.mw (dmemAddr e (w + 2)) = (if n = g then 1 else 0) ∧ (d ≠ 0 → (t.ctx[e].rd d).toInt = n) ∧ s.keepsV e [d] t ∧
          s.wentOnAfter e rp 0 4 t ∧ (∀ b, b < dmemAddr e (w + 1) ∨ dmemAddr e (w + 1) + 8 ≤ b → t.mb b = s.mb b))

/-- TBL: the interpolated value of the entries at the angle and after it, with tbl_untrained, and the count of it, where
an entry was borrowed or taken as 0, after as many replays that passed as there were; an entry that fails its replay
stops the context; a literal that R109 reserves faults (R72, R109, R117, R227). TBLU where the stage may not learn
only counts a skip; where it may it writes the entries of its own band at i and, where the fraction is not 0, i + 1,
each with its share of the error and one count more, and no other byte of memory; an entry that fails its replay stops
the context; a literal of 16 or more and the Headstock fault (R72, R109, R118, R228). -/
def Obligations.TableInstructions : Prop :=
  (∀ (s : State) (e : CtxId), s.canIssue e → ∀ (d a b : VReg) (lit : BitVec 5),
      (tblStage e lit = none → ∀ rp bad, s.faultsAt e (.tbl e d a b lit rp bad) 1) ∧
      ∀ k, tblStage e lit = some k →
        let th := (s.ctx[e].rd a).toNat
        let mag := absW (s.ctx[e].rd b)
        let B := s.bandOf k mag
        let v0 := s.tblResolve k B (th / 2 ^ 22) mag
        let v1 := s.tblResolve k B ((th / 2 ^ 22 + 1) % 1024) mag
        (∀ rp (x : Fin 3) (y : Bool), s.parityStops e (.tbl e d a b lit rp (some (x, y))) 7
          (tblAddr k (B + x - 1) (if y then (th / 2 ^ 22 + 1) % 1024 else th / 2 ^ 22))) ∧
        ∀ rp, ∃ t, exec (.tbl e d a b lit rp none) s = .next t ∧ t.mem = s.mem ∧ s.keepsV e [d] t ∧
          (d ≠ 0 → (t.ctx[e].rd d).toInt = roundInt (v0.1 * 2 ^ 22 + (th % 2 ^ 22 : Nat) * (v1.1 - v0.1)) 8) ∧
          s.wentOnAfter e rp (if v0.2 = true ∨ v1.2 = true then 0x20 else 0) 4 t ∧
          t.f (F.STG_TBLSTAT_untr k) = (if v0.2 = true ∨ v1.2 = true then satInc (F.STG_TBLSTAT_untr k).wd (s.f (F.STG_TBLSTAT_untr k))
            else s.f (F.STG_TBLSTAT_untr k))) ∧
  (∀ (s : State) (e : CtxId), s.canIssue e → ∀ (d a b : VReg) (lit : BitVec 5),
      (12 ≤ e.val ∨ 16 ≤ lit.toNat → ∀ rp bad, s.faultsAt e (.tblu e d a b lit rp bad) 1) ∧
      ∀ k, stageOf e = some k → lit.toNat < 16 →
        (s.mayLearn k = false → ∀ rp bad, ∃ t, exec (.tblu e d a b lit rp bad) s = .next t ∧ t.mem = s.mem ∧ s.wentOn e 0 6 t ∧
          s.keepsV e [] t ∧ t.f (F.STG_TBLSTAT_skip k) = satInc (F.STG_TBLSTAT_skip k).wd (s.f (F.STG_TBLSTAT_skip k))) ∧
        (s.mayLearn k = true →
          let th := (s.ctx[e].rd a).toNat
          let mag := absW (s.ctx[e].rd b)
          let B := s.bandOf k mag
          let i := th / 2 ^ 22
          let j := (i + 1) % 1024
          let f := th % 2 ^ 22
          let er := (s.ctx[e].rd d).toInt
          let v := (s.tblResolve k B i mag).1 + roundInt ((2 ^ 22 - f : Nat) * er) (36 + lit.toNat)
          let w := (s.tblResolve k B j mag).1 + roundInt ((f : Int) * er) (36 + lit.toNat)
          (∀ rp (x : Fin 3) (y : Bool), s.parityStops e (.tblu e d a b lit rp (some (x, y))) 7
            (tblAddr k (B + x - 1) (if y then j else i))) ∧
          ∀ rp, ∃ t, exec (.tblu e d a b lit rp none) s = .next t ∧ s.keepsV e [] t ∧
            t.tblV k B i = max (-4096) (min v 4095) ∧ t.tblN k B i = min 7 (s.tblN k B i + 1) ∧
            (f ≠ 0 → t.tblV k B j = max (-4096) (min w 4095) ∧ t.tblN k B j = min 7 (s.tblN k B j + 1)) ∧
            s.wentOnAfter e rp (if v < -4096 ∨ 4095 < v ∨ (f ≠ 0 ∧ (w < -4096 ∨ 4095 < w)) then 0x01 else 0) 6 t ∧
            (∀ x, x < tblAddr k B i ∨ tblAddr k B i + 2 ≤ x → f = 0 ∨ x < tblAddr k B j ∨ tblAddr k B j + 2 ≤ x → t.mb x = s.mb x)))

/-- AVG, SMP, GRID and MTR read and change nothing but Vd; a quantity above 10 is a reserved encoding (R119 to R121). -/
def Obligations.DeviceReads : Prop :=
  ∀ (s : State) (e : CtxId), s.canIssue e → ∀ (d : VReg) (x : Fin 64) (sel : Fin 4) (g : Fin 4) (q : BitVec 6),
    let u := s.fetched e
    s.givesReg e (.avg e d x sel) d (u.avgRead x sel) 0 2 ∧
    s.givesReg e (.smp e d x true) d (BitVec.ofNat 32 (u.f (F.ADC_RES_code x))) 0 2 ∧
    s.givesReg e (.smp e d x false) d (u.scale x (u.f (F.ADC_RES_code x))) 0 2 ∧
    (∀ h : q.toNat < 11, s.givesReg e (.grid e d g q) d
      (if e.val < 12 then s.ctx[e].snap[g][q.toNat] else u.gridVal g (u.reg (A.GRD_THETA g)).toNat q.toNat) 0 2) ∧
    (q.toNat < 11 → s.givesReg e (.mtr e d g q) d (u.mtrRead g q.toNat) 0 2) ∧
    (11 ≤ q.toNat → s.faultsAt e (.grid e d g q) 1 ∧ s.faultsAt e (.mtr e d g q) 1)

/-- PLANT, PLANF and PLANC on a Lathe: a slot of an owned switch takes its instants limited to the period, with sat_add
where one was limited; PLANC clears the four slots; for a switch that the stage does not own nothing changes (R122,
R123). An instant of PLAN lies in 0 to the period; 1.0 pu gives exactly the period; it counts as limited exactly where
it lay outside (R123). -/
def Obligations.PlanInstructions : Prop :=
  (∀ (s : State) (e : CtxId), s.canIssue e → ∀ (k : Stage), stageOf e = some k → ∀ (d a : VReg) (sw : BitVec 7) (p : BitVec 2),
      sw.toNat < 96 →
      let pt := (s.fetched e).planPeriod k
      let slot (l : Nat → Word → Nat × Bool) (i : Instr) : Prop :=
        let x := l pt (s.ctx[e].rd d)
        let y := l pt (s.ctx[e].rd a)
        ∃ t, exec i s = .next t ∧ s.keepsV e [] t ∧ t.mem = s.mem ∧
          (s.owns k sw.toNat = true → s.wentOn e (if x.2 = true ∨ y.2 = true then 0x01 else 0) 2 t ∧
            t.stg[k].pend = setSlot s.stg[k].pend (4 * sw.toNat + p.toNat) x.1 y.1 ∧ t.stg[k].com = s.stg[k].com) ∧
          (s.owns k sw.toNat = false → s.wentOn e 0 2 t ∧ t.stg = s.stg)
      slot (planInstant false) (.plant e d a sw p) ∧ slot (planInstant true) (.planf e d a sw p) ∧
      ∃ t, exec (.planc e sw) s = .next t ∧ s.keepsV e [] t ∧ s.wentOn e 0 2 t ∧ t.mem = s.mem ∧
        (s.owns k sw.toNat = true → t.stg[k].pend = s.stg[k].pend.filter (fun x => x.1 / 4 != sw.toNat) ∧
          t.stg[k].com = s.stg[k].com) ∧
        (s.owns k sw.toNat = false → t.stg = s.stg)) ∧
  (∀ (frac : Bool) (pt : Nat) (w : Word), (planInstant frac pt w).1 ≤ pt ∧ planInstant true pt 0x10000000 = (pt, false) ∧
      ((planInstant frac pt w).2 = true ↔ w.toInt < 0 ∨ (if frac then 2 ^ 28 else (pt : Int)) < w.toInt))

/-- COMMIT outside the guard window and not at a reload instant: the pending plan becomes the committed one, nothing is
held, and the status word is 1, with bit 2 where switching is stopped (R124). COMMIT inside the guard window: the
pending plan is held for the following period, and the committed one stays for the coming reload. COMMIT exactly at a
reload instant, which has latched its plan: the pending plan becomes the committed one, for the reload that follows.
Both count in STG_PLAN_DEFER and as a deferred margin, and the status word is 2, with bit 2 where switching is stopped
(R20, R124). -/
def Obligations.CommitBeforeGuard : Prop :=
  (∀ (s : State) (e : CtxId) (k : Stage) (d : VReg), s.canIssue e → stageOf e = some k → s.inGuard k = false →
      ∃ t, exec (.commit e d) s = .next t ∧ t.stg[k].com = s.stg[k].pend ∧ t.stg[k].pend = s.stg[k].pend ∧ t.stg[k].held = none ∧
        (d ≠ 0 → t.ctx[e].rd d = (if s.swStopped k then 5 else 1)) ∧ s.keepsV e [d] t ∧ s.wentOn e 0 2 t ∧ t.mem = s.mem) ∧
  (∀ (s : State) (e : CtxId) (k : Stage) (d : VReg), s.canIssue e → stageOf e = some k →
      let deferred : State → Prop := fun t =>
        t.f (F.STG_PLAN_DEFER_count k) = satInc (F.STG_PLAN_DEFER_count k).wd (s.f (F.STG_PLAN_DEFER_count k)) ∧
        (d ≠ 0 → t.ctx[e].rd d = (if s.swStopped k then 6 else 2)) ∧ s.keepsV e [d] t ∧ s.wentOn e 0 2 t ∧ t.mem = s.mem
      (s.inWindow k = true → ∃ t, exec (.commit e d) s = .next t ∧ t.stg[k].com = s.stg[k].com ∧
        t.stg[k].held = some s.stg[k].pend ∧ deferred t) ∧
      (s.inWindow k = false → s.tbRuns k = true → s.stg[k].latched = true → s.etime = s.stg[k].next - leadTaps →
        ∃ t, exec (.commit e d) s = .next t ∧ t.stg[k].com = s.stg[k].pend ∧ t.stg[k].held = none ∧ deferred t))

/-- WAIT of a Lathe context: asked to stop, it becomes IDLE; otherwise it sleeps while no stage event is latched, and with
one it returns at once: the latch, the due loops and the overrun clear, and the destination takes R66's word. Memory
changes only in the loop state word, where that is enabled (R62, R64, R65, R66, R220). WAIT on the Headstock: asked to
stop, it becomes IDLE; otherwise it sleeps where no enabled event is pending, and goes on at the vector of the event
picked where one is, with the event's number in V31 (R77, R83, R89). CONTEXT_WAKE: a sleeping Lathe context whose
stage event is latched returns from its WAIT (R64, R66); one that is not sleeping is left as it is. HS_DISPATCH: the
sleeping Headstock goes on at the vector of the event picked: V31 takes the event's number, its pending bit clears,
and the watchdog takes its limit (R77, R78, R89). The Headstock's watchdog stops a handler that is over its limit in
FAULT with cause 6 and a class B/C report; a timer that expires raises EV122 or EV123 and stops unless it is periodic
(R75, R78, R79). -/
def Obligations.WaitingAndDispatch : Prop :=
  (∀ (s : State) (k : Stage) (d : VReg), s.canIssue (ctxOf k) →
      let e := ctxOf k
      let c := s.ctx[e]
      let due := if c.first then s.f (F.LTH_LOOP_en (kn e) (kc e)) else c.due
      let x := dmemAddr e (s.f (F.LTH_DWIN_base (kn e) (kc e)) + s.f (F.LTH_LSTW_ofs (kn e) (kc e)))
      (c.stopReq = true → ∃ t, exec (.wait e d) s = .next t ∧ t.ctx[e].st = .idle ∧ t.ctx[e].stopReq = false ∧ s.keepsV e [] t) ∧
      (c.stopReq = false → c.latch = false → ∃ t, exec (.wait e d) s = .next t ∧ t.ctx[e].st = .wait ∧ t.ctx[e].waitD = d ∧
        t.ctx[e].pc = c.pc + 1 ∧ s.keepsV e [] t ∧ t.mem = s.mem) ∧
      (c.stopReq = false → c.latch = true → ∃ t, exec (.wait e d) s = .next t ∧ t.ctx[e].st = .run ∧ t.ctx[e].latch = false ∧
        t.ctx[e].due = 0 ∧ t.ctx[e].ovr = false ∧ t.ctx[e].pc = c.pc + 1 ∧ t.ctx[e].slots = 0 ∧ s.keepsV e [d] t ∧
        (d ≠ 0 → t.ctx[e].rd d =
          BitVec.ofNat 32 (due % 16 + 16 * b2n c.ovr + 32 * b2n c.stopped + 2 ^ 16 * ((c.events - 1) % 65536))) ∧
        ∀ b, s.fb (F.LTH_LSTW_en (kn e) (kc e)) = false ∨ b < x ∨ x + 4 ≤ b → t.mb b = s.mb b)) ∧
  (∀ (s : State), s.canIssue hs →
      (s.ctx[hs].stopReq = true → ∃ t, exec (.wait hs 0) s = .next t ∧ t.ctx[hs].st = .idle ∧ s.keepsV hs [] t) ∧
      (s.ctx[hs].stopReq = false → s.hsPick = none → ∃ t, exec (.wait hs 0) s = .next t ∧ t.ctx[hs].st = .wait ∧
        t.ctx[hs].pc = s.ctx[hs].pc + 1 ∧ s.keepsV hs [] t ∧ t.mem = s.mem ∧ t.fb F.LTH_HS_STAT_in_handler = false) ∧
      (s.ctx[hs].stopReq = false → ∀ ev, s.hsPick = some ev → ∃ t, exec (.wait hs 0) s = .next t ∧ t.ctx[hs].st = .run ∧
        t.ctx[hs].pc = s.f F.LTH_HS_VBASE_vbase * 128 + ev ∧ t.ctx[hs].rd 31 = BitVec.ofNat 32 ev ∧ s.keepsV hs [31] t ∧
        t.fb F.LTH_HS_STAT_in_handler = true ∧ t.mem = s.mem)) ∧
  (∀ (s : State) (k : Stage),
      let e := ctxOf k
      let c := s.ctx[e]
      let due := if c.first then s.f (F.LTH_LOOP_en (kn e) (kc e)) else c.due
      (c.st = .wait → c.latch = true → ∃ t, exec (.contextWake k) s = .next t ∧ t.ctx[e].st = .run ∧ t.ctx[e].latch = false ∧
        t.ctx[e].due = 0 ∧ t.ctx[e].pc = c.pc ∧ t.ctx[e].slots = 0 ∧ s.keepsV e [c.waitD] t ∧
        (c.waitD ≠ 0 → t.ctx[e].rd c.waitD =
          BitVec.ofNat 32 (due % 16 + 16 * b2n c.ovr + 32 * b2n c.stopped + 2 ^ 16 * ((c.events - 1) % 65536)))) ∧
      (c.st ≠ .wait → exec (.contextWake k) s = .next s)) ∧
  (∀ (s : State) (ev : Nat), s.ctx[hs].st = .wait → s.hsPick = some ev →
      ∃ t, exec .hsDispatch s = .next t ∧ t.ctx[hs].st = .run ∧ t.ctx[hs].pc = s.f F.LTH_HS_VBASE_vbase * 128 + ev ∧
        t.ctx[hs].rd 31 = BitVec.ofNat 32 ev ∧ s.keepsV hs [31] t ∧ t.hsLim = s.f F.LTH_HS_WDOG_limit ∧ t.mem = s.mem ∧
        natBit (t.reg (A.LTH_HS_EVPEND (ev / 32))).toNat (ev % 32) = false) ∧
  ((∀ s : State, s.fb F.LTH_HS_STAT_in_handler = true → s.hsLim ≠ 0 → s.ctx[hs].st = .run →
      ∃ u : State, exec .hsWatchdogExpiry s = .next (u.report 0x2D00 .BC (BitVec.ofNat 32 (s.f F.LTH_HS_STAT_ev))) ∧
        u.ctx[hs].st = .fault ∧ u.f F.LTH_HS_FAULT_cause = 6 ∧ s.keepsV hs [] u ∧ u.mem = s.mem ∧
        u.fb F.LTH_HS_STAT_in_handler = false) ∧
    (∀ (s : State) (i : Fin 2), s.hsTmr[i] = true → ∃ t, exec (.hsTimerExpiry i) s = .next t ∧ t.ctx = s.ctx ∧
      t.hsTmr[i] = s.fb (F.LTH_HS_TMR_periodic i) ∧ natBit (t.reg (A.LTH_HS_EVPEND 3)).toNat (26 + i) = true))

/-- EVT writes code and pend, with ovr where pend was set; SFCLR clears the flags of its mask (R126, R128). BRK has no
effect but its slot unless a session is unlocked and software breakpoints are on; then its engine halts, with the code
in DBG_ESTAT (R131, R427). -/
def Obligations.EventFlagAndBreak : Prop :=
  (∀ (s : State) (e : CtxId) (imm : BitVec 16), s.canIssue e →
      (e.val < 12 → ∃ t, exec (.evt e imm) s = .next t ∧ t.f (F.LTH_EVTCODE_code (kn e) (kc e)) = imm.toNat ∧
        t.fb (F.LTH_EVTCODE_pend (kn e) (kc e)) = true ∧ s.keepsV e [] t ∧ s.wentOn e 0 1 t ∧ t.mem = s.mem ∧
        natBit (t.reg (A.LTH_HS_EVPEND 0)).toNat (12 + e) = true ∧ t.reg A.FLT_STAT = s.reg A.FLT_STAT ∧ t.reg A.FLT_CLAST = s.reg A.FLT_CLAST ∧
        t.fb (F.LTH_EVTCODE_ovr (kn e) (kc e)) = (s.fb (F.LTH_EVTCODE_ovr (kn e) (kc e)) || s.fb (F.LTH_EVTCODE_pend (kn e) (kc e)))) ∧
      (imm.toNat < 256 → ∀ fp, ∃ t, exec (.sfclr e imm fp) s = .next t ∧
        t.ctx[e].sf = (s.ctx[e].sf &&& ~~~BitVec.ofNat 8 imm.toNat) ||| (if fp then 0x80 else 0) ∧
        t.ctx[e].pc = s.ctx[e].pc + 1 ∧ t.ctx[e].st = .run ∧ t.ctx[e].slots = s.ctx[e].slots + (if fp then 4 else 1) ∧ s.keepsV e [] t ∧
        t.ctx[e].acc = s.ctx[e].acc ∧ t.mem = s.mem ∧ (fp = false → s.onlyCtx e t)) ∧
      (256 ≤ imm.toNat → ∀ fp, s.faultsAt e (.sfclr e imm fp) 1)) ∧
  (∀ (s : State) (e : CtxId) (code : BitVec 16), s.canIssue e →
      let on := s.fb (F.DBG_ECFG_sw_en (engineOf e)) && s.fb F.DBG_STAT_unlocked
      (on = false → ∃ t, exec (.brk e code) s = .next t ∧ s.wentOn e 0 1 t ∧ s.keepsV e [] t ∧ t.ctx[e].acc = s.ctx[e].acc ∧
        s.onlyCtx e t) ∧
      (on = true → ∃ t, exec (.brk e code) s = .next t ∧ t.ctx[e].st = .halt ∧ t.ctx[e].prev = .run ∧
        (∀ x ∈ ctxsOf (engineOf e), t.ctx[x].st ≠ .run ∧ t.ctx[x].st ≠ .wait) ∧
        t.ctx[e].pc = s.ctx[e].pc + 1 ∧ s.keepsV e [] t ∧ t.f (F.DBG_ESTAT_brk (engineOf e)) = code.toNat ∧ (s.cmds = [] → t.mem = s.mem)))

/-- SYS on the Headstock. RD of a register of the SYS, FLT and CLK groups that reads without effect gives the word that
its address shows, an unaligned or unmapped address and one of memory give 0, and every RD changes no register but Vd;
MRD gives the memory word, or 0 for an unaligned or unmapped address; WR stores into the Headstock's data memory and
answers 0, or stores nothing and answers 1, also for an unaligned address (assumption 74, DESIGN CHOICE). A word that
passes its replay costs 3 slots more; one of memory that fails it stops the context (R72, R129). SYS CMD: a descriptor
that does not lie in the data memory answers 1 and writes nothing; a word of it that fails its replay stops the
context; a descriptor whose frame is good, with a free queue and none in flight, answers 0: the NOP it names is
accepted as partner port 4's next command and its response is word 0 of the descriptor, the result OK in it (R129,
R130, R367). -/
def Obligations.SystemInstructions : Prop :=
  (∀ (s : State) (d a b : VReg), s.canIssue hs →
      let x := (s.ctx[hs].rd a).toNat
      (∀ par, ∃ t, exec (.sysRd hs d a par) s = .next t ∧ s.keepsV hs [d] t ∧ t.ctx[hs].st = .run ∧
        t.ctx[hs].pc = s.ctx[hs].pc + 1 ∧ t.ctx[hs].acc = s.ctx[hs].acc) ∧
      (x % 4 = 0 → x < 0x30000 → mapped x = true → x ≠ A.CLK_ETIME_LO → x ≠ A.CLK_SYNCI_TS_LO → x ≠ A.FLT_FIRST_TS_LO →
        x ≠ A.SYS_RTC_SEC → s.givesReg hs (.sysRd hs d a .clean) d (s.show x) 0 6) ∧
      (x % 4 ≠ 0 ∨ mapped x = false ∨ 0xE0000 ≤ x → ∀ par, s.givesReg hs (.sysRd hs d a par) d 0 0 6) ∧
      (x % 4 = 0 → 0x100000 ≤ x → x < 0x400000 → mapped x = true → s.givesReg hs (.sysMrd hs d a .clean) d (s.mw x) 0 6 ∧
        (∃ t, exec (.sysMrd hs d a .replayPass) s = .next t ∧ t.ctx[hs].rd d = (if d = 0 then 0 else s.mw x) ∧
          s.keepsV hs [d] t ∧ s.wentOn hs 0x80 9 t ∧ t.mem = s.mem) ∧
        s.parityStops hs (.sysMrd hs d a .replayFail) (memUnit x) x) ∧
      (x % 4 = 0 → 0x400000 ≤ x → mapped x = true → ∀ par, s.givesReg hs (.sysMrd hs d a par) d (s.mw x) 0 12) ∧
      (x % 4 ≠ 0 ∨ x < 0x100000 ∨ mapped x = false → ∀ par, ∃ n, s.givesReg hs (.sysMrd hs d a par) d 0 0 n) ∧
      (x % 4 = 0 ∧ 0x280000 ≤ x ∧ x < 0x290000 → ∃ t, exec (.sysWr hs d a b) s = .next t ∧ t.mw x = s.ctx[hs].rd b ∧
        (d ≠ 0 → t.ctx[hs].rd d = 0) ∧ s.keepsV hs [d] t ∧ s.wentOn hs 0 2 t ∧ (∀ y, y < x ∨ x + 4 ≤ y → t.mb y = s.mb y)) ∧
      (¬(x % 4 = 0 ∧ 0x280000 ≤ x ∧ x < 0x290000) → s.givesReg hs (.sysWr hs d a b) d 1 0 2)) ∧
  (∀ (s : State) (d a : VReg), s.canIssue hs →
      let w := (s.ctx[hs].rd a).toNat
      (s.descFits w = false → ∀ rp lost par bad, s.givesReg hs (.sysCmd hs d a rp lost par bad) d 1 0 8) ∧
      (s.descFits w = true → ∀ rp (j : Fin 66) par bad,
        s.parityStops hs (.sysCmd hs d a rp (some j) par bad) 6 (dmemAddr hs (w + j))) ∧
      (s.descFits w = true → s.descOf w = (0, 0, 0) → s.cmds = [] → s.full 4 = false → s.mode ≠ mHoldup → s.downloads = false →
        ∀ par bad, ∃ t, exec (.sysCmd hs d a 0 none par bad) s = .next t ∧ (d ≠ 0 → t.ctx[hs].rd d = 0) ∧ s.keepsV hs [d] t ∧
          s.wentOn hs 0 8 t ∧ t.cmds = [] ∧ t.f (F.CMD_PORTSTAT_last_seq 4) = s.nextSeq 4 ∧
          t.mw (dmemAddr hs w) = BitVec.ofNat 32 (2 ^ 30 + 256 * s.nextSeq 4)))

/-- A running context's next word that fails parity: a passed replay, or a repair from the context's image, leaves the
program where it is and every byte of memory as it was loaded; a failed repair stops it with cause 5 and a class A
report (R72, R73). A scrubber that is on reads its words in turn, from the last one back to the first; a clean word
changes nothing else; an error is replayed, which raises EV121, and a repair leaves every byte of memory as it was
loaded; a repair that fails is a class A report; a scrubber that is off does nothing (R72 to R74). -/
def Obligations.InstructionParity : Prop :=
  (∀ (s : State) (e : CtxId), s.canIssue e →
      (∃ t, exec (.instructionRepair e .replayPass) s = .next t ∧ t.ctx[e].pc = s.ctx[e].pc ∧ t.ctx[e].st = .run ∧
        s.keepsV e [] t ∧ t.ctx[e].sf = s.ctx[e].sf ||| 0x80 ∧ t.ctx[e].slots = s.ctx[e].slots + 3 ∧ t.mem = s.mem) ∧
      (∃ t, exec (.instructionRepair e .repaired) s = .next t ∧ t.ctx[e].pc = s.ctx[e].pc ∧ t.ctx[e].st = .run ∧
        s.keepsV e [] t ∧ (∀ b, t.mb b = s.mb b) ∧ s.ctx[e].slots + 3 ≤ t.ctx[e].slots ∧ t.ctx[e].slots ≤ s.ctx[e].slots + 253 ∧
        (∀ n : Fin 6, engineOf e = ⟨n.val, by omega⟩ →
          t.f (F.LTH_PAR_repairs n) = satInc (F.LTH_PAR_repairs n).wd (s.f (F.LTH_PAR_repairs n)))) ∧
      (∃ u : State, exec (.instructionRepair e .failed) s = .next (u.report (0x0600 + engineNo e) .A
        (BitVec.ofNat 32 (imemAddr e s.ctx[e].pc))) ∧ u.ctx[e].st = .fault ∧ s.keepsV e [] u ∧
        u.f (if e.val < 12 then F.LTH_FAULT_cause (e.val / 2) else F.LTH_HS_FAULT_cause) = 5)) ∧
  (∀ (s : State) (m : Fin 7),
      (s.scrubOn m = false → ∀ r, exec (.scrubRead m r) s = .next s) ∧
      (s.scrubOn m = true →
        let n := (s.scrub[m] + 1) % (if m.val < 6 then 16384 else 32768)
        (∃ t, exec (.scrubRead m none) s = .next t ∧ t.scrub[m] = n ∧ (∀ j, j ≠ m → t.scrub[j] = s.scrub[j]) ∧
          { t with scrub := s.scrub } = s) ∧
        (∀ r, r ≠ Repair.failed → ∃ t, exec (.scrubRead m (some r)) s = .next t ∧ t.scrub[m] = n ∧ (∀ b, t.mb b = s.mb b) ∧
          natBit (t.reg (A.LTH_HS_EVPEND 3)).toNat 25 = true ∧ t.ctx = s.ctx) ∧
        ∃ u : State, exec (.scrubRead m (some .failed)) s = .next (u.report (0x0600 + m.val) .A
          (BitVec.ofNat 32 ((if m.val < 6 then 0x100000 + 0x10000 * m.val else 0x180000) + 4 * s.scrub[m]))) ∧ u.scrub[m] = n ∧
          u.ctx = s.ctx ∧ u.mem = s.mem))

/-- A write that is refused changes nothing but that its code goes to the writer, and that one of the Devar port is
counted; in RESET nothing is accessible (R6, R24, R368, R370, R431). A write of one register that is let through takes
effect as that register's word does, and OK goes to the writer; a code that the act itself answers goes there instead,
and nothing changes but MTR_EVT.save_fail where it is ENDURANCE. The debugger's write of DBG_CTL op 3 steps as the row
DEBUG_STEP does with clean reads (R6, R305, R370, R426). A word of a register without a side effect of its own: RW
bits take the new value at once where no stage boundary lies ahead (assumption 37, DEDUCED: R6 gives up to 100 µs),
every other bit of the word stays (R6, R7). -/
def Obligations.RegisterWrites : Prop :=
  (∀ (s : State) (p : Fin 6) (a v : Word),
      (s.mode = mReset → exec (.registerWrite p a v) s = .next s) ∧
      (s.mode ≠ mReset → s.accessCode p ≠ rOk → exec (.registerWrite p a v) s = .next (s.refusedTo p (s.accessCode p) v)) ∧
      (s.mode ≠ mReset → s.accessCode p = rOk → (s.judge p [⟨a.toNat, v⟩]).1 ≠ rOk →
        exec (.registerWrite p a v) s = .next (s.refusedTo p (s.judge p [⟨a.toNat, v⟩]).1 v))) ∧
  ((∀ (s : State) (p : Fin 6) (a v : Word), s.letsWrite p a.toNat v →
      ∃ t, exec (.registerWrite p a v) s = .next t ∧
        ((s.writeWord none a.toNat v).1 = rOk → a.toNat ≠ A.DBG_CTL ∨ getBits v 4 2 ≠ 3 →
          t = (s.writeWord none a.toNat v).2.emit (.access rOk v)) ∧
        ((s.writeWord none a.toNat v).1 ≠ rOk → (s.writeWord none a.toNat v).1 ≠ rEndurance →
          t = s.refusedTo p (s.writeWord none a.toNat v).1 v) ∧
        ((s.writeWord none a.toNat v).1 = rEndurance → ∃ u : State, t = u.emit (.access rEndurance v) ∧
          u.fb ⟨A.MTR_EVT, 11, 1⟩ = true ∧ u.mem = s.mem ∧ u.ctx = s.ctx)) ∧
    ∀ (s : State) (e : CtxId), let v := dbgWord (engineOf e) (ctxBit e) 3 false
      exec (.registerWrite 5 (BitVec.ofNat 32 A.DBG_CTL) v) s = exec (.debugStep e ⟨none, .clean⟩) s) ∧
  (∀ (s : State) (cmd : Option Nat) (a : Nat) (v : Word), (rowAt a).w1c = 0 → (rowAt a).rs = 0 → (rowAt a).rw ≠ 0 →
      a < 0x100000 → s.boundaryFor cmd a = none → regStage a = none →
      (s.plain cmd a v).reg a = (s.reg a &&& ~~~BitVec.ofNat 32 (rowAt a).rw) ||| (v &&& BitVec.ofNat 32 (rowAt a).rw) ∧
      (∀ b, home b ≠ home a → (s.plain cmd a v).reg b = s.reg b) ∧ (s.plain cmd a v).mem = s.mem)

/-- The control registers of the engines: a start of an IDLE or FAULT context clears its registers and runs it from its
entry; a stop makes a context in WAIT IDLE and asks a running one to stop, and is refused with REFUSED_RUNNING while
its stage, for the Headstock any stage, switches; the statistics clear; a timer takes its word. The writes of
START_CONTEXT, STOP_CONTEXT, CLEAR_CONTEXT_STATS, HS_START, HS_STOP, HS_CLEAR_RUNMAX and HS_TIMER_WRITE (R62, R79,
R81, R83). -/
def Obligations.EngineControlWrites : Prop :=
  ∀ (s : State) (p : Fin 6) (k : Stage) (i : Fin 2) (v : Word),
    let e := ctxOf k
    let fresh (e : CtxId) (t : State) : Prop := t.ctx[e].st = .run ∧ t.ctx[e].pc = s.entryOf e ∧ (∀ r, t.ctx[e].rd r = 0) ∧
      (∀ n, t.ctx[e].rdAcc n = 0) ∧ t.ctx[e].sf = 0 ∧ (∀ x, x ≠ e → t.ctx[x] = s.ctx[x])
    (s.letsWrite p (A.LTH_CTL (kn k)) (bit (kc k)) → s.ctx[e].st = .idle ∨ s.ctx[e].st = .fault →
      ∃ t, exec (.startContext p k) s = .next t ∧ fresh e t) ∧
    (s.letsWrite p (A.LTH_CTL (kn k)) (bit (4 + kc k)) → s.switching k = false →
      ∃ t, exec (.stopContext p k) s = .next t ∧ (s.ctx[e].st = .wait → t.ctx[e].st = .idle) ∧
        (s.ctx[e].st = .run → t.ctx[e] = { s.ctx[e] with stopReq := true })) ∧
    (s.letsWrite p (A.LTH_CTL (kn k)) (bit (4 + kc k)) → s.switching k = true →
      exec (.stopContext p k) s = .next (s.refusedTo p rRunning (bit (4 + kc k)))) ∧
    (s.letsWrite p (A.LTH_CTL (kn k)) (bit (8 + kc k)) →
      ∃ t, exec (.clearContextStats p k) s = .next t ∧ t.reg (A.LTH_RUNMAX (kn k) (kc k)) = 0 ∧
        t.reg (A.LTH_MARGIN (kn k) (kc k)) = 0xFFFF ∧ t.reg (A.LTH_OVR (kn k) (kc k)) = 0 ∧ t.ctx = s.ctx) ∧
    (s.letsWrite p A.LTH_HS_CTL (bit 0) → s.ctx[hs].st = .idle ∨ s.ctx[hs].st = .fault →
      ∃ t, exec (.hsStart p) s = .next t ∧ fresh hs t) ∧
    (s.letsWrite p A.LTH_HS_CTL (bit 1) → s.anySwitching = false →
      ∃ t, exec (.hsStop p) s = .next t ∧ (s.ctx[hs].st = .wait → t.ctx[hs].st = .idle) ∧
        (s.ctx[hs].st = .run → t.ctx[hs] = { s.ctx[hs] with stopReq := true })) ∧
    (s.letsWrite p A.LTH_HS_CTL (bit 1) → s.anySwitching = true →
      exec (.hsStop p) s = .next (s.refusedTo p rRunning (bit 1))) ∧
    (s.letsWrite p A.LTH_HS_CTL (bit 2) → ∃ t, exec (.hsClearRunmax p) s = .next t ∧ t.reg A.LTH_HS_RUNMAX = 0) ∧
    (s.letsWrite p (A.LTH_HS_TMR i) v → ∃ t, exec (.hsTimerWrite p i v) s = .next t ∧ t.reg (A.LTH_HS_TMR i) = v ∧
      t.hsTmr[i] = (v.toNat % 2 ^ 31 != 0))

/-- The control registers of acquisition and of the comparators: a restart begins passes of the ADCs named on one common
CONV edge, but waits while a calibration runs; a calibration begins in CONFIGURE and STANDBY; a list waits for its
CONV edge and the pass's end while its ADC converts, and otherwise the first pass begins at that edge; min and max
restart; a comparator powers up disarmed; clearing its trip clears its count. The writes of ADC_RESTART,
ADC_CALIBRATE, ADC_SCAN_WRITE, MM_CLR, COMPARATOR_ENABLE and CMP_TRIP_CLEAR (R134, R135, R144, R152, R162, R165). -/
def Obligations.AcquisitionControlWrites : Prop :=
  ∀ (s : State) (p : Fin 6) (a : Fin 4) (x : Fin 64) (c : Fin 24) (m : BitVec 4) (l : BitVec 16),
    (s.letsWrite p A.ADC_CTL (m.zeroExtend 32) → ∃ t, exec (.adcRestart p m) s = .next t ∧
      (s.calRun = true → t.adcLast = s.adcLast ∧ t.regs = s.regs) ∧
      t.scanPend = s.scanPend ∧
      (s.calRun = false → natBit m.toNat a = true → t.adcLast[a] = 16 ∧ t.adcDue[a] = (s.etime + 959) / 160 * 160) ∧
      (natBit m.toNat a = false → t.adcLast[a] = s.adcLast[a] ∧ t.adcDue[a] = s.adcDue[a])) ∧
    (s.letsWrite p A.ADC_CTL (bit 8) → s.mode = mConfigure ∨ s.mode = mStandby →
      ∃ t, exec (.adcCalibrate p) s = .next t ∧ t.calRun = true ∧ t.regs = s.regs) ∧
    (s.letsWrite p (A.ADC_SCAN a) (l.zeroExtend 32) → (s.scanWrite a l.toNat).1 = rOk →
      ∃ t, exec (.adcScanWrite p a l) s = .next t ∧
        (s.converting a = true → t.scanPend[a] = some (l.toNat, (s.etime + 479) / 160 * 160) ∧ t.regs = s.regs) ∧
        (s.converting a = false → t.f (F.ADC_SCAN_mask a) = l.toNat ∧ t.scanPend[a] = none ∧
          t.adcDue[a] = max ((s.etime + 479) / 160 * 160) s.adcDue[a])) ∧
    (s.letsWrite p (A.ADC_PLST x) (bit 8) → ∃ t, exec (.mmClr p x) s = .next t ∧ t.f (F.ADC_MM_min x) = 0x3FFF ∧
      t.f (F.ADC_MM_max x) = 0) ∧
    (s.letsWrite p (A.CMP_CFG c) (s.reg (A.CMP_CFG c) ||| bit 0) → s.fb F.SYS_STEST_pass = true → s.cmpPow[c] = false →
      ∃ t, exec (.comparatorEnable p c) s = .next t ∧ t.cmpPow[c] = true ∧ t.fb (F.CMP_STAT_armed c) = false ∧
        t.cmpDec[c] = []) ∧
    (s.letsWrite p (A.CMP_STAT c) (bit 2) → ∃ t, exec (.cmpTripClear p c) s = .next t ∧ t.f (F.CMP_STAT_cnt c) = 0 ∧
      t.fb (F.CMP_STAT_trip c) = false)

/-- STG_CTL and STG_TBLCTL: a start of a stage sets run and tb and asks for its timebase, and inside the guard window
takes hold at the reload instant after the coming one; a stop of a switching stage waits for the end of the period,
one period longer inside the guard window, and one that follows such a start there takes it back; the timebase starts
READY and stops OFF; counts and table bands clear. The writes of STG_RUN_SET, STG_RUN_CLEAR, STG_TB_WRITE, STG_CLR,
TABLE_CLEAR_BAND and TABLE_STAT_CLEAR (R168, R182, R189, R229, R232). -/
def Obligations.StageControlWrites : Prop :=
  ∀ (s : State) (p : Fin 6) (k : Stage) (bands : BitVec 4),
    let c := s.reg (A.STG_CTL k)
    let b := s.reg (A.STG_TBLCTL k)
    (s.letsWrite p (A.STG_CTL k) (c ||| bit 1) → natBit c.toNat 4 = false → s.fb (F.STG_CTL_run k) = false →
      isSwitchMode s.mode = true → s.halted = false → s.startCheck k = rOk →
      ∃ t, exec (.stgRunSet p k) s = .next t ∧ t.fb (F.STG_CTL_run k) = true ∧ t.fb (F.STG_CTL_tb k) = true ∧
        (s.inWindow k = false → t.stg[k].stopReq = false ∧ t.stg[k].runLate = s.stg[k].runLate) ∧
        (s.inWindow k = true → s.switching k = false → t.stg[k].runLate = true) ∧
        (s.stgSt k = stOff → t.stg[k].starting = some s.etime)) ∧
    (s.letsWrite p (A.STG_CTL k) (c &&& ~~~bit 1) → natBit c.toNat 4 = false → s.fb (F.STG_CTL_run k) = true →
      ∃ t, exec (.stgRunClear p k) s = .next t ∧ t.fb (F.STG_CTL_run k) = false ∧
        (s.switching k = true → s.stg[k].starting = none →
          (s.stg[k].runLate = false → t.stg[k].stopReq = true ∧ t.stg[k].stopLate = s.inWindow k) ∧
          (s.stg[k].runLate = true → t.stg[k].runLate = false ∧ (s.stg[k].stopReq = false → t.stgSt k = stReady)))) ∧
    (s.letsWrite p (A.STG_CTL k) ((c &&& ~~~bit 0) ||| BitVec.ofNat 32 1) → natBit c.toNat 4 = false →
      s.fb (F.STG_CTL_run k) = false → s.fb (F.STG_CTL_tb k) = false → s.switching k = false → s.leaderStopped k = false →
      s.scanArgs k = true → ∃ t, exec (.stgTbWrite p k true) s = .next t ∧ t.fb (F.STG_CTL_tb k) = true ∧ t.stgSt k = stReady ∧
        t.stg[k].starting = some s.etime) ∧
    (s.letsWrite p (A.STG_CTL k) ((c &&& ~~~bit 0) ||| BitVec.ofNat 32 0) → natBit c.toNat 4 = false →
      s.fb (F.STG_CTL_run k) = false → s.fb (F.STG_CTL_tb k) = true → s.switching k = false → s.followed k = false →
      s.staged = [] → s.cmds = [] → ∃ t, exec (.stgTbWrite p k false) s = .next t ∧ t.fb (F.STG_CTL_tb k) = false ∧
        t.stgSt k = stOff ∧ t.stg[k].starting = none ∧ t.mem = s.mem) ∧
    (s.letsWrite p (A.STG_CTL k) (c ||| bit 4) → ∃ t, exec (.stgClr p k) s = .next t ∧ t.reg (A.STG_PLAN_DEFER k) = 0 ∧
        t.reg (A.STG_LATE_PLAN k) = 0 ∧ t.reg (A.STG_DROP k) = 0 ∧ t.f (F.STG_REGSTAT_trunc k) = 0) ∧
    (s.letsWrite p (A.STG_TBLCTL k) (b ||| (bands.zeroExtend 32 <<< 8)) → s.switching k = false → getBits b 8 4 = 0 →
      ∃ t, exec (.tableClearBand p k bands) s = .next t ∧
        (∀ B < 4, natBit bands.toNat B = true → ∀ i < 1024, t.mh (tblAddr k B i) = 0) ∧
        (∀ a, a < tblAddr k 0 0 ∨ tblAddr k 3 1023 + 2 ≤ a → t.mb a = s.mb a)) ∧
    (s.letsWrite p (A.STG_TBLCTL k) (b ||| bit 12) → s.switching k = false →
      ∃ t, exec (.tableStatClear p k) s = .next t ∧ t.reg (A.STG_TBLSTAT k) = 0)

/-- GL_CTL, GRD_CTL, ISL_CTL and ISL_KCTL: a request of the ENABLE sequence starts it where no force and no trip stands
against it; trips clear; an interface that is switched on starts afresh; the reconnection wait restarts; the contactor
closes under R280, and a request outside it, or of a contactor that is not supervised (assumption 29, DEDUCED), is
refused with REFUSED_MODE; it opens, but with REFUSED_RUNNING not while a stage switches. The writes of ENSEQ_REQUEST,
GRD_TCLR, GRD_ENABLE, ISL_TCLR, RC_START, CONTACTOR_CLOSE and CONTACTOR_OPEN (R203, R247, R278, R279, R280, R283). -/
def Obligations.GridControlWrites : Prop :=
  ∀ (s : State) (p : Fin 6) (n : Link) (g : Fin 4),
    (s.letsWrite p (A.GL_CTL n) (s.reg (A.GL_CTL n) ||| bit 1) → s.mode = mConfigure ∨ s.mode = mStandby →
      s.fb (F.GL_CTL_en n) = true → s.lnkSt n ≠ lSeq → s.gateEn = true → s.safForce = false → s.trips n = false →
      ∃ t, exec (.enseqRequest p n) s = .next t ∧ t.lnkSt n = lSeq ∧ t.lnk[n].seqAt = some 0 ∧ t.lnk[n].cfg = [] ∧
        t.fb (F.GL_STAT_id_ok n) = false ∧ t.fb (F.GL_STAT_en_fail n) = false ∧ t.mode = s.mode ∧
        (s.cmds = [] → t.out = .access rOk (s.reg (A.GL_CTL n) ||| bit 1) :: .symbol n 0x3C :: .symbol n 0xFE :: s.out)) ∧
    (s.letsWrite p (A.GRD_CTL g) (s.reg (A.GRD_CTL g) ||| bit 3) → isSwitchMode s.mode = false →
      ∃ t, exec (.grdTclr p g) s = .next t ∧ t.reg (A.GRD_TRIP g) = 0 ∧ t.fb (rtBit g 3) = false) ∧
    (s.letsWrite p (A.GRD_CTL g) (s.reg (A.GRD_CTL g) ||| bit 0) → natBit (s.reg (A.GRD_CTL g)).toNat 3 = false →
      s.fb (F.GRD_CTL_en g) = false → ∃ t, exec (.grdEnable p g) s = .next t ∧ t.fb (F.GRD_CTL_en g) = true ∧
        t.f (F.GRD_STAT_flg g) = 0 ∧ t.f (F.GRD_STAT_ep_ms g) = 0) ∧
    (s.letsWrite p (A.ISL_CTL g) (s.reg (A.ISL_CTL g) ||| bit 3) → isSwitchMode s.mode = false →
      ∃ t, exec (.islTclr p g) s = .next t ∧ t.reg (A.ISL_TRIP g) = 0 ∧ t.fb (F.ISL_STAT_island g) = false) ∧
    (s.letsWrite p (A.ISL_CTL g) (s.reg (A.ISL_CTL g) ||| bit 4) → natBit (s.reg (A.ISL_CTL g)).toNat 3 = false →
      ∃ t, exec (.rcStart p g) s = .next t ∧ t.isl[g].recon = 0 ∧
        t.fb (F.ISL_STAT_rc_done g) = false) ∧
    (s.letsWrite p A.ISL_KCTL (bit 0) → s.fb F.ISL_KCFG_en = true → s.mode = mSync → s.fb (flgBit s.kg 2) = true →
      s.fb (F.ISL_STAT_rc_done s.kg) = true → s.f F.ISL_KSTAT_st = 0 →
      ∃ t, exec (.contactorClose p) s = .next t ∧ t.fb F.ISL_KSTAT_drv = true ∧ t.kT0 = s.etime ∧
        t.f F.ISL_KSTAT_st = (if s.fb F.ISL_KSTAT_fba = true ∧ s.fb F.ISL_KSTAT_fbb = true then 2 else 1)) ∧
    (s.letsWrite p A.ISL_KCTL (bit 0) → s.fb F.ISL_KCFG_en = false ∨ s.mode ≠ mSync ∨ s.fb (flgBit s.kg 2) = false ∨
      s.fb (F.ISL_STAT_rc_done s.kg) = false ∨ s.f F.ISL_KSTAT_st ≠ 0 →
      exec (.contactorClose p) s = .next (s.refusedTo p rMode (bit 0))) ∧
    (s.letsWrite p A.ISL_KCTL (bit 1) → s.anySwitching = true →
      exec (.contactorOpen p) s = .next (s.refusedTo p rRunning (bit 1))) ∧
    (s.letsWrite p A.ISL_KCTL (bit 1) → s.anySwitching = false → s.f F.ISL_KSTAT_st = 2 →
      ∃ t, exec (.contactorOpen p) s = .next t ∧ t.fb F.ISL_KSTAT_drv = false ∧ t.kT0 = s.etime ∧
        t.f F.ISL_KSTAT_st = (if s.fb F.ISL_KSTAT_fba = true ∨ s.fb F.ISL_KSTAT_fbb = true then 3 else 0))

/-- MTR_SAVE, MTR_CTL, SAF_CTL, FLT_CTL, SYS_MODEREQ, PRT_NCTL, PRT_MDIO and SYS_RTC_SEC. The writes of ENERGY_SAVE_NOW,
METER_DISCARD, METER_ENABLE, SAF_CLR, FLT_CCLR, AUTO_EN_WRITE, SYS_MODEREQ_WRITE, NET_ENABLE, MDIO_START and RTC_SET,
and RTC_SET_DONE (R285, R297, R299, R305, R326, R338, R342, R345, R359, R394, R399, R441). -/
def Obligations.UnitControlWrites : Prop :=
  ∀ (s : State) (p : Fin 6) (m : Fin 4) (i : Fin 2) (v : Word),
    (s.letsWrite p A.MTR_SAVE (s.reg A.MTR_SAVE ||| bit 16) → s.mode ≠ mHoldup →
      (∀ j, s.nextSlot = some j → ∃ t, exec (.energySaveNow p) s = .next t ∧ t.fb F.MTR_SAVESTAT_busy = true ∧
        t.saveLast = some (j, ((s.saveLast.map (·.2)).getD 0 + 1) % 2 ^ 32) ∧ t.wq.length = s.wq.length + 64 ∧
        s.wq <+: t.wq ∧ t.finalSave = s.finalSave) ∧
      (s.nextSlot = none → ∃ t, exec (.energySaveNow p) s = .next t ∧ t.fb ⟨A.MTR_EVT, 11, 1⟩ = true ∧ t.wq = s.wq)) ∧
    (s.letsWrite p (A.MTR_CTL m) (s.reg (A.MTR_CTL m) ||| bit 1) → s.fb (F.MTR_CTL_en m) = false →
      natBit (s.reg (A.MTR_CTL m)).toNat 0 = false →
      ∃ t, exec (.meterDiscard p m) s = .next t ∧ t.mtr[m].restored = none ∧ t.fb ⟨A.MTR_RESTORE, 8 + m.val, 1⟩ = false) ∧
    (s.letsWrite p (A.MTR_CTL m) (s.reg (A.MTR_CTL m) ||| bit 0) → s.fb (F.MTR_CTL_en m) = false →
      natBit (s.reg (A.MTR_CTL m)).toNat 1 = false →
      ∃ t, exec (.meterEnable p m) s = .next t ∧ t.fb (F.MTR_CTL_en m) = true ∧ t.fb (F.MTR_STAT_run m) = true ∧
        t.fb (F.MTR_STAT_free m) = false) ∧
    (s.letsWrite p A.SAF_CTL (s.reg A.SAF_CTL ||| bit 4) → ∃ t, exec (.safClr p) s = .next t ∧ t.reg A.SAF_TGCNT = 0 ∧
      ∀ x < 8, t.f (F.SAF_PSTAT_dmax x) = 0) ∧
    (s.letsWrite p A.FLT_CTL (s.reg A.FLT_CTL ||| bit 4)
      → ∃ t, exec (.fltCclr p) s = .next t ∧ t.reg A.FLT_CLAST = 0 ∧ t.fb F.FLT_CTL_auto_en = s.fb F.FLT_CTL_auto_en) ∧
    (∀ on, s.letsWrite p A.FLT_CTL (BitVec.ofNat 32 (b2n on)) → ∃ t, exec (.autoEnWrite p on) s = .next t ∧
      t.fb F.FLT_CTL_auto_en = on ∧ t.mode = s.mode ∧ (s.fb F.FLT_CTL_auto_en ≠ on →
        t.fb F.FLT_STAT_quiet = (on && s.mode == mSafeStop && s.fltBlock == 0))) ∧
    (∀ g : BitVec 4, s.letsWrite p A.SYS_MODEREQ (g.zeroExtend 32) →
      (g.toNat ∉ [0, 3, 4, 5, 6, 7] → ∃ t, exec (.sysModereqWrite p g) s = .next t ∧ t.mode = s.mode ∧
        t.f F.SYS_MODEREQ_result = rBadArg) ∧
      (s.mode = mStandby → g.toNat = mConfigure → ∃ t, exec (.sysModereqWrite p g) s = .next t ∧ t.mode = mConfigure ∧
        t.f F.SYS_MODEREQ_result = rOk) ∧
      (s.mode = mConfigure → g.toNat = mStandby → ∃ t, exec (.sysModereqWrite p g) s = .next t ∧ t.mode = mStandby ∧
        t.f F.SYS_MODEREQ_result = rOk) ∧
      (s.mode = mStandby → g.toNat = mRun → ∃ t, exec (.sysModereqWrite p g) s = .next t ∧ t.mode = mStandby ∧
        t.f F.SYS_MODEREQ_result = rMode)) ∧
    (s.letsWrite p (A.PRT_NCTL i) (s.reg (A.PRT_NCTL i) ||| bit 0) → s.fb (F.PRT_NCTL_en i) = false →
      ∃ t, exec (.netEnable p i) s = .next t ∧ t.fb (F.PRT_NCTL_en i) = true ∧
        t.netId[i] = ⟨s.macOf i, s.ipOf i, s.f (F.PRT_NID3_etype i)⟩ ∧
        t.out = .access rOk (s.reg (A.PRT_NCTL i) ||| bit 0) :: .net i 3 (List.replicate 6 0xFF)
          (arpPacket 1 (s.macOf i) (s.ipOf i) (List.replicate 6 0) (s.ipOf i)) :: s.out) ∧
    (∀ (reg phy : BitVec 5) (wr : Bool) (data : BitVec 16),
      s.letsWrite p A.PRT_MDIO (BitVec.ofNat 32 (reg.toNat + 32 * phy.toNat + 1024 * b2n wr + 2048 + 65536 * data.toNat)) →
      s.fb F.PRT_MDIO_busy = false → ∃ t, exec (.mdioStart p reg phy wr data) s = .next t ∧ t.fb F.PRT_MDIO_busy = true ∧
        t.f F.PRT_MDIO_reg = reg.toNat ∧ t.f F.PRT_MDIO_phy = phy.toNat ∧ t.fb F.PRT_MDIO_wr = wr) ∧
    (s.letsWrite p A.SYS_RTC_SEC v → ∃ t, exec (.rtcSet p v) s = .next t ∧ t.rtcPend = some v ∧ t.regs = s.regs) ∧
    (s.rtcPend = some v → ∃ t, exec .rtcSetDone s = .next t ∧ t.reg A.SYS_RTC_SEC = v ∧ t.f F.SYS_RTC_SUB_ms = 0 ∧
      t.fb F.SYS_RTC_SUB_valid = true ∧ t.rtcPend = none)

/-- ADC_SAMPLE of an entry whose turn it is, on a CONV edge (R132, R133), where no check of the entry is on and no unit
takes the raw stream: the corrected code (the raw one where the correction is 0) is the latest sample with its clamp
flag and count, widens the running extremes, joins the open window of a stage whose timebase runs, and lets the ADC go
on to the next entry (R134, R136 to R140, R144, R152). An ADC_SAMPLE delivers nothing off the CONV edges (assumption
6, DESIGN CHOICE), at another instant than the ADC's next edge, while its ADC does not convert, and of an entry whose
turn it is not (R132, R133, R135). The sample that completes the count of a plausibility check sets the sticky and the
live flag of the entry and its check's event; what is reported is class B/C by the entry's stage. At a report the
count of the check starts anew (assumption 30, DEDUCED). An internal entry that fails sets int_fail. A calibration
ends with its success per ADC and free trims (assumption 2, DESIGN CHOICE), and all ADCs start passes together; the
one of SELFTEST that fails ends SELFTEST at once. The rows FREEZE_FAIL, RANGE_FAIL, XCHK_FAIL, INTERNAL_ENTRY_FAIL and
ADC_CAL_DONE (R135, R146 to R152, R351). -/
def Obligations.SamplesAndChecks : Prop :=
  (∀ (s : State) (e : Fin 64) (t : Nat) (raw : BitVec 14) (clamp : Bool) (a : Fin 4), a.val = e / 16 → s.adcTurn e t →
      e.val % 16 < 12 → s.fb (F.ADC_ECFG_frz_en e) = false → s.fb (F.ADC_ECFG_rng_en e) = false →
      s.fb (F.ADC_ECFG_xchk_en e) = false → s.noRawUnits →
      let c := s.corrected a raw.toNat clamp
      (clamp = false → s.f (F.ADC_CAL_ofs_corr a) = 0 → c = raw.toNat) ∧
      ∃ r, exec (.adcSample e t raw clamp () ()) s = .next r ∧ r.f (F.ADC_RES_code e) = c ∧ r.fb (F.ADC_RES_clamp e) = clamp ∧
        r.f (F.ADC_RES_seq e) = (s.f (F.ADC_RES_seq e) + 1) % 2 ^ (F.ADC_RES_seq e).wd ∧
        r.f (F.ADC_MM_min e) = min c (s.f (F.ADC_MM_min e)) ∧ r.f (F.ADC_MM_max e) = max c (s.f (F.ADC_MM_max e)) ∧
        r.ent[e].code = c ∧ r.ent[e].seen = true ∧ r.adcDue[a] = t + 160 ∧ r.etime = max s.etime t ∧ r.ctx = s.ctx ∧
        r.stg = s.stg ∧ r.mem = s.mem ∧ (∀ x, x ≠ e → r.ent[x] = s.ent[x]) ∧
        (∀ k, s.boundTo e = some k → s.tbRuns k = true → s.stg[k].winEnd = none → r.ent[e].sum = s.ent[e].sum + c ∧
          r.ent[e].cnt = s.ent[e].cnt + 1) ∧
        (s.boundTo e = none → r.ent[e].sum = s.ent[e].sum ∧ r.ent[e].cnt = s.ent[e].cnt)) ∧
  (∀ (s : State) (e : Fin 64) (t : Nat) (raw : BitVec 14) (clamp : Bool) (a : Fin 4), a.val = e / 16 → s.scanPend[a] = none →
      t % 160 ≠ 0 ∨ t ≠ s.adcDue[a] ∨ s.calRun = true ∨ s.calDone = false ∨
        nextConv (s.f (F.ADC_SCAN_mask a)) s.adcLast[a] ≠ some (e.val % 16) → exec (.adcSample e t raw clamp () ()) s = .next s) ∧
  (∀ (s : State) (e : Fin 64) (a n : Fin 4) (code : BitVec 14) (ok : BitVec 4),
      (s.fb (F.ADC_ECFG_frz_en e) = true → s.ent[e].seen = true → s.ent[e].code = code.toNat → s.frzN e ≤ s.ent[e].frz + 1 →
        ∃ u : State, exec (.freezeFail e code) s = .next (u.report (0x2800 + e) (u.plausCls e) (BitVec.ofNat 32 code.toNat)) ∧
          u.fb ⟨A.ADC_PLST e, 0, 1⟩ = true ∧ u.fb (F.ADC_PLST_frz_now e) = true ∧ u.ent[e].frz = 0 ∧ u.ctx = s.ctx) ∧
      (s.fb (F.ADC_ECFG_rng_en e) = true → code.toNat < s.f (F.ADC_RNG_lo e) ∨ s.f (F.ADC_RNG_hi e) < code.toNat →
        s.rngN e ≤ s.ent[e].rng + 1 →
        ∃ u : State, exec (.rangeFail e code) s = .next (u.report (0x2900 + e) (u.plausCls e) (BitVec.ofNat 32 code.toNat)) ∧
          u.fb ⟨A.ADC_PLST e, 1, 1⟩ = true ∧ u.fb (F.ADC_PLST_rng_now e) = true ∧ u.ent[e].rng = 0 ∧ u.ctx = s.ctx) ∧
      (s.fb (F.ADC_ECFG_xchk_en e) = true → s.xchkN e ≤ s.ent[e].xchk + 1 →
        ∃ u : State, exec (.xchkFail e) s =
            .next (u.report (0x2A00 + e) (u.plausCls e) (BitVec.ofNat 32 (s.f (F.ADC_XCHK_cmp e)))) ∧
          u.fb ⟨A.ADC_PLST e, 2, 1⟩ = true ∧ u.fb (F.ADC_PLST_xchk_now e) = true ∧ u.ent[e].xchk = 0 ∧ u.ctx = s.ctx) ∧
      (n.val < 2 → s.internalBad (12 + n.val) code.toNat code.toNat = true →
        (∀ x : Fin 64, x.val = 16 * a.val + 12 + n.val → s.ent[x].int = 15) →
        ∃ u : State, exec (.internalEntryFail a n code) s =
            .next (u.report (0x2B00 + (4 * a.val + n.val)) .BC (BitVec.ofNat 32 code.toNat)) ∧
          u.fb ⟨A.ADC_STAT, 16 + a.val, 1⟩ = true ∧ u.ctx = s.ctx ∧ u.mode = s.mode) ∧
      (s.calRun = true → s.mode ≠ mSelftest ∨ ok = 15 → ∃ t, exec (.adcCalDone ok) s = .next t ∧ t.calRun = false ∧
        t.calDone = true ∧ t.mode = s.mode ∧
        (∀ i : Fin 4, t.adcLast[i] = 16 ∧ t.dacIdx[i] = 0 ∧ t.fb ⟨A.ADC_STAT, 4 + i.val, 1⟩ = natBit ok.toNat i)) ∧
      (s.calRun = true → s.mode = mSelftest → ok ≠ 15 → s.refHeld = none →
        ∃ u : State, exec (.adcCalDone ok) s = .next ((u.report 0x0C06 .A 0).enterSafeStop) ∧ u.calRun = false ∧
          u.f F.SYS_STEST_fail = 6 ∧ u.fb F.SYS_STEST_pass = false ∧ u.fb F.SYS_STEST_done = true ∧ u.mode = mSelftest ∧
          ∀ i : Fin 4, u.fb ⟨A.ADC_STAT, 4 + i.val, 1⟩ = natBit ok.toNat i))

/-- A window that ends is due unless it began before the timebase, and moves the open sums of the stage's entries to the
closed ones. The stage event of a window that is due publishes them: the entry's count of members, EVk pending, and no
window due; a context in IDLE or FAULT ignores it. The rows WINDOW_CLOSE and STAGE_EVENT (R64, R138 to R142). A stage
event at a running or waiting context latches, counts, collects the loops that are due, and takes the snapshot; on a
latch that is still set it is an overrun (R64 to R66, R120). -/
def Obligations.WindowAndStageEvent : Prop :=
  (∀ (s : State) (k : Stage),
      (s.stg[k].winDue = true → ∃ t, exec (.stageEvent k) s = .next t ∧ t.stg[k].winDue = false ∧
        natBit (t.reg (A.LTH_HS_EVPEND 0)).toNat k = true ∧ t.mode = s.mode ∧ t.mem = s.mem ∧
        (∀ e : Fin 64, s.f (F.ADC_ECFG_stg e) = k.val → t.f (F.ADC_AVGN_n e) = s.ent[e].cCnt % 2 ^ (F.ADC_AVGN_n e).wd ∧
          t.ent[e].cCnt = 0) ∧
        (s.ctx[ctxOf k].st = .idle ∨ s.ctx[ctxOf k].st = .fault → t.ctx = s.ctx) ∧
        (s.ctx[ctxOf k].st = .run ∨ s.ctx[ctxOf k].st = .wait → t.ctx[ctxOf k].latch = true ∧
          t.ctx[ctxOf k].events = s.ctx[ctxOf k].events + 1 ∧
          t.ctx[ctxOf k].ovr = (s.ctx[ctxOf k].ovr || s.ctx[ctxOf k].latch))) ∧
      (s.stg[k].winDue = false → exec (.stageEvent k) s = .next s) ∧
      (∀ w len, s.tbRuns k = true → s.nextWin k = some (w, len) → ∃ t, exec (.windowClose k) s = .next t ∧
        t.etime = max s.etime w.toNat ∧ t.stg[k].winEnd = some w.toNat ∧
        t.stg[k].winDue = decide ((s.stg[k].t0 : Int) ≤ w - len) ∧ t.regs = s.regs ∧ t.ctx = s.ctx ∧
        (∀ e : Fin 64, s.f (F.ADC_ECFG_stg e) = k.val → t.ent[e].cSum = s.ent[e].sum ∧ t.ent[e].cCnt = s.ent[e].cnt ∧
          t.ent[e].sum = 0 ∧ t.ent[e].cnt = 0))) ∧
  (∀ (s : State) (k : Stage), s.ctx[ctxOf k].st = .run ∨ s.ctx[ctxOf k].st = .wait →
      let c := s.ctx[ctxOf k]
      let c1 := (s.ctxEvent k).ctx[ctxOf k]
      c1.latch = true ∧ c1.events = c.events + 1 ∧ c1.due = Nat.lor c.due (s.dueAt k c.events) ∧ c1.snap = s.gridSnap k ∧
        c1.ovr = (c.ovr || c.latch) ∧ c1.v = c.v ∧ c1.pc = c.pc ∧ c1.st = c.st)

/-- A comparator that is powered decides once in every tick, which begins on whole multiples of 10 REF cycles (a decision
off the ticks does nothing: assumption 6, DESIGN CHOICE): the level of its input, here in units of 10 nV, above the
high or below the low threshold in force. It shows its decision; before it is armed, 2 µs after its first tick, it
trips nothing; out of window while armed it shows the side and counts, and one that trips a stage is reported, class B
while a stage switches; where both thresholds are violated, side and argument are the high one's (assumption 61,
DESIGN CHOICE). The end of settling arms it. The rows COMPARATOR_DECISION and COMPARATOR_ARMED (R157 to R164). -/
def Obligations.ComparatorEvents : Prop :=
  ∀ (s : State) (c : Fin 24) (t lvl : Nat),
    (s.ticks c t = false → exec (.comparatorDecision c t lvl) s = .next s) ∧
    (s.cmpPow[c] = true → t % 320 = 0 → s.cmpFrom[c] ≤ t → (∀ x ∈ s.cmpDec[c], x.1 < t) →
      let w := s.thrAt c t
      let high := s.fb (F.CMP_CFG_hi_en c) = true ∧ 78125 * (2 * getBits w 16 10 + 1) < lvl
      let low := s.fb (F.CMP_CFG_lo_en c) = true ∧ lvl < 78125 * (2 * getBits w 0 10 + 1)
      (t < s.cmpFrom[c] + 16000 ∨ ¬(high ∨ low) → ∃ r, exec (.comparatorDecision c t lvl) s = .next r ∧
        (r.fb (F.CMP_STAT_out c) = true ↔ high ∨ low) ∧ (r.fb ⟨A.CMP_LIVE, c.val, 1⟩ = true ↔ high ∨ low) ∧
        r.etime = max s.etime t ∧ r.ctx = s.ctx ∧ r.lnk = s.lnk ∧ r.mode = s.mode ∧
        (s.cmpFrom[c] + 16000 ≤ t → r.fb (F.CMP_STAT_armed c) = true)) ∧
      (s.cmpFrom[c] + 16000 ≤ t → high ∨ low → s.f (F.CMP_CFG_stg c) < 12 → s.anySwitching = true →
        ∃ u : State, exec (.comparatorDecision c t lvl) s =
            .next (u.report (0x2100 + c.val) .B (if high then 1 else 0)) ∧ u.fb (F.CMP_STAT_out c) = true ∧
          u.fb (F.CMP_STAT_trip c) = true ∧ (u.fb (F.CMP_STAT_side c) = true ↔ high) ∧
          u.f (F.CMP_STAT_cnt c) = satInc (F.CMP_STAT_cnt c).wd (s.f (F.CMP_STAT_cnt c)) ∧ u.etime = max s.etime t)) ∧
    (s.cmpPow[c] = true → ∃ r, exec (.comparatorArmed c) s = .next r ∧ r.fb (F.CMP_STAT_armed c) = true ∧
      r.etime = max s.etime (s.cmpFrom[c] + 16000) ∧ r.cmpPow = s.cmpPow ∧ r.ctx = s.ctx)

/-- The instants of a timebase. A start that waits begins its first period: on its own, at the first whole multiple of 10
REF cycles 1 µs or more after it was asked for, with STG_PER. The reload instant, once per period, fixes the length of
the next one, and takes the held plan; a stage that was started inside the guard window before it switches from here
on. The period starts where the previous one ended. A source that is missing for 16 periods is sync_miss, class C. The
hiccup's end sets ss and counts a retry, unless ss was cleared in HICCUP. The rows TIMEBASE_START, RELOAD_INSTANT,
PERIOD_START, SYNC_MISS and HICCUP_END (R16, R17, R20, R166, R168 to R171, R186, R189). -/
def Obligations.TimebaseInstants : Prop :=
  ∀ (s : State) (k : Stage),
    (∀ t0, s.stg[k].starting = some t0 → (s.startAt k t0).2.2.1 = false → ∃ t, exec (.timebaseStart k) s = .next t ∧
      t.stg[k].ts = (s.startAt k t0).1 ∧ t.stg[k].tn = (s.startAt k t0).2.1 ∧ t.stg[k].starting = none ∧
      t.stg[k].latched = false ∧ t.stg[k].num = 0 ∧ t.etime = max s.etime (s.startAt k t0).1 ∧
      t.reg (A.STG_PSTART_LO k) = BitVec.ofNat 32 (s.startAt k t0).1) ∧
    (∀ t0, s.f (F.STG_SYNC_src k) = 0 → s.staged = [] →
      s.startAt k t0 = ((t0 + 8319) / 320 * 320, s.f (F.STG_PER_per k), false, 0)) ∧
    (s.tbRuns k = true → s.stg[k].latched = false → s.f (F.STG_SYNC_src k) = 0 → s.staged = [] → s.cmds = [] →
      s.stgSt k = stReady → ∃ t, exec (.reloadInstant k) s = .next t ∧ t.stg[k].latched = true ∧
        t.f (F.STG_PER_NEXT_per k) = s.f (F.STG_PER_per k) ∧ t.stg[k].com = s.stg[k].held.getD s.stg[k].com ∧
        t.stg[k].held = none ∧ t.stgSt k = (if s.stg[k].runLate then stSwitching else stReady) ∧ t.etime = max s.etime (s.stg[k].ts + s.stg[k].tn - 10240) ∧
        t.ctx = s.ctx ∧ t.mem = s.mem) ∧
    (s.tbRuns k = true → s.stg[k].latched = true → s.staged = [] → ∃ t, exec (.periodStart k) s = .next t ∧
      t.stg[k].ts = s.stg[k].ts + s.stg[k].tn ∧ t.stg[k].tn = s.f (F.STG_PER_NEXT_per k) ∧ t.stg[k].latched = false ∧
      t.stg[k].num = s.stg[k].num + 1 ∧ t.etime = max s.etime (s.stg[k].ts + s.stg[k].tn) ∧
      t.reg (A.STG_PSTART_LO k) = BitVec.ofNat 32 (s.stg[k].ts + s.stg[k].tn)) ∧
    (s.tbRuns k = false → exec (.reloadInstant k) s = .next s ∧ exec (.periodStart k) s = .next s) ∧
    (s.tbRuns k = true → 2 ≤ s.f (F.STG_SYNC_src k) → s.stg[k].srcAge = 16 → ∃ t, exec (.syncMiss k) s = .next t ∧
      t.fb (F.STG_STAT_sync_lock k) = false ∧ t.stg[k].srcAge = 17 ∧ t.fb ⟨A.STG_EVT k, 6, 1⟩ = true ∧
      t.f F.FLT_CLAST_code = 0x6300 + k.val ∧ t.mode = s.mode ∧ t.ctx = s.ctx) ∧
    (∀ t, s.stgSt k = stHiccup → s.stg[k].hicEnd = some t → ∃ u, exec (.hiccupEnd k) s = .next u ∧ u.stg[k].hicDone = true ∧
      u.stg[k].hicEnd = none ∧ u.f (F.STG_REGSTAT_lim_cnt k) = 0 ∧ u.etime = max s.etime t ∧
      (s.stg[k].hicLim = false → u.fb (F.STG_REG_ss k) = true ∧
        u.f (F.STG_REGSTAT_retries k) = min 15 (s.f (F.STG_REGSTAT_retries k) + 1)) ∧
      (s.stg[k].hicLim = true → u.fb (F.STG_REG_ss k) = s.fb (F.STG_REG_ss k) ∧
        u.f (F.STG_REGSTAT_retries k) = s.f (F.STG_REGSTAT_retries k)))

/-- The reload instant of a stage that switches on its own timebase, with no word and no command waiting and no follower.
It latches the committed plan, an all-off one for a stop or a hiccup that is due, built from the fields as they stand.
With a link not in EN nothing is assigned and no late plan counted; an all-off plan counts as streamed there. A
deliverable plan is assigned and becomes the previous one; short intervals and interlock drops count; a stop leads to
READY, a hiccup to HICCUP with a class C report. Where it is not deliverable, the previous plan is rebuilt:
deliverable, it repeats, counted as late with a class C report; if not, rep_fail is set and a class B report made
(R17, R166, R173 to R182, R186, R458). The steps of a latch for the coming period of `T` taps, with the pulse carry
off. An on-edge is of a switch of the stage that the effective mask permits; it lies the dead time, where the switch
has a leg, after the on-instant of an interval planned for it, which lasts the minimum pulse or more from there. An
off-edge lies at the off-instant of such an interval and the minimum pulse or more before the period's end, or it was
withheld at the previous latch; a later one is withheld. Two switches of a leg never turn on at one instant, and one
turns on only the dead time or more after the other has turned off. The edges are in time order (R173 to R180). What a
deliverable plan is assigned: every edge has one slot of its link, from 80 ns after the latch on, in the order of the
edges; its command arrives 200 ns or more before the edge, with the link's reserve of slots; no slot meets another of
its link, and the slots that earlier latches hold stay (R180, R181, R185). -/
def Obligations.PlanIsLatched : Prop :=
  (∀ (s : State) (k : Stage), s.tbRuns k = true → s.stg[k].latched = false → s.stgSt k = stSwitching →
      s.stg[k].runLate = false → s.f (F.STG_SYNC_src k) = 0 → (∀ j, leaderOf j = k → s.f (F.STG_SYNC_src j) ≠ 1) →
      s.staged = [] → s.cmds = [] →
      let T := s.f (F.STG_PER_per k)
      let v := ((s.toInstant (s.reloadAt k)).put (F.STG_PER_NEXT_per k) T).reloadLoops (s.switchesOf k)
      let g := s.stg[k]
      let stop := g.stopReq && !g.stopLate
      let p := if stop || g.hicArm then [] else g.com
      let b := v.build k p T
      let again := v.build k g.prevPlan T
      let sent := v.deliverable k (g.next - leadTaps) b
      let sentAgain := v.deliverable k (g.next - leadTaps) again
      let latches : State → Prop := fun t => t.stg[k].latched = true ∧ t.f (F.STG_PER_NEXT_per k) = T ∧ t.stg[k].held = none ∧
        t.stg[k].com = g.held.getD g.com ∧ t.etime = max s.etime (s.reloadAt k) ∧ (∀ i : Fin 3, t.stg[k].maskN[i] = v.maskEff k i)
      let drops : State → Built → Prop := fun t b => t.f (F.STG_DROP_tmin k) = satAdd 16 (s.f (F.STG_DROP_tmin k)) b.short ∧
        (b.ilk = [] → t.f (F.STG_DROP_ilk k) = s.f (F.STG_DROP_ilk k)) ∧ (b.ilk ≠ [] → t.fb ⟨A.STG_EVT k, 2, 1⟩ = true)
      let notLate : State → Prop := fun t => t.f (F.STG_LATE_PLAN_count k) = s.f (F.STG_LATE_PLAN_count k) ∧
        t.fb ⟨A.STG_EVT k, 0, 1⟩ = s.fb ⟨A.STG_EVT k, 0, 1⟩ ∧ t.fb ⟨A.STG_EVT k, 1, 1⟩ = s.fb ⟨A.STG_EVT k, 1, 1⟩ ∧
        t.stg[k].repNext = false ∧ t.stg[k].carry = (if stop then [] else b.carry) ∧
        t.stgSt k = (if stop then stReady else if g.hicArm then stHiccup else stSwitching) ∧
        (stop = true → t.stg[k].stopReq = false) ∧
        (stop = false → g.hicArm = true → t.fb ⟨A.STG_EVT k, 3, 1⟩ = true ∧ t.f F.FLT_CLAST_code = 0x6200 + k.val)
      (s.linksEn k = false → ∃ t, exec (.reloadInstant k) s = .next t ∧ latches t ∧ drops t b ∧ notLate t ∧ t.slots = s.slots ∧
        t.stg[k].withheld = g.withheld ∧ t.stg[k].prevPlan = []) ∧
      (∀ slots, s.linksEn k = true → sent = some slots → ∃ t, exec (.reloadInstant k) s = .next t ∧ latches t ∧ drops t b ∧
        notLate t ∧ t.slots = slots ∧ t.stg[k].withheld = b.withheld ∧ t.stg[k].prevPlan = p) ∧
      (∀ slots, s.linksEn k = true → sent = none → sentAgain = some slots → ∃ t, exec (.reloadInstant k) s = .next t ∧ latches t ∧
        drops t again ∧ t.slots = slots ∧ t.stg[k].withheld = again.withheld ∧ t.stg[k].prevPlan = g.prevPlan ∧
        t.stg[k].repNext = true ∧ t.f (F.STG_LATE_PLAN_count k) = satInc (F.STG_LATE_PLAN_count k).wd (s.f (F.STG_LATE_PLAN_count k)) ∧
        t.fb ⟨A.STG_EVT k, 0, 1⟩ = true ∧ t.f F.FLT_CLAST_code = 0x6000 + k.val ∧ t.stgSt k = stSwitching ∧
        t.stg[k].stopReq = g.stopReq) ∧
      (s.linksEn k = true → sent = none → sentAgain = none →
        ∃ u : State, exec (.reloadInstant k) s = .next (((u.report (0x2500 + k.val) .B 0).runLateDone k).rampsAt k) ∧
          u.fb ⟨A.STG_EVT k, 1, 1⟩ = true ∧ u.slots = s.slots ∧ latches u)) ∧
  (∀ (v : State) (k : Stage) (p : Plan) (T : Nat), v.fb (F.STG_TMIN_carry k) = false →
      let b := v.build k p T
      let ts := v.stg[k].next
      let fresh : Edge → Prop := fun e => e ∈ b.edges ∧ e ∉ v.stg[k].withheld
      (∀ e, fresh e → e.on = true → e.sw ∈ v.switchesOf k ∧ v.permits k e.sw = true ∧
        ∃ i ∈ unionOf p e.sw T, let d := if (v.legOf e.sw).isSome then v.deadTime k e.sw else 0
          e.t = ts + i.1 + d ∧ i.1 + d + v.tMin k ≤ i.2) ∧
      (∀ e, fresh e → e.on = false → e.t + v.tMin k ≤ ts + T ∧ ∃ i ∈ unionOf p e.sw T, e.t = ts + i.2) ∧
      (∀ e ∈ b.withheld, e.on = false ∧ ts + T < e.t + v.tMin k ∧ ∃ i ∈ unionOf p e.sw T, e.t = ts + i.2) ∧
      (∀ e f, fresh e → fresh f → e.on = true → f.on = true → v.legOf e.sw = some f.sw → e.t ≠ f.t ∧
        (f.t < e.t → ∃ o ∈ b.edges ++ b.withheld, o.sw = f.sw ∧ o.on = false ∧ f.t < o.t ∧ o.t + v.deadTime k e.sw ≤ e.t)) ∧
      b.edges.Pairwise (fun e f => e.t < f.t ∨ (e.t = f.t ∧ e.sw ≤ f.sw))) ∧
  (∀ (v : State) (k : Stage) (trl : Nat) (b : Built) (slots : List Slotted), v.deliverable k trl b = some slots →
      ∃ l, slots = (v.slots.filter fun x => decide (trl < x.start + slotTaps)) ++ l ∧ l.map (·.edge) = b.edges ∧
        (∀ x ∈ l, x.stage = k.val ∧ x.link = x.edge.sw / 8 ∧ x.sent = false ∧ trl + 640 ≤ x.start ∧
          x.start + slotTaps + v.f (F.GL_DLINK_dlink x.link) + v.reserve x.link * slotTaps + 1600 ≤ x.edge.t) ∧
        l.Pairwise (fun x y => x.link = y.link → x.start + slotTaps ≤ y.start ∨ y.start + slotTaps ≤ x.start) ∧
        (∀ x ∈ l, ∀ y ∈ v.slots, trl < y.start + slotTaps → x.link = y.link →
          x.start + slotTaps ≤ y.start ∨ y.start + slotTaps ≤ x.start))

/-- What a link sends, each with its start symbol and CRC. In EN, where no immediate off waits, the edge command of the
earliest slot: the switch's edge number, drive codes and stamp, as R194 lays the 64 bits out; the edge is marked sent
and the number counts. In EN an immediate off, of type 1 with polarity 0, stamped with its horizon; the unsent
commands of the link move one slot, and one that is then late is a class B fault. While the link is not PART and an
idle gap begins, a SYNC word with 48 bits of the EDGE time of its arrival, and in DIS and EN the first configuration
word that waits; in the ENABLE sequence, once identity and echo have passed, the word of the next address, until it is
answered. The rows EDGE_COMMAND, IMMEDIATE_OFF, SYNC_WORD and CONFIGURATION_WORD (R180, R181, R183, R185, R191 to
R196, R204). -/
def Obligations.LinkSends : Prop :=
  ∀ (s : State) (n : Link) (t : Nat),
    (∀ x, s.lnkSt n = lEn → (∀ y ∈ s.imms, y.link ≠ n.val) → s.firstSlot n = some x →
      let i : Fin 8 := ⟨x.edge.sw % 8, by omega⟩
      let bytes := leBytes (edgeBits x.edge.sw (b2n x.edge.on) 0 x.edge.step1 x.edge.step2 s.lnk[n].seqNo[i] x.edge.dly
        (((x.edge.t : Int) - 8 * s.f (F.GL_ID_t_pod n)) % 2 ^ 38).toNat).toNat 8
      ∃ u, exec (.edgeCommand n) s = .next u ∧ u.out = .word n 0xFB (bytes ++ [BitVec.ofNat 8 (crc8 bytes)]) :: s.out ∧
        u.etime = max s.etime x.start ∧ u.lnk[n].seqNo[i] = (s.lnk[n].seqNo[i] + 1) % 16 ∧ u.regs = s.regs ∧
        u.slots.length = s.slots.length ∧ (∀ y ∈ u.slots, y.sent = false → y ∈ s.slots ∧ y ≠ x)) ∧
    (∀ (k : Stage) x, x.stage = k.val → s.lnkSt n = lEn → s.imms.find? (fun y => y.link == n.val) = some x →
      let i : Fin 8 := ⟨x.sw % 8, by omega⟩
      let e := s.immEdge k x
      let bytes := leBytes (edgeBits x.sw 0 1 e.step1 e.step2 s.lnk[n].seqNo[i] e.dly
        (((x.horizon : Int) - 8 * s.f (F.GL_ID_t_pod n)) % 2 ^ 38).toNat).toNat 8
      let sends : State → Prop := fun u => u.out = .word n 0xFB (bytes ++ [BitVec.ofNat 8 (crc8 bytes)]) :: s.out ∧ x ∉ u.imms ∧
        u.lnk[n].seqNo[i] = (s.lnk[n].seqNo[i] + 1) % 16 ∧ u.ctx = s.ctx ∧
        ∀ y ∈ s.slots, y.link = n.val → y.sent = false → { y with start := y.start + slotTaps } ∈ u.slots
      let late := ∃ y ∈ s.slots, y.link = n.val ∧ y.sent = false ∧ s.arrives 0 (y.start + slotTaps) y.edge = false
      (¬late → ∃ u, exec (.immediateOff n) s = .next u ∧ sends u ∧ u.regs = s.regs) ∧
      (late → ∃ u : State, exec (.immediateOff n) s = .next (u.report (0x2600 + k.val) .B 0) ∧ sends u ∧
        u.fb ⟨A.STG_EVT k, 5, 1⟩ = true)) ∧
    (s.lnkSt n ≠ lEn → exec (.edgeCommand n) s = .next s ∧ exec (.immediateOff n) s = .next s) ∧
    (s.lnkSt n ≠ lPart → s.gapAt n t = true →
      let bytes := leBytes ((t + s.f (F.GL_DLINK_dlink n)) % 2 ^ 48) 6
      ∃ u, exec (.syncWord n t) s = .next u ∧ u.out = .word n 0x1C (bytes ++ [BitVec.ofNat 8 (crc8 bytes)]) :: s.out ∧
        u.etime = max s.etime t ∧ u.regs = s.regs ∧ u.lnk = s.lnk) ∧
    (∀ w, s.lnkSt n = lEn ∨ s.lnkSt n = lDis → s.gapAt n s.etime = true → s.lnk[n].cfg.find? (fun y => !y.sent) = some w →
      let bytes := BitVec.ofNat 8 w.addr :: wordBytes w.value ++ [BitVec.ofNat 8 w.tag]
      ∃ u, exec (.configurationWord n) s = .next u ∧
        u.out = .word n 0x5C (bytes ++ [BitVec.ofNat 8 (crc8 bytes)]) :: s.out ∧ u.regs = s.regs ∧
        u.lnk[n].cfg.length = s.lnk[n].cfg.length ∧ { w with sent := true } ∈ u.lnk[n].cfg) ∧
    (∀ j, s.lnkSt n = lSeq → s.lnk[n].seqAt = some j → j < 14 → s.lnk[n].idOk = true → s.lnk[n].echoOk = true →
      (∀ w ∈ s.lnk[n].cfg, w.sent = false) →
      let bytes := BitVec.ofNat 8 j :: wordBytes (s.podValue n j) ++ [BitVec.ofNat 8 (s.lnk[n].tag % 256)]
      ∃ u, exec (.configurationWord n) s = .next u ∧
        u.out = .word n 0x5C (bytes ++ [BitVec.ofNat 8 (crc8 bytes)]) :: s.out ∧ u.regs = s.regs ∧ u.lnk[n].seqAt = some j ∧
        ∃ w ∈ u.lnk[n].cfg, w.sent = true ∧ w.addr = j ∧ w.tag = s.lnk[n].tag % 256) ∧
    (s.gapAt n t = false → exec (.syncWord n t) s = .next s)

/-- The ENABLE sequence's answers, heard outside RESET with a good CRC: an identity that fits is kept and the echo request
sent; a plausible round trip gives GL_DLINK; an identity that does not fit, an implausible round trip, and the time
limit end the sequence with the link in PART and en_fail, here where no other sequence runs, no configuration value
waits, no stage switches and no command is in flight, with a class C report. The rows ID_WORD, ECHO_RESPONSE and
ENABLE_TIMEOUT (R192, R203, R204). Configuration answers. In the sequence an ACK moves on to the next address, after
the last with SYNC and ENABLE. Outside it, with no command in flight, an ACK takes the word off and stores its masked
value in its register; a NAK, whose event bit is set, and a time-out take the word off and store nothing in a register
of a pod's fields. The rows CONFIGURATION_ACK, CONFIGURATION_NAK and CONFIGURATION_ACK_TIMEOUT (R195, R196, R199,
R204, R215, R217). -/
def Obligations.LinkAnswers : Prop :=
  (∀ (s : State) (n : Link) (rev tpod fitted cap crc : Byte) (typ : BitVec 16) (rt : Nat), s.lnkSt n = lSeq → s.mode ≠ mReset →
      let heard := crc = BitVec.ofNat 8 (crc8 ([rev, tpod, fitted, cap] ++ leBytes typ.toNat 2))
      let fails (i : Instr) : Prop := s.anySwitching = false → s.resumed = false → s.cmds = [] →
        (∀ m : Link, s.lnk[m].cfg = []) → ∃ t, exec i s = .next t ∧ t.lnkSt n = lPart ∧ t.fb (F.GL_STAT_en_fail n) = true ∧
          t.f F.FLT_CLAST_code = 0x2400 + n.val ∧ t.mode = s.mode ∧ t.ctx = s.ctx ∧ .symbol n 0xFD ∈ t.out
      (heard → s.idGood n rev tpod fitted cap = true → ∃ t, exec (.idWord ⟨n, crc⟩ rev tpod fitted cap typ) s = .next t ∧
        t.lnk[n].idOk = true ∧ t.fb (F.GL_STAT_id_ok n) = true ∧ t.reg (A.GL_ID n) = bytesWord rev tpod fitted cap ∧
        t.f (F.GL_IDT_type n) = typ.toNat ∧ t.out = .symbol n 0xDC :: s.out ∧ t.lnkSt n = lSeq) ∧
      (heard → s.idGood n rev tpod fitted cap = false → fails (.idWord ⟨n, crc⟩ rev tpod fitted cap typ)) ∧
      (3200 ≤ rt → (rt - 3200) / 2 ≤ 2000 → ∃ t, exec (.echoResponse n rt) s = .next t ∧ t.lnk[n].echoOk = true ∧
        t.f (F.GL_DLINK_dlink n) = (rt - 3200) / 2 ∧ t.lnkSt n = lSeq ∧ t.out = s.out) ∧
      (rt < 3200 ∨ 2000 < (rt - 3200) / 2 → fails (.echoResponse n rt)) ∧ fails (.enableTimeout n)) ∧
  (∀ (s : State) (n : Link) (tag reason crc : Byte) (w : CfgWord), s.mode ≠ mReset →
      let first := s.lnk[n].cfg.find? (fun x => x.sent && x.tag == tag.toNat) = some w
      let ack := crc = BitVec.ofNat 8 (crc8 [0x06, tag, 0])
      (ack → s.lnkSt n = lSeq → first → ∀ j, s.lnk[n].seqAt = some j → ∃ t, exec (.configurationAck ⟨n, crc⟩ tag) s = .next t ∧
        t.lnk[n].seqAt = some (j + 1) ∧ t.lnk[n].cfg = s.lnk[n].cfg.filter (fun x => x != w) ∧ t.regs = s.regs ∧
        (j = 13 → ∃ b, t.out = .symbol n 0xF7 :: .word n 0x1C b :: s.out) ∧ (j ≠ 13 → t.out = s.out)) ∧
      (ack → s.lnkSt n ≠ lSeq → s.cmds = [] → first → ∀ a v m, w.reg = some (a, v, m) →
        ∃ t, exec (.configurationAck ⟨n, crc⟩ tag) s = .next t ∧ t.lnk[n].cfg = s.lnk[n].cfg.filter (fun x => x != w) ∧
          t.reg a = (s.reg a &&& ~~~m) ||| (v &&& m) ∧ (∀ b, home b ≠ home a → t.reg b = s.reg b) ∧ t.out = s.out) ∧
      (crc = BitVec.ofNat 8 (crc8 [0x07, tag, reason]) → s.lnkSt n ≠ lSeq → s.cmds = [] → first → w.restoring = false →
        ∃ t, exec (.configurationNak ⟨n, crc⟩ tag reason) s = .next t ∧ t.fb ⟨A.GL_EVT n, 4, 1⟩ = true ∧
          t.lnk[n].cfg = s.lnk[n].cfg.filter (fun x => x != w) ∧ t.mode = s.mode ∧ t.out = s.out ∧
          ∀ i a, podAddr a = some (n, i) → t.reg a = s.reg a) ∧
      (s.lnkSt n ≠ lSeq → s.cmds = [] → s.lnk[n].cfg.find? (·.sent) = some w → w.restoring = false →
        ∃ t, exec (.configurationAckTimeout n) s = .next t ∧ t.lnk[n].cfg = s.lnk[n].cfg.filter (fun x => x != w) ∧
          t.regs = s.regs ∧ t.out = s.out))

/-- Status words and receive lock, heard outside RESET: with a good CRC the pod's states and flags are shown, its monitor
values 0 to 3 kept, and the word counted; the status word with the pod enabled, after the sequence's last
acknowledgement, brings the link to EN. The lock follows the receiver; a word with a wrong CRC, and one that is
discarded, change only the count of errors; silence of a link in use is an event and a class B/C report. The rows
STATUS_WORD, RX_LOCK, RX_LOSS, UPSTREAM_WORD_DISCARDED and LINK_SILENCE (R191, R193, R197, R200, R204). What a pod
reports, heard outside RESET with a good CRC: a trip word sets its switch's bit of GL_TRIP and, where no pair came
before, is a class A report (assumption 25, DEDUCED); a trip pair latches a short circuit at the link, though it names
no switch (assumption 54, DEDUCED), and is a class A report; the other pod faults share one event and a class B/C
report, whose argument holds the event's type and first argument (assumption 85, DESIGN CHOICE); a temperature warning
is class C. The rows DIDT_TRIP, DESATURATION_TRIP, TRIP_PAIR, GATE_SUPPLY_FAULT, OVERTEMP_SHUTDOWN, OVERTEMP_WARNING,
DOWNSTREAM_WORD_DISCARDED, LATE_TIMED_COMMAND, POD_INTERLOCK_DROP and EDGE_QUEUE_FULL (R199, R207, R209, R332). A
crossing word, heard outside RESET with a good CRC: one that matches no kept edge is dropped and counted; one that
does and whose switch has its voltage loop on, with no leg partner, adds its rise to the sum of its edge's band; once
navg values are in, the sum starts over and the drive code of that polarity and band goes one step up or down where
their mean lies outside the tolerance of its target, within the bounds in force (R198, R212, R214). A parted link goes
to DIS, with DISABLE, where GATE_EN is low and no other force is present, and in CONFIGURE where the force that held
it over the transition from STANDBY has ended; else LINK_TO_DIS changes nothing (R25, R201, R202; what counts as a
force: assumption 12, DEDUCED). -/
def Obligations.LinkReports : Prop :=
  (∀ (s : State) (n : Link) (states flags idx val crc : Byte), s.mode ≠ mReset →
      (crc = BitVec.ofNat 8 (crc8 [states, flags, idx, val]) → ∃ t, exec (.statusWord ⟨n, crc⟩ states flags idx val) s = .next t ∧
        t.f (F.GL_PSTAT_states n) = states.toNat ∧ t.f (F.GL_PSTAT_flags n) = flags.toNat ∧
        t.f (F.GL_PSTAT_count n) = (s.f (F.GL_PSTAT_count n) + 1) % 2 ^ (F.GL_PSTAT_count n).wd ∧
        t.fb (F.GL_STAT_pod_en n) = natBit flags.toNat 0 ∧
        (idx.toNat % 16 < 4 → t.f ⟨A.GL_PMON n, 8 * (idx.toNat % 16), 8⟩ = val.toNat) ∧
        (s.lnkSt n = lSeq → s.lnk[n].seqAt = some 14 → natBit flags.toNat 0 = true → t.lnkSt n = lEn ∧ t.lnk[n].seqAt = none)) ∧
      (crc ≠ BitVec.ofNat 8 (crc8 [states, flags, idx, val]) → ∃ t, exec (.statusWord ⟨n, crc⟩ states flags idx val) s = .next t ∧
        t.f (F.GL_CNT_crc_up n) = satInc (F.GL_CNT_crc_up n).wd (s.f (F.GL_CNT_crc_up n)) ∧ t.lnk = s.lnk ∧
        t.reg (A.GL_PSTAT n) = s.reg (A.GL_PSTAT n)) ∧
      (s.fb (F.GL_CTL_en n) = true → ∃ u : State, exec (.linkSilence n) s = .next (u.report (0x2200 + n.val) .BC 0) ∧
        u.fb ⟨A.GL_EVT n, 1, 1⟩ = true ∧ u.lnk = s.lnk ∧ u.ctx = s.ctx) ∧
      (∃ t, exec (.rxLock n) s = .next t ∧ t.fb (F.GL_STAT_rx_lock n) = true ∧ t.lnk = s.lnk ∧ t.mode = s.mode) ∧
      (∃ t, exec (.rxLoss n) s = .next t ∧ t.fb (F.GL_STAT_rx_lock n) = false ∧ t.lnk = s.lnk ∧ t.mode = s.mode) ∧
      (∃ t, exec (.upstreamWordDiscarded n) s = .next t ∧
        t.f (F.GL_CNT_crc_up n) = satInc (F.GL_CNT_crc_up n).wd (s.f (F.GL_CNT_crc_up n)) ∧ t.lnk = s.lnk)) ∧
  (∀ (s : State) (n : Link) (sw : Fin 8) (x y crc : Byte), s.mode ≠ mReset →
      (∀ (i : Instr) (bit : Nat) (b : List Byte), (i, bit, b) ∈ [(Instr.didtTrip ⟨n, crc⟩ sw, 0, [(0x01 : Byte), BitVec.ofNat 8 sw, 0]),
          (.desaturationTrip ⟨n, crc⟩ sw, 8, [0x02, BitVec.ofNat 8 sw, 0])] → crc = BitVec.ofNat 8 (crc8 b) →
        (s.lnk[n].pairs = 0 → ∃ u : State, exec i s = .next (u.report (0x0700 + n.val) .A (u.reg (A.GL_TRIP n))) ∧
          u.fb ⟨A.GL_TRIP n, bit + sw.val, 1⟩ = true ∧ u.ctx = s.ctx) ∧
        (s.lnk[n].pairs ≠ 0 → ∃ t, exec i s = .next t ∧ t.fb ⟨A.GL_TRIP n, bit + sw.val, 1⟩ = true ∧
          t.lnk[n].pairs = s.lnk[n].pairs - 1 ∧ t.mode = s.mode ∧ t.ctx = s.ctx)) ∧
      (∃ u : State, exec (.tripPair n) s = .next (u.report (0x0700 + n.val) .A 0) ∧ u.lnk[n].pairs = s.lnk[n].pairs + 1 ∧
        u.trips n = true ∧ u.fb ⟨A.GL_EVT n, 0, 1⟩ = true ∧ u.ctx = s.ctx) ∧
      (∀ (i : Instr) (typ : Byte) (b : List Byte), (i, typ, b) ∈ [(Instr.gateSupplyFault ⟨n, crc⟩ x y, (0x03 : Byte), [x, y]),
          (.overtempShutdown ⟨n, crc⟩ x, 0x04, [x, 0]), (.downstreamWordDiscarded ⟨n, crc⟩ x, 0x08, [x, 0]),
          (.lateTimedCommand ⟨n, crc⟩ x y, 0x09, [x, y]), (.podInterlockDrop ⟨n, crc⟩ x y, 0x0A, [x, y]),
          (.edgeQueueFull ⟨n, crc⟩ x y, 0x0B, [x, y])] → crc = BitVec.ofNat 8 (crc8 (typ :: b)) →
        ∃ u : State, exec i s = .next (u.report (0x2300 + n.val) .BC (BitVec.ofNat 32 (typ.toNat + 256 * x.toNat))) ∧
          u.fb ⟨A.GL_EVT n, 2, 1⟩ = true ∧ u.lnk = s.lnk ∧ u.ctx = s.ctx) ∧
      (crc = BitVec.ofNat 8 (crc8 [0x05, x, 0]) → ∃ t, exec (.overtempWarning ⟨n, crc⟩ x) s = .next t ∧
        t.fb ⟨A.GL_EVT n, 3, 1⟩ = true ∧ t.f F.FLT_CLAST_code = 0x6600 + n.val ∧ t.mode = s.mode ∧ t.lnk = s.lnk)) ∧
  (∀ (s : State) (n : Link) (i : Fin 8) (pol : Bool) (seq : BitVec 4) (t1 t2 : BitVec 16) (crc : Byte), s.mode ≠ mReset →
      crc = BitVec.ofNat 8 (crc8 (BitVec.ofNat 8 (i.val + 8 * b2n pol + 16 * seq.toNat) :: leBytes t1.toNat 2 ++
        leBytes t2.toNat 2)) →
      let kept := s.lnk[n].kept.find? fun x => x.sw == 8 * n.val + i.val && x.on == pol && x.seq == seq.toNat
      (kept = none → ∃ t, exec (.crossingWord ⟨n, crc⟩ i pol seq t1 t2) s = .next t ∧
        t.f (F.GL_CNT_xdrop n) = satInc (F.GL_CNT_xdrop n).wd (s.f (F.GL_CNT_xdrop n)) ∧ t.lnk = s.lnk) ∧
      (∀ x, kept = some x → s.dvOn (8 * n.val + i.val) = true → t1.toNat < t2.toNat → t2 ≠ 0xFFFF →
        s.legOf (8 * n.val + i.val) = none →
        let k := 16 * i.val + 8 * b2n pol + x.band
        let y := sumGet s.lnk[n].dv k
        ∃ t, exec (.crossingWord ⟨n, crc⟩ i pol seq t1 t2) s = .next t ∧ t.mode = s.mode ∧ t.ctx = s.ctx ∧
          (y.n + 1 < max 1 (s.f (F.GL_ALOOP_navg n)) → t.regs = s.regs ∧
            sumGet t.lnk[n].dv k = ⟨y.sum + (t2.toNat - t1.toNat), y.n + 1⟩) ∧
          (max 1 (s.f (F.GL_ALOOP_navg n)) ≤ y.n + 1 → sumGet t.lnk[n].dv k = ⟨0, 0⟩ ∧
            let sw := 8 * n.val + i.val
            let code := if pol then F.GL_AST_on_s2 n i x.band else F.GL_AST_off_s2 n i x.band
            let lo := s.bound1 sw (if pol then F.GL_ABND1_src_min n i else F.GL_ABND1_snk_min n i)
            let hi := s.bound1 sw (if pol then F.GL_ABND1_src_max n i else F.GL_ABND1_snk_max n i)
            let target : Int := 8 * s.bound1 sw (if pol then F.GL_ABND1_on_tgt n i else F.GL_ABND1_off_tgt n i)
            let tol : Int := 8 * s.f (F.GL_ALOOP2_tol n)
            let total : Int := y.sum + (t2.toNat - t1.toNat)
            (t.f code : Int) = min (max (if total < (y.n + 1) * (target - tol) then (s.f code : Int) - 1
              else if (y.n + 1) * (target + tol) < total then s.f code + 1 else s.f code) lo) hi))) ∧
  (∀ (s : State) (n : Link),
      let other := s.safForce = true ∨ s.mode ∈ [0, 1, 2, 9, 10, 11]
      let goes := s.lnkSt n = lPart ∧ ((s.gateEn = false ∧ ¬other) ∨
        (s.mode = mConfigure ∧ s.lnk[n].toDis = true ∧ s.gateEn = true ∧ s.safForce = false))
      (goes → ∃ t, exec (.linkToDis n) s = .next t ∧ t.lnkSt n = lDis ∧ t.out = .symbol n 0xFE :: s.out ∧ t.ctx = s.ctx ∧
        t.mode = s.mode) ∧
      (¬goes → exec (.linkToDis n) s = .next s))

/-- GATE_EN falling is a class A report while a stage switches; otherwise, here with no sequence running and no
configuration value waiting, every link is in PART, those that were not send PARTING, and nothing else in the device
stops. A rise after 10 µs or more clears GL_TRIP, a shorter low does not. RBS and ALIVE follow their pins. The rows
GATE_EN_FALL, GATE_EN_RISE, RBS_QUALIFIED, RBS_OFF and ALIVE_TOGGLE (R33, R34, R35, R37, R38). What resets the device,
from a state whose stores are canonical: RESETN, a soft reset, the end of HOLDUP, a supply monitor. The first two wait
for a final save under way, where RESETN turns RBG off at once. Before reset the links send PARTING; after it the mode
is RESET, SYS_RSTCAUSE holds the cause alone, links are in PART and outputs low. A monitor holds its rail as bad until
it releases, power-on clears all. PFI is timed in every mode, and in CONFIGURE or later enters HOLDUP, with every
STG_CTL.run cleared (assumption 33, DEDUCED). The rows RESETN_LOW, SOFT_RESET_ASSERT, HOLDUP_RELEASE_RESET,
MONITOR_TRIP, MONITOR_RELEASE, POWER_ON and PFI_ASSERT (R24, R26, R28, R29, R30, R36, R353 to R355). -/
def Obligations.PinsAndResets : Prop :=
  (∀ (s : State),
      (s.anySwitching = true → exec .gateEnFall s = .next ({ s with gateEn := false }.report 0x0800 .A 0)) ∧
      (s.anySwitching = false → s.cmds = [] → (∀ n : Link, s.lnkSt n ≠ lSeq ∧ s.lnk[n].cfg = []) →
        ∃ t, exec .gateEnFall s = .next t ∧ t.gateEn = false ∧ t.mode = s.mode ∧ t.ctx = s.ctx ∧ t.mem = s.mem ∧
          ∀ n : Link, t.lnkSt n = lPart ∧ (s.lnkSt n ≠ lPart → .symbol n 0xFD ∈ t.out)) ∧
      (s.gateEn = false → ∃ t, exec (.gateEnRise true) s = .next t ∧ t.gateEn = true ∧ (∀ n : Link, t.reg (A.GL_TRIP n) = 0) ∧
        t.mode = s.mode ∧ t.mem = s.mem) ∧
      (∃ t, exec (.gateEnRise false) s = .next t ∧ t.gateEn = true ∧ t.regs = s.regs ∧ t.lnk = s.lnk) ∧
      (s.mode ≠ mReset → s.resetN = true → ∃ t, exec .rbsQualified s = .next t ∧ t.rbg = true ∧ t.regs = s.regs) ∧
      (s.rbg = true → ∃ t, exec .rbsOff s = .next t ∧ t.rbg = false ∧ t.fb ⟨A.SYS_EVT, 3, 1⟩ = true ∧
        t.f F.FLT_CLAST_code = 0x6D00 ∧ t.mode = s.mode ∧ t.lnk = s.lnk) ∧
      (s.rbg = false → exec .rbsOff s = .next s) ∧
      (s.aliveRun = true → ∃ t, exec .aliveToggle s = .next t ∧ t.alive = !s.alive ∧ t.regs = s.regs) ∧
      (s.aliveRun = false → exec .aliveToggle s = .next s)) ∧
  (∀ (s : State) (r : Fin 5) (vbk : Bool) (sec : Word) (ms : Fin 1000), s.canonical →
      let isReset (t : State) (cause : Nat) : Prop := t.mode = mReset ∧ t.reg A.SYS_RSTCAUSE = BitVec.ofNat 32 cause ∧
        (∀ n : Link, t.lnkSt n = lPart) ∧ t.so = Vector.replicate 2 false ∧ t.alive = false ∧ t.rbg = false ∧
        t.f F.ISL_KSTAT_drv = 0 ∧ t.cmds = [] ∧ t.pending = s.pending
      let parted (t : State) : Prop := ∀ n : Link, s.lnkSt n ≠ lPart → (∀ m : Link, s.lnk[m].cfg = []) → .symbol n 0xFD ∈ t.out
      let saves : Prop := s.mode = mHoldup ∧ s.finalSave = true ∧ s.saving = true
      (s.mode ≠ mReset → ¬saves → ∃ t, exec .resetnLow s = .next t ∧ isReset t (2 ^ 5) ∧ parted t ∧ t.resetN = false ∧
        t.tStop = ((s.reg A.SYS_RTC_SEC).toNat, s.rtcMs)) ∧
      (saves → ∃ t, exec .resetnLow s = .next t ∧ t.mode = mHoldup ∧ t.resetAfterSave = some 5 ∧ t.resetN = false ∧
        t.rbg = false ∧ (s.rbg = true → t.fb ⟨A.SYS_EVT, 3, 1⟩ = true ∧ t.f F.FLT_CLAST_code = 0x6D00)) ∧
      (saves → s.softReset = true → ∃ t, exec .softResetAssert s = .next t ∧ t.mode = mHoldup ∧ t.softReset = false ∧
        t.resetAfterSave = some (s.resetAfterSave.getD 6) ∧ t.regs = s.regs) ∧
      (s.softReset = false → exec .softResetAssert s = .next s) ∧
      (s.softReset = true → ¬saves → ∃ t, exec .softResetAssert s = .next t ∧ isReset t (2 ^ 6) ∧ parted t) ∧
      (s.mode = mHoldup → ∃ t, exec .holdupReleaseReset s = .next t ∧ isReset t (2 ^ 7) ∧ parted t ∧ t.pfi = false) ∧
      (s.mode ≠ mReset → ∃ t, exec (.monitorTrip r) s = .next t ∧ isReset t (2 + 4 * r.val) ∧ parted t ∧ t.railBad[r] = true ∧
        t.tStop = ((s.reg A.SYS_RTC_SEC).toNat, s.rtcMs)) ∧
      (∃ t, exec (.monitorRelease r) s = .next t ∧ t.railBad[r] = false ∧ t.regs = s.regs ∧ t.mode = s.mode) ∧
      (∃ t, exec (.powerOn vbk sec ms) s = .next t ∧ t.mode = mReset ∧ t.reg A.SYS_RTC_SEC = sec ∧
        t.f F.SYS_RTC_SUB_ms = ms.val ∧ (vbk = false → t.fb F.SYS_RTC_SUB_valid = false ∧ t.fb F.SYS_RSTCAUSE_rtc_inv = true) ∧
        (∀ j : Fin 5, t.railBad[j] = false)) ∧
      (3 ≤ s.mode → s.mode ≤ 10 → s.cmds = [] → (∀ n : Link, s.lnkSt n ≠ lSeq ∧ s.lnk[n].cfg = []) →
        ∃ t, exec .pfiAssert s = .next t ∧ t.pfi = true ∧ t.mode = mHoldup ∧ (∀ n : Link, t.lnkSt n = lPart) ∧
          (∀ k : Stage, t.fb (F.STG_CTL_run k) = false) ∧ t.fb F.FLT_STAT_hold = false ∧
          t.tStop = ((s.reg A.SYS_RTC_SEC).toNat, s.rtcMs)) ∧
      (s.mode < 3 ∨ 10 < s.mode → ∃ t, exec .pfiAssert s = .next t ∧ t.pfi = true ∧ t.regs = s.regs ∧
        t.tStop = ((s.reg A.SYS_RTC_SEC).toNat, s.rtcMs)))

/-- A hardware reset leaves mode RESET, the cause alone in SYS_RSTCAUSE, every context, stage and link as at reset, and
the queue as it was; a warm one keeps the Uhlog RAM; an idle persistent store keeps its words (R344, R352, R354). -/
def Obligations.HardwareResetLeaves : Prop :=
  ∀ (s : State) (cold : Bool) (cause : Nat), s.canonical →
    let t := s.hwReset cold cause
    t.mode = mReset ∧ t.reg A.SYS_RSTCAUSE = BitVec.ofNat 32 cause ∧ t.ctx = State.reset.ctx ∧ t.stg = State.reset.stg ∧
      (∀ n : Link, t.lnkSt n = lPart) ∧ t.cmds = [] ∧ t.staged = [] ∧ t.pending = s.pending ∧ t.out = s.out ∧
      (cold = false → s.pq = [] → ∀ k : Nat, 0x340000 ≤ k → k < 0x350000 → t.mb k = s.mb k) ∧
      (s.wq = [] → ∀ a : Nat, 0xB0000 ≤ a → a < 0xBE000 → t.reg a = s.reg a)

/-- The clock. Lock starts EDGE time from 0 the first time, later ones raise their event; in BOOT with an image selected
it leads to SELFTEST. Its loss is counted, and reported class B while a stage switches, class C otherwise, and parts
the links. Loss of REF, and a measured frequency out of 232 MHz to 266 MHz, reset the device outside RESET and BOOT.
The selected edge of SYNC_IN captures EDGE time less the compensation; an early one is only counted. The rows
LOCK_QUALIFIED, LOCK_LOST, ACQUISITION_RESTART, REF_LOSS, REF_MEASURE, REF_RETURN, SYNC_IN_CAPTURE and SYNC_IN_TIMEOUT
(R42, R45, R47, R49, R50, R52, R53, R56, R57). -/
def Obligations.ClockEvents : Prop :=
  ∀ (s : State) (khz t : Nat) (fall : Bool),
    (s.fb F.CLK_STAT_acq = true → s.fb F.CLK_STAT_lock = false → s.cmds = [] → ∃ u, exec .lockQualified s = .next u ∧
      u.fb F.CLK_STAT_lock = true ∧ u.fb F.CLK_STAT_acq = false ∧ u.fb F.CLK_STAT_tap_hold = false ∧ u.everLock = true ∧
      (s.everLock = false → u.etime = 0 ∧ u.eRun = true) ∧
      (s.everLock = true → u.etime = s.etime ∧ u.fb F.CLK_EVT_relock = true) ∧
      u.mode = (if s.mode = mBoot ∧ s.bootDone = true then mSelftest else s.mode)) ∧
    (s.fb F.CLK_STAT_lock = true → s.anySwitchingAt = false → s.cmds = [] →
      (∀ n : Link, s.lnkSt n ≠ lSeq ∧ s.lnk[n].cfg = []) → ∃ u, exec .lockLost s = .next u ∧
      u.fb F.CLK_STAT_lock = false ∧ u.fb F.CLK_STAT_acq = true ∧ u.fb F.CLK_STAT_tap_hold = true ∧
      u.f F.CLK_RELOCK_CNT_count = satInc F.CLK_RELOCK_CNT_count.wd (s.f F.CLK_RELOCK_CNT_count) ∧
      u.f F.FLT_CLAST_code = 0x2000 ∧ u.mode = s.mode ∧ u.ctx = s.ctx ∧ ∀ n : Link, u.lnkSt n = lPart) ∧
    (s.fb F.CLK_STAT_lock = true → s.anySwitching = true → ∃ u : State,
      exec .lockLost s = .next ((u.report 0x2000 .BC 0).partAll false) ∧ u.fb F.CLK_STAT_lock = false ∧
      u.fb F.CLK_STAT_acq = true ∧ u.ctx = s.ctx) ∧
    (s.fb F.CLK_STAT_acq = true → s.fb F.CLK_STAT_lock = false → ∃ u, exec .acquisitionRestart s = .next u ∧
      u.f F.CLK_RELOCK_CNT_count = satInc F.CLK_RELOCK_CNT_count.wd (s.f F.CLK_RELOCK_CNT_count) ∧ u.ctx = s.ctx) ∧
    (1 < s.mode → s.canonical → ∃ u, exec .refLoss s = .next u ∧ u.mode = mReset ∧ u.refLost = true ∧
      u.refHeld = some (s.f F.CLK_REFMEAS_khz) ∧ u.reg A.SYS_RSTCAUSE = 0x100) ∧
    (s.mode ≤ 1 → ∃ u, exec .refLoss s = .next u ∧ u.mode = s.mode ∧ u.fb F.CLK_STAT_ref_ok = false ∧ u.ctx = s.ctx) ∧
    (232000 ≤ khz → khz ≤ 266000 → ∃ u, exec (.refMeasure khz) s = .next u ∧ u.f F.CLK_REFMEAS_khz = khz ∧
      u.fb F.CLK_STAT_ref_ok = true ∧ u.mode = s.mode) ∧
    (khz < 232000 ∨ 266000 < khz → 1 < s.mode → s.canonical → ∃ u, exec (.refMeasure khz) s = .next u ∧ u.mode = mReset ∧
      u.refLost = true ∧ u.reg A.SYS_RSTCAUSE = 0x100) ∧
    (∃ u, exec .refReturn s = .next u ∧ u.fb F.CLK_STAT_ref_ok = true ∧ u.refLost = false ∧ u.mode = s.mode) ∧
    (s.mode ≠ mReset → s.fb F.CLK_SYNCI_CFG_en = true → s.fb F.CLK_SYNCI_CFG_fall = fall →
      (s.synciLast = none → s.f F.CLK_SYNCI_CFG_comp ≤ t → t < 2 ^ 53 →
        ∃ u, exec (.syncInCapture ⟨fall, t⟩) s = .next u ∧ u.synciLast = some t ∧
          u.reg A.CLK_SYNCI_TS_LO = loWord (t - s.f F.CLK_SYNCI_CFG_comp) ∧
          u.reg A.CLK_SYNCI_TS_HI = hiWord (t - s.f F.CLK_SYNCI_CFG_comp) ∧ u.fb F.CLK_EVT_synci_capt = true) ∧
      (∀ l, s.synciLast = some l → t - l < 128 * s.f F.CLK_SYNCI_CFG_min_gap →
        ∃ u, exec (.syncInCapture ⟨fall, t⟩) s = .next u ∧ u.synciLast = some l ∧ u.stg = s.stg ∧
          u.f F.CLK_SYNCI_STAT_early = satInc F.CLK_SYNCI_STAT_early.wd (s.f F.CLK_SYNCI_STAT_early) ∧
          u.fb F.CLK_EVT_synci_fault = true)) ∧
    (s.fb F.CLK_SYNCI_CFG_fall ≠ fall → exec (.syncInCapture ⟨fall, t⟩) s = .next s) ∧
    (s.mode ≠ mReset → s.fb F.CLK_SYNCI_CFG_en = true → s.fb F.CLK_SYNCI_CFG_timeout = true →
      ∃ u, exec .syncInTimeout s = .next u ∧ u.fb F.CLK_SYNCI_STAT_missing = true ∧ u.fb F.CLK_EVT_synci_fault = true ∧
        u.ctx = s.ctx)

/-- Start-up, with no command in flight. RESET is left for BOOT where no supply monitor and no lost reference holds it,
and every link sends PARTING; VBK low before makes the RTC invalid, whatever reset it was. BOOT takes the active bank,
else the other, else none, and ends where the lock is qualified. A SELFTEST that finds nothing leads to CONFIGURE,
with ALIVE where no episode is open; it cannot pass while the calibration runs; a finding is a class A report and
SAFE-STOP, but no finding contradicts a loopback that has passed (assumption 78, DESIGN CHOICE). An orderly stop ends
in STANDBY once no stage switches. The rows RESET_RELEASE, BOOT_DONE, SELFTEST_DONE and ORDERLY_STOP_DONE (R25, R26,
R29, R35, R45, R162, R345 to R352). -/
def Obligations.StartUp : Prop :=
  ∀ (s : State) (r : Release) (arg : Word) (pods : BitVec 12) (ms : Nat), s.cmds = [] →
    (s.mode = mReset → (∀ j : Fin 5, s.railBad[j] = false) → s.refLost = false →
      ∃ t, exec (.resetRelease r) s = .next t ∧ t.mode = mBoot ∧ t.resetN = true ∧ t.straps = r.straps.val ∧ t.cyc = 0 ∧
        t.fb F.CLK_STAT_acq = true ∧ (∀ n : Link, .symbol n 0xFD ∈ t.out) ∧
        (r.vbk = false → t.fb F.SYS_RTC_SUB_valid = false ∧ t.fb F.SYS_RSTCAUSE_rtc_inv = true)) ∧
    (∀ j : Fin 5, s.railBad[j] = true → exec (.resetRelease r) s = .next s) ∧
    (s.refLost = true → exec (.resetRelease r) s = .next s) ∧
    (s.mode = mBoot → s.bootDone = false → s.downloads = false → ∃ t, exec .bootDone s = .next t ∧ t.bootDone = true ∧
      t.mode = (if s.fb F.CLK_STAT_lock then mSelftest else mBoot) ∧
      (s.bankValid s.activeBase = true → t.fb F.SYS_BOOT_img_ok = true ∧ t.activeB = s.activeB) ∧
      (s.bankValid s.activeBase = false → s.bankValid s.inactiveBase = true → t.fb F.SYS_BOOT_img_ok = true ∧
        t.fb F.SYS_BOOT_fallback = true ∧ t.activeB = !s.activeB) ∧
      (s.bankValid s.activeBase = false → s.bankValid s.inactiveBase = false → t.fb F.SYS_BOOT_img_ok = false)) ∧
    (s.mode = mSelftest → s.refHeld = none →
      (s.calRun = false → ∃ t, exec (.selftestDone none arg pods ms) s = .next t ∧
        t.mode = mConfigure ∧ t.aliveRun = !s.fb F.FLT_STAT_open ∧ t.fb F.SYS_STEST_pass = true ∧
        t.fb F.SYS_STEST_done = true ∧ t.f F.SYS_STEST_pods = pods.toNat) ∧
      (∀ i : Fin 7, (s.loopOk = false ∨ i.val ∈ [3, 4, 5] ∨ (i = 0 ∧ 14 ≤ ms)) →
        ∃ u : State, exec (.selftestDone (some i) arg pods ms) s = .next ((u.report (0x0C00 + i.val) .A arg).enterSafeStop) ∧
          u.f F.SYS_STEST_fail = i.val ∧ u.fb F.SYS_STEST_pass = false ∧ u.mode = mSelftest) ∧
      (∀ i : Fin 7, s.loopOk = true → i.val ∈ [1, 2, 6] ∨ (i = 0 ∧ ms < 14) →
        exec (.selftestDone (some i) arg pods ms) s = .next s)) ∧
    (s.calRun = true → exec (.selftestDone none arg pods ms) s = .next s) ∧
    (s.anySwitching = false → s.fb F.SYS_MODEREQ_pend = true → ∃ t, exec .orderlyStopDone s = .next t ∧ t.mode = mStandby ∧
      t.fb F.SYS_MODEREQ_pend = false ∧ t.f F.SYS_MODEREQ_result = rOk ∧ ∀ k : Stage, t.fb (F.STG_CTL_run k) = false) ∧
    (s.anySwitching = true → exec .orderlyStopDone s = .next s)

/-- The tracker's rows outside hold: lock is qualified 40 ms after |q+| came inside its limit, in the tracking range; it
is lost 5 ms after |q+| went beyond its own, or outside the range, and sync_ok with it; sync_ok is set once its
conditions have held for t_q. In hold the lock neither comes nor goes. The rows GRID_LOCK, GRID_UNLOCK and SYNC_OK
(R236, R237, R239, R260). A ride-through tick acts on the interfaces that are switched on and on no other: it counts
the ticks below lv_in, and those above hv_in; with none on, RIDE-THROUGH ends (R243, R245, R249). The tick that
completes a run of q_in ticks out of range declares the episode, LV or HV: its bit, its event, an end to RECOVERY, and
in RUN with ride-through on the mode RIDE-THROUGH. The tick that completes t_rec in range ends RECOVERY, with its
event, and in RIDE-THROUGH, no other interface being on, leads back to RUN. Here trips are off and no command is in
flight. The rows EPISODE_DECLARED and RECOVERY_END (R242, R243, R247, R249). The tick that decides a voltage trip or a
frequency trip latches it with its event, and GRD_TRIP names its cause and stage. Where trips are on and the mode is
SYNCHRONISE, RUN or RIDE-THROUGH, here with no open episode of ride-through but the trip's own, the device goes to
STANDBY with no stage running, and the trip is counted. A failed entry decides a voltage trip, cause 5. The rows
VOLTAGE_TRIP and FREQUENCY_TRIP (R245, R246, R248, R250, R260). -/
def Obligations.GridEvents : Prop :=
  (∀ (s : State) (g : Fin 4) (t0 : Nat), s.fb (F.GRD_CTL_en g) = true →
      let keeps (t : State) : Prop := t.mode = s.mode ∧ t.ctx = s.ctx ∧ t.lnk = s.lnk ∧ t.mem = s.mem
      (s.fb (flgBit g 1) = false → s.fb (flgBit g 0) = false → s.inRange g = true → s.grd[g].inLock = some t0 →
        t0 + 320000000 ≤ s.etime → ∃ t, exec (.gridLock g) s = .next t ∧ t.fb (flgBit g 0) = true ∧
          t.fb ⟨A.GRD_EVT g, 0, 1⟩ = true ∧ keeps t) ∧
      (s.fb (flgBit g 1) = false → s.fb (flgBit g 0) = true →
        s.inRange g = false ∨ (s.grd[g].outLock = some t0 ∧ t0 + 40000000 ≤ s.etime) →
        ∃ t, exec (.gridUnlock g) s = .next t ∧ t.fb (flgBit g 0) = false ∧ t.fb (flgBit g 2) = false ∧
          t.fb ⟨A.GRD_EVT g, 1, 1⟩ = true ∧ keeps t) ∧
      (s.syncCond g = true → s.fb (flgBit g 2) = false → s.grd[g].syncAt = some t0 →
        t0 + 8000000 * s.f (F.GRD_SYNC0_t_q g) ≤ s.etime → ∃ t, exec (.syncOk g) s = .next t ∧ t.fb (flgBit g 2) = true ∧
          t.fb ⟨A.GRD_EVT g, 3, 1⟩ = true ∧ keeps t) ∧
      (s.fb (flgBit g 1) = true → exec (.gridLock g) s = .next s ∧ exec (.gridUnlock g) s = .next s)) ∧
  (∀ (s : State), ((∀ g : Fin 4, s.fb (F.GRD_CTL_en g) = false) →
        (s.mode ≠ mRide → exec .rtTick s = .next s) ∧ (s.mode = mRide → ∃ t, exec .rtTick s = .next t ∧ t.mode = mRun)) ∧
      (∀ g : Fin 4, s.fb (F.GRD_CTL_trip_en g) = false → s.fb (F.GRD_CTL_rt_en g) = false →
        (∀ h : Fin 4, s.fb (F.GRD_CTL_en h) = decide (h = g)) → s.mode ≠ mRide →
        ∃ t, exec .rtTick s = .next t ∧ t.mode = s.mode ∧ t.ctx = s.ctx ∧ t.lnk = s.lnk ∧ t.mem = s.mem ∧
          t.grd[g].qLv = (if belowM s.grd[g].uLv (s.f (F.GRD_RTV_lv_in g)) then s.grd[g].qLv + 1 else 0) ∧
          t.grd[g].qHv = (if aboveM s.grd[g].uHv (s.f (F.GRD_RTH_hv_in g)) then s.grd[g].qHv + 1 else 0) ∧
          ∀ h : Fin 4, h ≠ g → t.grd[h] = s.grd[h])) ∧
  (∀ (s : State) (g : Fin 4) (hv : Bool), s.fb (F.GRD_CTL_en g) = true → s.fb (F.GRD_CTL_trip_en g) = false → s.cmds = [] →
      s.f (F.GRD_RTV_lv_in g) ≤ s.f (F.GRD_RTV_lv_out g) → s.f (F.GRD_RTH_hv_out g) ≤ s.f (F.GRD_RTH_hv_in g) →
      let out : Prop := if hv then aboveM s.grd[g].uHv (s.f (F.GRD_RTH_hv_in g)) = true
        else belowM s.grd[g].uLv (s.f (F.GRD_RTV_lv_in g)) = true
      let n := if hv then s.grd[g].qHv else s.grd[g].qLv
      (out → s.fb (rtBit g (b2n hv)) = false → s.f (F.GRD_RTQ_q_in g) ≤ n + 1 → s.mode ≠ mRide →
        ∃ t, exec (.episodeDeclared g hv) s = .next t ∧ t.fb (rtBit g (b2n hv)) = true ∧ t.fb (rtBit g 2) = false ∧
          t.fb ⟨A.GRD_EVT g, 4, 1⟩ = true ∧
          t.mode = (if s.mode = mRun ∧ s.fb (F.GRD_CTL_rt_en g) = true then mRide else s.mode)) ∧
      (s.fb (rtBit g (b2n hv)) = true → exec (.episodeDeclared g hv) s = .next s) ∧
      (s.fb (rtBit g 0) = false → s.fb (rtBit g 1) = false → s.fb (rtBit g 2) = true →
        belowM s.grd[g].uLv (s.f (F.GRD_RTV_lv_out g)) = false → aboveM s.grd[g].uHv (s.f (F.GRD_RTH_hv_out g)) = false →
        50 * s.f (F.GRD_RTQ_t_rec g) ≤ s.grd[g].recN + 1 →
        ∃ t, exec (.recoveryEnd g) s = .next t ∧ t.fb (rtBit g 2) = false ∧ t.fb ⟨A.GRD_EVT g, 5, 1⟩ = true ∧
          (s.mode ≠ mRide → t.mode = s.mode) ∧
          (s.mode = mRide → (∀ h : Fin 4, h ≠ g → s.fb (F.GRD_CTL_en h) = false) → t.mode = mRun)) ∧
      (s.fb (rtBit g 2) = false → exec (.recoveryEnd g) s = .next s)) ∧
  (∀ (s : State) (g : Fin 4), s.fb (F.GRD_CTL_en g) = true → s.cmds = [] → (∀ n : Link, s.lnkSt n ≠ lSeq ∧ s.lnk[n].cfg = []) →
      let acts : Prop := s.fb (F.GRD_CTL_trip_en g) = true ∧ isSwitchMode s.mode = true
      let gives (i : Instr) (bit cause stage : Nat) : Prop := ∃ t, exec i s = .next t ∧ t.fb (rtBit g bit) = true ∧
        t.fb ⟨A.GRD_EVT g, if bit = 3 then 6 else 7, 1⟩ = true ∧ t.f (F.GRD_TRIP_cause g) = cause ∧
        t.f (F.GRD_TRIP_stage g) = stage ∧ (acts → t.mode = mStandby ∧ (∀ k : Stage, t.fb (F.STG_CTL_run k) = false) ∧
          t.f (F.GRD_RTCNT_trips g) = satInc (F.GRD_RTCNT_trips g).wd (s.f (F.GRD_RTCNT_trips g)))
      (s.fb (rtBit g 0) = true → belowM s.grd[g].uLv (s.f (F.GRD_RTV_lv_out g)) = true →
        belowCurve s.grd[g].uLv (s.grd[g].ep + 1) (s.lvCurve g) = true → s.grd[g].dTrip = false →
        s.f (F.GRD_RTQ_q_trip g) ≤ s.grd[g].qTrip + 1 → gives (.voltageTrip g (some false)) 3 1 0) ∧
      (s.fb (rtBit g 1) = true → aboveM s.grd[g].uHv (s.f (F.GRD_RTH_hv_out g)) = true →
        aboveCurve s.grd[g].uHv (s.grd[g].epHv + 1) (s.hvCurve g) = true → s.grd[g].dTripHv = false →
        s.f (F.GRD_RTQ_q_trip g) ≤ s.grd[g].qTripHv + 1 → s.fb (rtBit g 0) = false → s.grd[g].uLv = 2 ^ 28 →
        s.f (F.GRD_RTV_lv_in g) ≤ 1000 → gives (.voltageTrip g (some true)) 3 2 0) ∧
      (s.fb (F.GRD_CTL_rt_en g) = true → s.fb (F.GRD_CTL_trip_en g) = true → s.entFail g = true → s.fb (rtBit g 3) = false →
        s.fb (rtBit g 0) = false → s.fb (rtBit g 1) = false → s.grd[g].uLv = 2 ^ 28 → s.grd[g].uHv = 2 ^ 28 →
        s.f (F.GRD_RTV_lv_in g) ≤ 1000 → 1000 ≤ s.f (F.GRD_RTH_hv_in g) → gives (.voltageTrip g none) 3 5 0) ∧
      (∀ (hi : Bool) (j : Fin 4) (x : Fin 8), x.val = 4 * b2n hi + j.val → s.freqActive g x = true → s.fb (flgBit g 1) = false →
        s.grd[g].fq[x] + 1 = max 1 (freqTicks (s.freqWord g x)) → (∀ y : Fin 8, y ≠ x → s.freqActive g y = false) →
        s.entFail g = false → s.fb (rtBit g 0) = false → s.fb (rtBit g 1) = false → s.grd[g].uLv = 2 ^ 28 →
        s.grd[g].uHv = 2 ^ 28 → s.f (F.GRD_RTV_lv_in g) ≤ 1000 → 1000 ≤ s.f (F.GRD_RTH_hv_in g) →
        gives (.frequencyTrip g hi j) 6 (if hi then 4 else 3) j.val))

/-- Islanding. A passive detector that has decided, no lower one with it (assumption 29, DEDUCED), is recorded as the
cause and sets island; where trips are on in SYNCHRONISE, RUN or RIDE-THROUGH the device goes to STANDBY and the trip
is counted. A window that has closed joins the latest ones; an evaluation with one that does not count clears inj_low;
one of low current sets it; a valid one counts where |Z| reaches the threshold, q_z of them being a trip of cause 1,
and starts the count over where it does not. A listen interval stops the injection; the next one is due t_rel and up
to 1000 ms after its start; its end chooses p by what was heard against the reference parity at its end (both
assumption 64, DEDUCED), and keeps it where nothing was. The last millisecond of t_rc sets rc_done. The rows
ISLAND_PASSIVE_TRIP, CORRELATION_WINDOW_END, LISTEN_START, LISTEN_END and RECONNECT_DONE (R271, R274, R275, R277,
R278). The contactor, outside RESET: ten equal samples of a feedback ball set its channel to closed or open by its
polarity. Both channels closed confirm closing, both open confirm opening, each with the time since the drive changed;
one that opens while closed lowers the drives and reports, class B/C. Mixed samples change nothing. 50 ms without
confirmation is a class C report of closing, and of opening a class A report with the contactor in FAULT. The rows
KFB_CHANGE and CONTACTOR_TIMEOUT (R279 to R281, R284). -/
def Obligations.IslandAndContactor : Prop :=
  (∀ (s : State) (g i : Fin 4),
      (s.fb (F.ISL_CTL_en g) = true → s.isl[g].due = 2 ^ (2 + i.val) → s.cmds = [] →
        (∀ n : Link, s.lnkSt n ≠ lSeq ∧ s.lnk[n].cfg = []) → ∃ t, exec (.islandPassiveTrip g i) s = .next t ∧
          t.f (F.ISL_TRIP_cause g) = 2 + i.val ∧ t.fb (F.ISL_STAT_island g) = true ∧ t.fb ⟨A.ISL_EVT g, 0, 1⟩ = true ∧
          t.isl[g].due = 0 ∧ (s.fb (F.ISL_CTL_trip_en g) = false → t.mode = s.mode ∧ t.lnk = s.lnk) ∧
          (s.fb (F.ISL_CTL_trip_en g) = true → isSwitchMode s.mode = true → t.mode = mStandby ∧
            (∀ k : Stage, t.fb (F.STG_CTL_run k) = false) ∧
            t.f (F.ISL_CNT_trips g) = satInc (F.ISL_CNT_trips g).wd (s.f (F.ISL_CNT_trips g)))) ∧
      (natBit s.isl[g].due (2 + i) = false → exec (.islandPassiveTrip g i) s = .next s) ∧
      (s.isl[g].done = none → exec (.correlationWindowEnd g () () ()) s = .next s) ∧
      (∀ w, s.isl[g].done = some w →
        let ws := (w :: s.isl[g].wins).take 8
        let l := ws.take (s.f (F.ISL_CORR_nwin g))
        let v := joinAll (l.map (·.v))
        let c := joinAll (l.map (·.i))
        let n := s.f (F.ISL_CORR_nwin g)
        let z := s.zRatio g v c
        let gives (P : State → Prop) : Prop := ∃ t, exec (.correlationWindowEnd g () () ()) s = .next t ∧ t.isl[g].done = none ∧
          t.isl[g].wins = ws ∧ P t
        (l.length < n → gives fun t => t.regs = s.regs) ∧
        (l.length = n → l.any (fun x => !x.ok) = true →
          gives fun t => t.fb (F.ISL_STAT_inj_low g) = false ∧ t.isl[g].qz = s.isl[g].qz) ∧
        (l.length = n → l.any (fun x => !x.ok) = false → s.lowCurrent g c = true →
          gives fun t => t.fb (F.ISL_STAT_inj_low g) = true ∧ t.fb ⟨A.ISL_EVT g, 3, 1⟩ = true ∧ t.isl[g].qz = s.isl[g].qz) ∧
        (l.length = n → l.any (fun x => !x.ok) = false → s.lowCurrent g c = false →
          (1000 * z.1 < s.f (F.ISL_CORR_z_thr g) * z.2 → gives fun t => t.isl[g].qz = 0 ∧ t.mode = s.mode ∧
            t.fb (F.ISL_STAT_inj_low g) = false) ∧
          (s.f (F.ISL_CORR_z_thr g) * z.2 ≤ 1000 * z.1 →
            (s.isl[g].qz + 1 < s.f (F.ISL_CORR_q_z g) → gives fun t => t.isl[g].qz = s.isl[g].qz + 1 ∧
              t.fb ⟨A.ISL_EVT g, 1, 1⟩ = true ∧ t.mode = s.mode) ∧
            (s.f (F.ISL_CORR_q_z g) ≤ s.isl[g].qz + 1 → s.fb (F.ISL_CTL_trip_en g) = false → s.isl[g].due = 0 →
              gives fun t => t.isl[g].qz = 0 ∧ t.f (F.ISL_TRIP_cause g) = 1 ∧ t.fb (F.ISL_STAT_island g) = true ∧
                t.mode = s.mode)))) ∧
      (s.injMode g = true → s.listens g = true → s.fb (F.ISL_STAT_listen g) = false →
        s.isl[g].listened = false ∨ s.isl[g].relAt ≤ s.etime → ∃ t, exec (.listenStart g) s = .next t ∧
          t.fb (F.ISL_STAT_listen g) = true ∧ t.fb (F.ISL_STAT_inj g) = false ∧ t.isl[g].lAt = none ∧
          s.etime + s.f (F.ISL_COH_t_rel g) * 8000000000 ≤ t.isl[g].relAt ∧
          t.isl[g].relAt ≤ s.etime + (s.f (F.ISL_COH_t_rel g) + 1) * 8000000000 ∧ t.mode = s.mode) ∧
      (s.fb (F.ISL_STAT_listen g) = true → s.isl[g].lDue = true → ∃ t, exec (.listenEnd g () ()) s = .next t ∧
        t.fb (F.ISL_STAT_listen g) = false ∧ t.isl[g].listened = true ∧
        t.fb (F.ISL_STAT_p g) = (if s.detects g s.isl[g].heard then s.aligned g s.isl[g].heard == s.isl[g].lp
          else s.fb (F.ISL_STAT_p g)) ∧ t.mode = s.mode) ∧
      (s.isl[g].lDue = false → exec (.listenEnd g () ()) s = .next s) ∧
      (s.fb (flgBit g 2) = true → s.fb (F.ISL_STAT_rc_done g) = false → 1000 * s.f (F.ISL_RECON_t_rc g) ≤ s.isl[g].recon + 1 →
        ∃ t, exec (.reconnectDone g) s = .next t ∧ t.fb (F.ISL_STAT_rc_done g) = true ∧ t.isl[g].recon = s.isl[g].recon + 1 ∧
          t.fb ⟨A.ISL_EVT g, 4, 1⟩ = true ∧ t.mode = s.mode) ∧
      (s.isl[g].recon + 1 < 1000 * s.f (F.ISL_RECON_t_rc g) → exec (.reconnectDone g) s = .next s)) ∧
  (∀ (s : State) (b : Bool) (w : BitVec 10) (t : Nat), s.mode ≠ mReset →
      let closed := (w != 0) != s.fb (if b then F.ISL_KCFG_fbb_pol else F.ISL_KCFG_fba_pol)
      let other := s.fb (if b then F.ISL_KSTAT_fba else F.ISL_KSTAT_fbb)
      let ms := min 65535 ((max s.etime t - s.kT0) / 800000)
      (w = 0 ∨ w = 0x3FF →
        (s.f F.ISL_KSTAT_st = 1 → closed = true → other = true → ∃ u, exec (.kfbChange b w t) s = .next u ∧
          u.f F.ISL_KSTAT_st = 2 ∧ u.f F.ISL_KSTAT_t_ms = ms ∧ u.fb F.ISL_KSTAT_fba = true ∧ u.fb F.ISL_KSTAT_fbb = true ∧
          u.fb ⟨A.ISL_EVT s.kg, 5, 1⟩ = true ∧ u.mode = s.mode) ∧
        (s.f F.ISL_KSTAT_st = 3 → closed = false → other = false → ∃ u, exec (.kfbChange b w t) s = .next u ∧
          u.f F.ISL_KSTAT_st = 0 ∧ u.f F.ISL_KSTAT_t_ms = ms ∧ u.fb F.ISL_KSTAT_fba = false ∧ u.fb F.ISL_KSTAT_fbb = false ∧
          u.fb ⟨A.ISL_EVT s.kg, 6, 1⟩ = true ∧ u.mode = s.mode) ∧
        (s.f F.ISL_KSTAT_st = 2 → closed = false → ∃ u : State, exec (.kfbChange b w t) s =
          .next (u.report 0x2E00 .BC 0) ∧ u.f F.ISL_KSTAT_drv = 0 ∧ u.ctx = s.ctx ∧
          u.lnk = s.lnk) ∧
        (s.f F.ISL_KSTAT_st = 0 ∨ s.f F.ISL_KSTAT_st = 4 → ∃ u, exec (.kfbChange b w t) s = .next u ∧
          u.fb (if b then F.ISL_KSTAT_fbb else F.ISL_KSTAT_fba) = closed ∧ u.f F.ISL_KSTAT_st = s.f F.ISL_KSTAT_st ∧
          u.mode = s.mode)) ∧
      (w ≠ 0 → w ≠ 0x3FF → exec (.kfbChange b w t) s = .next s) ∧
      (s.kT0 + 400000000 ≤ s.etime →
        (s.f F.ISL_KSTAT_st = 1 → ∃ u : State, exec .contactorTimeout s = .next (u.report 0x6800 .C 0) ∧
          u.f F.ISL_KSTAT_drv = 0 ∧ u.mode = s.mode) ∧
        (s.f F.ISL_KSTAT_st = 3 → ∃ v : State, exec .contactorTimeout s = .next (v.report 0x0900 .A (v.reg A.ISL_KSTAT)) ∧
          v.f F.ISL_KSTAT_st = 4 ∧ v.fb ⟨A.ISL_EVT s.kg, 7, 1⟩ = true ∧ v.mode = s.mode)) ∧
      (s.etime < s.kT0 + 400000000 → exec .contactorTimeout s = .next s))

/-- Precharge while its unit works, with no command in flight. An evaluation counts, sets done with its time and event
where it completes t_settle, and then fails by the lowest cause that it finds: 1 t_max without done, 2 too small a
rise in the interval that it ends, 3 a failed entry, 4 a second evaluation of over-voltage in a row; precharge ends
with that cause, class C, in STANDBY. The rows that name what an evaluation brings about are that evaluation where it
is due and nothing elsewhere. The overlap's time ends the drive. The rows PRECHARGE_EVALUATE, PRECHARGE_DONE,
PRECHARGE_TIMEOUT, PRECHARGE_PROGRESS_CHECK and PRECHARGE_OVERLAP_END (R263 to R265, R269). -/
def Obligations.PrechargeEvents : Prop :=
  ∀ (s : State), s.cmds = [] →
    let above : Prop := s.f F.SYS_PCH_VMEAS_v_max * 2 ^ 28 < s.vDc * 1000
    let undone : Prop := s.fb F.SYS_PCH_STAT_done = false ∧ s.doneDue = false
    let late : Prop := 10 * s.f F.SYS_PCH_TIME_t_max ≤ s.pchN + 1
    let ends : Prop := s.pchChk + 100 * max 1 (s.f F.SYS_PCH_TIME_t_chk) ≤ s.pchN + 1
    let fails (i : Instr) (cause : Nat) : Prop := ∃ t, exec i s = .next t ∧ t.fb F.SYS_PCH_STAT_fail = true ∧
      t.f F.SYS_PCH_STAT_cause = cause ∧ t.fb F.SYS_PCH_STAT_drive = false ∧ t.fb ⟨A.SYS_EVT, 1, 1⟩ = true ∧
      t.f F.FLT_CLAST_code = 0x6700 + cause ∧ t.mode = mStandby
    (∀ i ∈ [Instr.prechargeEvaluate, .prechargeDone, .prechargeTimeout, .prechargeProgressCheck], s.pchOn = true →
      (i = .prechargeDone → s.fb F.SYS_PCH_STAT_done = false ∧ s.doneDue = true) → (i = .prechargeTimeout → undone ∧ late) →
      (i = .prechargeProgressCheck → ends) →
      (undone → late → fails i 1) ∧
      (undone → ¬late → ends → s.pchFlat = true → fails i 2) ∧
      (¬undone ∨ ¬late ∧ ¬(ends ∧ s.pchFlat = true) →
        (s.pchEntFail = true → fails i 3) ∧
        (s.pchEntFail = false → above → 1 ≤ s.pchOv → fails i 4) ∧
        (s.pchEntFail = false → ¬above ∨ s.pchOv = 0 → ∃ t, exec i s = .next t ∧ t.pchN = s.pchN + 1 ∧
          t.pchOk = (if s.pchCond then s.pchOk + 1 else 0) ∧ (above → t.pchOv = 1) ∧ (¬above → t.pchOv = 0) ∧
          t.mode = s.mode ∧ (ends → t.pchChk = s.pchN + 1 ∧ t.pchV0 = s.vDc) ∧
          (¬ends → t.pchChk = s.pchChk ∧ t.pchV0 = s.pchV0) ∧
          t.fb F.SYS_PCH_STAT_done = (s.fb F.SYS_PCH_STAT_done || s.doneDue) ∧
          (s.fb F.SYS_PCH_STAT_done = false → s.doneDue = true → t.f F.SYS_PCH_STAT_t_ms = min 65535 ((s.pchN + 1) / 10) ∧
            t.fb ⟨A.SYS_EVT, 0, 1⟩ = true)))) ∧
    (s.fb F.SYS_PCH_STAT_done = true ∨ s.doneDue = false → exec .prechargeDone s = .next s) ∧
    (¬(undone ∧ late) → exec .prechargeTimeout s = .next s) ∧
    (¬ends → exec .prechargeProgressCheck s = .next s) ∧
    (s.pchOverlap = true → s.pchExit + 8000000 * s.f F.SYS_PCH_CFG_overlap ≤ s.etime → ∃ t, exec .prechargeOverlapEnd s = .next t ∧
      t.fb F.SYS_PCH_STAT_drive = false ∧ t.pchOverlap = false ∧ t.mode = s.mode) ∧
    (s.pchOverlap = false ∨ s.etime < s.pchExit + 8000000 * s.f F.SYS_PCH_CFG_overlap → exec .prechargeOverlapEnd s = .next s)

/-- Metering, at a point that is on and keeps no power-quality events, with no command in flight. An accepted crossing
between the latest two samples of its reference voltage: a negative one begins the second half cycle; a positive one
ends free-run and begins a cycle, and ends the cycle under way, which counts, or latches where it is the last of nlat
+ 1. Without a positive crossing for 2 ÷ f_nom the point runs free, and nominal half cycles end instead. The rows
ZERO_CROSSING, FREE_RUN and FREE_RUN_HALF_CYCLE (R286, R293). Registers whose read does more than read, outside RESET:
of a timestamp, an average and the RTC the companion is latched with it; SF is returned and cleared; of a metering
point's first voltage the other quantities are latched, and of its latch sequence the latched energies are copied to
the read buffer. The rows ETIME_READ, SF_READ_CLEAR, ADC_AVG_READ, MTR_VRMS0_READ, MTR_LSEQ_READ and RTC_READ (R56,
R82, R143, R289, R293, R441). -/
def Obligations.MeteringAndReads : Prop :=
  (∀ (s : State) (m : Fin 4) (c : Nat), s.fb (F.MTR_CTL_en m) = true → s.fb (F.MTR_CFG_pq_en m) = false → s.cmds = [] →
      (s.crossing m false = some c → s.accepts m false c = true → ∃ u, exec (.zeroCrossing m false ()) s = .next u ∧
        u.mtr[m].base = c ∧ u.mtr[m].any = true ∧ u.mtr[m].second = true ∧ u.mtr[m].zc = s.mtr[m].zc ∧ u.regs = s.regs) ∧
      (s.crossing m true = some c → s.accepts m true c = true → ∃ u, exec (.zeroCrossing m true ()) s = .next u ∧
        u.mtr[m].zc = some c ∧ u.mtr[m].pos = c ∧ u.mtr[m].base = c ∧ u.mtr[m].second = false ∧ u.mtr[m].fr = 0 ∧
        u.fb (F.MTR_STAT_free m) = false ∧ u.mode = s.mode ∧
        (s.mtr[m].zc = none → u.mtr[m].e = s.mtr[m].e) ∧
        (∀ b, s.mtr[m].zc = some b → (s.mtr[m].span b c).isEmpty = false →
          (s.f (F.MTR_STAT_cyc m) < s.f (F.MTR_CFG_nlat m) → u.f (F.MTR_STAT_cyc m) = s.f (F.MTR_STAT_cyc m) + 1 ∧
            u.mtr[m].el = s.mtr[m].el) ∧
          (s.f (F.MTR_CFG_nlat m) ≤ s.f (F.MTR_STAT_cyc m) → s.f (F.MTR_STAT_cyc m) < 65535 →
            u.f (F.MTR_STAT_cyc m) = 0 ∧ u.f (F.MTR_LSEQ_seq m) = (s.f (F.MTR_LSEQ_seq m) + 1) % 65536 ∧
            u.fb (mtrEvt 0 m) = true ∧ u.mtr[m].el = u.mtr[m].e.map (· / 2 ^ 24)))) ∧
      (∀ pos, s.crossing m pos = none → exec (.zeroCrossing m pos ()) s = .next s) ∧
      (s.fb (F.MTR_STAT_free m) = false → 2 * nomTaps ≤ (s.etime - s.mtr[m].pos) * s.f (F.MTR_NOM_f_nom m) →
        ∃ u, exec (.freeRun m) s = .next u ∧ u.fb (F.MTR_STAT_free m) = true ∧ u.mtr[m].lFree = true ∧
          u.mtr[m].zc = some (s.mtr[m].zc.getD s.mtr[m].base) ∧
          u.mtr[m].second = (s.mtr[m].second && s.mtr[m].zc.isSome)) ∧
      (s.fb (F.MTR_STAT_free m) = true → s.nomHalf m (s.mtr[m].fr + 1) ≤ s.etime →
        ∃ u, exec (.freeRunHalfCycle m) s = .next u ∧ u.mtr[m].fr = s.mtr[m].fr + 1 ∧
          u.mtr[m].second = !s.mtr[m].second ∧ u.fb (F.MTR_STAT_free m) = true ∧
          (s.mtr[m].second = true → u.mtr[m].zc = some (s.nomHalf m (s.mtr[m].fr + 1))) ∧
          (s.mtr[m].second = false → u.mtr[m].zc = s.mtr[m].zc ∧ u.regs = s.regs))) ∧
  (∀ (s : State), s.mode ≠ mReset →
      (∀ (r : Fin 15) (a hi : Nat), a = ([A.CLK_ETIME_LO, A.CLK_SYNCI_TS_LO, A.FLT_FIRST_TS_LO][r.val]?).getD
          (A.STG_PSTART_LO (r.val - 3)) → hi = a + 4 → ∃ t, exec (.etimeRead r) s = .next t ∧
        t.out = .access rOk (if r.val = 0 then loWord s.etime else s.reg a) :: s.out ∧
        t.latched hi = (if r.val = 0 then hiWord s.etime else s.reg hi) ∧ t.regs = s.regs) ∧
      (∀ e : CtxId, ∃ t, exec (.sfReadClear e) s = .next t ∧ t.out = .access rOk (s.ctx[e].sf.zeroExtend 32) :: s.out ∧
        t.ctx[e] = { s.ctx[e] with sf := 0 } ∧ ∀ x, x ≠ e → t.ctx[x] = s.ctx[x]) ∧
      (∀ (e : Fin 64) (k : Stage), s.boundTo e = some k → ∃ t, exec (.adcAvgRead e) s = .next t ∧
        t.out = .access rOk (s.reg (A.ADC_AVG e)) :: s.out ∧ t.latched (A.ADC_AVGN e) = s.reg (A.ADC_AVGN e) ∧
        t.latched (A.ADC_WMM e) = s.reg (A.ADC_WMM e) ∧ t.regs = s.regs) ∧
      (∀ m : Fin 4, (∀ p ∈ s.mtr[m].q, p.1 ∈ mtrQuantities m) → ∃ t, exec (.mtrVrms0Read m) s = .next t ∧ t.out = .access rOk (s.reg (A.MTR_VRMS m 0)) :: s.out ∧
        t.mtr[m].q = (mtrQuantities m).map (fun a => (a, s.reg a)) ∧ t.regs = s.regs) ∧
      (∀ m : Fin 4, (∀ p ∈ s.mtr[m].q, p.1 ∈ mtrQuantities m) → ∃ t, exec (.mtrLseqRead m) s = .next t ∧ t.out = .access rOk (s.reg (A.MTR_LSEQ m)) :: s.out ∧
        ∀ r : Fin 6, t.reg (A.MTR_E_LO m r) = BitVec.ofNat 32 s.mtr[m].el[r] ∧
          t.reg (A.MTR_E_HI m r) = BitVec.ofNat 32 (s.mtr[m].el[r] / 2 ^ 32)) ∧
      (∃ t, exec .rtcRead s = .next t ∧ t.out = .access rOk (s.reg A.SYS_RTC_SEC) :: s.out ∧
        t.latched A.SYS_RTC_SUB = s.reg A.SYS_RTC_SUB ∧ t.regs = s.regs))

/-- The stores. A save of the energies starts where one is wanted, of 64 words in the next slot; with every slot retired
it is refused with its event. A word that the write unit completes is stored where it is below its endurance limit,
and the last word of a save shows its slot. Erasing the inactive bank leaves all ones; a programmed word is stored.
The rows ENERGY_SAVE_START, PERSIST_WORD_DONE, ENERGY_SAVE_DONE, ERASE_DONE and PROGRAMMING_DONE (R297, R301, R408 to
R410, R413). -/
def Obligations.StoreCompletions : Prop :=
  ∀ (s : State) (hot : Bool),
    (s.saveWanted = true → s.mode ≠ mHoldup → s.fb F.MTR_SAVESTAT_busy = false →
      (∀ j, s.nextSlot = some j → ∃ t, exec .energySaveStart s = .next t ∧ t.fb F.MTR_SAVESTAT_busy = true ∧
        t.saveLast = some (j, ((s.saveLast.map (·.2)).getD 0 + 1) % 2 ^ 32) ∧ t.wq.length = s.wq.length + 64) ∧
      (s.nextSlot = none → ∃ t, exec .energySaveStart s = .next t ∧ t.fb ⟨A.MTR_EVT, 11, 1⟩ = true ∧ t.wq = s.wq)) ∧
    (∀ q, s.wq = [q] → s.cmds = [] → s.resetAfterSave = none → 0xB0000 ≤ q.addr → q.addr < 0xB6000 → q.addr % 4 = 0 →
      s.units q.addr < 1000000 →
      (q.kind = 0 → ∃ t, exec (.persistWordDone hot) s = .next t ∧ t.reg q.addr = q.val ∧ t.wq = [] ∧
        t.units q.addr = min 1048575 (s.units q.addr + if hot then 4 else 1) ∧ t.mode = s.mode) ∧
      (∀ j, j < 16 → q.kind = 2 → q.addr = slotAddr j + 252 → ∃ t, exec (.energySaveDone hot) s = .next t ∧
        t.reg q.addr = q.val ∧ t.wq = [] ∧ t.f F.MTR_SAVESTAT_slot = j ∧ t.fb F.MTR_SAVESTAT_busy = false ∧
        t.fb ⟨A.MTR_EVT, 8, 1⟩ = true)) ∧
    (∀ q, s.wq = [q] → s.cmds = [] → s.resetAfterSave = none → q.kind = 0 → 0xB0000 ≤ q.addr → q.addr < 0xB6000 → q.addr % 4 = 0 →
      1000000 ≤ s.units q.addr →
      ∃ t, exec (.persistWordDone hot) s = .next t ∧ t.reg q.addr = s.reg q.addr ∧ t.wq = [] ∧
        t.fb ⟨A.PRS_EVT, 1, 1⟩ = true) ∧
    (s.erasing = some none → ∃ t, exec .eraseDone s = .next t ∧ t.erasing = none ∧
      (∀ a, s.inactiveBase ≤ a → a < s.inactiveBase + 0x40000 → t.mb a = 0xFF) ∧ t.mode = s.mode) ∧
    (∀ q l, s.pq = q :: l → l.any (fun r => r.cmd == q.cmd) = true → ∃ t, exec .programmingDone s = .next t ∧
      t.mw q.addr = q.val ∧ t.pq = l ∧ t.regs = s.regs)

/-- A safety tick, outside RESET with no command in flight, no telegram waiting, and both channels and both readbacks in
agreement: each pair filters its balls' samples, and an enabled one takes its next state, in both channels. Where the
force is present already nothing else stops; where it appears, in a pair that leaves RELEASE, every link goes to PART
and PRECHARGE, SYNCHRONISE, RUN and RIDE-THROUGH become STANDBY. The row SAFETY_TICK (R306 to R308, R311, R312, R316).
The other safety events, with no command in flight, no sequence running and no configuration value waiting. A filtered
level changes with the sample that completes its count. A disagreement that completes K, and a second failed test of a
ball in a row, lock the pair in both channels with their cause, force and class C report; a first failed test is only
noted. A test pulse starts where one may. The rows FILTER_CHANGE, DISCREPANCY_FAULT, TEST_PULSE_START,
TEST_PULSE_CHECK and TEST_FAULT (R308, R310, R312, R324). Failures of the channels, outside RESET: a strobe interval
out of range drops SOB and is class A, one in range is nothing; a disagreement of unit u and a wrong readback are
class A; a safe output that is to drop falls. The rows STROBE_INTERVAL_FAULT, CHANNEL_DISAGREEMENT and
SAFE_OUTPUT_DROP (R306, R317, R319). Safety telegrams on a live network with reception on and no frame waiting to be
received: a valid copy waits for the other network's; its equal is accepted, to act at the next tick, with its
sequence number, and the senders of both are where answers go; a different one of the same number is a mismatch; a
copy that is not valid is counted. Without reception the frame is dropped and counted. A copy that stays alone is
counted and dropped; the watchdog's expiry waits for the tick. The rows SAFETY_TELEGRAM_COPY, TELEGRAM_SKEW_EXPIRY and
TELEGRAM_WATCHDOG (R321, R322, R397). -/
def Obligations.SafetyEvents : Prop :=
  (∀ (s : State) (x y : BitVec 8), s.mode ≠ mReset → s.cmds = [] → s.tgFx = [] → s.pairB = s.pairA → s.lsB = s.lsA →
      let step := exec (.safetyTick x y s.so[(0 : Fin 2)] s.so[(1 : Fin 2)]) s
      let taken (t : State) : Prop := ∀ p : Fin 8, t.fb (F.SAF_PSTAT_ra p) = x[p] ∧ t.fb (F.SAF_PSTAT_rb p) = y[p] ∧
        (s.fb (F.SAF_PCFG_en p) = true →
          let u := s.pairFilter p s.pairA[p] x[p] y[p]
          t.pairA[p] = { u with st := s.pairNext p u } ∧ t.pairB[p] = t.pairA[p]) ∧
        (s.fb (F.SAF_PCFG_en p) = false → t.pairA[p] = s.pairFilter p s.pairA[p] x[p] y[p] ∧ t.pairB[p] = t.pairA[p])
      (s.safForce = true → s.mode ≠ mStandby → ∃ t, step = .next t ∧ taken t ∧ t.mode = s.mode ∧ t.lnk = s.lnk ∧ t.ctx = s.ctx) ∧
      (∀ p : Fin 8, s.safForce = false → s.fb (F.SAF_PCFG_en p) = true → s.pairA[p].st = 2 →
        s.pairNext p (s.pairFilter p s.pairA[p] x[p] y[p]) ≠ 2 → (∀ n : Link, s.lnkSt n ≠ lSeq ∧ s.lnk[n].cfg = []) →
        ∃ t, step = .next t ∧ taken t ∧ t.safForce = true ∧ (∀ n : Link, t.lnkSt n = lPart) ∧ t.fb ⟨A.SAF_EVT, 0, 1⟩ = true ∧
          t.mode = (if s.mode = mPrecharge ∨ isSwitchMode s.mode = true then mStandby else s.mode))) ∧
  (∀ (s : State) (p : Fin 8) (ch : Fin 2) (b level : Bool), s.cmds = [] → (∀ n : Link, s.lnkSt n ≠ lSeq ∧ s.lnk[n].cfg = []) →
      let locks (i : Instr) (cause bit code : Nat) : Prop := ∃ t, exec i s = .next t ∧ t.pairA[p].st = 3 ∧ t.pairB[p].st = 3 ∧
        t.f (F.SAF_PSTAT_cause p) = cause ∧ t.fb ⟨A.SAF_EVT, bit, 1⟩ = true ∧ t.safForce = true ∧
        t.f F.FLT_CLAST_code = code + p.val ∧ t.ctx = s.ctx
      let k : Fin 16 := ⟨8 * ch.val + p.val, by omega⟩
      (filterDue (10 * s.f (F.SAF_PCFG_filt p)) (if b then s.pairA[p].fb else s.pairA[p].fa)
          (if b then s.pairA[p].nb else s.pairA[p].na) level = true → ∃ t, exec (.filterChange p b level) s = .next t ∧
        (if b then t.pairA[p].fb else t.pairA[p].fa) = level ∧ t.pairA[p].st = s.pairA[p].st ∧ t.regs = s.regs) ∧
      (s.discDue p = true → locks (.discrepancyFault p) 1 3 0x6900) ∧
      (s.discDue p = false → exec (.discrepancyFault p) s = .next s) ∧
      (s.tested p = true → 3 ≤ s.mode → s.pulseMay ch = true → ∃ t, exec (.testPulseStart ch) s = .next t ∧
        t.tp[ch] = ⟨false, 3, true, some 0⟩ ∧ t.regs = s.regs ∧ t.mode = s.mode) ∧
      (s.pulseMay ch = false → exec (.testPulseStart ch) s = .next s) ∧
      (s.testDue ch = true → (∀ q : Fin 8, s.tested q = true ↔ q = p) →
        (∀ v : BitVec 8, natBit v.toNat p = false → ∃ t, exec (.testPulseCheck ch v) s = .next t ∧ t.tpBad[k] = false ∧
          t.tp[ch].due = false ∧ t.pairA = s.pairA ∧ t.regs = s.regs) ∧
        (∀ v : BitVec 8, natBit v.toNat p = true → s.tpBad[k] = false → ∃ t, exec (.testPulseCheck ch v) s = .next t ∧
          t.tpBad[k] = true ∧ t.tp[ch].due = false ∧ t.pairA = s.pairA ∧ t.regs = s.regs) ∧
        (∀ v : BitVec 8, natBit v.toNat p = true → s.tpBad[k] = true → s.pairA[p].st ≠ 3 →
          locks (.testPulseCheck ch v) 2 4 0x6A00)) ∧
      (s.testDue ch = false → ∀ v, exec (.testPulseCheck ch v) s = .next s) ∧
      (s.testDue ch = true → s.tested p = true → s.tpBad[k] = true → s.pairA[p].st ≠ 3 → locks (.testFault p ch) 2 4 0x6A00)) ∧
  (∀ (s : State) (ch : Fin 2) (u : Fin 18) (n : Nat),
      (s.mode ≠ mReset → n < 1440 ∨ 1760 < n → ∃ t : State, exec (.strobeIntervalFault n) s =
        .next (t.report 0x0400 .A (BitVec.ofNat 32 n)) ∧ t.so[(1 : Fin 2)] = false ∧ t.so[(0 : Fin 2)] = s.so[(0 : Fin 2)]) ∧
      (1440 ≤ n → n ≤ 1760 → exec (.strobeIntervalFault n) s = .next s) ∧
      (s.mode ≠ mReset → u.val < 16 → exec (.channelDisagreement u) s = .next (s.report (0x0200 + u.val) .A 0)) ∧
      (s.mode ≠ mReset → 16 ≤ u.val → exec (.channelDisagreement u) s = .next (s.report (0x0300 + (u.val - 16)) .A 0)) ∧
      (s.soDrop[ch] = true → ∃ t, exec (.safeOutputDrop ch) s = .next t ∧ t.so[ch] = false ∧ t.soDrop[ch] = false ∧
        t.mode = s.mode) ∧
      (s.soDrop[ch] = false → exec (.safeOutputDrop ch) s = .next s)) ∧
  (∀ (s : State) (net : Fin 2) (src b : List Byte),
      let q := bytesAt b 4 2
      (s.portLive (2 + net) = true → s.rxq[net] = [] → s.fb F.SAF_TGCTL_en = true →
        (s.tgValid b = true → s.tgWait = [] → ∃ t, exec (.safetyTelegramCopy net src b) s = .next t ∧
          t.tgWait = [⟨net, b, q, src⟩] ∧ t.tgSrc = s.tgSrc ∧ t.regs = s.regs) ∧
        (∀ c, s.tgValid b = true → s.tgWait = [c] → c.seq = q → c.net ≠ net.val → c.bytes.take 8 = b.take 8 →
          ∃ t, exec (.safetyTelegramCopy net src b) s = .next t ∧ t.tgWait = [] ∧ t.f F.SAF_TGSTAT_last_seq = q % 65536 ∧
            t.fb F.SAF_TGSTAT_seq_v = true ∧ t.fb F.SAF_TGSTAT_wd_exp = false ∧ t.tgSrc[c.net] = c.src ∧ t.tgSrc[net] = src ∧
            t.tgFx = s.tgFx ++ [.accept (byteAt b 6)]) ∧
        (∀ c, s.tgValid b = true → s.tgWait = [c] → c.seq = q → c.net ≠ net.val → c.bytes.take 8 ≠ b.take 8 →
          ∃ t, exec (.safetyTelegramCopy net src b) s = .next t ∧ t.tgWait = [] ∧
            t.f F.SAF_TGCNT_mismatch = satInc F.SAF_TGCNT_mismatch.wd (s.f F.SAF_TGCNT_mismatch) ∧
            t.tgFx = s.tgFx ++ [.mismatch q]) ∧
        (s.tgValid b = false → ∃ t, exec (.safetyTelegramCopy net src b) s = .next t ∧ t.tgWait = s.tgWait ∧
          t.f F.SAF_TGCNT_invalid = satInc F.SAF_TGCNT_invalid.wd (s.f F.SAF_TGCNT_invalid) ∧ t.tgFx = s.tgFx)) ∧
      (s.portLive (2 + net) = true → s.rxq[net] = [] → s.fb F.SAF_TGCTL_en = false → ∃ t, exec (.safetyTelegramCopy net src b) s = .next t ∧
        t.tgWait = s.tgWait ∧ t.f (F.PRT_NCNT_ip_drop net) = satInc (F.PRT_NCNT_ip_drop net).wd (s.f (F.PRT_NCNT_ip_drop net))) ∧
      (s.portLive (2 + net) = false → exec (.safetyTelegramCopy net src b) s = .next s) ∧
      (∀ c l, s.tgWait = c :: l → ∃ t, exec .telegramSkewExpiry s = .next t ∧ t.tgWait = l ∧ t.fb ⟨A.SAF_EVT, 6, 1⟩ = true ∧
        t.f F.SAF_TGCNT_single = satInc F.SAF_TGCNT_single.wd (s.f F.SAF_TGCNT_single)) ∧
      (s.tgWait = [] → exec .telegramSkewExpiry s = .next s) ∧
      (s.fb F.SAF_TGCTL_en = true → s.fb F.SAF_TGSTAT_wd_exp = false → .expired ∉ s.tgFx →
        ∃ t, exec .telegramWatchdog s = .next t ∧ t.tgFx = s.tgFx ++ [.expired] ∧ t.regs = s.regs) ∧
      (s.fb F.SAF_TGSTAT_wd_exp = true → exec .telegramWatchdog s = .next s))

/-- The collector's rows: a report of a listed code takes its class, outside RESET; of a code that is not listed nothing
happens. With no command in flight, the hold's end escalates to SAFE-STOP; the end of the quiet time recovers to
STANDBY and counts, or at the limit locks recovery; the recovery window's end clears the count; a cleared FLT_BLOCK
starts the quiet time where auto_en is set. The rows FAULT_REPORT, HOLD_EXPIRY, QUIET_EXPIRY, RECOVERY_WINDOW_END and
FLT_BLOCK_CLEARED (R328, R332, R333, R338, R339). A class A or B report with no open episode, here outside the opening
of an ENABLE sequence, with no configuration value waiting and no command in flight: the episode opens with its code,
class, argument and mode as the first source, every link goes to PART, and class A takes CONFIGURE to RIDE-THROUGH
into SAFE-STOP with no stage running, class B, which only a switching stage gives, takes the switching modes into
FAULT-HOLD (R328, R329, R333, R337). A class C report opens no episode, keeps the mode, the links and the stages, and
shows as the latest class C code (R329, R338). A class A or B report of an open episode is merged and leaves the first
source; one of the opening cycle with a lower code takes its place, unless both come by relay, and the former first
source is merged (R329, R331, R404; the order within a cycle as in assumption 52). -/
def Obligations.FaultEvents : Prop :=
  (∀ (s : State) (code : BitVec 16) (arg : Word), s.cmds = [] →
      (s.mode ≠ mReset → ∀ c, s.clsOf code.toNat = some c → exec (.faultReport code arg) s = .next (s.report code.toNat c arg)) ∧
      (s.clsOf code.toNat = none → exec (.faultReport code arg) s = .next s) ∧
      (s.mode = mFaultHold → s.fb F.FLT_STAT_hold = true → ∃ t, exec .holdExpiry s = .next t ∧ t.mode = mSafeStop ∧
        t.fb F.FLT_STAT_esc = true ∧ t.fb F.FLT_STAT_hold = false ∧ ∀ k : Stage, t.fb (F.STG_CTL_run k) = false) ∧
      (s.mode ≠ mFaultHold → exec .holdExpiry s = .next s) ∧
      (s.mode = mSafeStop → s.fb F.FLT_STAT_quiet = true → s.fltBlock = 0 → (∀ n : Link, s.lnk[n].cfg = []) →
        (s.f F.FLT_RECOV_CNT_cnt < s.f F.FLT_RECOV_LIM_lim → ∃ t, exec .quietExpiry s = .next t ∧ t.mode = mStandby ∧
          t.fb F.FLT_STAT_open = false ∧ t.fb F.FLT_STAT_quiet = false ∧
          t.f F.FLT_RECOV_CNT_cnt = s.f F.FLT_RECOV_CNT_cnt + 1 ∧
          t.recovMs = (if s.f F.FLT_RECOV_CNT_cnt = 0 then 3600000 else s.recovMs)) ∧
        (s.f F.FLT_RECOV_LIM_lim ≤ s.f F.FLT_RECOV_CNT_cnt → ∃ t, exec .quietExpiry s = .next t ∧
          t.fb F.FLT_STAT_locked = true ∧ t.fb F.FLT_STAT_quiet = false ∧ t.mode = s.mode)) ∧
      (s.mode ≠ mSafeStop → exec .quietExpiry s = .next s) ∧
      (s.recovMs = 1 → ∃ t, exec .recoveryWindowEnd s = .next t ∧ t.f F.FLT_RECOV_CNT_cnt = 0 ∧ t.recovMs = 0 ∧
        t.mode = s.mode) ∧
      (s.recovMs ≠ 1 → exec .recoveryWindowEnd s = .next s) ∧
      (s.mode = mSafeStop → s.fltBlock = 0 → ∃ t, exec .fltBlockCleared s = .next t ∧
        t.fb F.FLT_STAT_quiet = s.fb F.FLT_CTL_auto_en ∧ t.mode = s.mode)) ∧
  (∀ (s : State) (code : Nat) (arg : Word), s.fb F.FLT_STAT_open = false → s.cmds = [] → code < 2 ^ 15 →
      (∀ n : Link, s.lnkSt n ≠ lSeq ∧ s.lnk[n].cfg = []) →
      let opened (t : State) (cls : Nat) : Prop := t.fb F.FLT_STAT_open = true ∧ t.f F.FLT_FIRST_code = code ∧
        t.f F.FLT_FIRST_cls = cls ∧ t.f F.FLT_FIRST_mode = s.mode ∧ t.reg A.FLT_FIRST_ARG = arg ∧ t.f F.FLT_STAT_cls_max = cls ∧
        (∀ n : Link, t.lnkSt n = lPart) ∧ t.alive = false ∧ t.aliveRun = false
      (opened (s.report code .A arg) 1 ∧ (3 ≤ s.mode → s.mode ≤ 8 → (s.report code .A arg).mode = mSafeStop ∧
        ∀ k : Stage, (s.report code .A arg).fb (F.STG_CTL_run k) = false)) ∧
      (s.anySwitching = true → opened (s.report code .B arg) 2 ∧ (s.report code .BC arg) = s.report code .B arg ∧
        (isSwitchMode s.mode = true → (s.report code .B arg).mode = mFaultHold ∧ (s.report code .B arg).fb F.FLT_STAT_hold = true)) ∧
      (s.anySwitching = false → s.report code .B arg = s.report code .C arg ∧ s.report code .BC arg = s.report code .C arg)) ∧
  (∀ (s : State) (code : Nat) (arg : Word), code < 2 ^ 16 → (s.report code .C arg).mode = s.mode ∧ (s.report code .C arg).lnk = s.lnk ∧
      (s.report code .C arg).stg = s.stg ∧ (s.report code .C arg).ctx = s.ctx ∧ (s.report code .C arg).mem = s.mem ∧
      (s.report code .C arg).fb F.FLT_STAT_open = s.fb F.FLT_STAT_open ∧ (s.report code .C arg).f F.FLT_CLAST_code = code) ∧
  (∀ (s : State) (code cls : Nat) (arg : Word), code < 2 ^ 15 → cls = 1 ∨ cls = 2 →
      (s.joinEpisode code cls arg).fb F.FLT_OVF_ovf = true ∧
      (s.overtakes code = false → (s.joinEpisode code cls arg).f F.FLT_OVF_last = code ∧
        (s.joinEpisode code cls arg).reg A.FLT_FIRST = s.reg A.FLT_FIRST ∧
        (s.joinEpisode code cls arg).reg A.FLT_FIRST_ARG = s.reg A.FLT_FIRST_ARG) ∧
      (s.overtakes code = true → (s.joinEpisode code cls arg).f F.FLT_OVF_last = s.f F.FLT_FIRST_code ∧
        (s.joinEpisode code cls arg).f F.FLT_FIRST_code = code ∧ (s.joinEpisode code cls arg).f F.FLT_FIRST_cls = cls ∧
        (s.joinEpisode code cls arg).reg A.FLT_FIRST_ARG = arg))

/-- The row of a command, on an open port with room and nothing in flight: its frame is accepted with the port's next
sequence number, the command enters the queue and runs at once. At a port that is not open nothing happens; where the
port's quota or the total of 64 is used up the answer is QUEUE_FULL and the count goes up. The rows of the 23 commands
(R361 to R363, R365, R367). -/
def Obligations.CommandStartsAtOnce : Prop :=
  ∀ (s : State) (p : Fin 4) (fence nseq : Bool) (pl : List Byte) (par : List Par) (bad : Fin 63),
    let runs (i : Instr) (op : Nat) (ns : Bool) (pl : List Byte) (par : List Par) (bad : Nat) : Prop :=
      (s.portFree p pl.length → exec i s = .next ((s.queued p op fence ns pl).runCmd (s.entered p op fence ns pl) par bad)) ∧
      (s.portLive p = false → exec i s = .next s) ∧
      (∀ h : Fin 2, h.val = p.val → s.portLive p = true → s.full p = true → pl.length ≤ 256 →
        (s.host[h].filter fun a => !a.accepted).length < 4 → ∃ t, exec i s = .next t ∧ t.cmds = s.cmds ∧ t.mem = s.mem ∧
          t.host[h] = s.host[h] ++ [⟨false, respFrame (s.nextSeq p) op rQueueFull 0xFF rQueueFull 0 []⟩] ∧
          t.f F.CMD_CNT_queue_full = satInc F.CMD_CNT_queue_full.wd (s.f F.CMD_CNT_queue_full))
    (∀ i op, (i, op) ∈ [(Instr.nop p fence nseq pl, opNop), (.ping p fence nseq pl, opPing)] → runs i op nseq pl [] 0) ∧
    runs (.read p fence nseq pl par bad) opRead nseq pl par bad ∧
    runs (.journalRead p fence nseq ⟨pl, par, bad⟩) opJournal nseq pl par bad ∧
    (∀ i op, (i, op) ∈ [(Instr.write p fence pl, opWrite), (.writeGroup p fence pl, opWriteGroup),
        (.persistWrite p fence pl, opPersist), (.startStage p fence pl, opStart), (.stopStage p fence pl, opStop),
        (.setMode p fence pl, opSetMode), (.setpoint p fence pl, opSetpoint), (.setpointGroup p fence pl, opSetGroup),
        (.claimAuthority p fence pl, opClaim), (.releaseAuthority p fence pl, opRelease),
        (.faultClear p fence pl, opFaultClear), (.resume p fence pl, opResume), (.safetyAck p fence pl, opSafetyAck),
        (.latchMeter p fence pl, opLatch), (.eventMask p fence pl, opEventMask)] → runs i op false pl [] 0) ∧
    (∀ i f, (i, f) ∈ [(Instr.eraseInactiveBank p fence pl, (0 : Byte)), (.writeBank p fence pl, 1), (.checkBank p fence pl, 2),
        (.loadEngine p fence pl, 3)] → runs i opLoad false (f :: pl) [] 0)

/-- A command that enters the queue: its sequence number is the port's latest, it is the last in flight, and the next
entry of the RAM journal holds index, sequence number, port, opcode and flags, with the result 0xFF (R363, R377,
R378). A completion: the command leaves the queue, its response goes to its port with the four result bytes and the
data, and its journal entry takes result, part and cause (R364, R377, R387, R393). -/
def Obligations.AcceptedAndCompleted : Prop :=
  (∀ (s : State) (p : Fin 4) (op : Nat) (fence : Bool) (pl : List Byte), op ∈ knownOps → pl.length ≤ 256 →
      let c := s.entered p op fence false pl
      let u := s.enqueue c
      let i := (s.reg A.UHL_NEXT).toNat
      u.cmds = s.cmds ++ [c] ∧ c.op = op ∧ c.pl = pl ∧ c.port = p.val ∧ c.seq = (s.f (F.CMD_PORTSTAT_last_seq p) + 1) % 65536 ∧
        u.f (F.CMD_PORTSTAT_last_seq p) = c.seq ∧ u.fb (F.CMD_PORTSTAT_valid p) = true ∧
        u.reg A.UHL_NEXT = BitVec.ofNat 32 (i + 1) ∧ u.mw (jAddr i) = BitVec.ofNat 32 i ∧
        u.mw (jAddr i + 4) = BitVec.ofNat 32 (c.seq + 65536 * p.val + 16777216 * op) ∧
        u.mw (jAddr i + 8) = BitVec.ofNat 32 (2 * b2n fence + 0xFF00) ∧
        (∀ a, a < jAddr i ∨ jAddr i + 32 ≤ a → u.mb a = s.mb a)) ∧
  (∀ (s : State) (id res part cause word : Nat) (data : List Byte) (c : Cmd), s.cmd? id = some c → c.desc = none → c.port < 4 →
      { c with res := res }.copied = false →
      let t := s.finish id res part cause word data
      let b := respFrame c.seq c.op res part cause word data
      t.cmds = s.cmds.filter (fun d => d.id != c.id) ∧
        (∀ h : Fin 2, h.val = c.port → t.host[h] = s.host[h] ++ [⟨true, b⟩] ∧ t.out = s.out) ∧
        (2 ≤ c.port → t.out = .net (c.port - 2) 0 c.src b :: s.out ∧ t.host = s.host) ∧
        (∀ i, c.jidx = some i → t.mb (jAddr i + 9) = BitVec.ofNat 8 res ∧ t.mb (jAddr i + 10) = BitVec.ofNat 8 part ∧
          t.mb (jAddr i + 11) = BitVec.ofNat 8 cause))

/-- What the reading commands answer on an open, free port: NOP and PING; READ the words of plain memory, or one register,
and BAD_ARG for a word that is not mapped; JOURNAL_READ the entries from the first index, here of the RAM journal
without filter, BAD_FRAME where a word fails its parity replay. A payload that does not suit is BAD_ARG. A command
that waited runs when it is ready. The rows NOP, PING, READ, JOURNAL_READ and COMMAND_START (R72, R365, R367, R382). -/
def Obligations.ReadingCommands : Prop :=
  ∀ (s : State) (p : Fin 4) (fence nseq : Bool) (pl : List Byte) (bad : Fin 63),
    (s.portFree p pl.length →
      let keeps (t : State) : Prop := t.mode = s.mode ∧ t.ctx = s.ctx ∧ t.stg = s.stg ∧ t.lnk = s.lnk
      (pl = [] → s.answersR (.nop p fence nseq pl) p opNop rOk keeps) ∧
      (pl ≠ [] → s.answersR (.nop p fence nseq pl) p opNop rBadArg keeps) ∧
      (pl.length ≤ 252 → s.answers (.ping p fence nseq pl) p opPing rOk 0xFF rOk 0 pl keeps) ∧
      (252 < pl.length → s.answersR (.ping p fence nseq pl) p opPing rBadArg keeps) ∧
      (pl.length ≠ 8 → s.answersR (.read p fence nseq pl [] bad) p opRead rBadArg keeps ∧
        s.answersR (.journalRead p fence nseq ⟨pl, [], bad⟩) p opJournal rBadArg keeps) ∧
      (∀ a n : Nat, pl = leBytes a 4 ++ [BitVec.ofNat 8 n, 0, 0, 0] → 1 ≤ n → n ≤ 63 → a < 2 ^ 32 →
        ((∀ i < n, a % 4 = 0 ∧ mapped (a + 4 * i) = true ∧ 0x100000 ≤ a + 4 * i ∧
            (a + 4 * i < 0x340000 ∨ 0x360000 ≤ a + 4 * i)) →
          s.answers (.read p fence nseq pl [] bad) p opRead rOk 0xFF rOk 0
            ((List.range n).flatMap fun i => wordBytes (s.mw (a + 4 * i))) keeps) ∧
        (a % 4 ≠ 0 ∨ mapped a = false → s.answers (.read p fence nseq pl [] bad) p opRead rBadArg 0xFF rBadArg 0 []
          keeps) ∧
        (n = 1 → a % 4 = 0 → mapped a = true → 0x10000 ≤ a → a < 0x60000 →
          s.answers (.read p fence nseq pl [] bad) p opRead rOk 0xFF rOk 0 (wordBytes (s.show a))
            fun t => t.mode = s.mode ∧ t.cmds = [] ∧ t.lnk = s.lnk)) ∧
      (∀ a n : Nat, nseq = true → pl = leBytes a 4 ++ [BitVec.ofNat 8 n, 0, 0xFF, 0] → 1 ≤ n → n ≤ 7 →
        s.jLow ≤ a → a + n ≤ (s.reg A.UHL_NEXT).toNat → (s.reg A.UHL_NEXT).toNat ≤ a + 4096 →
        (∀ i < (s.reg A.UHL_NEXT).toNat, s.jLow ≤ i → (s.reg A.UHL_NEXT).toNat ≤ i + 4096 → (s.mw (jAddr i)).toNat = i) →
        s.answers (.journalRead p fence nseq ⟨pl, [], bad⟩) p opJournal rOk 0xFF rOk 0
          (leBytes (a + n) 4 ++ (List.range n).flatMap fun j => (List.range 8).flatMap fun w =>
            wordBytes (s.mw (jAddr (a + j) + 4 * w))) keeps ∧
        (∀ x, bad.val < 8 * n → x = jAddr (a + bad.val / 8) + 4 * (bad.val % 8) →
          exec (.journalRead p fence nseq ⟨pl, [.replayFail], bad⟩) s =
            .next ((((s.queued p opJournal fence nseq pl).extReplay x).report 0x050A .A (BitVec.ofNat 32 x)).finish
              (s.entered p opJournal fence nseq pl).id rBadFrame 0xFF rBadFrame bad [])))) ∧
    (∀ par c, s.cmds.find? s.ready = some c → exec (.commandStart par bad) s = .next (s.runCmd c par bad) ∧
      (c.op = opNop → c.pl = [] → c.desc = none → c.port < 4 → s.downloads = false → ∃ t, exec (.commandStart par bad) s = .next t ∧
        t.cmds = s.cmds.filter (fun d => d.id != c.id) ∧ (∀ h : Fin 2, h.val = c.port → t.host[h] = s.host[h] ++
          [⟨true, respFrame c.seq opNop rOk 0xFF rOk 0 []⟩]) ∧ t.ctx = s.ctx)) ∧
    (∀ par, s.cmds.find? s.ready = none → exec (.commandStart par bad) s = .next s)

/-- WRITE, SETPOINT, PERSIST_WRITE and the groups on an open, free port, `u` being the state with the command in the
queue. A payload that does not suit is BAD_ARG; a word that the checks refuse answers their code and its index. A
WRITE of a clock register takes effect at once; words that wait for a boundary or a pod keep the command in flight. A
set-point is written at once where its stage has no timebase, or waits for the boundary. PERSIST_WRITE sends the word,
its missing bits 0, to the write unit; where the word is stored already or at its limit, its result stands (OK,
ENDURANCE) and the journal copy comes next. A group that passes is armed with its case and instant, one that fails is
PART_FAILED. The rows WRITE, SETPOINT, PERSIST_WRITE, WRITE_GROUP and SETPOINT_GROUP (R252, R365, R370, R371, R374,
R376, R410). A group whose instant is known, the only command in flight, EDGE time being moved there: where its second
check fails it is PART_FAILED; where nothing of it waits its words are written and it is answered OK; where something
waits it stays in flight, with what its words held. At its revert instant a failed group goes back to that, here a
clock register, and is answered with its result; a word whose restore is refused is reported with 0x0AFF. While the
instant is not known nothing happens. The rows GROUP_COMMIT and GROUP_ROLLBACK (R21, R374, R375; the second check and
the commit in one: assumption 38, DEDUCED). -/
def Obligations.WritingCommands : Prop :=
  (∀ (s : State) (p : Fin 4) (fence : Bool) (pl : List Byte), s.portFree p pl.length →
      (∀ (a : Nat) (v : Word), pl = leBytes a 4 ++ wordBytes v → a < 2 ^ 32 →
        let c := s.entered p opWrite fence false pl
        let u := s.queued p opWrite fence false pl
        let w := (u.write p (some c.id) [⟨a, v⟩]).2.2
        ((u.judge p [⟨a, v⟩]).1 ≠ rOk →
          s.answers (.write p fence pl) p opWrite (u.judge p [⟨a, v⟩]).1 0xFF (u.judge p [⟨a, v⟩]).1 (u.judge p [⟨a, v⟩]).2 []
            fun t => t.ctx = s.ctx ∧ t.stg = s.stg ∧ t.lnk = s.lnk) ∧
        ((u.judge p [⟨a, v⟩]).1 = rOk → a / 0x10000 = 2 → (rowAt a).w1c = 0 → (rowAt a).rs = 0 → (rowAt a).rw ≠ 0 → s.staged = [] →
          (∀ n : Link, s.lnk[n].cfg = []) → s.answersR (.write p fence pl) p opWrite rOk fun t =>
            t.reg a = (s.reg a &&& ~~~BitVec.ofNat 32 (rowAt a).rw) ||| (v &&& BitVec.ofNat 32 (rowAt a).rw) ∧ t.ctx = s.ctx) ∧
        ((u.write p (some c.id) [⟨a, v⟩]).1 = rOk → w.refers c.id = true → w.cmds = [c] → ∃ t, exec (.write p fence pl) s = .next t ∧
          (∃ d, t.cmds = [d] ∧ d.id = c.id ∧ d.ph = .applying) ∧ t.staged = w.staged ∧ t.lnk = w.lnk ∧ t.regs = w.regs)) ∧
      (pl.length % 4 ≠ 0 ∨ pl.length < 8 → s.answersR (.write p fence pl) p opWrite rBadArg (fun t => t.ctx = s.ctx) ∧
        s.answersR (.persistWrite p fence pl) p opPersist rBadArg (fun t => t.wq = s.wq)) ∧
      (∀ x, setpOf pl = some x → pl.length = (if byteAt pl 1 = 1 then 16 else 12) →
        let c := s.entered p opSetpoint fence false pl
        (s.setpCode p x ≠ rOk →
          s.answersR (.setpoint p fence pl) p opSetpoint (s.setpCode p x) fun t => t.staged = s.staged ∧ t.ctx = s.ctx) ∧
        (s.setpCode p x = rOk → s.tbRuns x.stage = false → x.ramp = false → s.staged = [] → (∀ n : Link, s.lnk[n].cfg = []) →
          s.answersR (.setpoint p fence pl) p opSetpoint rOk fun t => t.mw (s.winAddr x.stage x.target) = x.val ∧ t.ctx = s.ctx) ∧
        (s.setpCode p x = rOk → s.tbRuns x.stage = true → ∃ t, exec (.setpoint p fence pl) s = .next t ∧
          (∃ d, t.cmds = [d] ∧ d.id = c.id ∧ d.ph = .applying ∧ d.tracks = s.setpTrack x) ∧
          (∀ y ∈ s.setpWords x, ∃ z ∈ t.staged, z.stage = x.stage.val ∧ z.addr = y.addr ∧ z.val = y.val ∧ z.cmd = some c.id) ∧
          t.ctx = s.ctx)) ∧
      (setpOf pl = none ∨ pl.length ≠ (if byteAt pl 1 = 1 then 16 else 12) → s.answersR (.setpoint p fence pl) p opSetpoint rBadArg fun t => t.ctx = s.ctx) ∧
      (∀ (a : Nat) (v : Word) (b : Nat), pl = leBytes a 4 ++ wordBytes v → a < 2 ^ 32 → bankAddr a = some b → s.wq = [] →
        s.resetAfterSave = none →
        let c := s.entered p opPersist fence false pl
        let u := s.queued p opPersist fence false pl
        let m := v &&& BitVec.ofNat 32 (bankMask b)
        let q := if u.mayWrite p a then u.bankCode (u.setReg a v) b v else rAuthority
        (q ≠ rOk → s.answers (.persistWrite p fence pl) p opPersist q 0xFF q 0 [] fun t => t.wq = [] ∧ t.reg b = s.reg b) ∧
        (q = rOk → s.atLimit b = false → s.reg b ≠ m → ∃ t, exec (.persistWrite p fence pl) s = .next t ∧
          t.wq = [⟨b, m, 0, some c.id⟩] ∧ (∃ d, t.cmds = [d] ∧ d.id = c.id ∧ d.ph = .writing) ∧ t.reg b = s.reg b) ∧
        (q = rOk → s.atLimit b = true ∨ s.reg b = m → ∃ t, exec (.persistWrite p fence pl) s = .next t ∧
          (s.atLimit b = true → t.fb ⟨A.PRS_EVT, 1, 1⟩ = true) ∧ t.reg b = s.reg b ∧ t.wq.length = 8 ∧
          (∀ q ∈ t.wq, q.kind = 1 ∧ q.cmd = some c.id) ∧
          ∃ d, t.cmds = [d] ∧ d.id = c.id ∧ d.ph = .writing ∧ d.res = (if s.atLimit b then rEndurance else rOk))) ∧
      (∀ (a : Nat) (v : Word), pl = leBytes a 4 ++ wordBytes v → a < 2 ^ 32 → bankAddr a = none →
        s.answersR (.persistWrite p fence pl) p opPersist rBadArg fun t => t.wq = s.wq) ∧
      (∀ i op, (i, op) ∈ [(Instr.writeGroup p fence pl, opWriteGroup), (.setpointGroup p fence pl, opSetGroup)] →
        let c := s.entered p op fence false pl
        let u := s.queued p op fence false pl
        (u.cmdParts c = none → s.answersR i p op rBadArg fun t => t.ctx = s.ctx ∧ t.f F.CMD_GRPSTAT_result = rBadArg) ∧
        (∀ part cause w, (u.cmdParts c).isSome = true → u.checkGroup c = some (part, cause, w) →
          s.answers i p op rPartFailed part cause w [] fun t => t.ctx = s.ctx ∧ t.fb F.CMD_EVT_group = true) ∧
        ((u.cmdParts c).isSome = true → u.checkGroup c = none →
          s.leavesInFlight i { c with
            ph := .armed, gcase := (u.commitCase c).1, tc := (u.commitCase c).2, ta := u.etime, aligned := (u.commitCase c).1 == 3 }
            fun t => t.regs = u.regs ∧ t.staged = s.staged ∧ t.ctx = s.ctx ∧ t.mem = u.mem))) ∧
  (∀ (s : State) (c : Cmd), s.cmds = [c] → c.desc = none → c.op = opWriteGroup → c.port < 4 →
      (∀ i, s.groupAt c = none → exec (.groupCommit i) s = .next s ∧ exec (.groupRollback i) s = .next s) ∧
      (c.ph ≠ .armed → ∀ i, exec (.groupCommit i) s = .next s) ∧ (c.ph ≠ .failed → ∀ i, exec (.groupRollback i) s = .next s) ∧
      ∀ tc, s.groupAt c = some tc →
      let v := s.toInstant tc
      let ended (t : State) (res part cause word : Nat) : Prop := t.cmds = [] ∧ t.f F.CMD_GRPSTAT_result = res % 256 ∧
        t.etime = v.etime ∧ (∀ h : Fin 2, h.val = c.port →
          t.host[h] = s.host[h] ++ [⟨true, respFrame c.seq opWriteGroup res part cause word []⟩])
      let ps := (v.cmdParts c).getD []
      let w := (ps.foldl (fun (s : State) (ws : List AW) => (s.writeAll (some c.id) 0 ws).2.2) v).alignStaged c.id tc
      (c.ph = .armed → (∀ part cause x, v.checkGroup c = some (part, cause, x) → ∃ t, exec (.groupCommit 0) s = .next t ∧
          ended t rPartFailed part cause x ∧ t.ctx = s.ctx) ∧
        (v.checkGroup c = none → w.cmds = [c] → w.host = s.host → w.refers c.id = false → ∃ t, exec (.groupCommit 0) s = .next t ∧
          t.cmds = [] ∧ t.f F.CMD_GRPSTAT_result = rOk ∧ t.fb F.CMD_GRPSTAT_aligned = c.aligned ∧ (∀ h : Fin 2, h.val = c.port →
            t.host[h] = s.host[h] ++ [⟨true, respFrame c.seq opWriteGroup rOk 0xFF rOk 0 []⟩]) ∧
          t.ctx = w.ctx ∧ t.stg = w.stg ∧ t.lnk = w.lnk) ∧
        (v.checkGroup c = none → w.cmds = [c] → w.refers c.id = true → ∃ t, exec (.groupCommit 0) s = .next t ∧
          (∃ d, t.cmds = [d] ∧ d.id = c.id ∧ d.ph = .applying ∧ d.saved = v.saveParts 0 ps) ∧ t.staged = w.staged ∧
          t.lnk = w.lnk ∧ t.regs = w.regs)) ∧
      (c.ph = .failed → s.staged = [] → (∀ n : Link, s.lnk[n].cfg = []) →
        (c.saved = [] → ∃ t, exec (.groupRollback 0) s = .next t ∧ ended t c.res c.part c.cause c.word) ∧
        ∀ (part word a : Nat) (x : Word), c.saved = [(part, word, ⟨a, x⟩)] →
          (a / 0x10000 = 2 → (rowAt a).w1c = 0 → (rowAt a).rs = 0 → (rowAt a).rw ≠ 0 → ∃ t,
            exec (.groupRollback 0) s = .next t ∧ ended t c.res c.part c.cause c.word ∧
            t.reg a = (s.reg a &&& ~~~BitVec.ofNat 32 (rowAt a).rw) ||| (x &&& BitVec.ofNat 32 (rowAt a).rw)) ∧
          (podAddr a = none → (rowAt a).w1c = 0 → (rowAt a).wo = 0 → v.rsRefused ⟨a, x⟩ = true →
            exec (.groupRollback 0) s = .next ((((v.report 0x0AFF .A (BitVec.ofNat 32 c.seq)).alignStaged c.id tc).updCmd c.id
              fun d => { d with ph := .rolling }).settle))))

/-- START_STAGE, STOP_STAGE and the authority commands on an open, free port: what they do to every stage that they name,
and the refusal of one stage alone. A claim of a free or own stage gives it to the port. The rows START_STAGE,
STOP_STAGE, CLAIM_AUTHORITY and RELEASE_AUTHORITY (R168, R182, R345, R357, R368, R369). SET_MODE on an open, free
port, with no configuration value waiting at a link: an unknown mode is BAD_ARG; the mode in force is OK; each change
of the table that is allowed ends in its mode, or in a reset that is to come; STANDBY out of a switching mode ends at
once where no stage switches, else waits for the orderly stop; every other one is REFUSED_MODE. The row SET_MODE
(R346, R347, R348, R357). -/
def Obligations.StageAndModeCommands : Prop :=
  (∀ (s : State) (p : Fin 4) (fence : Bool) (pl : List Byte), s.portFree p pl.length →
      let wrong : Prop := maskOf pl 2 = none
      (wrong → s.answersR (.startStage p fence pl) p opStart rBadArg (fun t => t.ctx = s.ctx) ∧
        s.answersR (.stopStage p fence pl) p opStop rBadArg (fun t => t.ctx = s.ctx) ∧
        s.answersR (.releaseAuthority p fence pl) p opRelease rBadArg (fun t => t.ctx = s.ctx)) ∧
      (∀ ks, maskOf pl 2 = some ks →
        (isSwitchMode s.mode = true → s.halted = false → (∀ k ∈ ks, s.holder k = p.val ∧ s.startCheck k = rOk) →
          s.answersR (.startStage p fence pl) p opStart rOk fun t => ∀ k ∈ ks, t.fb (F.STG_CTL_run k) = true ∧
            t.fb (F.STG_CTL_tb k) = true ∧ t.stgSt k = (if s.stgSt k = stHiccup then stHiccup else stSwitching)) ∧
        ((∀ k ∈ ks, s.holder k = p.val) → s.answersR (.stopStage p fence pl) p opStop rOk fun t =>
          ∀ k ∈ ks, t.fb (F.STG_CTL_run k) = false ∧ (s.switching k = false → t.stgSt k = s.stgSt k)) ∧
        ((∀ k ∈ ks, s.holder k = p.val ∨ s.holder k = 15) → s.answersR (.releaseAuthority p fence pl) p opRelease rOk fun t =>
          ∀ k ∈ ks, t.holder k = 15)) ∧
      (∀ k, maskOf pl 2 = some [k] →
        (s.holder k ≠ p.val → s.answers (.startStage p fence pl) p opStart rAuthority k rAuthority 0 [] (fun t => t.stg = s.stg) ∧
          s.answers (.stopStage p fence pl) p opStop rAuthority k rAuthority 0 [] (fun t => t.stg = s.stg)) ∧
        (s.holder k = p.val → isSwitchMode s.mode = false ∨ s.halted = true → s.answers (.startStage p fence pl) p opStart rMode k rMode
          0 [] fun t => t.stg = s.stg) ∧
        (s.holder k = p.val → isSwitchMode s.mode = true → s.halted = false → s.startCheck k ≠ rOk →
          s.answers (.startStage p fence pl) p opStart (s.startCheck k) k (s.startCheck k) 0 [] fun t => t.stg = s.stg) ∧
        (s.holder k ≠ p.val → s.holder k ≠ 15 → s.answers (.releaseAuthority p fence pl) p opRelease rPartFailed k rAuthority 0 []
          fun t => t.holder k = s.holder k)) ∧
      (∀ ks, maskOf pl 4 = some ks → byteAt pl 2 ≤ 1 → byteAt pl 3 = 0 →
        ((∀ k ∈ ks, s.grants p (byteAt pl 2 == 1) k = true) → s.answersR (.claimAuthority p fence pl) p opClaim rOk fun t =>
          ∀ k ∈ ks, t.holder k = p.val) ∧
        (∀ k, ks = [k] → s.grants p (byteAt pl 2 == 1) k = false → s.answers (.claimAuthority p fence pl) p opClaim rPartFailed k
          rAuthority 0 [] fun t => t.holder k = s.holder k)) ∧
      (∀ (k : Stage) (take : Bool), s.holder k = 15 ∨ s.holder k = p.val → s.grants p take k = true) ∧
      (maskOf pl 4 = none ∨ 1 < byteAt pl 2 ∨ byteAt pl 3 ≠ 0 →
        s.answersR (.claimAuthority p fence pl) p opClaim rBadArg fun t => t.ctx = s.ctx)) ∧
  (∀ (s : State) (p : Fin 4) (fence : Bool) (m : Byte), s.portFree p 1 → (∀ n : Link, s.lnk[n].cfg = []) →
      let i := Instr.setMode p fence [m]
      let goes (n : Nat) : Prop := s.answersR i p opSetMode rOk fun t => t.mode = n
      let stays (r : Nat) : Prop := s.answersR i p opSetMode r fun t => t.mode = s.mode
      (m.toNat ∉ [0, 3, 4, 5, 6, 7] → stays rBadArg) ∧
      (m.toNat ∈ [0, 3, 4, 5, 6, 7] → m.toNat = s.mode → stays rOk) ∧
      (s.mode = 3 ∨ s.mode = 4 ∨ s.mode = 10 → m = 0 → s.answersR i p opSetMode rOk fun t => t.softReset = true ∧ t.mode = s.mode) ∧
      (s.mode = 3 → m = 4 → goes mStandby) ∧ (s.mode = 4 → m = 3 → goes mConfigure) ∧
      (s.mode = 4 → m = 5 → (s.safForce = false → s.fb F.SYS_STEST_pass = true → s.halted = false → goes mPrecharge) ∧
        (s.safForce = true ∨ s.fb F.SYS_STEST_pass = false ∨ s.halted = true → stays rMode)) ∧
      (s.mode = 5 → m = 6 → (s.fb F.SYS_PCH_STAT_done = true → goes mSync) ∧ (s.fb F.SYS_PCH_STAT_done = false → stays rMode)) ∧
      (s.mode = 5 → m = 7 → (s.fb F.SYS_PCH_STAT_done = true → s.kReady = true → s.halted = false → goes mRun) ∧
        (s.fb F.SYS_PCH_STAT_done = false ∨ s.kReady = false ∨ s.halted = true → stays rMode)) ∧
      (s.mode = 5 → m = 4 → goes mStandby) ∧
      (s.mode = 6 → m = 7 → (s.kReady = true → s.halted = false → goes mRun) ∧
        (s.kReady = false ∨ s.halted = true → stays rMode)) ∧
      (s.mode = 6 ∨ s.mode = 7 ∨ s.mode = 8 → m = 4 → (s.anySwitching = false → goes mStandby) ∧
        (s.anySwitching = true → (∀ k : Stage, s.stg[k].starting = none) → ∃ t, exec i s = .next t ∧ t.mode = s.mode ∧
          (∃ d, t.cmds = [d] ∧ d.ph = .stopping) ∧ ∀ k : Stage, s.switching k = true → t.fb (F.STG_CTL_run k) = false)) ∧
      (m.toNat ∈ [0, 3, 4, 5, 6, 7] → m.toNat ≠ s.mode → (s.mode, m.toNat) ∉ [(3, 0), (4, 0), (10, 0), (3, 4), (4, 3), (4, 5), (5, 6),
        (5, 7), (5, 4), (6, 7), (6, 4), (7, 4), (8, 4)] → stays rMode))

/-- LOAD_PROGRAM on an open, free port. The bank functions are for CONFIGURE and STANDBY, else REFUSED_MODE: an erase is
in progress, or ENDURANCE at its limit; a write sends the words of its data to the program store, into erased bytes,
and is OK at once without data; a check of a good image sends its generation, a bad one is BAD_ARG. An engine whose
stages the port holds and whose contexts are stopped has its segment loaded and the rest of its memory filled with
ones. The rows ERASE_INACTIVE_BANK, WRITE_BANK, CHECK_BANK and LOAD_ENGINE (R372, R413 to R415). FAULT_CLEAR, RESUME,
SAFETY_ACK, LATCH_METER and EVENT_MASK on an open, free port, with no configuration value waiting at a link: a payload
that does not suit is BAD_ARG. FAULT_CLEAR with nothing open or locked is OK; in FAULT-HOLD and SAFE-STOP it closes
the episode in STANDBY, where clock and contactor allow. RESUME ends the hold of a class B episode in the mode it came
from, or STANDBY after a trip in the window. SAFETY_ACK waits for the tick, LATCH_METER for its points. EVENT_MASK
replaces the mask. The rows of these commands (R293, R315, R335, R336, R436, R437). -/
def Obligations.ProgramAndUnitCommands : Prop :=
  (∀ (s : State) (p : Fin 4) (fence : Bool) (pl : List Byte), s.portFree p (pl.length + 1) → 7 ≤ pl.length →
      bytesAt pl 1 2 = 0 → pl.length < 256 →
      let id := (s.entered p opLoad fence false (0 :: pl)).id
      let flies (i : Instr) (P : State → Prop) : Prop := ∃ t, exec i s = .next t ∧ (∃ d, t.cmds = [d] ∧ d.id = id ∧ d.ph = .writing) ∧
        t.mode = s.mode ∧ t.ctx = s.ctx ∧ P t
      let free : Prop := s.mode = mConfigure ∨ s.mode = mStandby
      let n := s.f (if s.activeB then F.PRS_PSA_erases else F.PRS_PSB_erases)
      let o := bytesAt pl 3 4
      let d := pl.drop 7
      let ws := wordsOf (d ++ List.replicate ((4 - d.length % 4) % 4) 0xFF)
      let g := s.genOf s.activeBase
      (pl.length = 7 → (free → n < 10000 → flies (.eraseInactiveBank p fence pl) fun t => t.erasing = some (some id)) ∧
        (free → 10000 ≤ n → s.answersR (.eraseInactiveBank p fence pl) p opLoad rEndurance fun t => t.erasing = none) ∧
        (¬free → s.answersR (.eraseInactiveBank p fence pl) p opLoad rMode fun t => t.erasing = none)) ∧
      (free → o % 4 = 0 → d ≠ [] → o + d.length ≤ 0x40000 → 0x40 ≤ o ∨ o + d.length ≤ 0x3C →
        (∀ i < d.length, s.mb (s.inactiveBase + o + i) = 0xFF) → flies (.writeBank p fence pl) fun t => t.pq.length = ws.length ∧
          ∀ (i : Nat) (h : i < ws.length), ⟨s.inactiveBase + o + 4 * i, ws[i], some id⟩ ∈ t.pq) ∧
      (free → o % 4 = 0 → d = [] → o ≤ 0x40000 → 0x40 ≤ o ∨ o ≤ 0x3C →
        s.answersR (.writeBank p fence pl) p opLoad rOk fun t => t.pq = []) ∧
      (free → o % 4 ≠ 0 ∨ 0x40000 < o + d.length ∨ o < 0x40 ∧ 0x3C < o + d.length ∨
          (∃ i < d.length, s.mb (s.inactiveBase + o + i) ≠ 0xFF) →
        s.answersR (.writeBank p fence pl) p opLoad rBadArg fun t => t.pq = []) ∧
      (¬free → s.answersR (.writeBank p fence pl) p opLoad rMode fun t => t.pq = []) ∧
      (pl.length = 7 → (free → s.imageOk s.inactiveBase = true → flies (.checkBank p fence pl) fun t =>
          t.pq = [⟨s.inactiveBase + 0x3C, BitVec.ofNat 32 (if g = 0xFFFFFFFF then 1 else g + 1), some id⟩]) ∧
        (free → s.imageOk s.inactiveBase = false → s.answersR (.checkBank p fence pl) p opLoad rBadArg fun t => t.pq = []) ∧
        (¬free → s.answersR (.checkBank p fence pl) p opLoad rMode fun t => t.pq = [])) ∧
      (∀ m : Fin 7, pl.length = 7 → byteAt pl 0 = m.val →
        ((m.val < 6 → s.holder (2 * m.val) = p.val ∧ s.holder (2 * m.val + 1) = p.val) → (ctxsOf m).any s.ctxOn = false →
          flies (.loadEngine p fence pl) fun t => ∀ i, i < imemWords m → t.mw (imemBase m + 4 * i) =
            (if i < (s.segOf s.activeBase m).2 then s.mw (s.activeBase + 4 * ((s.segOf s.activeBase m).1 + i)) else 0xFFFFFFFF)) ∧
        (m.val < 6 → s.holder (2 * m.val) ≠ p.val → s.answersR (.loadEngine p fence pl) p opLoad rAuthority fun t =>
          t.imgOf = s.imgOf) ∧
        ((m.val < 6 → s.holder (2 * m.val) = p.val ∧ s.holder (2 * m.val + 1) = p.val) → (ctxsOf m).any s.ctxOn = true →
          s.answersR (.loadEngine p fence pl) p opLoad rRunning fun t => t.imgOf = s.imgOf))) ∧
  (∀ (s : State) (p : Fin 4) (fence : Bool) (pl : List Byte), s.portFree p pl.length → (∀ n : Link, s.lnk[n].cfg = []) →
      (pl ≠ [] → s.answersR (.faultClear p fence pl) p opFaultClear rBadArg (fun t => t.mode = s.mode) ∧
        s.answersR (.resume p fence pl) p opResume rBadArg (fun t => t.mode = s.mode)) ∧
      (pl = [] →
        (s.fb F.FLT_STAT_open = false → s.fb F.FLT_STAT_locked = false → s.answersR (.faultClear p fence pl) p opFaultClear rOk
          fun t => t.mode = s.mode) ∧
        (s.fb F.FLT_STAT_open = true ∨ s.fb F.FLT_STAT_locked = true →
          (s.mode ≠ mFaultHold → s.mode ≠ mSafeStop → s.answersR (.faultClear p fence pl) p opFaultClear rMode
            fun t => t.mode = s.mode) ∧
          (s.mode = mFaultHold ∨ s.mode = mSafeStop →
            (s.refLost = true ∨ s.fb F.CLK_STAT_lock = false → s.answersR (.faultClear p fence pl) p opFaultClear rMode
              fun t => t.mode = s.mode ∧ t.fb F.FLT_STAT_open = s.fb F.FLT_STAT_open) ∧
            (s.refLost = false → s.fb F.CLK_STAT_ref_ok = true → s.fb F.CLK_STAT_lock = true → s.f F.ISL_KSTAT_st ≠ 4 →
              s.answersR (.faultClear p fence pl) p opFaultClear rOk fun t => t.mode = mStandby ∧
                t.fb F.FLT_STAT_open = false ∧ t.fb F.FLT_STAT_locked = false ∧ t.f F.FLT_RECOV_CNT_cnt = 0))) ∧
        (s.mode = mFaultHold → s.fb F.FLT_STAT_hold = true → s.f F.FLT_STAT_cls_max = 2 → s.fb F.CLK_STAT_lock = true →
          s.fb F.CLK_STAT_ref_ok = true → 0 < s.holdMode → s.holdMode < 9 → s.answersR (.resume p fence pl) p opResume rOk fun t =>
            t.mode = (if s.holdTrip then mStandby else s.holdMode) ∧ t.fb F.FLT_STAT_hold = false) ∧
        (s.mode ≠ mFaultHold ∨ s.f F.FLT_STAT_cls_max ≠ 2 ∨ s.fb F.CLK_STAT_lock = false →
          s.answersR (.resume p fence pl) p opResume rMode fun t => t.mode = s.mode)) ∧
      (pl.length = 2 → bytesAt pl 0 2 ≠ 0 → s.leavesInFlight (.safetyAck p fence pl)
        { s.entered p opSafetyAck fence false pl with ph := .tick } fun t => t.pairA = s.pairA ∧ t.lsA = s.lsA) ∧
      (pl.length ≠ 2 ∨ bytesAt pl 0 2 = 0 → s.answersR (.safetyAck p fence pl) p opSafetyAck rBadArg fun t => t.pairA = s.pairA) ∧
      (pl.length = 1 → 1 ≤ byteAt pl 0 → byteAt pl 0 < 16 → (∀ i < 4, natBit (byteAt pl 0) i = true → s.fb (F.MTR_CTL_en i) = true) →
        s.leavesInFlight (.latchMeter p fence pl)
          { s.entered p opLatch fence false pl with ph := .latching, points := byteAt pl 0 } fun t => t.mtr = s.mtr) ∧
      (∀ i < 4, pl.length = 1 → natBit (byteAt pl 0) i = true → s.fb (F.MTR_CTL_en i) = false →
        s.answersR (.latchMeter p fence pl) p opLatch rBadArg fun t => t.mtr = s.mtr) ∧
      (pl.length = 20 → byteAt pl 0 ≤ 3 → bytesAt pl 1 3 = 0 → ∃ t, exec (.eventMask p fence pl) s = .next t ∧
        t.cmds = [] ∧ (∀ h : Fin 2, h.val = p.val → t.host[h] = s.host[h] ++
          [⟨true, respFrame (s.nextSeq p) opEventMask rOk 0xFF rOk 0 []⟩]) ∧
        ∀ i < 4, t.reg (A.SYS_EVRT (byteAt pl 0) i) = BitVec.ofNat 32 (bytesAt pl (4 + 4 * i) 4)) ∧
      (pl.length ≠ 20 ∨ 3 < byteAt pl 0 ∨ bytesAt pl 1 3 ≠ 0 → s.answersR (.eventMask p fence pl) p opEventMask rBadArg fun t => t.ctx = s.ctx))

/-- A frame at an open port (HOST_WRITE_FRAME, COMMAND_DATAGRAM): one that fails its check, or is out of sequence, is
counted and answered BAD_FRAME; one beyond the quota or 64 in all QUEUE_FULL; the latest one again changes nothing
while its command is in flight, then is answered from its journal entry; an unsequenced PING is run. At a closed port
nothing happens. Each byte of a host's frame returns the count of its responses; HOST_READ_RESPONSE of n bytes returns
the count, the length and the bytes of the oldest one, which leaves once all have; HOST_BAD_INSTRUCTION returns 0x00
and is counted (R24, R362, R363, R367, R386, R387, R393). ETHERNET_FRAME at an open port: every one counts as heard.
One of a wrong length or check sequence is noted; a right one joins the queue, or is counted where 4 wait. With none
before it and not held (assumption 93, DESIGN CHOICE) it is taken: an ARP request for the own address, as ARP_REQUEST,
is answered; a UDP payload for the command endpoint is a command frame, here a PING. NOTIFICATION reports the routed
events once they are due and clears them. MDIO_DONE has its data (R390 to R396, R399). The peer link in use: the
leader of a ring that is down sends a ring trip at PEER_STATUS_WORD of the last position, or, after a loss or while
its trip is out, at RING_RETRY; RING_TRIP back gives the hop delay, which followers take (RING_RESULT) and forward,
but to the leader. CARRIER_PHASE_WORD reaches the stages synchronised to it while the ring is up;
INJECTION_PARITY_WORD the units that follow it, turned by a wrap of the angle since its phase instant. RING_LOST takes
the ring down (R170, R274, R400 to R402). PARTING_RELAY of another device, with no sequence, configuration word or
command in progress: the own links are in PART, the word goes on unless the next device is its origin, and the report,
type 0x2F, is of class B while a stage switches, else C. The own word, and any while the relay is off, does nothing
(R328, R331, R400, R403). -/
def Obligations.PortsAndPeerLink : Prop :=
  (∀ (s : State) (h i : Fin 2) (b src : List Byte) (par : List Par) (bad : Fin 63),
      let q := bytesAt b 0 2
      let free := natBit (byteAt b 3) 2 || !s.fb (F.CMD_PORTSTAT_valid h)
      let freeN := natBit (byteAt b 3) 2 || !s.fb (F.CMD_PORTSTAT_valid (2 + i))
      let tells (t : State) (p : Nat) (x : List Byte) (o : List Out) (ok : Bool) (r : List Byte) : Prop :=
        (∀ g : Fin 2, g.val = p → t.host[g] = s.host[g] ++ [⟨ok, r⟩]) ∧
          t.out = (if 2 ≤ p then .net (p - 2) 0 x r :: o else o) ∧ t.mode = s.mode ∧ t.ctx = s.ctx
      let away (row : Instr) (p : Nat) (x : List Byte) (o : List Out) (r : Nat) : Prop :=
        (∀ g : Fin 2, g.val = p → (s.host[g].filter fun a => !a.accepted).length < 4) → ∃ t, exec row s = .next t ∧
          tells t p x o false (respFrame q (byteAt b 2) r 0xFF r 0 [] (byteAt b 6)) ∧ t.cmds = s.cmds ∧ t.mem = s.mem ∧
          t.f F.CMD_CNT_bad_frame = (if r = rBadFrame then satInc F.CMD_CNT_bad_frame.wd (s.f F.CMD_CNT_bad_frame)
            else s.f F.CMD_CNT_bad_frame) ∧
          t.f F.CMD_CNT_queue_full = (if r = rQueueFull then satInc F.CMD_CNT_queue_full.wd (s.f F.CMD_CNT_queue_full)
            else s.f F.CMD_CNT_queue_full)
      let arrives (row : Instr) (p : Nat) (x : List Byte) (o : List Out) (free : Bool) : Prop :=
        let last := s.f (F.CMD_PORTSTAT_last_seq p)
        (frameBad b = true → away row p x o rBadFrame) ∧
        (frameBad b = false → free = false → q ≠ last → q ≠ s.nextSeq p → away row p x o rBadFrame) ∧
        (frameBad b = false → free = true ∨ q ≠ last ∧ q = s.nextSeq p → s.quota p ≤ s.inflight p ∨ 64 ≤ s.inflightAll →
          away row p x o rQueueFull) ∧
        (frameBad b = false → free = false → q = last → ∀ c ∈ s.cmds, c.port = p → c.seq = q → c.jidx.isSome = true → ∃ t,
          exec row s = .next t ∧ t.cmds = s.cmds ∧ t.host = s.host ∧ t.out = o ∧ t.mem = s.mem ∧ t.regs = s.regs) ∧
        (∀ j : Nat, frameBad b = false → free = false → q = last → s.cmds = [] → s.reg A.UHL_NEXT = BitVec.ofNat 32 (j + 1) →
          j + 1 < 2 ^ 32 → s.jLow ≤ j → getBits (s.mw (jAddr j + 4)) 0 16 = q → getBits (s.mw (jAddr j + 4)) 16 3 = p →
          parAt par bad 0 = .clean → (∀ g : Fin 2, g.val = p → (s.host[g].filter fun a => !a.accepted).length < 4) → ∃ t,
          exec row s = .next t ∧ tells t p x o false (respFrame q (s.mb (jAddr j + 7)).toNat (s.mb (jAddr j + 9)).toNat
            (s.mb (jAddr j + 10)).toNat (s.mb (jAddr j + 11)).toNat 0 []) ∧ t.cmds = [] ∧ t.mem = s.mem) ∧
        (∀ (n : BitVec 16) (pl : List Byte), b = frame n.toNat opPing 4 pl → pl.length ≤ 252 → s.cmds = [] → s.full p = false →
          s.mode ≠ mHoldup → ∃ t, exec row s = .next t ∧ tells t p x o true (respFrame n.toNat opPing rOk 0xFF rOk 0 pl) ∧
          t.cmds = [] ∧ t.mem = s.mem ∧ t.f (F.CMD_PORTSTAT_last_seq p) = last)
      (s.portLive h = true → arrives (.hostWriteFrame h b par bad) h.val []
        (.host h (0 :: List.replicate b.length (BitVec.ofNat 8 (min 255 s.host[h].length))) :: s.out) free) ∧
      (s.portLive (2 + i) = true → s.rxq[i] = [] → arrives (.commandDatagram i src b par bad) (2 + i.val) src s.out freeN ∧
        ∃ t, exec (.commandDatagram i src b par bad) s = .next t ∧ t.netLast[i] = some s.cyc) ∧
      (s.portLive h = false → ∀ n, ∀ row ∈ [Instr.hostWriteFrame h b par bad, .hostReadResponse h n, .hostBadInstruction ⟨h, n⟩],
        exec row s = .next s) ∧
      (s.portLive (2 + i) = false → exec (.commandDatagram i src b par bad) s = .next s) ∧
      (s.portLive h = true → ∀ n : Nat,
        (s.host[h] = [] → ∃ t, exec (.hostReadResponse h n) s = .next t ∧ t.host = s.host ∧
          t.out = .host h (List.replicate (n + 1) 0) :: s.out) ∧
        (∀ r l, s.host[h] = r :: l →
          let x := BitVec.ofNat 8 (min 255 (l.length + 1)) :: leBytes r.bytes.length 2 ++ r.bytes
          ∃ t, exec (.hostReadResponse h n) s = .next t ∧ t.host[h] = (if x.length ≤ n then l else r :: l) ∧
            t.out = .host h (0 :: (x.take n ++ List.replicate (n - x.length) 0)) :: s.out ∧ t.regs = s.regs) ∧
        ∃ t, exec (.hostBadInstruction ⟨h, n⟩) s = .next t ∧ t.out = .host h (List.replicate (n + 1) 0) :: s.out ∧
          t.f F.PRT_HSTAT_bad_instr = satInc F.PRT_HSTAT_bad_instr.wd (s.f F.PRT_HSTAT_bad_instr) ∧
          t.fb ⟨A.PRT_EVT, h, 1⟩ = true ∧ t.host = s.host ∧ t.cmds = s.cmds)) ∧
  (∀ (s : State) (i : Fin 2) (b sa sha spa tpa : List Byte) (par : List Par) (bad : Fin 63) (data : BitVec 16),
      let heard (t : State) : Prop := t.netLast[i] = some s.cyc
      let id := s.netId[i]
      let reply (x : List Byte) : Out := .net i 5 (sha ++ x) (arpPacket 2 id.mac id.ip sha spa)
      let right : Prop := 64 ≤ b.length ∧ b.length ≤ 1522 ∧ crc32 (b.take (b.length - 4)) = BitVec.ofNat 32 (bytesAt b (b.length - 4) 4)
      (s.portLive (2 + i) = false → ∀ hold, exec (.ethernetFrame i b hold par bad) s = .next s ∧
        exec (.arpRequest i sha spa tpa) s = .next s ∧ exec (.notification i) s = .next s) ∧
      (s.portLive (2 + i) = true →
        (¬right → ∀ hold, hold = true ∨ s.rxq[i] = [] → ∃ t, exec (.ethernetFrame i b hold par bad) s = .next t ∧ heard t ∧
          t.fb ⟨A.PRT_EVT, 2 + i, 1⟩ = true ∧ t.rxq = s.rxq ∧ t.cmds = s.cmds ∧ t.out = s.out) ∧
        (right → 4 ≤ s.rxq[i].length → ∃ t, exec (.ethernetFrame i b true par bad) s = .next t ∧ heard t ∧
          t.f (F.PRT_NCNT_rx_drop i) = satInc (F.PRT_NCNT_rx_drop i).wd (s.f (F.PRT_NCNT_rx_drop i)) ∧
          t.fb ⟨A.PRT_EVT, 2 + i, 1⟩ = true ∧ t.rxq = s.rxq ∧ t.cmds = s.cmds ∧ t.out = s.out) ∧
        (right → s.rxq[i].length < 4 → ∃ t, exec (.ethernetFrame i b true par bad) s = .next t ∧ heard t ∧
          t.rxq[i] = s.rxq[i] ++ [⟨b, par, bad⟩] ∧ t.cmds = s.cmds ∧ t.out = s.out ∧ t.regs = s.regs) ∧
        (∀ tha pad, sha.length = 6 → spa.length = 4 → tha.length = 6 → sa.length = 6 → id.ip.length = 4 → s.rxq[i] = [] →
          let c := List.replicate 6 0xFF ++ sa ++ [8, 6, 0, 1, 8, 0, 6, 4, 0, 1] ++ sha ++ spa ++ tha ++ id.ip ++ pad
          b = c ++ wordBytes (crc32 c) → 64 ≤ b.length → b.length ≤ 1522 → ∃ t,
            exec (.ethernetFrame i b false par bad) s = .next t ∧ heard t ∧ t.out = reply [] :: s.out ∧ t.cmds = s.cmds) ∧
        (s.rxq[i] = [] → ∃ t, exec (.arpRequest i sha spa tpa) s = .next t ∧ heard t ∧ t.cmds = s.cmds ∧
          t.out = (if tpa = id.ip then reply [] :: s.out else s.out)) ∧
        (∀ ip f x n pl, sa.length = 6 → id.mac.length = 6 → s.udpOf i ip = some (f, x) → f = frame n opPing 4 pl → n < 65536 →
          pl.length ≤ 252 → s.rxq[i] = [] →
          let c := id.mac ++ sa ++ [8, 0] ++ ip
          b = c ++ wordBytes (crc32 c) → 64 ≤ b.length → b.length ≤ 1522 → id.etype ≠ 0x0800 → s.cmds = [] →
          s.full (2 + i) = false → s.mode ≠ mHoldup → ∃ t, exec (.ethernetFrame i b false par bad) s = .next t ∧ heard t ∧
            t.out = .net i 0 (sa ++ x) (respFrame n opPing rOk 0xFF rOk 0 pl) :: s.out) ∧
        (s.fb (F.PRT_NNOTE_en i) = true → s.noteGap i = true → s.ports[(2 + i.val)].src ≠ [] →
          (∃ j : Fin 4, s.reg (A.SYS_EVPND (2 + i) j) ≠ 0) → ∃ t, exec (.notification i) s = .next t ∧
          t.noteAt[i] = some s.cyc ∧ (∀ j < 4, t.reg (A.SYS_EVPND (2 + i) j) = 0) ∧
          t.out = .net i 4 (s.ports[(2 + i.val)].src.take 6 ++ beBytes (s.f (F.PRT_NDST_IP_ip i)) 4 ++
              beBytes (s.f (F.PRT_NNOTE_dport i)) 2)
            (frame 0 0x7F 5 (([0, 1, 2, 3].flatMap fun j => wordBytes (s.reg (A.SYS_EVPND (2 + i) j))) ++
              wordBytes (s.reg A.SYS_RTC_SEC))) :: s.out)) ∧
      (s.fb (F.PRT_NNOTE_en i) = false ∨ s.noteGap i = false ∨ (∀ j < 4, s.reg (A.SYS_EVPND (2 + i) j) = 0) →
        exec (.notification i) s = .next s) ∧
      (s.fb F.PRT_MDIO_busy = true → ∃ t, exec (.mdioDone data) s = .next t ∧ t.fb F.PRT_MDIO_busy = false ∧
        (s.fb F.PRT_MDIO_wr = false → t.f F.PRT_MDIO_data = data.toNat) ∧
        (s.fb F.PRT_MDIO_wr = true → t.f F.PRT_MDIO_data = s.f F.PRT_MDIO_data) ∧ t.fb ⟨A.PRT_EVT, 7, 1⟩ = true ∧ t.ctx = s.ctx) ∧
      (s.fb F.PRT_MDIO_busy = false → exec (.mdioDone data) s = .next s)) ∧
  (∀ (s : State) (acc t h late own : BitVec 16) (n : Byte) (fl : BitVec 2) (data : Word) (g : Fin 4) (x : ParityWord),
      s.peerOn = true →
      let sends (r : Instr) : Prop := ∃ u, exec r s = .next u ∧ u.ringWait = true ∧ u.out = .peer 3 [0, 0] :: s.out ∧ u.regs = s.regs
      (s.leads = true → s.fb F.PRT_PSTAT_up = false →
        (s.ringWait = false → s.ringLost = false → (∀ pos : Fin 8, pos.val + 1 = s.f F.PRT_PCFG_n → sends (.peerStatusWord pos fl)) ∧
          exec .ringRetry s = .next s) ∧
        (s.ringWait = true ∨ s.ringLost = true → sends .ringRetry ∧ ∀ pos, exec (.peerStatusWord pos fl) s = .next s) ∧
        (s.ringWait = true → s.f F.PRT_PCFG_n ≠ 0 → acc.toNat ≤ t.toNat →
          let m := (2 * (t.toNat - acc.toNat) + s.f F.PRT_PCFG_n) / (2 * s.f F.PRT_PCFG_n)
          ∃ u, exec (.ringTrip acc t) s = .next u ∧ u.fb F.PRT_PSTAT_up = true ∧ u.ringWait = false ∧ u.ringLost = false ∧
            u.f F.PRT_PHOP_meas = m % 2 ^ F.PRT_PHOP_meas.wd ∧ u.fb ⟨A.PRT_EVT, 4, 1⟩ = true ∧
            u.out = .peer 4 (leBytes m 2 ++ [BitVec.ofNat 8 (s.f F.PRT_PCFG_n)]) :: s.out)) ∧
      (s.leads = false ∨ s.fb F.PRT_PSTAT_up = true → ∀ pos, exec (.peerStatusWord pos fl) s = .next s ∧ exec .ringRetry s = .next s) ∧
      (s.leads = false →
        (∃ u, exec (.ringTrip acc t) s = .next u ∧ u.out = .peer 3 (leBytes (acc.toNat + t.toNat) 2) :: s.out ∧ u.regs = s.regs) ∧
        (∃ u, exec (.ringResult h n) s = .next u ∧ u.fb F.PRT_PSTAT_up = true ∧ u.ringLost = false ∧
          u.f F.PRT_PHOP_meas = h.toNat % 2 ^ F.PRT_PHOP_meas.wd ∧
          u.out = (if s.forwards then .peer 4 (leBytes h.toNat 2 ++ [n]) :: s.out else s.out)) ∧
        (∀ b : Nat, ∃ u, exec (.carrierPhaseWord late own data b) s = .next u ∧ u.etime = max s.etime b ∧ u.regs = s.regs ∧
          u.out = (if s.forwards then
            .peer 1 (leBytes ((late.toNat : Int) + s.hop + own.toNat).toNat 2 ++ wordBytes data) :: s.out else s.out) ∧
          (s.fb F.PRT_PSTAT_up = false → u.stg = s.stg) ∧
          (s.fb F.PRT_PSTAT_up = true → ∀ k : Stage, u.stg[k] =
            (if s.f (F.STG_SYNC_src k) = 3 ∧ s.tbRuns k = true then
              { s.stg[k] with src := some ((b : Int) - 384 - s.hop - late.toNat).toNat, srcAge := 0 }
            else if s.f (F.STG_SYNC_src k) = 3 ∧ s.stgSt k ≠ stOff then u.stg[k] else s.stg[k]))) ∧
        (let v := s.toInstant x.t
          let c := ((x.t : Int) - 384 - s.hop).toNat
          let a := (BitVec.ofInt 32 (v.thetaAt g c)).toInt + turnsOf (s.f (F.GRD_FREQ_f g)) ((s.grd[g].tEval : Int) - c)
          ∃ u, exec (.injectionParityWord g x) s = .next u ∧ u.etime = max s.etime x.t ∧
            u.out = (if s.forwards then .peer 2 [BitVec.ofNat 8 (g.val + 4 * b2n x.p)] :: s.out else s.out) ∧
            u.fb (F.ISL_STAT_p g) = (if s.fb (F.ISL_CTL_en g) = true ∧ s.f (F.ISL_COH_mode g) = 2 ∧
              s.fb (F.ISL_STAT_peer_lost g) = false then (if 0 ≤ a then x.p else !x.p) else s.fb (F.ISL_STAT_p g)) ∧
            ∀ j : Fin 4, j ≠ g → u.reg (A.ISL_STAT j) = s.reg (A.ISL_STAT j))) ∧
      (s.leads = true → ∀ b : Nat, exec (.ringResult h n) s = .next s ∧ exec (.injectionParityWord g x) s = .next (s.toInstant x.t) ∧
        ∃ u, exec (.carrierPhaseWord late own data b) s = .next u ∧ u.stg = s.stg ∧ u.out = s.out) ∧
      (s.fb F.PRT_PSTAT_up = true → ∃ u, exec .ringLost s = .next u ∧ u.fb F.PRT_PSTAT_up = false ∧ u.ringLost = true ∧
        u.fb ⟨A.PRT_EVT, 5, 1⟩ = true ∧ ∀ j : Fin 4, s.fb (F.ISL_CTL_en j) = true → s.f (F.ISL_COH_mode j) = 2 →
          u.fb (F.ISL_STAT_peer_lost j) = true) ∧
      (s.fb F.PRT_PSTAT_up = false → ∃ u, exec .ringLost s = .next u ∧ u.ringWait = false ∧ u.regs = s.regs ∧ u.out = s.out)) ∧
  (∀ (s : State) (o : Fin 8), s.peerOn = true →
      (s.fb F.PRT_PCFG_relay_en = true → o.val ≠ s.f F.PRT_PCFG_pos → (∀ n : Link, s.lnkSt n ≠ lSeq ∧ s.lnk[n].cfg = []) →
        s.cmds = [] → ∃ u, exec (.partingRelay o) s = .next u ∧ (∀ n : Link, u.lnkSt n = lPart) ∧
          u.f F.PRT_PSTAT_last_relay = o.val ∧ u.fb ⟨A.PRT_EVT, 6, 1⟩ = true ∧
          ((s.f F.PRT_PCFG_pos + 1) % s.f F.PRT_PCFG_n ≠ o.val → .peer 6 [BitVec.ofNat 8 o.val] ∈ u.out) ∧
          ((s.f F.PRT_PCFG_pos + 1) % s.f F.PRT_PCFG_n = o.val → ∀ y b, y ∈ u.out → y = .peer 6 b → y ∈ s.out) ∧
          s.out <:+ u.out ∧ u.slots = [] ∧ u.imms = [] ∧
          (s.anySwitching = false → s.swHeld = [] → u.mode = s.mode ∧ u.f F.FLT_CLAST_code = 0x2F00 + o.val) ∧
          (s.anySwitching = true → s.fb F.FLT_STAT_open = false → u.fb F.FLT_STAT_open = true ∧
            u.f F.FLT_FIRST_code = 0x2F00 + o.val ∧ u.f F.FLT_FIRST_cls = 2 ∧ (isSwitchMode s.mode = true → u.mode = mFaultHold))) ∧
      (s.fb F.PRT_PCFG_relay_en = false ∨ o.val = s.f F.PRT_PCFG_pos → exec (.partingRelay o) s = .next s))

/-- The Devar port in use, outside RESET: the key opens the session, a wrong one counts and locks out, each try in a
lockout is refused; LOCK closes it. While it is open a memory word is read, and a clock register written, with the
answer's status, data and CRC; closed, both are refused. A bad packet is answered BAD_FRAME, or refused as all are
while the port is not in use; a wrong CRC is counted in both cases. A lockout ends. The rows UNLOCK, LOCK, DEVAR_READ,
DEVAR_WRITE, DEVAR_BAD_PACKET, DEVAR_IDLE_ABANDON and UNLOCK_LOCKOUT_END (R419 to R423, R431). The debugger on an open
session: a halt stops the contexts in RUN and WAIT of the engines it names, with cause 1 and, while a stage switches,
class A type 0x0B; a run lets each go on in the state it had; a step of a halted context issues one instruction, here
an ADD, and halts again with cause 5; nothing steps that is not halted. A breakpoint halts its engine before the
instruction it names, with cause 2; the instruction's own row, here an ADD, does so too. The rows DEBUG_HALT,
DEBUG_RUN, DEBUG_STEP and BREAKPOINT_HALT (R357, R424 to R427). -/
def Obligations.DebugPort : Prop :=
  (∀ (s : State) (key a v : Word) (tag : BitVec 4) (par : Par) (q : StepPar), s.mode ≠ mReset →
      let ans (r : Nat) (data : List Byte) : Out :=
        .devar ((BitVec.ofNat 8 (r + 16 * tag.toNat) :: data) ++ [BitVec.ofNat 8 (crc8 (BitVec.ofNat 8 (r + 16 * tag.toNat) :: data))])
      let tells (i : Instr) (r : Nat) (data : List Byte) (P : State → Prop) : Prop :=
        ∃ t, exec i s = .next t ∧ t.out = ans r data :: s.out ∧ t.ctx = s.ctx ∧ t.mem = s.mem ∧ P t
      let same (t : State) : Prop := t.regs = s.regs
      let unlocked := s.fb F.DBG_STAT_unlocked
      (s.fb F.DBG_STAT_port_en = false → tells (.unlock key tag) rAuthority [] same ∧ tells (.lock tag) rAuthority [] same ∧
        tells (.devarRead a tag par) rAuthority [0, 0, 0, 0] same ∧ tells (.devarWrite a v tag q) rAuthority [] same ∧
        ∀ op : BitVec 4, tells (.devarBadPacket true op tag) rAuthority (if op = 1 then [0, 0, 0, 0] else []) fun t =>
          t.f F.DBG_CNT_crc = satInc F.DBG_CNT_crc.wd (s.f F.DBG_CNT_crc)) ∧
      (s.fb F.DBG_STAT_port_en = true →
        (s.fb F.DBG_STAT_blocked = true ∨ s.fb F.DBG_STAT_lockout = true → tells (.unlock key tag) rMode [] fun t =>
          t.fb F.DBG_STAT_unlocked = unlocked) ∧
        (s.fb F.DBG_STAT_blocked = false → s.fb F.DBG_STAT_lockout = false →
          (key = s.reg 0xB0040 → tells (.unlock key tag) rOk [] fun t => t.fb F.DBG_STAT_unlocked = true) ∧
          (key ≠ s.reg 0xB0040 → tells (.unlock key tag) rAuthority [] fun t => t.fb F.DBG_STAT_unlocked = unlocked ∧
            t.fb F.DBG_STAT_lockout = true ∧ t.f F.DBG_STAT_fails = satInc F.DBG_STAT_fails.wd (s.f F.DBG_STAT_fails))) ∧
        (tells (.lock tag) rOk [] fun t => t.fb F.DBG_STAT_unlocked = false) ∧
        (unlocked = true → a.toNat % 4 = 0 → mapped a.toNat = true → 0x100000 ≤ a.toNat →
          a.toNat < 0x340000 ∨ 0x360000 ≤ a.toNat → tells (.devarRead a tag .clean) rOk (wordBytes (s.mw a.toNat)) same) ∧
        (unlocked = true → a.toNat % 4 ≠ 0 ∨ mapped a.toNat = false → tells (.devarRead a tag par) rBadArg [0, 0, 0, 0] same) ∧
        (unlocked = false → a.toNat ≠ A.DBG_STAT → tells (.devarRead a tag par) rAuthority [0, 0, 0, 0] same) ∧
        (unlocked = true → (s.judge 5 [⟨a.toNat, v⟩]).1 = rOk → a.toNat / 0x10000 = 2 → (rowAt a.toNat).w1c = 0 →
          (rowAt a.toNat).rs = 0 → (rowAt a.toNat).rw ≠ 0 → tells (.devarWrite a v tag q) rOk [] fun t => t.reg a.toNat =
            (s.reg a.toNat &&& ~~~BitVec.ofNat 32 (rowAt a.toNat).rw) ||| (v &&& BitVec.ofNat 32 (rowAt a.toNat).rw)) ∧
        (unlocked = true → (s.judge 5 [⟨a.toNat, v⟩]).1 ≠ rOk → tells (.devarWrite a v tag q) (s.judge 5 [⟨a.toNat, v⟩]).1 [] fun t =>
          t.f F.DBG_CNT_refused = satInc F.DBG_CNT_refused.wd (s.f F.DBG_CNT_refused)) ∧
        (unlocked = false → tells (.devarWrite a v tag q) rAuthority [] fun t =>
          t.f F.DBG_CNT_refused = satInc F.DBG_CNT_refused.wd (s.f F.DBG_CNT_refused)) ∧
        (∀ op : BitVec 4, (tells (.devarBadPacket true op tag) rBadFrame (if op = 1 then [0, 0, 0, 0] else []) fun t =>
            t.f F.DBG_CNT_crc = satInc F.DBG_CNT_crc.wd (s.f F.DBG_CNT_crc)) ∧
          (op = 0 ∨ 4 < op.toNat → tells (.devarBadPacket false op tag) rBadFrame [] same))) ∧
      exec .devarIdleAbandon s = .next s ∧
      (∃ t, exec .unlockLockoutEnd s = .next t ∧ t.fb F.DBG_STAT_lockout = false ∧ t.fb F.DBG_STAT_unlocked = unlocked ∧ t.ctx = s.ctx)) ∧
  (∀ (s : State) (m : Fin 7) (all : Bool) (e : CtxId) (par : Par),
      (s.letsWrite 5 A.DBG_CTL (dbgWord m 0 1 all) →
        (s.anySwitching = false → s.cmds = [] → ∃ t, exec (.debugHalt m all) s = .next t ∧
          t.out = .access rOk (dbgWord m 0 1 all) :: s.out ∧
          (∀ e : CtxId, all = true ∨ e ∈ ctxsOf m → t.ctx[e] =
            (if s.ctx[e].st = .run ∨ s.ctx[e].st = .wait then { s.ctx[e] with st := .halt, prev := s.ctx[e].st } else s.ctx[e]) ∧
            (s.ctx[e].st = .run ∨ s.ctx[e].st = .wait → t.f (F.DBG_ESTAT_cause (engineOf e)) = 1)) ∧
          ∀ e, all = false → e ∉ ctxsOf m → t.ctx[e] = s.ctx[e]) ∧
        (s.anySwitching = true → all = false → (∃ e ∈ ctxsOf m, s.ctx[e].st = .run ∨ s.ctx[e].st = .wait) → ∃ u : State,
          exec (.debugHalt m all) s = .next ((u.report (0x0B00 + m.val) .A 0).emit (.access rOk (dbgWord m 0 1 all))) ∧
          ∀ e ∈ ctxsOf m, u.ctx[e].st ≠ .run ∧ u.ctx[e].st ≠ .wait)) ∧
      (s.letsWrite 5 A.DBG_CTL (dbgWord m 0 2 all) → ∃ t, exec (.debugRun m all) s = .next t ∧
        (∀ e : CtxId, all = true ∨ e ∈ ctxsOf m → s.ctx[e].st = .halt →
          (s.ctx[e].prev = .run → t.ctx[e] = { s.ctx[e] with st := .run, bpSkip := 1 }) ∧
          (s.ctx[e].prev = .wait → s.ctx[e].latch = false → t.ctx[e] = { s.ctx[e] with st := .wait, bpSkip := 1 })) ∧
        (∀ e, s.ctx[e].st ≠ .halt ∨ all = false ∧ e ∉ ctxsOf m → t.ctx[e] = s.ctx[e])) ∧
      (s.letsWrite 5 A.DBG_CTL (dbgWord (engineOf e) (ctxBit e) 3 false) →
        (s.ctx[e].st = .halt → s.ctx[e].prev = .run → s.ctx[e].pc < pcLimit e → ∀ d a b,
          decodeFj e (s.mw (imemAddr e s.ctx[e].pc)) par = some (.add e d a b) → ∃ t, exec (.debugStep e ⟨none, par⟩) s = .next t ∧
          t.ctx[e].st = .halt ∧ t.ctx[e].prev = .run ∧ t.ctx[e].pc = s.ctx[e].pc + 1 ∧
          t.ctx[e].rd d = (if d = 0 then 0 else s.ctx[e].rd a + s.ctx[e].rd b) ∧ s.keepsV e [d] t ∧
          t.f (F.DBG_ESTAT_cause (engineOf e)) = 5 ∧ ∀ x, x ≠ e → t.ctx[x] = s.ctx[x]) ∧
        (s.ctx[e].st ≠ .halt → ∃ t, exec (.debugStep e ⟨none, par⟩) s = .next t ∧ t.ctx = s.ctx ∧ t.mem = s.mem)) ∧
      (∀ i : Nat, s.ctx[e].st = .run → s.bpStop e = some i →
        (s.anySwitching = false → ∃ t, exec (.breakpointHalt e) s = .next t ∧ t.ctx[e] = { s.ctx[e] with st := .halt, prev := .run } ∧
          (∀ x ∈ ctxsOf (engineOf e), t.ctx[x].st ≠ .run ∧ t.ctx[x].st ≠ .wait) ∧
          t.f (F.DBG_ESTAT_cause (engineOf e)) = 2 ∧ t.f (F.DBG_ESTAT_index (engineOf e)) = i ∧
          ∀ x, x ∉ ctxsOf (engineOf e) → t.ctx[x] = s.ctx[x]) ∧
        (s.anySwitching = true → ∃ u : State, exec (.breakpointHalt e) s =
          .next (u.report (0x0B00 + (engineOf e).val) .A 0) ∧ u.ctx[e] = { s.ctx[e] with st := .halt, prev := .run })) ∧
      (∀ i d a b, s.ctx[e].st = .run → s.bpStop e = some i → exec (.add e d a b) s = exec (.breakpointHalt e) s) ∧
      (s.ctx[e].st ≠ .run ∨ s.bpStop e = none → exec (.breakpointHalt e) s = .next s))
end

