-- ==== Sys2Proof/Laws/Encoding.lean ====
section
/-! SUPPORT. The fields of an encoded word read back what was put into them (R84). -/

namespace Sys2Proof

theorem toNat_append_add {m n : Nat} (x : BitVec m) (y : BitVec n) : (x ++ y).toNat = x.toNat * 2 ^ n + y.toNat := by
  rw [BitVec.toNat_append, ← Nat.shiftLeft_add_eq_or_of_lt y.isLt, Nat.shiftLeft_eq]

theorem toNat_regWord (op : BitVec 6) (d a b : VReg) (fx : BitVec 6) (lit : BitVec 5) :
    (regWord op d a b fx lit).toNat =
      ((((op.toNat * 32 + d.toNat) * 32 + a.toNat) * 32 + b.toNat) * 64 + fx.toNat) * 32 + lit.toNat := by
  show (op ++ d ++ a ++ b ++ fx ++ lit).toNat = _
  simp only [toNat_append_add]; try rfl

theorem toNat_immWord (op : BitVec 6) (d a : VReg) (imm : BitVec 16) :
    (immWord op d a imm).toNat = ((op.toNat * 32 + d.toNat) * 32 + a.toNat) * 65536 + imm.toNat := by
  show (op ++ d ++ a ++ imm).toNat = _
  simp only [toNat_append_add]; try rfl

section
variable (op : BitVec 6) (d a b : VReg) (fx : BitVec 6) (lit : BitVec 5) (imm : BitVec 16)

@[simp] theorem fjOp_regWord : fjOp (regWord op d a b fx lit) = op := by
  apply BitVec.eq_of_toNat_eq
  unfold fjOp
  rw [BitVec.extractLsb'_toNat, toNat_regWord, Nat.shiftRight_eq_div_pow]
  omega

@[simp] theorem fjD_regWord : fjD (regWord op d a b fx lit) = d := by
  apply BitVec.eq_of_toNat_eq
  unfold fjD
  rw [BitVec.extractLsb'_toNat, toNat_regWord, Nat.shiftRight_eq_div_pow]
  omega

@[simp] theorem fjA_regWord : fjA (regWord op d a b fx lit) = a := by
  apply BitVec.eq_of_toNat_eq
  unfold fjA
  rw [BitVec.extractLsb'_toNat, toNat_regWord, Nat.shiftRight_eq_div_pow]
  omega

@[simp] theorem fjB_regWord : fjB (regWord op d a b fx lit) = b := by
  apply BitVec.eq_of_toNat_eq
  unfold fjB
  rw [BitVec.extractLsb'_toNat, toNat_regWord, Nat.shiftRight_eq_div_pow]
  omega

@[simp] theorem fjFx_regWord : fjFx (regWord op d a b fx lit) = fx := by
  apply BitVec.eq_of_toNat_eq
  unfold fjFx
  rw [BitVec.extractLsb'_toNat, toNat_regWord, Nat.shiftRight_eq_div_pow]
  omega

@[simp] theorem fjLit_regWord : fjLit (regWord op d a b fx lit) = lit := by
  apply BitVec.eq_of_toNat_eq
  unfold fjLit
  rw [BitVec.extractLsb'_toNat, toNat_regWord, Nat.shiftRight_eq_div_pow]
  omega

@[simp] theorem fjOp_immWord : fjOp (immWord op d a imm) = op := by
  apply BitVec.eq_of_toNat_eq
  unfold fjOp
  rw [BitVec.extractLsb'_toNat, toNat_immWord, Nat.shiftRight_eq_div_pow]
  omega

@[simp] theorem fjD_immWord : fjD (immWord op d a imm) = d := by
  apply BitVec.eq_of_toNat_eq
  unfold fjD
  rw [BitVec.extractLsb'_toNat, toNat_immWord, Nat.shiftRight_eq_div_pow]
  omega

@[simp] theorem fjA_immWord : fjA (immWord op d a imm) = a := by
  apply BitVec.eq_of_toNat_eq
  unfold fjA
  rw [BitVec.extractLsb'_toNat, toNat_immWord, Nat.shiftRight_eq_div_pow]
  omega

@[simp] theorem fjImm_immWord : fjImm (immWord op d a imm) = imm := by
  apply BitVec.eq_of_toNat_eq
  unfold fjImm
  rw [BitVec.extractLsb'_toNat, toNat_immWord, Nat.shiftRight_eq_div_pow]
  omega

end

/-- The parts of the imm16 of a PLAN (R122). -/
theorem planImm_parts (mode p : BitVec 2) (sw : BitVec 7) :
    (planImm mode p sw).extractLsb' 0 7 = sw ∧ (planImm mode p sw).extractLsb' 8 2 = p ∧
    (planImm mode p sw).extractLsb' 10 2 = mode ∧ (planImm mode p sw).extractLsb' 7 1 = 0 ∧
    (planImm mode p sw).extractLsb' 12 4 = 0 := by
  have h : (planImm mode p sw).toNat = (mode.toNat * 4 + p.toNat) * 256 + sw.toNat := by
    show ((0 : BitVec 4) ++ mode ++ p ++ (0 : BitVec 1) ++ sw).toNat = _
    simp only [toNat_append_add]
    show ((((0 : BitVec 4).toNat * 4 + mode.toNat) * 4 + p.toNat) * 2 + (0 : BitVec 1).toNat) * 128 + sw.toNat = _
    simp
    omega
  refine ⟨?_, ?_, ?_, ?_, ?_⟩ <;>
    · apply BitVec.eq_of_toNat_eq
      rw [BitVec.extractLsb'_toNat, h, Nat.shiftRight_eq_div_pow]
      simp
      try omega

end Sys2Proof
end

