-- ==== Sys2Proof/Laws/State.lean ====
section
/-! SUPPORT. What each update of the state leaves alone: one lemma per field and update. -/

namespace Sys2Proof.Machine

variable (s : State)

/-! ### setReg -/
@[simp] theorem State.setReg_mem (a : Nat) (v : Word) : (s.setReg a v).mem = s.mem := rfl
@[simp] theorem State.setReg_ctx (a : Nat) (v : Word) : (s.setReg a v).ctx = s.ctx := rfl
@[simp] theorem State.setReg_stg (a : Nat) (v : Word) : (s.setReg a v).stg = s.stg := rfl
@[simp] theorem State.setReg_lnk (a : Nat) (v : Word) : (s.setReg a v).lnk = s.lnk := rfl
@[simp] theorem State.setReg_slots (a : Nat) (v : Word) : (s.setReg a v).slots = s.slots := rfl
@[simp] theorem State.setReg_imms (a : Nat) (v : Word) : (s.setReg a v).imms = s.imms := rfl
@[simp] theorem State.setReg_ent (a : Nat) (v : Word) : (s.setReg a v).ent = s.ent := rfl
@[simp] theorem State.setReg_scanPend (a : Nat) (v : Word) : (s.setReg a v).scanPend = s.scanPend := rfl
@[simp] theorem State.setReg_calRun (a : Nat) (v : Word) : (s.setReg a v).calRun = s.calRun := rfl
@[simp] theorem State.setReg_calDone (a : Nat) (v : Word) : (s.setReg a v).calDone = s.calDone := rfl
@[simp] theorem State.setReg_dacIdx (a : Nat) (v : Word) : (s.setReg a v).dacIdx = s.dacIdx := rfl
@[simp] theorem State.setReg_dacBad (a : Nat) (v : Word) : (s.setReg a v).dacBad = s.dacBad := rfl
@[simp] theorem State.setReg_dacFail (a : Nat) (v : Word) : (s.setReg a v).dacFail = s.dacFail := rfl
@[simp] theorem State.setReg_midFail (a : Nat) (v : Word) : (s.setReg a v).midFail = s.midFail := rfl
@[simp] theorem State.setReg_adcLast (a : Nat) (v : Word) : (s.setReg a v).adcLast = s.adcLast := rfl
@[simp] theorem State.setReg_adcDue (a : Nat) (v : Word) : (s.setReg a v).adcDue = s.adcDue := rfl
@[simp] theorem State.setReg_midAcc (a : Nat) (v : Word) : (s.setReg a v).midAcc = s.midAcc := rfl
@[simp] theorem State.setReg_cmpPow (a : Nat) (v : Word) : (s.setReg a v).cmpPow = s.cmpPow := rfl
@[simp] theorem State.setReg_cmpFrom (a : Nat) (v : Word) : (s.setReg a v).cmpFrom = s.cmpFrom := rfl
@[simp] theorem State.setReg_cmpDec (a : Nat) (v : Word) : (s.setReg a v).cmpDec = s.cmpDec := rfl
@[simp] theorem State.setReg_cmpThr (a : Nat) (v : Word) : (s.setReg a v).cmpThr = s.cmpThr := rfl
@[simp] theorem State.setReg_grd (a : Nat) (v : Word) : (s.setReg a v).grd = s.grd := rfl
@[simp] theorem State.setReg_isl (a : Nat) (v : Word) : (s.setReg a v).isl = s.isl := rfl
@[simp] theorem State.setReg_mtr (a : Nat) (v : Word) : (s.setReg a v).mtr = s.mtr := rfl
@[simp] theorem State.setReg_saveLast (a : Nat) (v : Word) : (s.setReg a v).saveLast = s.saveLast := rfl
@[simp] theorem State.setReg_finalSave (a : Nat) (v : Word) : (s.setReg a v).finalSave = s.finalSave := rfl
@[simp] theorem State.setReg_saveCut (a : Nat) (v : Word) : (s.setReg a v).saveCut = s.saveCut := rfl
@[simp] theorem State.setReg_tStop (a : Nat) (v : Word) : (s.setReg a v).tStop = s.tStop := rfl
@[simp] theorem State.setReg_kT0 (a : Nat) (v : Word) : (s.setReg a v).kT0 = s.kT0 := rfl
@[simp] theorem State.setReg_pchOk (a : Nat) (v : Word) : (s.setReg a v).pchOk = s.pchOk := rfl
@[simp] theorem State.setReg_pchN (a : Nat) (v : Word) : (s.setReg a v).pchN = s.pchN := rfl
@[simp] theorem State.setReg_pchV0 (a : Nat) (v : Word) : (s.setReg a v).pchV0 = s.pchV0 := rfl
@[simp] theorem State.setReg_pchChk (a : Nat) (v : Word) : (s.setReg a v).pchChk = s.pchChk := rfl
@[simp] theorem State.setReg_pchOv (a : Nat) (v : Word) : (s.setReg a v).pchOv = s.pchOv := rfl
@[simp] theorem State.setReg_pchOverlap (a : Nat) (v : Word) : (s.setReg a v).pchOverlap = s.pchOverlap := rfl
@[simp] theorem State.setReg_pchExit (a : Nat) (v : Word) : (s.setReg a v).pchExit = s.pchExit := rfl
@[simp] theorem State.setReg_pairA (a : Nat) (v : Word) : (s.setReg a v).pairA = s.pairA := rfl
@[simp] theorem State.setReg_pairB (a : Nat) (v : Word) : (s.setReg a v).pairB = s.pairB := rfl
@[simp] theorem State.setReg_lsA (a : Nat) (v : Word) : (s.setReg a v).lsA = s.lsA := rfl
@[simp] theorem State.setReg_lsB (a : Nat) (v : Word) : (s.setReg a v).lsB = s.lsB := rfl
@[simp] theorem State.setReg_chDiff (a : Nat) (v : Word) : (s.setReg a v).chDiff = s.chDiff := rfl
@[simp] theorem State.setReg_soDiff (a : Nat) (v : Word) : (s.setReg a v).soDiff = s.soDiff := rfl
@[simp] theorem State.setReg_tp (a : Nat) (v : Word) : (s.setReg a v).tp = s.tp := rfl
@[simp] theorem State.setReg_tpBad (a : Nat) (v : Word) : (s.setReg a v).tpBad = s.tpBad := rfl
@[simp] theorem State.setReg_tgWait (a : Nat) (v : Word) : (s.setReg a v).tgWait = s.tgWait := rfl
@[simp] theorem State.setReg_tgFx (a : Nat) (v : Word) : (s.setReg a v).tgFx = s.tgFx := rfl
@[simp] theorem State.setReg_safForce (a : Nat) (v : Word) : (s.setReg a v).safForce = s.safForce := rfl
@[simp] theorem State.setReg_so (a : Nat) (v : Word) : (s.setReg a v).so = s.so := rfl
@[simp] theorem State.setReg_soDrop (a : Nat) (v : Word) : (s.setReg a v).soDrop = s.soDrop := rfl
@[simp] theorem State.setReg_fltCyc (a : Nat) (v : Word) : (s.setReg a v).fltCyc = s.fltCyc := rfl
@[simp] theorem State.setReg_swCyc (a : Nat) (v : Word) : (s.setReg a v).swCyc = s.swCyc := rfl
@[simp] theorem State.setReg_fltEv (a : Nat) (v : Word) : (s.setReg a v).fltEv = s.fltEv := rfl
@[simp] theorem State.setReg_holdLen (a : Nat) (v : Word) : (s.setReg a v).holdLen = s.holdLen := rfl
@[simp] theorem State.setReg_holdMode (a : Nat) (v : Word) : (s.setReg a v).holdMode = s.holdMode := rfl
@[simp] theorem State.setReg_holdTrip (a : Nat) (v : Word) : (s.setReg a v).holdTrip = s.holdTrip := rfl
@[simp] theorem State.setReg_resumed (a : Nat) (v : Word) : (s.setReg a v).resumed = s.resumed := rfl
@[simp] theorem State.setReg_resumeLinks (a : Nat) (v : Word) : (s.setReg a v).resumeLinks = s.resumeLinks := rfl
@[simp] theorem State.setReg_recovMs (a : Nat) (v : Word) : (s.setReg a v).recovMs = s.recovMs := rfl
@[simp] theorem State.setReg_refHeld (a : Nat) (v : Word) : (s.setReg a v).refHeld = s.refHeld := rfl
@[simp] theorem State.setReg_refLost (a : Nat) (v : Word) : (s.setReg a v).refLost = s.refLost := rfl
@[simp] theorem State.setReg_softReset (a : Nat) (v : Word) : (s.setReg a v).softReset = s.softReset := rfl
@[simp] theorem State.setReg_resetAfterSave (a : Nat) (v : Word) : (s.setReg a v).resetAfterSave = s.resetAfterSave := rfl
@[simp] theorem State.setReg_railBad (a : Nat) (v : Word) : (s.setReg a v).railBad = s.railBad := rfl
@[simp] theorem State.setReg_bootDone (a : Nat) (v : Word) : (s.setReg a v).bootDone = s.bootDone := rfl
@[simp] theorem State.setReg_stestCyc (a : Nat) (v : Word) : (s.setReg a v).stestCyc = s.stestCyc := rfl
@[simp] theorem State.setReg_loopOk (a : Nat) (v : Word) : (s.setReg a v).loopOk = s.loopOk := rfl
@[simp] theorem State.setReg_gateEn (a : Nat) (v : Word) : (s.setReg a v).gateEn = s.gateEn := rfl
@[simp] theorem State.setReg_resetN (a : Nat) (v : Word) : (s.setReg a v).resetN = s.resetN := rfl
@[simp] theorem State.setReg_pfi (a : Nat) (v : Word) : (s.setReg a v).pfi = s.pfi := rfl
@[simp] theorem State.setReg_straps (a : Nat) (v : Word) : (s.setReg a v).straps = s.straps := rfl
@[simp] theorem State.setReg_alive (a : Nat) (v : Word) : (s.setReg a v).alive = s.alive := rfl
@[simp] theorem State.setReg_aliveRun (a : Nat) (v : Word) : (s.setReg a v).aliveRun = s.aliveRun := rfl
@[simp] theorem State.setReg_rbg (a : Nat) (v : Word) : (s.setReg a v).rbg = s.rbg := rfl
@[simp] theorem State.setReg_etime (a : Nat) (v : Word) : (s.setReg a v).etime = s.etime := rfl
@[simp] theorem State.setReg_eRun (a : Nat) (v : Word) : (s.setReg a v).eRun = s.eRun := rfl
@[simp] theorem State.setReg_everLock (a : Nat) (v : Word) : (s.setReg a v).everLock = s.everLock := rfl
@[simp] theorem State.setReg_cyc (a : Nat) (v : Word) : (s.setReg a v).cyc = s.cyc := rfl
@[simp] theorem State.setReg_rtcSub (a : Nat) (v : Word) : (s.setReg a v).rtcSub = s.rtcSub := rfl
@[simp] theorem State.setReg_rtcPend (a : Nat) (v : Word) : (s.setReg a v).rtcPend = s.rtcPend := rfl
@[simp] theorem State.setReg_hiLatch (a : Nat) (v : Word) : (s.setReg a v).hiLatch = s.hiLatch := rfl
@[simp] theorem State.setReg_synciLast (a : Nat) (v : Word) : (s.setReg a v).synciLast = s.synciLast := rfl
@[simp] theorem State.setReg_synco (a : Nat) (v : Word) : (s.setReg a v).synco = s.synco := rfl
@[simp] theorem State.setReg_scrub (a : Nat) (v : Word) : (s.setReg a v).scrub = s.scrub := rfl
@[simp] theorem State.setReg_hsLim (a : Nat) (v : Word) : (s.setReg a v).hsLim = s.hsLim := rfl
@[simp] theorem State.setReg_hsTmr (a : Nat) (v : Word) : (s.setReg a v).hsTmr = s.hsTmr := rfl
@[simp] theorem State.setReg_staged (a : Nat) (v : Word) : (s.setReg a v).staged = s.staged := rfl
@[simp] theorem State.setReg_cmds (a : Nat) (v : Word) : (s.setReg a v).cmds = s.cmds := rfl
@[simp] theorem State.setReg_nextId (a : Nat) (v : Word) : (s.setReg a v).nextId = s.nextId := rfl
@[simp] theorem State.setReg_ports (a : Nat) (v : Word) : (s.setReg a v).ports = s.ports := rfl
@[simp] theorem State.setReg_jLow (a : Nat) (v : Word) : (s.setReg a v).jLow = s.jLow := rfl
@[simp] theorem State.setReg_host (a : Nat) (v : Word) : (s.setReg a v).host = s.host := rfl
@[simp] theorem State.setReg_wq (a : Nat) (v : Word) : (s.setReg a v).wq = s.wq := rfl
@[simp] theorem State.setReg_pq (a : Nat) (v : Word) : (s.setReg a v).pq = s.pq := rfl
@[simp] theorem State.setReg_erasing (a : Nat) (v : Word) : (s.setReg a v).erasing = s.erasing := rfl
@[simp] theorem State.setReg_activeB (a : Nat) (v : Word) : (s.setReg a v).activeB = s.activeB := rfl
@[simp] theorem State.setReg_imgOf (a : Nat) (v : Word) : (s.setReg a v).imgOf = s.imgOf := rfl
@[simp] theorem State.setReg_netId (a : Nat) (v : Word) : (s.setReg a v).netId = s.netId := rfl
@[simp] theorem State.setReg_rxq (a : Nat) (v : Word) : (s.setReg a v).rxq = s.rxq := rfl
@[simp] theorem State.setReg_tgSrc (a : Nat) (v : Word) : (s.setReg a v).tgSrc = s.tgSrc := rfl
@[simp] theorem State.setReg_netLast (a : Nat) (v : Word) : (s.setReg a v).netLast = s.netLast := rfl
@[simp] theorem State.setReg_noteAt (a : Nat) (v : Word) : (s.setReg a v).noteAt = s.noteAt := rfl
@[simp] theorem State.setReg_dbgLim (a : Nat) (v : Word) : (s.setReg a v).dbgLim = s.dbgLim := rfl
@[simp] theorem State.setReg_ringWait (a : Nat) (v : Word) : (s.setReg a v).ringWait = s.ringWait := rfl
@[simp] theorem State.setReg_ringLost (a : Nat) (v : Word) : (s.setReg a v).ringLost = s.ringLost := rfl
@[simp] theorem State.setReg_peerSeq (a : Nat) (v : Word) : (s.setReg a v).peerSeq = s.peerSeq := rfl
@[simp] theorem State.setReg_free (a : Nat) (v : Word) : (s.setReg a v).free = s.free := rfl
@[simp] theorem State.setReg_out (a : Nat) (v : Word) : (s.setReg a v).out = s.out := rfl
@[simp] theorem State.setReg_pending (a : Nat) (v : Word) : (s.setReg a v).pending = s.pending := rfl

/-! ### put -/
@[simp] theorem State.put_mem (x : Fld) (v : Nat) : (s.put x v).mem = s.mem := rfl
@[simp] theorem State.put_ctx (x : Fld) (v : Nat) : (s.put x v).ctx = s.ctx := rfl
@[simp] theorem State.put_stg (x : Fld) (v : Nat) : (s.put x v).stg = s.stg := rfl
@[simp] theorem State.put_lnk (x : Fld) (v : Nat) : (s.put x v).lnk = s.lnk := rfl
@[simp] theorem State.put_slots (x : Fld) (v : Nat) : (s.put x v).slots = s.slots := rfl
@[simp] theorem State.put_imms (x : Fld) (v : Nat) : (s.put x v).imms = s.imms := rfl
@[simp] theorem State.put_ent (x : Fld) (v : Nat) : (s.put x v).ent = s.ent := rfl
@[simp] theorem State.put_scanPend (x : Fld) (v : Nat) : (s.put x v).scanPend = s.scanPend := rfl
@[simp] theorem State.put_calRun (x : Fld) (v : Nat) : (s.put x v).calRun = s.calRun := rfl
@[simp] theorem State.put_calDone (x : Fld) (v : Nat) : (s.put x v).calDone = s.calDone := rfl
@[simp] theorem State.put_dacIdx (x : Fld) (v : Nat) : (s.put x v).dacIdx = s.dacIdx := rfl
@[simp] theorem State.put_dacBad (x : Fld) (v : Nat) : (s.put x v).dacBad = s.dacBad := rfl
@[simp] theorem State.put_dacFail (x : Fld) (v : Nat) : (s.put x v).dacFail = s.dacFail := rfl
@[simp] theorem State.put_midFail (x : Fld) (v : Nat) : (s.put x v).midFail = s.midFail := rfl
@[simp] theorem State.put_adcLast (x : Fld) (v : Nat) : (s.put x v).adcLast = s.adcLast := rfl
@[simp] theorem State.put_adcDue (x : Fld) (v : Nat) : (s.put x v).adcDue = s.adcDue := rfl
@[simp] theorem State.put_midAcc (x : Fld) (v : Nat) : (s.put x v).midAcc = s.midAcc := rfl
@[simp] theorem State.put_cmpPow (x : Fld) (v : Nat) : (s.put x v).cmpPow = s.cmpPow := rfl
@[simp] theorem State.put_cmpFrom (x : Fld) (v : Nat) : (s.put x v).cmpFrom = s.cmpFrom := rfl
@[simp] theorem State.put_cmpDec (x : Fld) (v : Nat) : (s.put x v).cmpDec = s.cmpDec := rfl
@[simp] theorem State.put_cmpThr (x : Fld) (v : Nat) : (s.put x v).cmpThr = s.cmpThr := rfl
@[simp] theorem State.put_grd (x : Fld) (v : Nat) : (s.put x v).grd = s.grd := rfl
@[simp] theorem State.put_isl (x : Fld) (v : Nat) : (s.put x v).isl = s.isl := rfl
@[simp] theorem State.put_mtr (x : Fld) (v : Nat) : (s.put x v).mtr = s.mtr := rfl
@[simp] theorem State.put_saveLast (x : Fld) (v : Nat) : (s.put x v).saveLast = s.saveLast := rfl
@[simp] theorem State.put_finalSave (x : Fld) (v : Nat) : (s.put x v).finalSave = s.finalSave := rfl
@[simp] theorem State.put_saveCut (x : Fld) (v : Nat) : (s.put x v).saveCut = s.saveCut := rfl
@[simp] theorem State.put_tStop (x : Fld) (v : Nat) : (s.put x v).tStop = s.tStop := rfl
@[simp] theorem State.put_kT0 (x : Fld) (v : Nat) : (s.put x v).kT0 = s.kT0 := rfl
@[simp] theorem State.put_pchOk (x : Fld) (v : Nat) : (s.put x v).pchOk = s.pchOk := rfl
@[simp] theorem State.put_pchN (x : Fld) (v : Nat) : (s.put x v).pchN = s.pchN := rfl
@[simp] theorem State.put_pchV0 (x : Fld) (v : Nat) : (s.put x v).pchV0 = s.pchV0 := rfl
@[simp] theorem State.put_pchChk (x : Fld) (v : Nat) : (s.put x v).pchChk = s.pchChk := rfl
@[simp] theorem State.put_pchOv (x : Fld) (v : Nat) : (s.put x v).pchOv = s.pchOv := rfl
@[simp] theorem State.put_pchOverlap (x : Fld) (v : Nat) : (s.put x v).pchOverlap = s.pchOverlap := rfl
@[simp] theorem State.put_pchExit (x : Fld) (v : Nat) : (s.put x v).pchExit = s.pchExit := rfl
@[simp] theorem State.put_pairA (x : Fld) (v : Nat) : (s.put x v).pairA = s.pairA := rfl
@[simp] theorem State.put_pairB (x : Fld) (v : Nat) : (s.put x v).pairB = s.pairB := rfl
@[simp] theorem State.put_lsA (x : Fld) (v : Nat) : (s.put x v).lsA = s.lsA := rfl
@[simp] theorem State.put_lsB (x : Fld) (v : Nat) : (s.put x v).lsB = s.lsB := rfl
@[simp] theorem State.put_chDiff (x : Fld) (v : Nat) : (s.put x v).chDiff = s.chDiff := rfl
@[simp] theorem State.put_soDiff (x : Fld) (v : Nat) : (s.put x v).soDiff = s.soDiff := rfl
@[simp] theorem State.put_tp (x : Fld) (v : Nat) : (s.put x v).tp = s.tp := rfl
@[simp] theorem State.put_tpBad (x : Fld) (v : Nat) : (s.put x v).tpBad = s.tpBad := rfl
@[simp] theorem State.put_tgWait (x : Fld) (v : Nat) : (s.put x v).tgWait = s.tgWait := rfl
@[simp] theorem State.put_tgFx (x : Fld) (v : Nat) : (s.put x v).tgFx = s.tgFx := rfl
@[simp] theorem State.put_safForce (x : Fld) (v : Nat) : (s.put x v).safForce = s.safForce := rfl
@[simp] theorem State.put_so (x : Fld) (v : Nat) : (s.put x v).so = s.so := rfl
@[simp] theorem State.put_soDrop (x : Fld) (v : Nat) : (s.put x v).soDrop = s.soDrop := rfl
@[simp] theorem State.put_fltCyc (x : Fld) (v : Nat) : (s.put x v).fltCyc = s.fltCyc := rfl
@[simp] theorem State.put_swCyc (x : Fld) (v : Nat) : (s.put x v).swCyc = s.swCyc := rfl
@[simp] theorem State.put_fltEv (x : Fld) (v : Nat) : (s.put x v).fltEv = s.fltEv := rfl
@[simp] theorem State.put_holdLen (x : Fld) (v : Nat) : (s.put x v).holdLen = s.holdLen := rfl
@[simp] theorem State.put_holdMode (x : Fld) (v : Nat) : (s.put x v).holdMode = s.holdMode := rfl
@[simp] theorem State.put_holdTrip (x : Fld) (v : Nat) : (s.put x v).holdTrip = s.holdTrip := rfl
@[simp] theorem State.put_resumed (x : Fld) (v : Nat) : (s.put x v).resumed = s.resumed := rfl
@[simp] theorem State.put_resumeLinks (x : Fld) (v : Nat) : (s.put x v).resumeLinks = s.resumeLinks := rfl
@[simp] theorem State.put_recovMs (x : Fld) (v : Nat) : (s.put x v).recovMs = s.recovMs := rfl
@[simp] theorem State.put_refHeld (x : Fld) (v : Nat) : (s.put x v).refHeld = s.refHeld := rfl
@[simp] theorem State.put_refLost (x : Fld) (v : Nat) : (s.put x v).refLost = s.refLost := rfl
@[simp] theorem State.put_softReset (x : Fld) (v : Nat) : (s.put x v).softReset = s.softReset := rfl
@[simp] theorem State.put_resetAfterSave (x : Fld) (v : Nat) : (s.put x v).resetAfterSave = s.resetAfterSave := rfl
@[simp] theorem State.put_railBad (x : Fld) (v : Nat) : (s.put x v).railBad = s.railBad := rfl
@[simp] theorem State.put_bootDone (x : Fld) (v : Nat) : (s.put x v).bootDone = s.bootDone := rfl
@[simp] theorem State.put_stestCyc (x : Fld) (v : Nat) : (s.put x v).stestCyc = s.stestCyc := rfl
@[simp] theorem State.put_loopOk (x : Fld) (v : Nat) : (s.put x v).loopOk = s.loopOk := rfl
@[simp] theorem State.put_gateEn (x : Fld) (v : Nat) : (s.put x v).gateEn = s.gateEn := rfl
@[simp] theorem State.put_resetN (x : Fld) (v : Nat) : (s.put x v).resetN = s.resetN := rfl
@[simp] theorem State.put_pfi (x : Fld) (v : Nat) : (s.put x v).pfi = s.pfi := rfl
@[simp] theorem State.put_straps (x : Fld) (v : Nat) : (s.put x v).straps = s.straps := rfl
@[simp] theorem State.put_alive (x : Fld) (v : Nat) : (s.put x v).alive = s.alive := rfl
@[simp] theorem State.put_aliveRun (x : Fld) (v : Nat) : (s.put x v).aliveRun = s.aliveRun := rfl
@[simp] theorem State.put_rbg (x : Fld) (v : Nat) : (s.put x v).rbg = s.rbg := rfl
@[simp] theorem State.put_etime (x : Fld) (v : Nat) : (s.put x v).etime = s.etime := rfl
@[simp] theorem State.put_eRun (x : Fld) (v : Nat) : (s.put x v).eRun = s.eRun := rfl
@[simp] theorem State.put_everLock (x : Fld) (v : Nat) : (s.put x v).everLock = s.everLock := rfl
@[simp] theorem State.put_cyc (x : Fld) (v : Nat) : (s.put x v).cyc = s.cyc := rfl
@[simp] theorem State.put_rtcSub (x : Fld) (v : Nat) : (s.put x v).rtcSub = s.rtcSub := rfl
@[simp] theorem State.put_rtcPend (x : Fld) (v : Nat) : (s.put x v).rtcPend = s.rtcPend := rfl
@[simp] theorem State.put_hiLatch (x : Fld) (v : Nat) : (s.put x v).hiLatch = s.hiLatch := rfl
@[simp] theorem State.put_synciLast (x : Fld) (v : Nat) : (s.put x v).synciLast = s.synciLast := rfl
@[simp] theorem State.put_synco (x : Fld) (v : Nat) : (s.put x v).synco = s.synco := rfl
@[simp] theorem State.put_scrub (x : Fld) (v : Nat) : (s.put x v).scrub = s.scrub := rfl
@[simp] theorem State.put_hsLim (x : Fld) (v : Nat) : (s.put x v).hsLim = s.hsLim := rfl
@[simp] theorem State.put_hsTmr (x : Fld) (v : Nat) : (s.put x v).hsTmr = s.hsTmr := rfl
@[simp] theorem State.put_staged (x : Fld) (v : Nat) : (s.put x v).staged = s.staged := rfl
@[simp] theorem State.put_cmds (x : Fld) (v : Nat) : (s.put x v).cmds = s.cmds := rfl
@[simp] theorem State.put_nextId (x : Fld) (v : Nat) : (s.put x v).nextId = s.nextId := rfl
@[simp] theorem State.put_ports (x : Fld) (v : Nat) : (s.put x v).ports = s.ports := rfl
@[simp] theorem State.put_jLow (x : Fld) (v : Nat) : (s.put x v).jLow = s.jLow := rfl
@[simp] theorem State.put_host (x : Fld) (v : Nat) : (s.put x v).host = s.host := rfl
@[simp] theorem State.put_wq (x : Fld) (v : Nat) : (s.put x v).wq = s.wq := rfl
@[simp] theorem State.put_pq (x : Fld) (v : Nat) : (s.put x v).pq = s.pq := rfl
@[simp] theorem State.put_erasing (x : Fld) (v : Nat) : (s.put x v).erasing = s.erasing := rfl
@[simp] theorem State.put_activeB (x : Fld) (v : Nat) : (s.put x v).activeB = s.activeB := rfl
@[simp] theorem State.put_imgOf (x : Fld) (v : Nat) : (s.put x v).imgOf = s.imgOf := rfl
@[simp] theorem State.put_netId (x : Fld) (v : Nat) : (s.put x v).netId = s.netId := rfl
@[simp] theorem State.put_rxq (x : Fld) (v : Nat) : (s.put x v).rxq = s.rxq := rfl
@[simp] theorem State.put_tgSrc (x : Fld) (v : Nat) : (s.put x v).tgSrc = s.tgSrc := rfl
@[simp] theorem State.put_netLast (x : Fld) (v : Nat) : (s.put x v).netLast = s.netLast := rfl
@[simp] theorem State.put_noteAt (x : Fld) (v : Nat) : (s.put x v).noteAt = s.noteAt := rfl
@[simp] theorem State.put_dbgLim (x : Fld) (v : Nat) : (s.put x v).dbgLim = s.dbgLim := rfl
@[simp] theorem State.put_ringWait (x : Fld) (v : Nat) : (s.put x v).ringWait = s.ringWait := rfl
@[simp] theorem State.put_ringLost (x : Fld) (v : Nat) : (s.put x v).ringLost = s.ringLost := rfl
@[simp] theorem State.put_peerSeq (x : Fld) (v : Nat) : (s.put x v).peerSeq = s.peerSeq := rfl
@[simp] theorem State.put_free (x : Fld) (v : Nat) : (s.put x v).free = s.free := rfl
@[simp] theorem State.put_out (x : Fld) (v : Nat) : (s.put x v).out = s.out := rfl
@[simp] theorem State.put_pending (x : Fld) (v : Nat) : (s.put x v).pending = s.pending := rfl

/-! ### setMb -/
@[simp] theorem State.setMb_regs (a : Nat) (b : Byte) : (s.setMb a b).regs = s.regs := rfl
@[simp] theorem State.setMb_ctx (a : Nat) (b : Byte) : (s.setMb a b).ctx = s.ctx := rfl
@[simp] theorem State.setMb_stg (a : Nat) (b : Byte) : (s.setMb a b).stg = s.stg := rfl
@[simp] theorem State.setMb_lnk (a : Nat) (b : Byte) : (s.setMb a b).lnk = s.lnk := rfl
@[simp] theorem State.setMb_slots (a : Nat) (b : Byte) : (s.setMb a b).slots = s.slots := rfl
@[simp] theorem State.setMb_imms (a : Nat) (b : Byte) : (s.setMb a b).imms = s.imms := rfl
@[simp] theorem State.setMb_ent (a : Nat) (b : Byte) : (s.setMb a b).ent = s.ent := rfl
@[simp] theorem State.setMb_scanPend (a : Nat) (b : Byte) : (s.setMb a b).scanPend = s.scanPend := rfl
@[simp] theorem State.setMb_calRun (a : Nat) (b : Byte) : (s.setMb a b).calRun = s.calRun := rfl
@[simp] theorem State.setMb_calDone (a : Nat) (b : Byte) : (s.setMb a b).calDone = s.calDone := rfl
@[simp] theorem State.setMb_dacIdx (a : Nat) (b : Byte) : (s.setMb a b).dacIdx = s.dacIdx := rfl
@[simp] theorem State.setMb_dacBad (a : Nat) (b : Byte) : (s.setMb a b).dacBad = s.dacBad := rfl
@[simp] theorem State.setMb_dacFail (a : Nat) (b : Byte) : (s.setMb a b).dacFail = s.dacFail := rfl
@[simp] theorem State.setMb_midFail (a : Nat) (b : Byte) : (s.setMb a b).midFail = s.midFail := rfl
@[simp] theorem State.setMb_adcLast (a : Nat) (b : Byte) : (s.setMb a b).adcLast = s.adcLast := rfl
@[simp] theorem State.setMb_adcDue (a : Nat) (b : Byte) : (s.setMb a b).adcDue = s.adcDue := rfl
@[simp] theorem State.setMb_midAcc (a : Nat) (b : Byte) : (s.setMb a b).midAcc = s.midAcc := rfl
@[simp] theorem State.setMb_cmpPow (a : Nat) (b : Byte) : (s.setMb a b).cmpPow = s.cmpPow := rfl
@[simp] theorem State.setMb_cmpFrom (a : Nat) (b : Byte) : (s.setMb a b).cmpFrom = s.cmpFrom := rfl
@[simp] theorem State.setMb_cmpDec (a : Nat) (b : Byte) : (s.setMb a b).cmpDec = s.cmpDec := rfl
@[simp] theorem State.setMb_cmpThr (a : Nat) (b : Byte) : (s.setMb a b).cmpThr = s.cmpThr := rfl
@[simp] theorem State.setMb_grd (a : Nat) (b : Byte) : (s.setMb a b).grd = s.grd := rfl
@[simp] theorem State.setMb_isl (a : Nat) (b : Byte) : (s.setMb a b).isl = s.isl := rfl
@[simp] theorem State.setMb_mtr (a : Nat) (b : Byte) : (s.setMb a b).mtr = s.mtr := rfl
@[simp] theorem State.setMb_saveLast (a : Nat) (b : Byte) : (s.setMb a b).saveLast = s.saveLast := rfl
@[simp] theorem State.setMb_finalSave (a : Nat) (b : Byte) : (s.setMb a b).finalSave = s.finalSave := rfl
@[simp] theorem State.setMb_saveCut (a : Nat) (b : Byte) : (s.setMb a b).saveCut = s.saveCut := rfl
@[simp] theorem State.setMb_tStop (a : Nat) (b : Byte) : (s.setMb a b).tStop = s.tStop := rfl
@[simp] theorem State.setMb_kT0 (a : Nat) (b : Byte) : (s.setMb a b).kT0 = s.kT0 := rfl
@[simp] theorem State.setMb_pchOk (a : Nat) (b : Byte) : (s.setMb a b).pchOk = s.pchOk := rfl
@[simp] theorem State.setMb_pchN (a : Nat) (b : Byte) : (s.setMb a b).pchN = s.pchN := rfl
@[simp] theorem State.setMb_pchV0 (a : Nat) (b : Byte) : (s.setMb a b).pchV0 = s.pchV0 := rfl
@[simp] theorem State.setMb_pchChk (a : Nat) (b : Byte) : (s.setMb a b).pchChk = s.pchChk := rfl
@[simp] theorem State.setMb_pchOv (a : Nat) (b : Byte) : (s.setMb a b).pchOv = s.pchOv := rfl
@[simp] theorem State.setMb_pchOverlap (a : Nat) (b : Byte) : (s.setMb a b).pchOverlap = s.pchOverlap := rfl
@[simp] theorem State.setMb_pchExit (a : Nat) (b : Byte) : (s.setMb a b).pchExit = s.pchExit := rfl
@[simp] theorem State.setMb_pairA (a : Nat) (b : Byte) : (s.setMb a b).pairA = s.pairA := rfl
@[simp] theorem State.setMb_pairB (a : Nat) (b : Byte) : (s.setMb a b).pairB = s.pairB := rfl
@[simp] theorem State.setMb_lsA (a : Nat) (b : Byte) : (s.setMb a b).lsA = s.lsA := rfl
@[simp] theorem State.setMb_lsB (a : Nat) (b : Byte) : (s.setMb a b).lsB = s.lsB := rfl
@[simp] theorem State.setMb_chDiff (a : Nat) (b : Byte) : (s.setMb a b).chDiff = s.chDiff := rfl
@[simp] theorem State.setMb_soDiff (a : Nat) (b : Byte) : (s.setMb a b).soDiff = s.soDiff := rfl
@[simp] theorem State.setMb_tp (a : Nat) (b : Byte) : (s.setMb a b).tp = s.tp := rfl
@[simp] theorem State.setMb_tpBad (a : Nat) (b : Byte) : (s.setMb a b).tpBad = s.tpBad := rfl
@[simp] theorem State.setMb_tgWait (a : Nat) (b : Byte) : (s.setMb a b).tgWait = s.tgWait := rfl
@[simp] theorem State.setMb_tgFx (a : Nat) (b : Byte) : (s.setMb a b).tgFx = s.tgFx := rfl
@[simp] theorem State.setMb_safForce (a : Nat) (b : Byte) : (s.setMb a b).safForce = s.safForce := rfl
@[simp] theorem State.setMb_so (a : Nat) (b : Byte) : (s.setMb a b).so = s.so := rfl
@[simp] theorem State.setMb_soDrop (a : Nat) (b : Byte) : (s.setMb a b).soDrop = s.soDrop := rfl
@[simp] theorem State.setMb_fltCyc (a : Nat) (b : Byte) : (s.setMb a b).fltCyc = s.fltCyc := rfl
@[simp] theorem State.setMb_swCyc (a : Nat) (b : Byte) : (s.setMb a b).swCyc = s.swCyc := rfl
@[simp] theorem State.setMb_fltEv (a : Nat) (b : Byte) : (s.setMb a b).fltEv = s.fltEv := rfl
@[simp] theorem State.setMb_holdLen (a : Nat) (b : Byte) : (s.setMb a b).holdLen = s.holdLen := rfl
@[simp] theorem State.setMb_holdMode (a : Nat) (b : Byte) : (s.setMb a b).holdMode = s.holdMode := rfl
@[simp] theorem State.setMb_holdTrip (a : Nat) (b : Byte) : (s.setMb a b).holdTrip = s.holdTrip := rfl
@[simp] theorem State.setMb_resumed (a : Nat) (b : Byte) : (s.setMb a b).resumed = s.resumed := rfl
@[simp] theorem State.setMb_resumeLinks (a : Nat) (b : Byte) : (s.setMb a b).resumeLinks = s.resumeLinks := rfl
@[simp] theorem State.setMb_recovMs (a : Nat) (b : Byte) : (s.setMb a b).recovMs = s.recovMs := rfl
@[simp] theorem State.setMb_refHeld (a : Nat) (b : Byte) : (s.setMb a b).refHeld = s.refHeld := rfl
@[simp] theorem State.setMb_refLost (a : Nat) (b : Byte) : (s.setMb a b).refLost = s.refLost := rfl
@[simp] theorem State.setMb_softReset (a : Nat) (b : Byte) : (s.setMb a b).softReset = s.softReset := rfl
@[simp] theorem State.setMb_resetAfterSave (a : Nat) (b : Byte) : (s.setMb a b).resetAfterSave = s.resetAfterSave := rfl
@[simp] theorem State.setMb_railBad (a : Nat) (b : Byte) : (s.setMb a b).railBad = s.railBad := rfl
@[simp] theorem State.setMb_bootDone (a : Nat) (b : Byte) : (s.setMb a b).bootDone = s.bootDone := rfl
@[simp] theorem State.setMb_stestCyc (a : Nat) (b : Byte) : (s.setMb a b).stestCyc = s.stestCyc := rfl
@[simp] theorem State.setMb_loopOk (a : Nat) (b : Byte) : (s.setMb a b).loopOk = s.loopOk := rfl
@[simp] theorem State.setMb_gateEn (a : Nat) (b : Byte) : (s.setMb a b).gateEn = s.gateEn := rfl
@[simp] theorem State.setMb_resetN (a : Nat) (b : Byte) : (s.setMb a b).resetN = s.resetN := rfl
@[simp] theorem State.setMb_pfi (a : Nat) (b : Byte) : (s.setMb a b).pfi = s.pfi := rfl
@[simp] theorem State.setMb_straps (a : Nat) (b : Byte) : (s.setMb a b).straps = s.straps := rfl
@[simp] theorem State.setMb_alive (a : Nat) (b : Byte) : (s.setMb a b).alive = s.alive := rfl
@[simp] theorem State.setMb_aliveRun (a : Nat) (b : Byte) : (s.setMb a b).aliveRun = s.aliveRun := rfl
@[simp] theorem State.setMb_rbg (a : Nat) (b : Byte) : (s.setMb a b).rbg = s.rbg := rfl
@[simp] theorem State.setMb_etime (a : Nat) (b : Byte) : (s.setMb a b).etime = s.etime := rfl
@[simp] theorem State.setMb_eRun (a : Nat) (b : Byte) : (s.setMb a b).eRun = s.eRun := rfl
@[simp] theorem State.setMb_everLock (a : Nat) (b : Byte) : (s.setMb a b).everLock = s.everLock := rfl
@[simp] theorem State.setMb_cyc (a : Nat) (b : Byte) : (s.setMb a b).cyc = s.cyc := rfl
@[simp] theorem State.setMb_rtcSub (a : Nat) (b : Byte) : (s.setMb a b).rtcSub = s.rtcSub := rfl
@[simp] theorem State.setMb_rtcPend (a : Nat) (b : Byte) : (s.setMb a b).rtcPend = s.rtcPend := rfl
@[simp] theorem State.setMb_hiLatch (a : Nat) (b : Byte) : (s.setMb a b).hiLatch = s.hiLatch := rfl
@[simp] theorem State.setMb_synciLast (a : Nat) (b : Byte) : (s.setMb a b).synciLast = s.synciLast := rfl
@[simp] theorem State.setMb_synco (a : Nat) (b : Byte) : (s.setMb a b).synco = s.synco := rfl
@[simp] theorem State.setMb_scrub (a : Nat) (b : Byte) : (s.setMb a b).scrub = s.scrub := rfl
@[simp] theorem State.setMb_hsLim (a : Nat) (b : Byte) : (s.setMb a b).hsLim = s.hsLim := rfl
@[simp] theorem State.setMb_hsTmr (a : Nat) (b : Byte) : (s.setMb a b).hsTmr = s.hsTmr := rfl
@[simp] theorem State.setMb_staged (a : Nat) (b : Byte) : (s.setMb a b).staged = s.staged := rfl
@[simp] theorem State.setMb_cmds (a : Nat) (b : Byte) : (s.setMb a b).cmds = s.cmds := rfl
@[simp] theorem State.setMb_nextId (a : Nat) (b : Byte) : (s.setMb a b).nextId = s.nextId := rfl
@[simp] theorem State.setMb_ports (a : Nat) (b : Byte) : (s.setMb a b).ports = s.ports := rfl
@[simp] theorem State.setMb_jLow (a : Nat) (b : Byte) : (s.setMb a b).jLow = s.jLow := rfl
@[simp] theorem State.setMb_host (a : Nat) (b : Byte) : (s.setMb a b).host = s.host := rfl
@[simp] theorem State.setMb_wq (a : Nat) (b : Byte) : (s.setMb a b).wq = s.wq := rfl
@[simp] theorem State.setMb_pq (a : Nat) (b : Byte) : (s.setMb a b).pq = s.pq := rfl
@[simp] theorem State.setMb_erasing (a : Nat) (b : Byte) : (s.setMb a b).erasing = s.erasing := rfl
@[simp] theorem State.setMb_activeB (a : Nat) (b : Byte) : (s.setMb a b).activeB = s.activeB := rfl
@[simp] theorem State.setMb_imgOf (a : Nat) (b : Byte) : (s.setMb a b).imgOf = s.imgOf := rfl
@[simp] theorem State.setMb_netId (a : Nat) (b : Byte) : (s.setMb a b).netId = s.netId := rfl
@[simp] theorem State.setMb_rxq (a : Nat) (b : Byte) : (s.setMb a b).rxq = s.rxq := rfl
@[simp] theorem State.setMb_tgSrc (a : Nat) (b : Byte) : (s.setMb a b).tgSrc = s.tgSrc := rfl
@[simp] theorem State.setMb_netLast (a : Nat) (b : Byte) : (s.setMb a b).netLast = s.netLast := rfl
@[simp] theorem State.setMb_noteAt (a : Nat) (b : Byte) : (s.setMb a b).noteAt = s.noteAt := rfl
@[simp] theorem State.setMb_dbgLim (a : Nat) (b : Byte) : (s.setMb a b).dbgLim = s.dbgLim := rfl
@[simp] theorem State.setMb_ringWait (a : Nat) (b : Byte) : (s.setMb a b).ringWait = s.ringWait := rfl
@[simp] theorem State.setMb_ringLost (a : Nat) (b : Byte) : (s.setMb a b).ringLost = s.ringLost := rfl
@[simp] theorem State.setMb_peerSeq (a : Nat) (b : Byte) : (s.setMb a b).peerSeq = s.peerSeq := rfl
@[simp] theorem State.setMb_free (a : Nat) (b : Byte) : (s.setMb a b).free = s.free := rfl
@[simp] theorem State.setMb_out (a : Nat) (b : Byte) : (s.setMb a b).out = s.out := rfl
@[simp] theorem State.setMb_pending (a : Nat) (b : Byte) : (s.setMb a b).pending = s.pending := rfl

/-! ### setMw -/
@[simp] theorem State.setMw_regs (a : Nat) (w : Word) : (s.setMw a w).regs = s.regs := rfl
@[simp] theorem State.setMw_ctx (a : Nat) (w : Word) : (s.setMw a w).ctx = s.ctx := rfl
@[simp] theorem State.setMw_stg (a : Nat) (w : Word) : (s.setMw a w).stg = s.stg := rfl
@[simp] theorem State.setMw_lnk (a : Nat) (w : Word) : (s.setMw a w).lnk = s.lnk := rfl
@[simp] theorem State.setMw_slots (a : Nat) (w : Word) : (s.setMw a w).slots = s.slots := rfl
@[simp] theorem State.setMw_imms (a : Nat) (w : Word) : (s.setMw a w).imms = s.imms := rfl
@[simp] theorem State.setMw_ent (a : Nat) (w : Word) : (s.setMw a w).ent = s.ent := rfl
@[simp] theorem State.setMw_scanPend (a : Nat) (w : Word) : (s.setMw a w).scanPend = s.scanPend := rfl
@[simp] theorem State.setMw_calRun (a : Nat) (w : Word) : (s.setMw a w).calRun = s.calRun := rfl
@[simp] theorem State.setMw_calDone (a : Nat) (w : Word) : (s.setMw a w).calDone = s.calDone := rfl
@[simp] theorem State.setMw_dacIdx (a : Nat) (w : Word) : (s.setMw a w).dacIdx = s.dacIdx := rfl
@[simp] theorem State.setMw_dacBad (a : Nat) (w : Word) : (s.setMw a w).dacBad = s.dacBad := rfl
@[simp] theorem State.setMw_dacFail (a : Nat) (w : Word) : (s.setMw a w).dacFail = s.dacFail := rfl
@[simp] theorem State.setMw_midFail (a : Nat) (w : Word) : (s.setMw a w).midFail = s.midFail := rfl
@[simp] theorem State.setMw_adcLast (a : Nat) (w : Word) : (s.setMw a w).adcLast = s.adcLast := rfl
@[simp] theorem State.setMw_adcDue (a : Nat) (w : Word) : (s.setMw a w).adcDue = s.adcDue := rfl
@[simp] theorem State.setMw_midAcc (a : Nat) (w : Word) : (s.setMw a w).midAcc = s.midAcc := rfl
@[simp] theorem State.setMw_cmpPow (a : Nat) (w : Word) : (s.setMw a w).cmpPow = s.cmpPow := rfl
@[simp] theorem State.setMw_cmpFrom (a : Nat) (w : Word) : (s.setMw a w).cmpFrom = s.cmpFrom := rfl
@[simp] theorem State.setMw_cmpDec (a : Nat) (w : Word) : (s.setMw a w).cmpDec = s.cmpDec := rfl
@[simp] theorem State.setMw_cmpThr (a : Nat) (w : Word) : (s.setMw a w).cmpThr = s.cmpThr := rfl
@[simp] theorem State.setMw_grd (a : Nat) (w : Word) : (s.setMw a w).grd = s.grd := rfl
@[simp] theorem State.setMw_isl (a : Nat) (w : Word) : (s.setMw a w).isl = s.isl := rfl
@[simp] theorem State.setMw_mtr (a : Nat) (w : Word) : (s.setMw a w).mtr = s.mtr := rfl
@[simp] theorem State.setMw_saveLast (a : Nat) (w : Word) : (s.setMw a w).saveLast = s.saveLast := rfl
@[simp] theorem State.setMw_finalSave (a : Nat) (w : Word) : (s.setMw a w).finalSave = s.finalSave := rfl
@[simp] theorem State.setMw_saveCut (a : Nat) (w : Word) : (s.setMw a w).saveCut = s.saveCut := rfl
@[simp] theorem State.setMw_tStop (a : Nat) (w : Word) : (s.setMw a w).tStop = s.tStop := rfl
@[simp] theorem State.setMw_kT0 (a : Nat) (w : Word) : (s.setMw a w).kT0 = s.kT0 := rfl
@[simp] theorem State.setMw_pchOk (a : Nat) (w : Word) : (s.setMw a w).pchOk = s.pchOk := rfl
@[simp] theorem State.setMw_pchN (a : Nat) (w : Word) : (s.setMw a w).pchN = s.pchN := rfl
@[simp] theorem State.setMw_pchV0 (a : Nat) (w : Word) : (s.setMw a w).pchV0 = s.pchV0 := rfl
@[simp] theorem State.setMw_pchChk (a : Nat) (w : Word) : (s.setMw a w).pchChk = s.pchChk := rfl
@[simp] theorem State.setMw_pchOv (a : Nat) (w : Word) : (s.setMw a w).pchOv = s.pchOv := rfl
@[simp] theorem State.setMw_pchOverlap (a : Nat) (w : Word) : (s.setMw a w).pchOverlap = s.pchOverlap := rfl
@[simp] theorem State.setMw_pchExit (a : Nat) (w : Word) : (s.setMw a w).pchExit = s.pchExit := rfl
@[simp] theorem State.setMw_pairA (a : Nat) (w : Word) : (s.setMw a w).pairA = s.pairA := rfl
@[simp] theorem State.setMw_pairB (a : Nat) (w : Word) : (s.setMw a w).pairB = s.pairB := rfl
@[simp] theorem State.setMw_lsA (a : Nat) (w : Word) : (s.setMw a w).lsA = s.lsA := rfl
@[simp] theorem State.setMw_lsB (a : Nat) (w : Word) : (s.setMw a w).lsB = s.lsB := rfl
@[simp] theorem State.setMw_chDiff (a : Nat) (w : Word) : (s.setMw a w).chDiff = s.chDiff := rfl
@[simp] theorem State.setMw_soDiff (a : Nat) (w : Word) : (s.setMw a w).soDiff = s.soDiff := rfl
@[simp] theorem State.setMw_tp (a : Nat) (w : Word) : (s.setMw a w).tp = s.tp := rfl
@[simp] theorem State.setMw_tpBad (a : Nat) (w : Word) : (s.setMw a w).tpBad = s.tpBad := rfl
@[simp] theorem State.setMw_tgWait (a : Nat) (w : Word) : (s.setMw a w).tgWait = s.tgWait := rfl
@[simp] theorem State.setMw_tgFx (a : Nat) (w : Word) : (s.setMw a w).tgFx = s.tgFx := rfl
@[simp] theorem State.setMw_safForce (a : Nat) (w : Word) : (s.setMw a w).safForce = s.safForce := rfl
@[simp] theorem State.setMw_so (a : Nat) (w : Word) : (s.setMw a w).so = s.so := rfl
@[simp] theorem State.setMw_soDrop (a : Nat) (w : Word) : (s.setMw a w).soDrop = s.soDrop := rfl
@[simp] theorem State.setMw_fltCyc (a : Nat) (w : Word) : (s.setMw a w).fltCyc = s.fltCyc := rfl
@[simp] theorem State.setMw_swCyc (a : Nat) (w : Word) : (s.setMw a w).swCyc = s.swCyc := rfl
@[simp] theorem State.setMw_fltEv (a : Nat) (w : Word) : (s.setMw a w).fltEv = s.fltEv := rfl
@[simp] theorem State.setMw_holdLen (a : Nat) (w : Word) : (s.setMw a w).holdLen = s.holdLen := rfl
@[simp] theorem State.setMw_holdMode (a : Nat) (w : Word) : (s.setMw a w).holdMode = s.holdMode := rfl
@[simp] theorem State.setMw_holdTrip (a : Nat) (w : Word) : (s.setMw a w).holdTrip = s.holdTrip := rfl
@[simp] theorem State.setMw_resumed (a : Nat) (w : Word) : (s.setMw a w).resumed = s.resumed := rfl
@[simp] theorem State.setMw_resumeLinks (a : Nat) (w : Word) : (s.setMw a w).resumeLinks = s.resumeLinks := rfl
@[simp] theorem State.setMw_recovMs (a : Nat) (w : Word) : (s.setMw a w).recovMs = s.recovMs := rfl
@[simp] theorem State.setMw_refHeld (a : Nat) (w : Word) : (s.setMw a w).refHeld = s.refHeld := rfl
@[simp] theorem State.setMw_refLost (a : Nat) (w : Word) : (s.setMw a w).refLost = s.refLost := rfl
@[simp] theorem State.setMw_softReset (a : Nat) (w : Word) : (s.setMw a w).softReset = s.softReset := rfl
@[simp] theorem State.setMw_resetAfterSave (a : Nat) (w : Word) : (s.setMw a w).resetAfterSave = s.resetAfterSave := rfl
@[simp] theorem State.setMw_railBad (a : Nat) (w : Word) : (s.setMw a w).railBad = s.railBad := rfl
@[simp] theorem State.setMw_bootDone (a : Nat) (w : Word) : (s.setMw a w).bootDone = s.bootDone := rfl
@[simp] theorem State.setMw_stestCyc (a : Nat) (w : Word) : (s.setMw a w).stestCyc = s.stestCyc := rfl
@[simp] theorem State.setMw_loopOk (a : Nat) (w : Word) : (s.setMw a w).loopOk = s.loopOk := rfl
@[simp] theorem State.setMw_gateEn (a : Nat) (w : Word) : (s.setMw a w).gateEn = s.gateEn := rfl
@[simp] theorem State.setMw_resetN (a : Nat) (w : Word) : (s.setMw a w).resetN = s.resetN := rfl
@[simp] theorem State.setMw_pfi (a : Nat) (w : Word) : (s.setMw a w).pfi = s.pfi := rfl
@[simp] theorem State.setMw_straps (a : Nat) (w : Word) : (s.setMw a w).straps = s.straps := rfl
@[simp] theorem State.setMw_alive (a : Nat) (w : Word) : (s.setMw a w).alive = s.alive := rfl
@[simp] theorem State.setMw_aliveRun (a : Nat) (w : Word) : (s.setMw a w).aliveRun = s.aliveRun := rfl
@[simp] theorem State.setMw_rbg (a : Nat) (w : Word) : (s.setMw a w).rbg = s.rbg := rfl
@[simp] theorem State.setMw_etime (a : Nat) (w : Word) : (s.setMw a w).etime = s.etime := rfl
@[simp] theorem State.setMw_eRun (a : Nat) (w : Word) : (s.setMw a w).eRun = s.eRun := rfl
@[simp] theorem State.setMw_everLock (a : Nat) (w : Word) : (s.setMw a w).everLock = s.everLock := rfl
@[simp] theorem State.setMw_cyc (a : Nat) (w : Word) : (s.setMw a w).cyc = s.cyc := rfl
@[simp] theorem State.setMw_rtcSub (a : Nat) (w : Word) : (s.setMw a w).rtcSub = s.rtcSub := rfl
@[simp] theorem State.setMw_rtcPend (a : Nat) (w : Word) : (s.setMw a w).rtcPend = s.rtcPend := rfl
@[simp] theorem State.setMw_hiLatch (a : Nat) (w : Word) : (s.setMw a w).hiLatch = s.hiLatch := rfl
@[simp] theorem State.setMw_synciLast (a : Nat) (w : Word) : (s.setMw a w).synciLast = s.synciLast := rfl
@[simp] theorem State.setMw_synco (a : Nat) (w : Word) : (s.setMw a w).synco = s.synco := rfl
@[simp] theorem State.setMw_scrub (a : Nat) (w : Word) : (s.setMw a w).scrub = s.scrub := rfl
@[simp] theorem State.setMw_hsLim (a : Nat) (w : Word) : (s.setMw a w).hsLim = s.hsLim := rfl
@[simp] theorem State.setMw_hsTmr (a : Nat) (w : Word) : (s.setMw a w).hsTmr = s.hsTmr := rfl
@[simp] theorem State.setMw_staged (a : Nat) (w : Word) : (s.setMw a w).staged = s.staged := rfl
@[simp] theorem State.setMw_cmds (a : Nat) (w : Word) : (s.setMw a w).cmds = s.cmds := rfl
@[simp] theorem State.setMw_nextId (a : Nat) (w : Word) : (s.setMw a w).nextId = s.nextId := rfl
@[simp] theorem State.setMw_ports (a : Nat) (w : Word) : (s.setMw a w).ports = s.ports := rfl
@[simp] theorem State.setMw_jLow (a : Nat) (w : Word) : (s.setMw a w).jLow = s.jLow := rfl
@[simp] theorem State.setMw_host (a : Nat) (w : Word) : (s.setMw a w).host = s.host := rfl
@[simp] theorem State.setMw_wq (a : Nat) (w : Word) : (s.setMw a w).wq = s.wq := rfl
@[simp] theorem State.setMw_pq (a : Nat) (w : Word) : (s.setMw a w).pq = s.pq := rfl
@[simp] theorem State.setMw_erasing (a : Nat) (w : Word) : (s.setMw a w).erasing = s.erasing := rfl
@[simp] theorem State.setMw_activeB (a : Nat) (w : Word) : (s.setMw a w).activeB = s.activeB := rfl
@[simp] theorem State.setMw_imgOf (a : Nat) (w : Word) : (s.setMw a w).imgOf = s.imgOf := rfl
@[simp] theorem State.setMw_netId (a : Nat) (w : Word) : (s.setMw a w).netId = s.netId := rfl
@[simp] theorem State.setMw_rxq (a : Nat) (w : Word) : (s.setMw a w).rxq = s.rxq := rfl
@[simp] theorem State.setMw_tgSrc (a : Nat) (w : Word) : (s.setMw a w).tgSrc = s.tgSrc := rfl
@[simp] theorem State.setMw_netLast (a : Nat) (w : Word) : (s.setMw a w).netLast = s.netLast := rfl
@[simp] theorem State.setMw_noteAt (a : Nat) (w : Word) : (s.setMw a w).noteAt = s.noteAt := rfl
@[simp] theorem State.setMw_dbgLim (a : Nat) (w : Word) : (s.setMw a w).dbgLim = s.dbgLim := rfl
@[simp] theorem State.setMw_ringWait (a : Nat) (w : Word) : (s.setMw a w).ringWait = s.ringWait := rfl
@[simp] theorem State.setMw_ringLost (a : Nat) (w : Word) : (s.setMw a w).ringLost = s.ringLost := rfl
@[simp] theorem State.setMw_peerSeq (a : Nat) (w : Word) : (s.setMw a w).peerSeq = s.peerSeq := rfl
@[simp] theorem State.setMw_free (a : Nat) (w : Word) : (s.setMw a w).free = s.free := rfl
@[simp] theorem State.setMw_out (a : Nat) (w : Word) : (s.setMw a w).out = s.out := rfl
@[simp] theorem State.setMw_pending (a : Nat) (w : Word) : (s.setMw a w).pending = s.pending := rfl

/-! ### setCtx -/
@[simp] theorem State.setCtx_regs (e : CtxId) (c : Ctx) : (s.setCtx e c).regs = s.regs := rfl
@[simp] theorem State.setCtx_mem (e : CtxId) (c : Ctx) : (s.setCtx e c).mem = s.mem := rfl
@[simp] theorem State.setCtx_stg (e : CtxId) (c : Ctx) : (s.setCtx e c).stg = s.stg := rfl
@[simp] theorem State.setCtx_lnk (e : CtxId) (c : Ctx) : (s.setCtx e c).lnk = s.lnk := rfl
@[simp] theorem State.setCtx_slots (e : CtxId) (c : Ctx) : (s.setCtx e c).slots = s.slots := rfl
@[simp] theorem State.setCtx_imms (e : CtxId) (c : Ctx) : (s.setCtx e c).imms = s.imms := rfl
@[simp] theorem State.setCtx_ent (e : CtxId) (c : Ctx) : (s.setCtx e c).ent = s.ent := rfl
@[simp] theorem State.setCtx_scanPend (e : CtxId) (c : Ctx) : (s.setCtx e c).scanPend = s.scanPend := rfl
@[simp] theorem State.setCtx_calRun (e : CtxId) (c : Ctx) : (s.setCtx e c).calRun = s.calRun := rfl
@[simp] theorem State.setCtx_calDone (e : CtxId) (c : Ctx) : (s.setCtx e c).calDone = s.calDone := rfl
@[simp] theorem State.setCtx_dacIdx (e : CtxId) (c : Ctx) : (s.setCtx e c).dacIdx = s.dacIdx := rfl
@[simp] theorem State.setCtx_dacBad (e : CtxId) (c : Ctx) : (s.setCtx e c).dacBad = s.dacBad := rfl
@[simp] theorem State.setCtx_dacFail (e : CtxId) (c : Ctx) : (s.setCtx e c).dacFail = s.dacFail := rfl
@[simp] theorem State.setCtx_midFail (e : CtxId) (c : Ctx) : (s.setCtx e c).midFail = s.midFail := rfl
@[simp] theorem State.setCtx_adcLast (e : CtxId) (c : Ctx) : (s.setCtx e c).adcLast = s.adcLast := rfl
@[simp] theorem State.setCtx_adcDue (e : CtxId) (c : Ctx) : (s.setCtx e c).adcDue = s.adcDue := rfl
@[simp] theorem State.setCtx_midAcc (e : CtxId) (c : Ctx) : (s.setCtx e c).midAcc = s.midAcc := rfl
@[simp] theorem State.setCtx_cmpPow (e : CtxId) (c : Ctx) : (s.setCtx e c).cmpPow = s.cmpPow := rfl
@[simp] theorem State.setCtx_cmpFrom (e : CtxId) (c : Ctx) : (s.setCtx e c).cmpFrom = s.cmpFrom := rfl
@[simp] theorem State.setCtx_cmpDec (e : CtxId) (c : Ctx) : (s.setCtx e c).cmpDec = s.cmpDec := rfl
@[simp] theorem State.setCtx_cmpThr (e : CtxId) (c : Ctx) : (s.setCtx e c).cmpThr = s.cmpThr := rfl
@[simp] theorem State.setCtx_grd (e : CtxId) (c : Ctx) : (s.setCtx e c).grd = s.grd := rfl
@[simp] theorem State.setCtx_isl (e : CtxId) (c : Ctx) : (s.setCtx e c).isl = s.isl := rfl
@[simp] theorem State.setCtx_mtr (e : CtxId) (c : Ctx) : (s.setCtx e c).mtr = s.mtr := rfl
@[simp] theorem State.setCtx_saveLast (e : CtxId) (c : Ctx) : (s.setCtx e c).saveLast = s.saveLast := rfl
@[simp] theorem State.setCtx_finalSave (e : CtxId) (c : Ctx) : (s.setCtx e c).finalSave = s.finalSave := rfl
@[simp] theorem State.setCtx_saveCut (e : CtxId) (c : Ctx) : (s.setCtx e c).saveCut = s.saveCut := rfl
@[simp] theorem State.setCtx_tStop (e : CtxId) (c : Ctx) : (s.setCtx e c).tStop = s.tStop := rfl
@[simp] theorem State.setCtx_kT0 (e : CtxId) (c : Ctx) : (s.setCtx e c).kT0 = s.kT0 := rfl
@[simp] theorem State.setCtx_pchOk (e : CtxId) (c : Ctx) : (s.setCtx e c).pchOk = s.pchOk := rfl
@[simp] theorem State.setCtx_pchN (e : CtxId) (c : Ctx) : (s.setCtx e c).pchN = s.pchN := rfl
@[simp] theorem State.setCtx_pchV0 (e : CtxId) (c : Ctx) : (s.setCtx e c).pchV0 = s.pchV0 := rfl
@[simp] theorem State.setCtx_pchChk (e : CtxId) (c : Ctx) : (s.setCtx e c).pchChk = s.pchChk := rfl
@[simp] theorem State.setCtx_pchOv (e : CtxId) (c : Ctx) : (s.setCtx e c).pchOv = s.pchOv := rfl
@[simp] theorem State.setCtx_pchOverlap (e : CtxId) (c : Ctx) : (s.setCtx e c).pchOverlap = s.pchOverlap := rfl
@[simp] theorem State.setCtx_pchExit (e : CtxId) (c : Ctx) : (s.setCtx e c).pchExit = s.pchExit := rfl
@[simp] theorem State.setCtx_pairA (e : CtxId) (c : Ctx) : (s.setCtx e c).pairA = s.pairA := rfl
@[simp] theorem State.setCtx_pairB (e : CtxId) (c : Ctx) : (s.setCtx e c).pairB = s.pairB := rfl
@[simp] theorem State.setCtx_lsA (e : CtxId) (c : Ctx) : (s.setCtx e c).lsA = s.lsA := rfl
@[simp] theorem State.setCtx_lsB (e : CtxId) (c : Ctx) : (s.setCtx e c).lsB = s.lsB := rfl
@[simp] theorem State.setCtx_chDiff (e : CtxId) (c : Ctx) : (s.setCtx e c).chDiff = s.chDiff := rfl
@[simp] theorem State.setCtx_soDiff (e : CtxId) (c : Ctx) : (s.setCtx e c).soDiff = s.soDiff := rfl
@[simp] theorem State.setCtx_tp (e : CtxId) (c : Ctx) : (s.setCtx e c).tp = s.tp := rfl
@[simp] theorem State.setCtx_tpBad (e : CtxId) (c : Ctx) : (s.setCtx e c).tpBad = s.tpBad := rfl
@[simp] theorem State.setCtx_tgWait (e : CtxId) (c : Ctx) : (s.setCtx e c).tgWait = s.tgWait := rfl
@[simp] theorem State.setCtx_tgFx (e : CtxId) (c : Ctx) : (s.setCtx e c).tgFx = s.tgFx := rfl
@[simp] theorem State.setCtx_safForce (e : CtxId) (c : Ctx) : (s.setCtx e c).safForce = s.safForce := rfl
@[simp] theorem State.setCtx_so (e : CtxId) (c : Ctx) : (s.setCtx e c).so = s.so := rfl
@[simp] theorem State.setCtx_soDrop (e : CtxId) (c : Ctx) : (s.setCtx e c).soDrop = s.soDrop := rfl
@[simp] theorem State.setCtx_fltCyc (e : CtxId) (c : Ctx) : (s.setCtx e c).fltCyc = s.fltCyc := rfl
@[simp] theorem State.setCtx_swCyc (e : CtxId) (c : Ctx) : (s.setCtx e c).swCyc = s.swCyc := rfl
@[simp] theorem State.setCtx_fltEv (e : CtxId) (c : Ctx) : (s.setCtx e c).fltEv = s.fltEv := rfl
@[simp] theorem State.setCtx_holdLen (e : CtxId) (c : Ctx) : (s.setCtx e c).holdLen = s.holdLen := rfl
@[simp] theorem State.setCtx_holdMode (e : CtxId) (c : Ctx) : (s.setCtx e c).holdMode = s.holdMode := rfl
@[simp] theorem State.setCtx_holdTrip (e : CtxId) (c : Ctx) : (s.setCtx e c).holdTrip = s.holdTrip := rfl
@[simp] theorem State.setCtx_resumed (e : CtxId) (c : Ctx) : (s.setCtx e c).resumed = s.resumed := rfl
@[simp] theorem State.setCtx_resumeLinks (e : CtxId) (c : Ctx) : (s.setCtx e c).resumeLinks = s.resumeLinks := rfl
@[simp] theorem State.setCtx_recovMs (e : CtxId) (c : Ctx) : (s.setCtx e c).recovMs = s.recovMs := rfl
@[simp] theorem State.setCtx_refHeld (e : CtxId) (c : Ctx) : (s.setCtx e c).refHeld = s.refHeld := rfl
@[simp] theorem State.setCtx_refLost (e : CtxId) (c : Ctx) : (s.setCtx e c).refLost = s.refLost := rfl
@[simp] theorem State.setCtx_softReset (e : CtxId) (c : Ctx) : (s.setCtx e c).softReset = s.softReset := rfl
@[simp] theorem State.setCtx_resetAfterSave (e : CtxId) (c : Ctx) : (s.setCtx e c).resetAfterSave = s.resetAfterSave := rfl
@[simp] theorem State.setCtx_railBad (e : CtxId) (c : Ctx) : (s.setCtx e c).railBad = s.railBad := rfl
@[simp] theorem State.setCtx_bootDone (e : CtxId) (c : Ctx) : (s.setCtx e c).bootDone = s.bootDone := rfl
@[simp] theorem State.setCtx_stestCyc (e : CtxId) (c : Ctx) : (s.setCtx e c).stestCyc = s.stestCyc := rfl
@[simp] theorem State.setCtx_loopOk (e : CtxId) (c : Ctx) : (s.setCtx e c).loopOk = s.loopOk := rfl
@[simp] theorem State.setCtx_gateEn (e : CtxId) (c : Ctx) : (s.setCtx e c).gateEn = s.gateEn := rfl
@[simp] theorem State.setCtx_resetN (e : CtxId) (c : Ctx) : (s.setCtx e c).resetN = s.resetN := rfl
@[simp] theorem State.setCtx_pfi (e : CtxId) (c : Ctx) : (s.setCtx e c).pfi = s.pfi := rfl
@[simp] theorem State.setCtx_straps (e : CtxId) (c : Ctx) : (s.setCtx e c).straps = s.straps := rfl
@[simp] theorem State.setCtx_alive (e : CtxId) (c : Ctx) : (s.setCtx e c).alive = s.alive := rfl
@[simp] theorem State.setCtx_aliveRun (e : CtxId) (c : Ctx) : (s.setCtx e c).aliveRun = s.aliveRun := rfl
@[simp] theorem State.setCtx_rbg (e : CtxId) (c : Ctx) : (s.setCtx e c).rbg = s.rbg := rfl
@[simp] theorem State.setCtx_etime (e : CtxId) (c : Ctx) : (s.setCtx e c).etime = s.etime := rfl
@[simp] theorem State.setCtx_eRun (e : CtxId) (c : Ctx) : (s.setCtx e c).eRun = s.eRun := rfl
@[simp] theorem State.setCtx_everLock (e : CtxId) (c : Ctx) : (s.setCtx e c).everLock = s.everLock := rfl
@[simp] theorem State.setCtx_cyc (e : CtxId) (c : Ctx) : (s.setCtx e c).cyc = s.cyc := rfl
@[simp] theorem State.setCtx_rtcSub (e : CtxId) (c : Ctx) : (s.setCtx e c).rtcSub = s.rtcSub := rfl
@[simp] theorem State.setCtx_rtcPend (e : CtxId) (c : Ctx) : (s.setCtx e c).rtcPend = s.rtcPend := rfl
@[simp] theorem State.setCtx_hiLatch (e : CtxId) (c : Ctx) : (s.setCtx e c).hiLatch = s.hiLatch := rfl
@[simp] theorem State.setCtx_synciLast (e : CtxId) (c : Ctx) : (s.setCtx e c).synciLast = s.synciLast := rfl
@[simp] theorem State.setCtx_synco (e : CtxId) (c : Ctx) : (s.setCtx e c).synco = s.synco := rfl
@[simp] theorem State.setCtx_scrub (e : CtxId) (c : Ctx) : (s.setCtx e c).scrub = s.scrub := rfl
@[simp] theorem State.setCtx_hsLim (e : CtxId) (c : Ctx) : (s.setCtx e c).hsLim = s.hsLim := rfl
@[simp] theorem State.setCtx_hsTmr (e : CtxId) (c : Ctx) : (s.setCtx e c).hsTmr = s.hsTmr := rfl
@[simp] theorem State.setCtx_staged (e : CtxId) (c : Ctx) : (s.setCtx e c).staged = s.staged := rfl
@[simp] theorem State.setCtx_cmds (e : CtxId) (c : Ctx) : (s.setCtx e c).cmds = s.cmds := rfl
@[simp] theorem State.setCtx_nextId (e : CtxId) (c : Ctx) : (s.setCtx e c).nextId = s.nextId := rfl
@[simp] theorem State.setCtx_ports (e : CtxId) (c : Ctx) : (s.setCtx e c).ports = s.ports := rfl
@[simp] theorem State.setCtx_jLow (e : CtxId) (c : Ctx) : (s.setCtx e c).jLow = s.jLow := rfl
@[simp] theorem State.setCtx_host (e : CtxId) (c : Ctx) : (s.setCtx e c).host = s.host := rfl
@[simp] theorem State.setCtx_wq (e : CtxId) (c : Ctx) : (s.setCtx e c).wq = s.wq := rfl
@[simp] theorem State.setCtx_pq (e : CtxId) (c : Ctx) : (s.setCtx e c).pq = s.pq := rfl
@[simp] theorem State.setCtx_erasing (e : CtxId) (c : Ctx) : (s.setCtx e c).erasing = s.erasing := rfl
@[simp] theorem State.setCtx_activeB (e : CtxId) (c : Ctx) : (s.setCtx e c).activeB = s.activeB := rfl
@[simp] theorem State.setCtx_imgOf (e : CtxId) (c : Ctx) : (s.setCtx e c).imgOf = s.imgOf := rfl
@[simp] theorem State.setCtx_netId (e : CtxId) (c : Ctx) : (s.setCtx e c).netId = s.netId := rfl
@[simp] theorem State.setCtx_rxq (e : CtxId) (c : Ctx) : (s.setCtx e c).rxq = s.rxq := rfl
@[simp] theorem State.setCtx_tgSrc (e : CtxId) (c : Ctx) : (s.setCtx e c).tgSrc = s.tgSrc := rfl
@[simp] theorem State.setCtx_netLast (e : CtxId) (c : Ctx) : (s.setCtx e c).netLast = s.netLast := rfl
@[simp] theorem State.setCtx_noteAt (e : CtxId) (c : Ctx) : (s.setCtx e c).noteAt = s.noteAt := rfl
@[simp] theorem State.setCtx_dbgLim (e : CtxId) (c : Ctx) : (s.setCtx e c).dbgLim = s.dbgLim := rfl
@[simp] theorem State.setCtx_ringWait (e : CtxId) (c : Ctx) : (s.setCtx e c).ringWait = s.ringWait := rfl
@[simp] theorem State.setCtx_ringLost (e : CtxId) (c : Ctx) : (s.setCtx e c).ringLost = s.ringLost := rfl
@[simp] theorem State.setCtx_peerSeq (e : CtxId) (c : Ctx) : (s.setCtx e c).peerSeq = s.peerSeq := rfl
@[simp] theorem State.setCtx_free (e : CtxId) (c : Ctx) : (s.setCtx e c).free = s.free := rfl
@[simp] theorem State.setCtx_out (e : CtxId) (c : Ctx) : (s.setCtx e c).out = s.out := rfl
@[simp] theorem State.setCtx_pending (e : CtxId) (c : Ctx) : (s.setCtx e c).pending = s.pending := rfl

/-! ### setStg -/
@[simp] theorem State.setStg_regs (k : Stage) (g : Stg) : (s.setStg k g).regs = s.regs := rfl
@[simp] theorem State.setStg_mem (k : Stage) (g : Stg) : (s.setStg k g).mem = s.mem := rfl
@[simp] theorem State.setStg_ctx (k : Stage) (g : Stg) : (s.setStg k g).ctx = s.ctx := rfl
@[simp] theorem State.setStg_lnk (k : Stage) (g : Stg) : (s.setStg k g).lnk = s.lnk := rfl
@[simp] theorem State.setStg_slots (k : Stage) (g : Stg) : (s.setStg k g).slots = s.slots := rfl
@[simp] theorem State.setStg_imms (k : Stage) (g : Stg) : (s.setStg k g).imms = s.imms := rfl
@[simp] theorem State.setStg_ent (k : Stage) (g : Stg) : (s.setStg k g).ent = s.ent := rfl
@[simp] theorem State.setStg_scanPend (k : Stage) (g : Stg) : (s.setStg k g).scanPend = s.scanPend := rfl
@[simp] theorem State.setStg_calRun (k : Stage) (g : Stg) : (s.setStg k g).calRun = s.calRun := rfl
@[simp] theorem State.setStg_calDone (k : Stage) (g : Stg) : (s.setStg k g).calDone = s.calDone := rfl
@[simp] theorem State.setStg_dacIdx (k : Stage) (g : Stg) : (s.setStg k g).dacIdx = s.dacIdx := rfl
@[simp] theorem State.setStg_dacBad (k : Stage) (g : Stg) : (s.setStg k g).dacBad = s.dacBad := rfl
@[simp] theorem State.setStg_dacFail (k : Stage) (g : Stg) : (s.setStg k g).dacFail = s.dacFail := rfl
@[simp] theorem State.setStg_midFail (k : Stage) (g : Stg) : (s.setStg k g).midFail = s.midFail := rfl
@[simp] theorem State.setStg_adcLast (k : Stage) (g : Stg) : (s.setStg k g).adcLast = s.adcLast := rfl
@[simp] theorem State.setStg_adcDue (k : Stage) (g : Stg) : (s.setStg k g).adcDue = s.adcDue := rfl
@[simp] theorem State.setStg_midAcc (k : Stage) (g : Stg) : (s.setStg k g).midAcc = s.midAcc := rfl
@[simp] theorem State.setStg_cmpPow (k : Stage) (g : Stg) : (s.setStg k g).cmpPow = s.cmpPow := rfl
@[simp] theorem State.setStg_cmpFrom (k : Stage) (g : Stg) : (s.setStg k g).cmpFrom = s.cmpFrom := rfl
@[simp] theorem State.setStg_cmpDec (k : Stage) (g : Stg) : (s.setStg k g).cmpDec = s.cmpDec := rfl
@[simp] theorem State.setStg_cmpThr (k : Stage) (g : Stg) : (s.setStg k g).cmpThr = s.cmpThr := rfl
@[simp] theorem State.setStg_grd (k : Stage) (g : Stg) : (s.setStg k g).grd = s.grd := rfl
@[simp] theorem State.setStg_isl (k : Stage) (g : Stg) : (s.setStg k g).isl = s.isl := rfl
@[simp] theorem State.setStg_mtr (k : Stage) (g : Stg) : (s.setStg k g).mtr = s.mtr := rfl
@[simp] theorem State.setStg_saveLast (k : Stage) (g : Stg) : (s.setStg k g).saveLast = s.saveLast := rfl
@[simp] theorem State.setStg_finalSave (k : Stage) (g : Stg) : (s.setStg k g).finalSave = s.finalSave := rfl
@[simp] theorem State.setStg_saveCut (k : Stage) (g : Stg) : (s.setStg k g).saveCut = s.saveCut := rfl
@[simp] theorem State.setStg_tStop (k : Stage) (g : Stg) : (s.setStg k g).tStop = s.tStop := rfl
@[simp] theorem State.setStg_kT0 (k : Stage) (g : Stg) : (s.setStg k g).kT0 = s.kT0 := rfl
@[simp] theorem State.setStg_pchOk (k : Stage) (g : Stg) : (s.setStg k g).pchOk = s.pchOk := rfl
@[simp] theorem State.setStg_pchN (k : Stage) (g : Stg) : (s.setStg k g).pchN = s.pchN := rfl
@[simp] theorem State.setStg_pchV0 (k : Stage) (g : Stg) : (s.setStg k g).pchV0 = s.pchV0 := rfl
@[simp] theorem State.setStg_pchChk (k : Stage) (g : Stg) : (s.setStg k g).pchChk = s.pchChk := rfl
@[simp] theorem State.setStg_pchOv (k : Stage) (g : Stg) : (s.setStg k g).pchOv = s.pchOv := rfl
@[simp] theorem State.setStg_pchOverlap (k : Stage) (g : Stg) : (s.setStg k g).pchOverlap = s.pchOverlap := rfl
@[simp] theorem State.setStg_pchExit (k : Stage) (g : Stg) : (s.setStg k g).pchExit = s.pchExit := rfl
@[simp] theorem State.setStg_pairA (k : Stage) (g : Stg) : (s.setStg k g).pairA = s.pairA := rfl
@[simp] theorem State.setStg_pairB (k : Stage) (g : Stg) : (s.setStg k g).pairB = s.pairB := rfl
@[simp] theorem State.setStg_lsA (k : Stage) (g : Stg) : (s.setStg k g).lsA = s.lsA := rfl
@[simp] theorem State.setStg_lsB (k : Stage) (g : Stg) : (s.setStg k g).lsB = s.lsB := rfl
@[simp] theorem State.setStg_chDiff (k : Stage) (g : Stg) : (s.setStg k g).chDiff = s.chDiff := rfl
@[simp] theorem State.setStg_soDiff (k : Stage) (g : Stg) : (s.setStg k g).soDiff = s.soDiff := rfl
@[simp] theorem State.setStg_tp (k : Stage) (g : Stg) : (s.setStg k g).tp = s.tp := rfl
@[simp] theorem State.setStg_tpBad (k : Stage) (g : Stg) : (s.setStg k g).tpBad = s.tpBad := rfl
@[simp] theorem State.setStg_tgWait (k : Stage) (g : Stg) : (s.setStg k g).tgWait = s.tgWait := rfl
@[simp] theorem State.setStg_tgFx (k : Stage) (g : Stg) : (s.setStg k g).tgFx = s.tgFx := rfl
@[simp] theorem State.setStg_safForce (k : Stage) (g : Stg) : (s.setStg k g).safForce = s.safForce := rfl
@[simp] theorem State.setStg_so (k : Stage) (g : Stg) : (s.setStg k g).so = s.so := rfl
@[simp] theorem State.setStg_soDrop (k : Stage) (g : Stg) : (s.setStg k g).soDrop = s.soDrop := rfl
@[simp] theorem State.setStg_fltCyc (k : Stage) (g : Stg) : (s.setStg k g).fltCyc = s.fltCyc := rfl
@[simp] theorem State.setStg_swCyc (k : Stage) (g : Stg) : (s.setStg k g).swCyc = s.swCyc := rfl
@[simp] theorem State.setStg_fltEv (k : Stage) (g : Stg) : (s.setStg k g).fltEv = s.fltEv := rfl
@[simp] theorem State.setStg_holdLen (k : Stage) (g : Stg) : (s.setStg k g).holdLen = s.holdLen := rfl
@[simp] theorem State.setStg_holdMode (k : Stage) (g : Stg) : (s.setStg k g).holdMode = s.holdMode := rfl
@[simp] theorem State.setStg_holdTrip (k : Stage) (g : Stg) : (s.setStg k g).holdTrip = s.holdTrip := rfl
@[simp] theorem State.setStg_resumed (k : Stage) (g : Stg) : (s.setStg k g).resumed = s.resumed := rfl
@[simp] theorem State.setStg_resumeLinks (k : Stage) (g : Stg) : (s.setStg k g).resumeLinks = s.resumeLinks := rfl
@[simp] theorem State.setStg_recovMs (k : Stage) (g : Stg) : (s.setStg k g).recovMs = s.recovMs := rfl
@[simp] theorem State.setStg_refHeld (k : Stage) (g : Stg) : (s.setStg k g).refHeld = s.refHeld := rfl
@[simp] theorem State.setStg_refLost (k : Stage) (g : Stg) : (s.setStg k g).refLost = s.refLost := rfl
@[simp] theorem State.setStg_softReset (k : Stage) (g : Stg) : (s.setStg k g).softReset = s.softReset := rfl
@[simp] theorem State.setStg_resetAfterSave (k : Stage) (g : Stg) : (s.setStg k g).resetAfterSave = s.resetAfterSave := rfl
@[simp] theorem State.setStg_railBad (k : Stage) (g : Stg) : (s.setStg k g).railBad = s.railBad := rfl
@[simp] theorem State.setStg_bootDone (k : Stage) (g : Stg) : (s.setStg k g).bootDone = s.bootDone := rfl
@[simp] theorem State.setStg_stestCyc (k : Stage) (g : Stg) : (s.setStg k g).stestCyc = s.stestCyc := rfl
@[simp] theorem State.setStg_loopOk (k : Stage) (g : Stg) : (s.setStg k g).loopOk = s.loopOk := rfl
@[simp] theorem State.setStg_gateEn (k : Stage) (g : Stg) : (s.setStg k g).gateEn = s.gateEn := rfl
@[simp] theorem State.setStg_resetN (k : Stage) (g : Stg) : (s.setStg k g).resetN = s.resetN := rfl
@[simp] theorem State.setStg_pfi (k : Stage) (g : Stg) : (s.setStg k g).pfi = s.pfi := rfl
@[simp] theorem State.setStg_straps (k : Stage) (g : Stg) : (s.setStg k g).straps = s.straps := rfl
@[simp] theorem State.setStg_alive (k : Stage) (g : Stg) : (s.setStg k g).alive = s.alive := rfl
@[simp] theorem State.setStg_aliveRun (k : Stage) (g : Stg) : (s.setStg k g).aliveRun = s.aliveRun := rfl
@[simp] theorem State.setStg_rbg (k : Stage) (g : Stg) : (s.setStg k g).rbg = s.rbg := rfl
@[simp] theorem State.setStg_etime (k : Stage) (g : Stg) : (s.setStg k g).etime = s.etime := rfl
@[simp] theorem State.setStg_eRun (k : Stage) (g : Stg) : (s.setStg k g).eRun = s.eRun := rfl
@[simp] theorem State.setStg_everLock (k : Stage) (g : Stg) : (s.setStg k g).everLock = s.everLock := rfl
@[simp] theorem State.setStg_cyc (k : Stage) (g : Stg) : (s.setStg k g).cyc = s.cyc := rfl
@[simp] theorem State.setStg_rtcSub (k : Stage) (g : Stg) : (s.setStg k g).rtcSub = s.rtcSub := rfl
@[simp] theorem State.setStg_rtcPend (k : Stage) (g : Stg) : (s.setStg k g).rtcPend = s.rtcPend := rfl
@[simp] theorem State.setStg_hiLatch (k : Stage) (g : Stg) : (s.setStg k g).hiLatch = s.hiLatch := rfl
@[simp] theorem State.setStg_synciLast (k : Stage) (g : Stg) : (s.setStg k g).synciLast = s.synciLast := rfl
@[simp] theorem State.setStg_synco (k : Stage) (g : Stg) : (s.setStg k g).synco = s.synco := rfl
@[simp] theorem State.setStg_scrub (k : Stage) (g : Stg) : (s.setStg k g).scrub = s.scrub := rfl
@[simp] theorem State.setStg_hsLim (k : Stage) (g : Stg) : (s.setStg k g).hsLim = s.hsLim := rfl
@[simp] theorem State.setStg_hsTmr (k : Stage) (g : Stg) : (s.setStg k g).hsTmr = s.hsTmr := rfl
@[simp] theorem State.setStg_staged (k : Stage) (g : Stg) : (s.setStg k g).staged = s.staged := rfl
@[simp] theorem State.setStg_cmds (k : Stage) (g : Stg) : (s.setStg k g).cmds = s.cmds := rfl
@[simp] theorem State.setStg_nextId (k : Stage) (g : Stg) : (s.setStg k g).nextId = s.nextId := rfl
@[simp] theorem State.setStg_ports (k : Stage) (g : Stg) : (s.setStg k g).ports = s.ports := rfl
@[simp] theorem State.setStg_jLow (k : Stage) (g : Stg) : (s.setStg k g).jLow = s.jLow := rfl
@[simp] theorem State.setStg_host (k : Stage) (g : Stg) : (s.setStg k g).host = s.host := rfl
@[simp] theorem State.setStg_wq (k : Stage) (g : Stg) : (s.setStg k g).wq = s.wq := rfl
@[simp] theorem State.setStg_pq (k : Stage) (g : Stg) : (s.setStg k g).pq = s.pq := rfl
@[simp] theorem State.setStg_erasing (k : Stage) (g : Stg) : (s.setStg k g).erasing = s.erasing := rfl
@[simp] theorem State.setStg_activeB (k : Stage) (g : Stg) : (s.setStg k g).activeB = s.activeB := rfl
@[simp] theorem State.setStg_imgOf (k : Stage) (g : Stg) : (s.setStg k g).imgOf = s.imgOf := rfl
@[simp] theorem State.setStg_netId (k : Stage) (g : Stg) : (s.setStg k g).netId = s.netId := rfl
@[simp] theorem State.setStg_rxq (k : Stage) (g : Stg) : (s.setStg k g).rxq = s.rxq := rfl
@[simp] theorem State.setStg_tgSrc (k : Stage) (g : Stg) : (s.setStg k g).tgSrc = s.tgSrc := rfl
@[simp] theorem State.setStg_netLast (k : Stage) (g : Stg) : (s.setStg k g).netLast = s.netLast := rfl
@[simp] theorem State.setStg_noteAt (k : Stage) (g : Stg) : (s.setStg k g).noteAt = s.noteAt := rfl
@[simp] theorem State.setStg_dbgLim (k : Stage) (g : Stg) : (s.setStg k g).dbgLim = s.dbgLim := rfl
@[simp] theorem State.setStg_ringWait (k : Stage) (g : Stg) : (s.setStg k g).ringWait = s.ringWait := rfl
@[simp] theorem State.setStg_ringLost (k : Stage) (g : Stg) : (s.setStg k g).ringLost = s.ringLost := rfl
@[simp] theorem State.setStg_peerSeq (k : Stage) (g : Stg) : (s.setStg k g).peerSeq = s.peerSeq := rfl
@[simp] theorem State.setStg_free (k : Stage) (g : Stg) : (s.setStg k g).free = s.free := rfl
@[simp] theorem State.setStg_out (k : Stage) (g : Stg) : (s.setStg k g).out = s.out := rfl
@[simp] theorem State.setStg_pending (k : Stage) (g : Stg) : (s.setStg k g).pending = s.pending := rfl

/-! ### setLnk -/
@[simp] theorem State.setLnk_regs (n : Link) (l : Lnk) : (s.setLnk n l).regs = s.regs := rfl
@[simp] theorem State.setLnk_mem (n : Link) (l : Lnk) : (s.setLnk n l).mem = s.mem := rfl
@[simp] theorem State.setLnk_ctx (n : Link) (l : Lnk) : (s.setLnk n l).ctx = s.ctx := rfl
@[simp] theorem State.setLnk_stg (n : Link) (l : Lnk) : (s.setLnk n l).stg = s.stg := rfl
@[simp] theorem State.setLnk_slots (n : Link) (l : Lnk) : (s.setLnk n l).slots = s.slots := rfl
@[simp] theorem State.setLnk_imms (n : Link) (l : Lnk) : (s.setLnk n l).imms = s.imms := rfl
@[simp] theorem State.setLnk_ent (n : Link) (l : Lnk) : (s.setLnk n l).ent = s.ent := rfl
@[simp] theorem State.setLnk_scanPend (n : Link) (l : Lnk) : (s.setLnk n l).scanPend = s.scanPend := rfl
@[simp] theorem State.setLnk_calRun (n : Link) (l : Lnk) : (s.setLnk n l).calRun = s.calRun := rfl
@[simp] theorem State.setLnk_calDone (n : Link) (l : Lnk) : (s.setLnk n l).calDone = s.calDone := rfl
@[simp] theorem State.setLnk_dacIdx (n : Link) (l : Lnk) : (s.setLnk n l).dacIdx = s.dacIdx := rfl
@[simp] theorem State.setLnk_dacBad (n : Link) (l : Lnk) : (s.setLnk n l).dacBad = s.dacBad := rfl
@[simp] theorem State.setLnk_dacFail (n : Link) (l : Lnk) : (s.setLnk n l).dacFail = s.dacFail := rfl
@[simp] theorem State.setLnk_midFail (n : Link) (l : Lnk) : (s.setLnk n l).midFail = s.midFail := rfl
@[simp] theorem State.setLnk_adcLast (n : Link) (l : Lnk) : (s.setLnk n l).adcLast = s.adcLast := rfl
@[simp] theorem State.setLnk_adcDue (n : Link) (l : Lnk) : (s.setLnk n l).adcDue = s.adcDue := rfl
@[simp] theorem State.setLnk_midAcc (n : Link) (l : Lnk) : (s.setLnk n l).midAcc = s.midAcc := rfl
@[simp] theorem State.setLnk_cmpPow (n : Link) (l : Lnk) : (s.setLnk n l).cmpPow = s.cmpPow := rfl
@[simp] theorem State.setLnk_cmpFrom (n : Link) (l : Lnk) : (s.setLnk n l).cmpFrom = s.cmpFrom := rfl
@[simp] theorem State.setLnk_cmpDec (n : Link) (l : Lnk) : (s.setLnk n l).cmpDec = s.cmpDec := rfl
@[simp] theorem State.setLnk_cmpThr (n : Link) (l : Lnk) : (s.setLnk n l).cmpThr = s.cmpThr := rfl
@[simp] theorem State.setLnk_grd (n : Link) (l : Lnk) : (s.setLnk n l).grd = s.grd := rfl
@[simp] theorem State.setLnk_isl (n : Link) (l : Lnk) : (s.setLnk n l).isl = s.isl := rfl
@[simp] theorem State.setLnk_mtr (n : Link) (l : Lnk) : (s.setLnk n l).mtr = s.mtr := rfl
@[simp] theorem State.setLnk_saveLast (n : Link) (l : Lnk) : (s.setLnk n l).saveLast = s.saveLast := rfl
@[simp] theorem State.setLnk_finalSave (n : Link) (l : Lnk) : (s.setLnk n l).finalSave = s.finalSave := rfl
@[simp] theorem State.setLnk_saveCut (n : Link) (l : Lnk) : (s.setLnk n l).saveCut = s.saveCut := rfl
@[simp] theorem State.setLnk_tStop (n : Link) (l : Lnk) : (s.setLnk n l).tStop = s.tStop := rfl
@[simp] theorem State.setLnk_kT0 (n : Link) (l : Lnk) : (s.setLnk n l).kT0 = s.kT0 := rfl
@[simp] theorem State.setLnk_pchOk (n : Link) (l : Lnk) : (s.setLnk n l).pchOk = s.pchOk := rfl
@[simp] theorem State.setLnk_pchN (n : Link) (l : Lnk) : (s.setLnk n l).pchN = s.pchN := rfl
@[simp] theorem State.setLnk_pchV0 (n : Link) (l : Lnk) : (s.setLnk n l).pchV0 = s.pchV0 := rfl
@[simp] theorem State.setLnk_pchChk (n : Link) (l : Lnk) : (s.setLnk n l).pchChk = s.pchChk := rfl
@[simp] theorem State.setLnk_pchOv (n : Link) (l : Lnk) : (s.setLnk n l).pchOv = s.pchOv := rfl
@[simp] theorem State.setLnk_pchOverlap (n : Link) (l : Lnk) : (s.setLnk n l).pchOverlap = s.pchOverlap := rfl
@[simp] theorem State.setLnk_pchExit (n : Link) (l : Lnk) : (s.setLnk n l).pchExit = s.pchExit := rfl
@[simp] theorem State.setLnk_pairA (n : Link) (l : Lnk) : (s.setLnk n l).pairA = s.pairA := rfl
@[simp] theorem State.setLnk_pairB (n : Link) (l : Lnk) : (s.setLnk n l).pairB = s.pairB := rfl
@[simp] theorem State.setLnk_lsA (n : Link) (l : Lnk) : (s.setLnk n l).lsA = s.lsA := rfl
@[simp] theorem State.setLnk_lsB (n : Link) (l : Lnk) : (s.setLnk n l).lsB = s.lsB := rfl
@[simp] theorem State.setLnk_chDiff (n : Link) (l : Lnk) : (s.setLnk n l).chDiff = s.chDiff := rfl
@[simp] theorem State.setLnk_soDiff (n : Link) (l : Lnk) : (s.setLnk n l).soDiff = s.soDiff := rfl
@[simp] theorem State.setLnk_tp (n : Link) (l : Lnk) : (s.setLnk n l).tp = s.tp := rfl
@[simp] theorem State.setLnk_tpBad (n : Link) (l : Lnk) : (s.setLnk n l).tpBad = s.tpBad := rfl
@[simp] theorem State.setLnk_tgWait (n : Link) (l : Lnk) : (s.setLnk n l).tgWait = s.tgWait := rfl
@[simp] theorem State.setLnk_tgFx (n : Link) (l : Lnk) : (s.setLnk n l).tgFx = s.tgFx := rfl
@[simp] theorem State.setLnk_safForce (n : Link) (l : Lnk) : (s.setLnk n l).safForce = s.safForce := rfl
@[simp] theorem State.setLnk_so (n : Link) (l : Lnk) : (s.setLnk n l).so = s.so := rfl
@[simp] theorem State.setLnk_soDrop (n : Link) (l : Lnk) : (s.setLnk n l).soDrop = s.soDrop := rfl
@[simp] theorem State.setLnk_fltCyc (n : Link) (l : Lnk) : (s.setLnk n l).fltCyc = s.fltCyc := rfl
@[simp] theorem State.setLnk_swCyc (n : Link) (l : Lnk) : (s.setLnk n l).swCyc = s.swCyc := rfl
@[simp] theorem State.setLnk_fltEv (n : Link) (l : Lnk) : (s.setLnk n l).fltEv = s.fltEv := rfl
@[simp] theorem State.setLnk_holdLen (n : Link) (l : Lnk) : (s.setLnk n l).holdLen = s.holdLen := rfl
@[simp] theorem State.setLnk_holdMode (n : Link) (l : Lnk) : (s.setLnk n l).holdMode = s.holdMode := rfl
@[simp] theorem State.setLnk_holdTrip (n : Link) (l : Lnk) : (s.setLnk n l).holdTrip = s.holdTrip := rfl
@[simp] theorem State.setLnk_resumed (n : Link) (l : Lnk) : (s.setLnk n l).resumed = s.resumed := rfl
@[simp] theorem State.setLnk_resumeLinks (n : Link) (l : Lnk) : (s.setLnk n l).resumeLinks = s.resumeLinks := rfl
@[simp] theorem State.setLnk_recovMs (n : Link) (l : Lnk) : (s.setLnk n l).recovMs = s.recovMs := rfl
@[simp] theorem State.setLnk_refHeld (n : Link) (l : Lnk) : (s.setLnk n l).refHeld = s.refHeld := rfl
@[simp] theorem State.setLnk_refLost (n : Link) (l : Lnk) : (s.setLnk n l).refLost = s.refLost := rfl
@[simp] theorem State.setLnk_softReset (n : Link) (l : Lnk) : (s.setLnk n l).softReset = s.softReset := rfl
@[simp] theorem State.setLnk_resetAfterSave (n : Link) (l : Lnk) : (s.setLnk n l).resetAfterSave = s.resetAfterSave := rfl
@[simp] theorem State.setLnk_railBad (n : Link) (l : Lnk) : (s.setLnk n l).railBad = s.railBad := rfl
@[simp] theorem State.setLnk_bootDone (n : Link) (l : Lnk) : (s.setLnk n l).bootDone = s.bootDone := rfl
@[simp] theorem State.setLnk_stestCyc (n : Link) (l : Lnk) : (s.setLnk n l).stestCyc = s.stestCyc := rfl
@[simp] theorem State.setLnk_loopOk (n : Link) (l : Lnk) : (s.setLnk n l).loopOk = s.loopOk := rfl
@[simp] theorem State.setLnk_gateEn (n : Link) (l : Lnk) : (s.setLnk n l).gateEn = s.gateEn := rfl
@[simp] theorem State.setLnk_resetN (n : Link) (l : Lnk) : (s.setLnk n l).resetN = s.resetN := rfl
@[simp] theorem State.setLnk_pfi (n : Link) (l : Lnk) : (s.setLnk n l).pfi = s.pfi := rfl
@[simp] theorem State.setLnk_straps (n : Link) (l : Lnk) : (s.setLnk n l).straps = s.straps := rfl
@[simp] theorem State.setLnk_alive (n : Link) (l : Lnk) : (s.setLnk n l).alive = s.alive := rfl
@[simp] theorem State.setLnk_aliveRun (n : Link) (l : Lnk) : (s.setLnk n l).aliveRun = s.aliveRun := rfl
@[simp] theorem State.setLnk_rbg (n : Link) (l : Lnk) : (s.setLnk n l).rbg = s.rbg := rfl
@[simp] theorem State.setLnk_etime (n : Link) (l : Lnk) : (s.setLnk n l).etime = s.etime := rfl
@[simp] theorem State.setLnk_eRun (n : Link) (l : Lnk) : (s.setLnk n l).eRun = s.eRun := rfl
@[simp] theorem State.setLnk_everLock (n : Link) (l : Lnk) : (s.setLnk n l).everLock = s.everLock := rfl
@[simp] theorem State.setLnk_cyc (n : Link) (l : Lnk) : (s.setLnk n l).cyc = s.cyc := rfl
@[simp] theorem State.setLnk_rtcSub (n : Link) (l : Lnk) : (s.setLnk n l).rtcSub = s.rtcSub := rfl
@[simp] theorem State.setLnk_rtcPend (n : Link) (l : Lnk) : (s.setLnk n l).rtcPend = s.rtcPend := rfl
@[simp] theorem State.setLnk_hiLatch (n : Link) (l : Lnk) : (s.setLnk n l).hiLatch = s.hiLatch := rfl
@[simp] theorem State.setLnk_synciLast (n : Link) (l : Lnk) : (s.setLnk n l).synciLast = s.synciLast := rfl
@[simp] theorem State.setLnk_synco (n : Link) (l : Lnk) : (s.setLnk n l).synco = s.synco := rfl
@[simp] theorem State.setLnk_scrub (n : Link) (l : Lnk) : (s.setLnk n l).scrub = s.scrub := rfl
@[simp] theorem State.setLnk_hsLim (n : Link) (l : Lnk) : (s.setLnk n l).hsLim = s.hsLim := rfl
@[simp] theorem State.setLnk_hsTmr (n : Link) (l : Lnk) : (s.setLnk n l).hsTmr = s.hsTmr := rfl
@[simp] theorem State.setLnk_staged (n : Link) (l : Lnk) : (s.setLnk n l).staged = s.staged := rfl
@[simp] theorem State.setLnk_cmds (n : Link) (l : Lnk) : (s.setLnk n l).cmds = s.cmds := rfl
@[simp] theorem State.setLnk_nextId (n : Link) (l : Lnk) : (s.setLnk n l).nextId = s.nextId := rfl
@[simp] theorem State.setLnk_ports (n : Link) (l : Lnk) : (s.setLnk n l).ports = s.ports := rfl
@[simp] theorem State.setLnk_jLow (n : Link) (l : Lnk) : (s.setLnk n l).jLow = s.jLow := rfl
@[simp] theorem State.setLnk_host (n : Link) (l : Lnk) : (s.setLnk n l).host = s.host := rfl
@[simp] theorem State.setLnk_wq (n : Link) (l : Lnk) : (s.setLnk n l).wq = s.wq := rfl
@[simp] theorem State.setLnk_pq (n : Link) (l : Lnk) : (s.setLnk n l).pq = s.pq := rfl
@[simp] theorem State.setLnk_erasing (n : Link) (l : Lnk) : (s.setLnk n l).erasing = s.erasing := rfl
@[simp] theorem State.setLnk_activeB (n : Link) (l : Lnk) : (s.setLnk n l).activeB = s.activeB := rfl
@[simp] theorem State.setLnk_imgOf (n : Link) (l : Lnk) : (s.setLnk n l).imgOf = s.imgOf := rfl
@[simp] theorem State.setLnk_netId (n : Link) (l : Lnk) : (s.setLnk n l).netId = s.netId := rfl
@[simp] theorem State.setLnk_rxq (n : Link) (l : Lnk) : (s.setLnk n l).rxq = s.rxq := rfl
@[simp] theorem State.setLnk_tgSrc (n : Link) (l : Lnk) : (s.setLnk n l).tgSrc = s.tgSrc := rfl
@[simp] theorem State.setLnk_netLast (n : Link) (l : Lnk) : (s.setLnk n l).netLast = s.netLast := rfl
@[simp] theorem State.setLnk_noteAt (n : Link) (l : Lnk) : (s.setLnk n l).noteAt = s.noteAt := rfl
@[simp] theorem State.setLnk_dbgLim (n : Link) (l : Lnk) : (s.setLnk n l).dbgLim = s.dbgLim := rfl
@[simp] theorem State.setLnk_ringWait (n : Link) (l : Lnk) : (s.setLnk n l).ringWait = s.ringWait := rfl
@[simp] theorem State.setLnk_ringLost (n : Link) (l : Lnk) : (s.setLnk n l).ringLost = s.ringLost := rfl
@[simp] theorem State.setLnk_peerSeq (n : Link) (l : Lnk) : (s.setLnk n l).peerSeq = s.peerSeq := rfl
@[simp] theorem State.setLnk_free (n : Link) (l : Lnk) : (s.setLnk n l).free = s.free := rfl
@[simp] theorem State.setLnk_out (n : Link) (l : Lnk) : (s.setLnk n l).out = s.out := rfl
@[simp] theorem State.setLnk_pending (n : Link) (l : Lnk) : (s.setLnk n l).pending = s.pending := rfl

/-! ### emit -/
@[simp] theorem State.emit_regs (o : Out) : (s.emit o).regs = s.regs := rfl
@[simp] theorem State.emit_mem (o : Out) : (s.emit o).mem = s.mem := rfl
@[simp] theorem State.emit_ctx (o : Out) : (s.emit o).ctx = s.ctx := rfl
@[simp] theorem State.emit_stg (o : Out) : (s.emit o).stg = s.stg := rfl
@[simp] theorem State.emit_lnk (o : Out) : (s.emit o).lnk = s.lnk := rfl
@[simp] theorem State.emit_slots (o : Out) : (s.emit o).slots = s.slots := rfl
@[simp] theorem State.emit_imms (o : Out) : (s.emit o).imms = s.imms := rfl
@[simp] theorem State.emit_ent (o : Out) : (s.emit o).ent = s.ent := rfl
@[simp] theorem State.emit_scanPend (o : Out) : (s.emit o).scanPend = s.scanPend := rfl
@[simp] theorem State.emit_calRun (o : Out) : (s.emit o).calRun = s.calRun := rfl
@[simp] theorem State.emit_calDone (o : Out) : (s.emit o).calDone = s.calDone := rfl
@[simp] theorem State.emit_dacIdx (o : Out) : (s.emit o).dacIdx = s.dacIdx := rfl
@[simp] theorem State.emit_dacBad (o : Out) : (s.emit o).dacBad = s.dacBad := rfl
@[simp] theorem State.emit_dacFail (o : Out) : (s.emit o).dacFail = s.dacFail := rfl
@[simp] theorem State.emit_midFail (o : Out) : (s.emit o).midFail = s.midFail := rfl
@[simp] theorem State.emit_adcLast (o : Out) : (s.emit o).adcLast = s.adcLast := rfl
@[simp] theorem State.emit_adcDue (o : Out) : (s.emit o).adcDue = s.adcDue := rfl
@[simp] theorem State.emit_midAcc (o : Out) : (s.emit o).midAcc = s.midAcc := rfl
@[simp] theorem State.emit_cmpPow (o : Out) : (s.emit o).cmpPow = s.cmpPow := rfl
@[simp] theorem State.emit_cmpFrom (o : Out) : (s.emit o).cmpFrom = s.cmpFrom := rfl
@[simp] theorem State.emit_cmpDec (o : Out) : (s.emit o).cmpDec = s.cmpDec := rfl
@[simp] theorem State.emit_cmpThr (o : Out) : (s.emit o).cmpThr = s.cmpThr := rfl
@[simp] theorem State.emit_grd (o : Out) : (s.emit o).grd = s.grd := rfl
@[simp] theorem State.emit_isl (o : Out) : (s.emit o).isl = s.isl := rfl
@[simp] theorem State.emit_mtr (o : Out) : (s.emit o).mtr = s.mtr := rfl
@[simp] theorem State.emit_saveLast (o : Out) : (s.emit o).saveLast = s.saveLast := rfl
@[simp] theorem State.emit_finalSave (o : Out) : (s.emit o).finalSave = s.finalSave := rfl
@[simp] theorem State.emit_saveCut (o : Out) : (s.emit o).saveCut = s.saveCut := rfl
@[simp] theorem State.emit_tStop (o : Out) : (s.emit o).tStop = s.tStop := rfl
@[simp] theorem State.emit_kT0 (o : Out) : (s.emit o).kT0 = s.kT0 := rfl
@[simp] theorem State.emit_pchOk (o : Out) : (s.emit o).pchOk = s.pchOk := rfl
@[simp] theorem State.emit_pchN (o : Out) : (s.emit o).pchN = s.pchN := rfl
@[simp] theorem State.emit_pchV0 (o : Out) : (s.emit o).pchV0 = s.pchV0 := rfl
@[simp] theorem State.emit_pchChk (o : Out) : (s.emit o).pchChk = s.pchChk := rfl
@[simp] theorem State.emit_pchOv (o : Out) : (s.emit o).pchOv = s.pchOv := rfl
@[simp] theorem State.emit_pchOverlap (o : Out) : (s.emit o).pchOverlap = s.pchOverlap := rfl
@[simp] theorem State.emit_pchExit (o : Out) : (s.emit o).pchExit = s.pchExit := rfl
@[simp] theorem State.emit_pairA (o : Out) : (s.emit o).pairA = s.pairA := rfl
@[simp] theorem State.emit_pairB (o : Out) : (s.emit o).pairB = s.pairB := rfl
@[simp] theorem State.emit_lsA (o : Out) : (s.emit o).lsA = s.lsA := rfl
@[simp] theorem State.emit_lsB (o : Out) : (s.emit o).lsB = s.lsB := rfl
@[simp] theorem State.emit_chDiff (o : Out) : (s.emit o).chDiff = s.chDiff := rfl
@[simp] theorem State.emit_soDiff (o : Out) : (s.emit o).soDiff = s.soDiff := rfl
@[simp] theorem State.emit_tp (o : Out) : (s.emit o).tp = s.tp := rfl
@[simp] theorem State.emit_tpBad (o : Out) : (s.emit o).tpBad = s.tpBad := rfl
@[simp] theorem State.emit_tgWait (o : Out) : (s.emit o).tgWait = s.tgWait := rfl
@[simp] theorem State.emit_tgFx (o : Out) : (s.emit o).tgFx = s.tgFx := rfl
@[simp] theorem State.emit_safForce (o : Out) : (s.emit o).safForce = s.safForce := rfl
@[simp] theorem State.emit_so (o : Out) : (s.emit o).so = s.so := rfl
@[simp] theorem State.emit_soDrop (o : Out) : (s.emit o).soDrop = s.soDrop := rfl
@[simp] theorem State.emit_fltCyc (o : Out) : (s.emit o).fltCyc = s.fltCyc := rfl
@[simp] theorem State.emit_swCyc (o : Out) : (s.emit o).swCyc = s.swCyc := rfl
@[simp] theorem State.emit_fltEv (o : Out) : (s.emit o).fltEv = s.fltEv := rfl
@[simp] theorem State.emit_holdLen (o : Out) : (s.emit o).holdLen = s.holdLen := rfl
@[simp] theorem State.emit_holdMode (o : Out) : (s.emit o).holdMode = s.holdMode := rfl
@[simp] theorem State.emit_holdTrip (o : Out) : (s.emit o).holdTrip = s.holdTrip := rfl
@[simp] theorem State.emit_resumed (o : Out) : (s.emit o).resumed = s.resumed := rfl
@[simp] theorem State.emit_resumeLinks (o : Out) : (s.emit o).resumeLinks = s.resumeLinks := rfl
@[simp] theorem State.emit_recovMs (o : Out) : (s.emit o).recovMs = s.recovMs := rfl
@[simp] theorem State.emit_refHeld (o : Out) : (s.emit o).refHeld = s.refHeld := rfl
@[simp] theorem State.emit_refLost (o : Out) : (s.emit o).refLost = s.refLost := rfl
@[simp] theorem State.emit_softReset (o : Out) : (s.emit o).softReset = s.softReset := rfl
@[simp] theorem State.emit_resetAfterSave (o : Out) : (s.emit o).resetAfterSave = s.resetAfterSave := rfl
@[simp] theorem State.emit_railBad (o : Out) : (s.emit o).railBad = s.railBad := rfl
@[simp] theorem State.emit_bootDone (o : Out) : (s.emit o).bootDone = s.bootDone := rfl
@[simp] theorem State.emit_stestCyc (o : Out) : (s.emit o).stestCyc = s.stestCyc := rfl
@[simp] theorem State.emit_loopOk (o : Out) : (s.emit o).loopOk = s.loopOk := rfl
@[simp] theorem State.emit_gateEn (o : Out) : (s.emit o).gateEn = s.gateEn := rfl
@[simp] theorem State.emit_resetN (o : Out) : (s.emit o).resetN = s.resetN := rfl
@[simp] theorem State.emit_pfi (o : Out) : (s.emit o).pfi = s.pfi := rfl
@[simp] theorem State.emit_straps (o : Out) : (s.emit o).straps = s.straps := rfl
@[simp] theorem State.emit_alive (o : Out) : (s.emit o).alive = s.alive := rfl
@[simp] theorem State.emit_aliveRun (o : Out) : (s.emit o).aliveRun = s.aliveRun := rfl
@[simp] theorem State.emit_rbg (o : Out) : (s.emit o).rbg = s.rbg := rfl
@[simp] theorem State.emit_etime (o : Out) : (s.emit o).etime = s.etime := rfl
@[simp] theorem State.emit_eRun (o : Out) : (s.emit o).eRun = s.eRun := rfl
@[simp] theorem State.emit_everLock (o : Out) : (s.emit o).everLock = s.everLock := rfl
@[simp] theorem State.emit_cyc (o : Out) : (s.emit o).cyc = s.cyc := rfl
@[simp] theorem State.emit_rtcSub (o : Out) : (s.emit o).rtcSub = s.rtcSub := rfl
@[simp] theorem State.emit_rtcPend (o : Out) : (s.emit o).rtcPend = s.rtcPend := rfl
@[simp] theorem State.emit_hiLatch (o : Out) : (s.emit o).hiLatch = s.hiLatch := rfl
@[simp] theorem State.emit_synciLast (o : Out) : (s.emit o).synciLast = s.synciLast := rfl
@[simp] theorem State.emit_synco (o : Out) : (s.emit o).synco = s.synco := rfl
@[simp] theorem State.emit_scrub (o : Out) : (s.emit o).scrub = s.scrub := rfl
@[simp] theorem State.emit_hsLim (o : Out) : (s.emit o).hsLim = s.hsLim := rfl
@[simp] theorem State.emit_hsTmr (o : Out) : (s.emit o).hsTmr = s.hsTmr := rfl
@[simp] theorem State.emit_staged (o : Out) : (s.emit o).staged = s.staged := rfl
@[simp] theorem State.emit_cmds (o : Out) : (s.emit o).cmds = s.cmds := rfl
@[simp] theorem State.emit_nextId (o : Out) : (s.emit o).nextId = s.nextId := rfl
@[simp] theorem State.emit_ports (o : Out) : (s.emit o).ports = s.ports := rfl
@[simp] theorem State.emit_jLow (o : Out) : (s.emit o).jLow = s.jLow := rfl
@[simp] theorem State.emit_host (o : Out) : (s.emit o).host = s.host := rfl
@[simp] theorem State.emit_wq (o : Out) : (s.emit o).wq = s.wq := rfl
@[simp] theorem State.emit_pq (o : Out) : (s.emit o).pq = s.pq := rfl
@[simp] theorem State.emit_erasing (o : Out) : (s.emit o).erasing = s.erasing := rfl
@[simp] theorem State.emit_activeB (o : Out) : (s.emit o).activeB = s.activeB := rfl
@[simp] theorem State.emit_imgOf (o : Out) : (s.emit o).imgOf = s.imgOf := rfl
@[simp] theorem State.emit_netId (o : Out) : (s.emit o).netId = s.netId := rfl
@[simp] theorem State.emit_rxq (o : Out) : (s.emit o).rxq = s.rxq := rfl
@[simp] theorem State.emit_tgSrc (o : Out) : (s.emit o).tgSrc = s.tgSrc := rfl
@[simp] theorem State.emit_netLast (o : Out) : (s.emit o).netLast = s.netLast := rfl
@[simp] theorem State.emit_noteAt (o : Out) : (s.emit o).noteAt = s.noteAt := rfl
@[simp] theorem State.emit_dbgLim (o : Out) : (s.emit o).dbgLim = s.dbgLim := rfl
@[simp] theorem State.emit_ringWait (o : Out) : (s.emit o).ringWait = s.ringWait := rfl
@[simp] theorem State.emit_ringLost (o : Out) : (s.emit o).ringLost = s.ringLost := rfl
@[simp] theorem State.emit_peerSeq (o : Out) : (s.emit o).peerSeq = s.peerSeq := rfl
@[simp] theorem State.emit_free (o : Out) : (s.emit o).free = s.free := rfl
@[simp] theorem State.emit_pending (o : Out) : (s.emit o).pending = s.pending := rfl

end Sys2Proof.Machine
end

