-- ==== Sys2Proof/Laws/Sparse.lean ====
section
/-! SUPPORT. Sparse stores: a read after a write, and the canonical form that every write keeps. -/

namespace Sys2Proof.Machine

variable {β : Type}

theorem smGet_smIns_same (d : Nat → β) (l : List (Nat × β)) (a : Nat) (v : β) : smGet d (smIns l a v) a = v := by
  induction l with
  | nil => simp [smIns, smGet]
  | cons p t ih =>
    obtain ⟨b, w⟩ := p
    simp only [smIns]
    split
    · simp [smGet]
    · split
      · simp [smGet]
      · next h => rw [smGet, if_neg (Ne.symm h)]; exact ih

theorem smGet_smIns_ne (d : Nat → β) (l : List (Nat × β)) {a b : Nat} (v : β) (h : b ≠ a) :
    smGet d (smIns l a v) b = smGet d l b := by
  induction l with
  | nil => simp [smIns, smGet, h.symm]
  | cons p t ih =>
    obtain ⟨c, w⟩ := p
    simp only [smIns]
    split
    · simp [smGet, h.symm]
    · split
      · next e => subst e; simp [smGet, h.symm]
      · simp only [smGet]; split <;> simp_all

theorem smGet_smErase_same (d : Nat → β) (l : List (Nat × β)) (a : Nat) : smGet d (smErase l a) a = d a := by
  induction l with
  | nil => rfl
  | cons p t ih =>
    obtain ⟨c, w⟩ := p
    unfold smErase at *
    by_cases h : c = a
    · simp [h, ih]
    · simp [h, smGet, ih]

theorem smGet_smErase_ne (d : Nat → β) (l : List (Nat × β)) {a b : Nat} (h : b ≠ a) :
    smGet d (smErase l a) b = smGet d l b := by
  induction l with
  | nil => rfl
  | cons p t ih =>
    obtain ⟨c, w⟩ := p
    unfold smErase at *
    by_cases e : c = a
    · subst e; simp [smGet, ih, h.symm]
    · simp [e, smGet, ih]

theorem mem_smIns (l : List (Nat × β)) (a : Nat) (v : β) (p : Nat × β) (h : p ∈ smIns l a v) : p = (a, v) ∨ p ∈ l := by
  induction l with
  | nil => simpa [smIns] using h
  | cons q t ih =>
    obtain ⟨b, w⟩ := q
    simp only [smIns] at h
    split at h
    · simpa using h
    · split at h
      · rcases List.mem_cons.mp h with h | h
        · exact .inl h
        · exact .inr (List.mem_cons_of_mem _ h)
      · rcases List.mem_cons.mp h with h | h
        · exact .inr (by simp [h])
        · rcases ih h with h | h
          · exact .inl h
          · exact .inr (List.mem_cons_of_mem _ h)

variable [DecidableEq β]

/-- A read of the key just written. -/
@[simp] theorem smGet_smSet_same (d : Nat → β) (l : List (Nat × β)) (a : Nat) (v : β) :
    smGet d (smSet d l a v) a = v := by
  unfold smSet
  split
  · next h => rw [smGet_smErase_same, h]
  · exact smGet_smIns_same d l a v

/-- A read of another key. -/
theorem smGet_smSet_ne (d : Nat → β) (l : List (Nat × β)) {a b : Nat} (v : β) (h : b ≠ a) :
    smGet d (smSet d l a v) b = smGet d l b := by
  unfold smSet
  split
  · exact smGet_smErase_ne d l h
  · exact smGet_smIns_ne d l v h

/-- The first key of a store in canonical form is below every other. -/
theorem smWf_cons (d : Nat → β) (a : Nat) (v : β) (t : List (Nat × β)) :
    smWf d ((a, v) :: t) = true ↔ v ≠ d a ∧ smWf d t = true ∧ ∀ p ∈ t, a < p.1 := by
  induction t generalizing a v with
  | nil => simp [smWf]
  | cons q u ih =>
    obtain ⟨b, w⟩ := q
    rw [smWf, Bool.and_eq_true, Bool.and_eq_true, decide_eq_true_eq, bne_iff_ne]
    constructor
    · rintro ⟨⟨hab, hv⟩, hw⟩
      refine ⟨hv, hw, ?_⟩
      intro p hp
      rcases List.mem_cons.mp hp with rfl | hp
      · exact hab
      · exact Nat.lt_trans hab (((ih b w).mp hw).2.2 p hp)
    · rintro ⟨hv, hw, hlt⟩
      exact ⟨⟨hlt (b, w) (by simp), hv⟩, hw⟩

/-- Taking entries out keeps the canonical form. -/
theorem smWf_filter (d : Nat → β) (f : Nat × β → Bool) (l : List (Nat × β)) (h : smWf d l = true) :
    smWf d (l.filter f) = true := by
  induction l with
  | nil => exact h
  | cons p t ih =>
    obtain ⟨a, v⟩ := p
    obtain ⟨hv, ht, hlt⟩ := (smWf_cons d a v t).mp h
    rw [List.filter_cons]
    split
    · exact (smWf_cons d a v _).mpr ⟨hv, ih ht, fun p hp => hlt p ((List.mem_filter.mp hp).1)⟩
    · exact ih ht

theorem smWf_smIns (d : Nat → β) (l : List (Nat × β)) (a : Nat) (v : β) (hv : v ≠ d a) (h : smWf d l = true) :
    smWf d (smIns l a v) = true := by
  induction l with
  | nil => simp [smIns, smWf, hv]
  | cons q t ih =>
    obtain ⟨b, w⟩ := q
    obtain ⟨hw, ht, hlt⟩ := (smWf_cons d b w t).mp h
    simp only [smIns]
    split
    · next hab =>
      refine (smWf_cons d a v _).mpr ⟨hv, h, ?_⟩
      intro p hp
      rcases List.mem_cons.mp hp with rfl | hp
      · exact hab
      · exact Nat.lt_trans hab (hlt p hp)
    · split
      · next e => subst e; exact (smWf_cons d a v t).mpr ⟨hv, ht, hlt⟩
      · next hab e =>
        refine (smWf_cons d b w _).mpr ⟨hw, ih ht, ?_⟩
        intro p hp
        rcases mem_smIns t a v p hp with rfl | hp
        · show b < a
          omega
        · exact hlt p hp

/-- A write keeps the canonical form. -/
theorem smWf_smSet (d : Nat → β) (l : List (Nat × β)) (a : Nat) (v : β) (h : smWf d l = true) :
    smWf d (smSet d l a v) = true := by
  unfold smSet
  split
  · exact smWf_filter d _ l h
  · next hv => exact smWf_smIns d l a v hv h

/-! ### Memory -/

theorem State.mb_setMb_same (s : State) (a : Nat) (b : Byte) : (s.setMb a b).mb a = b := smGet_smSet_same ..

theorem State.mb_setMb_ne (s : State) {a x : Nat} (b : Byte) (h : x ≠ a) : (s.setMb a b).mb x = s.mb x :=
  smGet_smSet_ne _ _ _ h

/-- A word written leaves every byte outside its four as it was. -/
theorem State.mb_setMw_outside (s : State) {a x : Nat} (w : Word) (h : x < a ∨ a + 4 ≤ x) : (s.setMw a w).mb x = s.mb x := by
  unfold State.setMw
  rw [State.mb_setMb_ne _ _ (by omega), State.mb_setMb_ne _ _ (by omega), State.mb_setMb_ne _ _ (by omega),
    State.mb_setMb_ne _ _ (by omega)]

theorem bytesWord_extract (w : Word) :
    bytesWord (w.extractLsb' 0 8) (w.extractLsb' 8 8) (w.extractLsb' 16 8) (w.extractLsb' 24 8) = w := by
  unfold bytesWord
  ext i hi
  simp only [BitVec.getElem_append, BitVec.getElem_extractLsb']
  split
  · simp [BitVec.getLsbD_eq_getElem hi]
  · split
    · rw [show 8 + (i - 8) = i by omega]; simp [BitVec.getLsbD_eq_getElem hi]
    · split
      · rw [show 16 + (i - 8 - 8) = i by omega]; simp [BitVec.getLsbD_eq_getElem hi]
      · rw [show 24 + (i - 8 - 8 - 8) = i by omega]; simp [BitVec.getLsbD_eq_getElem hi]

/-- A read of the word just written. -/
@[simp] theorem State.mw_setMw_same (s : State) (a : Nat) (w : Word) : (s.setMw a w).mw a = w := by
  have h0 : (s.setMw a w).mb a = w.extractLsb' 0 8 := by
    unfold State.setMw
    rw [State.mb_setMb_ne _ _ (by omega), State.mb_setMb_ne _ _ (by omega), State.mb_setMb_ne _ _ (by omega),
      State.mb_setMb_same]
  have h1 : (s.setMw a w).mb (a + 1) = w.extractLsb' 8 8 := by
    unfold State.setMw
    rw [State.mb_setMb_ne _ _ (by omega), State.mb_setMb_ne _ _ (by omega), State.mb_setMb_same]
  have h2 : (s.setMw a w).mb (a + 2) = w.extractLsb' 16 8 := by
    unfold State.setMw
    rw [State.mb_setMb_ne _ _ (by omega), State.mb_setMb_same]
  have h3 : (s.setMw a w).mb (a + 3) = w.extractLsb' 24 8 := by
    unfold State.setMw
    rw [State.mb_setMb_same]
  unfold State.mw
  rw [h0, h1, h2, h3, bytesWord_extract]

/-- A read of a word outside the one just written. -/
theorem State.mw_setMw_outside (s : State) {a x : Nat} (w : Word) (h : x + 4 ≤ a ∨ a + 4 ≤ x) :
    (s.setMw a w).mw x = s.mw x := by
  unfold State.mw
  rw [State.mb_setMw_outside _ _ (by omega), State.mb_setMw_outside _ _ (by omega), State.mb_setMw_outside _ _ (by omega),
    State.mb_setMw_outside _ _ (by omega)]

/-- Every memory operation keeps the canonical form. -/
theorem State.mem_wf_setMb (s : State) (a : Nat) (b : Byte) (h : Memory.wf s.mem = true) :
    Memory.wf (s.setMb a b).mem = true := smWf_smSet _ _ _ _ h

theorem State.mem_wf_setMw (s : State) (a : Nat) (w : Word) (h : Memory.wf s.mem = true) :
    Memory.wf (s.setMw a w).mem = true := by
  unfold State.setMw
  exact mem_wf_setMb _ _ _ (mem_wf_setMb _ _ _ (mem_wf_setMb _ _ _ (mem_wf_setMb _ _ _ h)))

theorem State.mem_wf_setMh (s : State) (a v : Nat) (h : Memory.wf s.mem = true) : Memory.wf (s.setMh a v).mem = true := by
  unfold State.setMh
  exact mem_wf_setMb _ _ _ (mem_wf_setMb _ _ _ h)

theorem State.mem_wf_setBytes (s : State) (a : Nat) (bs : List Byte) (h : Memory.wf s.mem = true) :
    Memory.wf (s.setBytes a bs).mem = true := by
  induction bs generalizing s a with
  | nil => exact h
  | cons b t ih => exact ih _ _ (mem_wf_setMb _ _ _ h)

theorem Memory.wf_filter (m : List Host.Cell) (f : Host.Cell → Bool) (h : Memory.wf m = true) :
    Memory.wf (m.filter f) = true := smWf_filter _ _ _ h

/-! ### Registers and fields -/

@[simp] theorem State.reg_setReg_same (s : State) (a : Nat) (v : Word) : (s.setReg a v).reg a = v := smGet_smSet_same ..

theorem State.reg_setReg_ne (s : State) {a b : Nat} (v : Word) (h : home b ≠ home a) : (s.setReg a v).reg b = s.reg b :=
  smGet_smSet_ne _ _ _ h

/-- The register file keeps its canonical form. -/
theorem State.regs_wf_setReg (s : State) (a : Nat) (v : Word) (h : smWf regReset s.regs = true) :
    smWf regReset (s.setReg a v).regs = true := smWf_smSet _ _ _ _ h

theorem State.regs_wf_put (s : State) (x : Fld) (v : Nat) (h : smWf regReset s.regs = true) :
    smWf regReset (s.put x v).regs = true := smWf_smSet _ _ _ _ h

end Sys2Proof.Machine
end

