-- ==== Sys2Proof/Laws/Fields.lean ====
section
/-! SUPPORT. Fields of registers: a field reads back what was stored in it, and no other field changes. -/

namespace Sys2Proof.Machine

theorem testBit_getBits (w : Word) (lo wd i : Nat) : (getBits w lo wd).testBit i = (decide (i < wd) && w.getLsbD (lo + i)) := by
  unfold getBits
  rw [Nat.testBit_mod_two_pow, BitVec.testBit_toNat, BitVec.getLsbD_ushiftRight]

theorem getLsbD_putBits (w : Word) (lo wd v i : Nat) (hi : i < 32) :
    (putBits w lo wd v).getLsbD i = if lo ≤ i ∧ i < lo + wd then v.testBit (i - lo) else w.getLsbD i := by
  unfold putBits
  simp only [BitVec.getLsbD_or, BitVec.getLsbD_and, BitVec.getLsbD_not, BitVec.getLsbD_shiftLeft, BitVec.getLsbD_ofNat,
    Nat.testBit_two_pow_sub_one, Nat.testBit_mod_two_pow, hi]
  by_cases h : lo ≤ i <;> by_cases h' : i < lo + wd
  · simp [h, h', show ¬ i < lo by omega, show i - lo < 32 by omega, show i - lo < wd by omega]
  · simp [h, h', show ¬ i < lo by omega, show ¬ i - lo < wd by omega]
  · simp [h, show i < lo by omega]
  · simp [h, show i < lo by omega]

theorem getBits_putBits_same (w : Word) (lo wd v : Nat) (h : lo + wd ≤ 32) :
    getBits (putBits w lo wd v) lo wd = v % 2 ^ wd := by
  apply Nat.eq_of_testBit_eq
  intro i
  rw [testBit_getBits, Nat.testBit_mod_two_pow]
  by_cases hi : i < wd
  · rw [getLsbD_putBits _ _ _ _ _ (by omega), if_pos (by omega)]; simp [hi]
  · simp [hi]

theorem getBits_putBits_disjoint (w : Word) (lo wd v lo' wd' : Nat) (h : lo' + wd' ≤ lo ∨ lo + wd ≤ lo') :
    getBits (putBits w lo wd v) lo' wd' = getBits w lo' wd' := by
  apply Nat.eq_of_testBit_eq
  intro i
  rw [testBit_getBits, testBit_getBits]
  by_cases hi : i < wd'
  · by_cases h32 : lo' + i < 32
    · rw [getLsbD_putBits _ _ _ _ _ h32, if_neg (by omega)]
    · simp [BitVec.getLsbD_of_ge _ _ (by omega : 32 ≤ lo' + i)]
  · simp [hi]

/-- A field reads back what was stored in it. -/
theorem State.f_put_same (s : State) (x : Fld) (v : Nat) (h : x.lo + x.wd ≤ 32) : (s.put x v).f x = v % 2 ^ x.wd := by
  unfold State.f State.put
  rw [State.reg_setReg_same, getBits_putBits_same _ _ _ _ h]

/-- A field of another register. -/
theorem State.f_put_ne (s : State) {x y : Fld} (v : Nat) (h : home y.addr ≠ home x.addr) : (s.put x v).f y = s.f y := by
  unfold State.f State.put
  rw [State.reg_setReg_ne _ _ h]

/-- Another field of the same register. -/
theorem State.f_put_disjoint (s : State) {x y : Fld} (v : Nat) (ha : y.addr = x.addr)
    (h : y.lo + y.wd ≤ x.lo ∨ x.lo + x.wd ≤ y.lo) : (s.put x v).f y = s.f y := by
  unfold State.f State.put
  rw [ha, State.reg_setReg_same, getBits_putBits_disjoint _ _ _ _ _ _ h]

theorem State.f_setReg_ne (s : State) {a : Nat} {y : Fld} (v : Word) (h : home y.addr ≠ home a) :
    (s.setReg a v).f y = s.f y := by
  unfold State.f
  rw [State.reg_setReg_ne _ _ h]

theorem State.reg_put_ne (s : State) {x : Fld} {a : Nat} (v : Nat) (h : home a ≠ home x.addr) :
    (s.put x v).reg a = s.reg a := State.reg_setReg_ne _ _ h

theorem State.fb_put_same (s : State) (x : Fld) (v : Nat) (h : x.lo + x.wd ≤ 32) :
    (s.put x v).fb x = (v % 2 ^ x.wd != 0) := by
  unfold State.fb
  rw [State.f_put_same _ _ _ h]

/-- What is no register keeps no trace of a register write, and the other way round. -/
@[simp] theorem State.reg_setCtx (s : State) (e : CtxId) (c : Ctx) (a : Nat) : (s.setCtx e c).reg a = s.reg a := rfl
@[simp] theorem State.f_setCtx (s : State) (e : CtxId) (c : Ctx) (x : Fld) : (s.setCtx e c).f x = s.f x := rfl
@[simp] theorem State.fb_setCtx (s : State) (e : CtxId) (c : Ctx) (x : Fld) : (s.setCtx e c).fb x = s.fb x := rfl
@[simp] theorem State.mb_setCtx (s : State) (e : CtxId) (c : Ctx) (a : Nat) : (s.setCtx e c).mb a = s.mb a := rfl
@[simp] theorem State.mw_setCtx (s : State) (e : CtxId) (c : Ctx) (a : Nat) : (s.setCtx e c).mw a = s.mw a := rfl
@[simp] theorem State.mh_setCtx (s : State) (e : CtxId) (c : Ctx) (a : Nat) : (s.setCtx e c).mh a = s.mh a := rfl
@[simp] theorem State.reg_setStg (s : State) (k : Stage) (g : Stg) (a : Nat) : (s.setStg k g).reg a = s.reg a := rfl
@[simp] theorem State.f_setStg (s : State) (k : Stage) (g : Stg) (x : Fld) : (s.setStg k g).f x = s.f x := rfl
@[simp] theorem State.fb_setStg (s : State) (k : Stage) (g : Stg) (x : Fld) : (s.setStg k g).fb x = s.fb x := rfl
@[simp] theorem State.reg_setLnk (s : State) (n : Link) (l : Lnk) (a : Nat) : (s.setLnk n l).reg a = s.reg a := rfl
@[simp] theorem State.f_setLnk (s : State) (n : Link) (l : Lnk) (x : Fld) : (s.setLnk n l).f x = s.f x := rfl
@[simp] theorem State.fb_setLnk (s : State) (n : Link) (l : Lnk) (x : Fld) : (s.setLnk n l).fb x = s.fb x := rfl
@[simp] theorem State.reg_emit (s : State) (o : Out) (a : Nat) : (s.emit o).reg a = s.reg a := rfl
@[simp] theorem State.f_emit (s : State) (o : Out) (x : Fld) : (s.emit o).f x = s.f x := rfl
@[simp] theorem State.fb_emit (s : State) (o : Out) (x : Fld) : (s.emit o).fb x = s.fb x := rfl
@[simp] theorem State.reg_setMw (s : State) (a : Nat) (w : Word) (b : Nat) : (s.setMw a w).reg b = s.reg b := rfl
@[simp] theorem State.f_setMw (s : State) (a : Nat) (w : Word) (x : Fld) : (s.setMw a w).f x = s.f x := rfl
@[simp] theorem State.fb_setMw (s : State) (a : Nat) (w : Word) (x : Fld) : (s.setMw a w).fb x = s.fb x := rfl
@[simp] theorem State.mb_setReg (s : State) (a : Nat) (v : Word) (b : Nat) : (s.setReg a v).mb b = s.mb b := rfl
@[simp] theorem State.mw_setReg (s : State) (a : Nat) (v : Word) (b : Nat) : (s.setReg a v).mw b = s.mw b := rfl
@[simp] theorem State.mb_put (s : State) (x : Fld) (v : Nat) (b : Nat) : (s.put x v).mb b = s.mb b := rfl
@[simp] theorem State.mw_put (s : State) (x : Fld) (v : Nat) (b : Nat) : (s.put x v).mw b = s.mw b := rfl

end Sys2Proof.Machine
end

