-- ==== Sys2Proof/Laws/Engine.lean ====
section
/-! SUPPORT. Registers of a context, the issue of an instruction and its completion. -/

namespace Sys2Proof.Machine

/-! ### Registers of a context -/

@[simp] theorem Ctx.rd_zero (c : Ctx) : c.rd 0 = 0 := rfl
@[simp] theorem Ctx.wr_zero (c : Ctx) (w : Word) : c.wr 0 w = c := rfl

theorem Ctx.rd_wr_same (c : Ctx) {r : VReg} (w : Word) (h : r ≠ 0) : (c.wr r w).rd r = w := by
  unfold Ctx.rd Ctx.wr
  rw [if_neg h, if_neg h]
  exact Vector.getElem_set_self _

theorem Ctx.rd_wr_ne (c : Ctx) {r q : VReg} (w : Word) (h : q ≠ r) : (c.wr r w).rd q = c.rd q := by
  unfold Ctx.rd Ctx.wr
  split
  · rfl
  · split
    · rfl
    · exact Vector.getElem_set_ne (Fin.isLt _) (Fin.isLt _) fun e => h (BitVec.eq_of_toNat_eq e.symm)

theorem Ctx.wr_frame (c : Ctx) (r : VReg) (w : Word) : ∃ v, c.wr r w = { c with v := v } := by
  unfold Ctx.wr
  split
  · exact ⟨c.v, rfl⟩
  · exact ⟨_, rfl⟩

@[simp] theorem Ctx.wr_st (c : Ctx) (r : VReg) (w : Word) : (c.wr r w).st = c.st := by unfold Ctx.wr; split <;> rfl
@[simp] theorem Ctx.wr_pc (c : Ctx) (r : VReg) (w : Word) : (c.wr r w).pc = c.pc := by unfold Ctx.wr; split <;> rfl
@[simp] theorem Ctx.wr_acc (c : Ctx) (r : VReg) (w : Word) : (c.wr r w).acc = c.acc := by unfold Ctx.wr; split <;> rfl
@[simp] theorem Ctx.wr_sf (c : Ctx) (r : VReg) (w : Word) : (c.wr r w).sf = c.sf := by unfold Ctx.wr; split <;> rfl
@[simp] theorem Ctx.wr_slots (c : Ctx) (r : VReg) (w : Word) : (c.wr r w).slots = c.slots := by
  unfold Ctx.wr; split <;> rfl

@[simp] theorem Ctx.rd_flag (c : Ctx) (m : BitVec 8) (r : VReg) : (c.flag m).rd r = c.rd r := rfl
@[simp] theorem Ctx.rd_step (c : Ctx) (n : Nat) (r : VReg) : (c.step n).rd r = c.rd r := rfl
@[simp] theorem Ctx.rd_wrAcc (c : Ctx) (n : BitVec 2) (w : BitVec 48) (r : VReg) : (c.wrAcc n w).rd r = c.rd r := rfl
@[simp] theorem Ctx.flag_zero (c : Ctx) : c.flag 0 = c := by simp [Ctx.flag]

@[simp] theorem Ctx.rdAcc_wrAcc_same (c : Ctx) (n : BitVec 2) (w : BitVec 48) : (c.wrAcc n w).rdAcc n = w := by
  simp [Ctx.rdAcc, Ctx.wrAcc]

theorem Ctx.rdAcc_wrAcc_ne (c : Ctx) {n m : BitVec 2} (w : BitVec 48) (h : m ≠ n) :
    (c.wrAcc n w).rdAcc m = c.rdAcc m := by
  exact Vector.getElem_set_ne (Fin.isLt _) (Fin.isLt _) fun e => h (BitVec.eq_of_toNat_eq e.symm)

/-! ### One context among thirteen -/

@[simp] theorem State.ctx_setCtx_same (s : State) (e : CtxId) (c : Ctx) : (s.setCtx e c).ctx[e] = c := by
  simp [State.setCtx]

theorem State.ctx_setCtx_ne (s : State) {e x : CtxId} (c : Ctx) (h : x ≠ e) : (s.setCtx e c).ctx[x] = s.ctx[x] := by
  have : (e : Nat) ≠ x := fun q => h (Fin.ext q.symm)
  simp [State.setCtx, Vector.getElem_set_ne, this]

/-! ### Fetch -/

/-- A context whose instruction has issued: one less of those that trigger no breakpoint. -/
def Ctx.noted (c : Ctx) : Ctx := { c with bpSkip := c.bpSkip - 1 }
@[simp] theorem Ctx.noted_rd (c : Ctx) (r : VReg) : c.noted.rd r = c.rd r := rfl

/-- A fetch notes its address in LTH_PC, and changes nothing else but the breakpoint's leave of the first instructions. -/
theorem State.fetched_eq (s : State) (e : CtxId) :
    s.fetched e = (if e.val < 12 then
      (s.setCtx e s.ctx[e].noted).setReg (A.LTH_PC (e.val / 2) (e.val % 2))
        (BitVec.ofNat 32 (s.ctx[e].pc % 16384))
      else s.setCtx e s.ctx[e].noted) := by
  unfold State.fetched State.notePc
  split <;> rfl

@[simp] theorem State.fetched_ctx (s : State) (e : CtxId) : (s.fetched e).ctx[e] = s.ctx[e].noted := by
  rw [State.fetched_eq]; split <;> simp [State.setCtx]

theorem State.fetched_ctx_ne (s : State) {e x : CtxId} (h : x ≠ e) : (s.fetched e).ctx[x] = s.ctx[x] := by
  rw [State.fetched_eq]; split
  · exact State.ctx_setCtx_ne s _ h
  · exact State.ctx_setCtx_ne s _ h

@[simp] theorem State.fetched_mem (s : State) (e : CtxId) : (s.fetched e).mem = s.mem := by
  rw [State.fetched_eq]; split <;> rfl
@[simp] theorem State.fetched_stg (s : State) (e : CtxId) : (s.fetched e).stg = s.stg := by
  rw [State.fetched_eq]; split <;> rfl
@[simp] theorem State.fetched_pending (s : State) (e : CtxId) : (s.fetched e).pending = s.pending := by
  rw [State.fetched_eq]; split <;> rfl
@[simp] theorem State.fetched_mb (s : State) (e : CtxId) (a : Nat) : (s.fetched e).mb a = s.mb a := by
  unfold State.mb; rw [State.fetched_mem]
@[simp] theorem State.fetched_mw (s : State) (e : CtxId) (a : Nat) : (s.fetched e).mw a = s.mw a := by
  unfold State.mw; simp only [State.fetched_mb]

/-- Every register but LTH_PC of the context. -/
theorem State.fetched_reg (s : State) (e : CtxId) {a : Nat}
    (h : home a ≠ home (A.LTH_PC (e.val / 2) (e.val % 2)) ∨ 12 ≤ e.val) : (s.fetched e).reg a = s.reg a := by
  rw [State.fetched_eq]; split
  · rcases h with h | h
    · rw [State.reg_setReg_ne _ _ h]; rfl
    · omega
  · rfl

theorem State.fetched_f (s : State) (e : CtxId) {x : Fld}
    (h : home x.addr ≠ home (A.LTH_PC (e.val / 2) (e.val % 2)) ∨ 12 ≤ e.val) : (s.fetched e).f x = s.f x := by
  unfold State.f; rw [State.fetched_reg s e h]

theorem State.fetched_canonical (s : State) (e : CtxId) (h : s.canonical) : (s.fetched e).canonical := by
  refine ⟨by rw [State.fetched_mem]; exact h.1, ?_⟩
  rw [State.fetched_eq]; split
  · exact State.regs_wf_setReg _ _ _ h.2
  · exact h.2

/-! ### Issue -/

/-- What an issue can do: nothing outside RUN, a halt at a breakpoint, a fault outside the instruction memory, or the
instruction. -/
theorem State.issue_cases (s : State) (e : CtxId) (f : State → State) :
    (s.ctx[e].st ≠ .run ∧ s.issue e f = s) ∨
    (s.ctx[e].st = .run ∧ ∃ i, s.bpStop e = some i ∧ s.issue e f = s.haltEngine (engineOf e) 2 i (ctxBit e)) ∨
    (s.ctx[e].st = .run ∧ s.bpStop e = none ∧ pcLimit e ≤ s.ctx[e].pc ∧ s.issue e f = s.engineFault e 2) ∨
    (s.canIssue e ∧ s.issue e f = f (s.fetched e)) := by
  unfold State.issue State.fetch State.canIssue
  by_cases h : s.ctx[e].st = .run
  · rw [if_neg (by simpa using h)]
    cases hb : s.bpStop e with
    | some i => exact .inr (.inl ⟨h, i, rfl, rfl⟩)
    | none =>
      by_cases hp : pcLimit e ≤ s.ctx[e].pc
      · exact .inr (.inr (.inl ⟨h, rfl, hp, if_pos hp⟩))
      · exact .inr (.inr (.inr ⟨⟨h, rfl, by omega⟩, if_neg hp⟩))
  · exact .inl ⟨h, if_pos h⟩

theorem State.issue_ready {s : State} {e : CtxId} (h : s.canIssue e) (f : State → State) :
    s.issue e f = f (s.fetched e) := by
  obtain ⟨h1, h2, h3⟩ := h
  unfold State.issue State.fetch
  rw [if_neg (by simpa using h1), h2]
  exact if_neg (by omega)

/-- An instruction of one destination register, on a context that issues. -/
theorem State.regOp_ready {s : State} {e : CtxId} (h : s.canIssue e) (d : VReg) (n : Nat) (f : Ctx → Word × BitVec 8) :
    s.regOp e d n f = (s.fetched e).done e d (f s.ctx[e].noted) n := by
  unfold State.regOp
  rw [State.issue_ready h, State.fetched_ctx]

theorem State.accOp_ready {s : State} {e : CtxId} (h : s.canIssue e) (n : BitVec 2) (f : Ctx → BitVec 48 × BitVec 8) :
    s.accOp e n f = (s.fetched e).setCtx e
      (((s.ctx[e].noted.wrAcc n (f s.ctx[e].noted).1).flag
        (f s.ctx[e].noted).2).step 1) := by
  unfold State.accOp
  rw [State.issue_ready h, State.fetched_ctx]

/-! ### Completion -/

/-- Everything that the completion of a one-register instruction does. -/
theorem State.done_ctx (s : State) (e : CtxId) (d : VReg) (r : Word × BitVec 8) (n : Nat) :
    (s.done e d r n).ctx[e] = ((s.ctx[e].wr d r.1).flag r.2).step n := State.ctx_setCtx_same ..

theorem State.done_rd_same (s : State) (e : CtxId) {d : VReg} (r : Word × BitVec 8) (n : Nat) (h : d ≠ 0) :
    (s.done e d r n).ctx[e].rd d = r.1 := by
  rw [State.done_ctx, Ctx.rd_step, Ctx.rd_flag, Ctx.rd_wr_same _ _ h]

theorem State.done_rd_ne (s : State) (e : CtxId) {d q : VReg} (r : Word × BitVec 8) (n : Nat) (h : q ≠ d) :
    (s.done e d r n).ctx[e].rd q = s.ctx[e].rd q := by
  rw [State.done_ctx, Ctx.rd_step, Ctx.rd_flag, Ctx.rd_wr_ne _ _ h]

theorem State.done_ctx_ne (s : State) {e x : CtxId} (d : VReg) (r : Word × BitVec 8) (n : Nat) (h : x ≠ e) :
    (s.done e d r n).ctx[x] = s.ctx[x] := State.ctx_setCtx_ne s _ h

@[simp] theorem State.done_mem (s : State) (e : CtxId) (d : VReg) (r : Word × BitVec 8) (n : Nat) :
    (s.done e d r n).mem = s.mem := rfl
@[simp] theorem State.done_regs (s : State) (e : CtxId) (d : VReg) (r : Word × BitVec 8) (n : Nat) :
    (s.done e d r n).regs = s.regs := rfl

/-- A store of a data word: only its four bytes of memory, unless its region is closed. -/
theorem State.storeWord_open (s : State) (e : CtxId) (off w : Nat) (v : Word) (h : s.cregClosed e off = false) :
    s.storeWord e off w v = s.setMw (dmemAddr e w) v := by
  unfold State.storeWord; simp [h]

theorem State.watch_none (s : State) (e : CtxId) (rd wr : List Nat) (h : s.wpHit e rd wr = none) : s.watch e rd wr = s := by
  unfold State.watch; simp [h]

end Sys2Proof.Machine
end

