-- ==== Sys2Proof/Laws/FollowsOps.lean ====
section
/-! SUPPORT. What every operation respects (`State.follows`): the named operations, completions, fault reports and halts. -/

namespace Sys2Proof.Machine

/-! ### Forms -/

theorem State.follows_refl (s : State) : s.follows s := ⟨id, rfl, List.suffix_rfl⟩

theorem State.follows.trans {s t u : State} (h : s.follows t) (k : t.follows u) : s.follows u :=
  ⟨k.1 ∘ h.1, k.2.1.trans h.2.1, h.2.2.trans k.2.2⟩

/-- An update of other fields. -/
theorem State.upd_follows {σ s t : State} (h : σ.follows s) (hm : t.mem = s.mem) (hr : t.regs = s.regs)
    (hp : t.pending = s.pending) (ho : t.out = s.out) : σ.follows t :=
  h.trans ⟨fun c => ⟨by rw [hm]; exact c.1, by rw [hr]; exact c.2⟩, hp, ⟨[], (List.nil_append _).trans ho.symm⟩⟩

/-- An update of other fields. -/
theorem State.mk_follows {σ s : State} (h : σ.follows s)
    {x2 : Vector Ctx 13} {x3 : Vector Stg 12} {x4 : Vector Lnk 12} {x5 : List Slotted} {x6 : List Imm} {x7 :
    Vector Ent 64} {x8 : Vector (Option (Nat × Nat)) 4} {x9 : Bool} {x10 : Bool} {x11 : Vector Nat 4} {x12 :
    Vector Nat 4} {x13 : Vector Nat 4} {x14 : Vector Bool 4} {x15 : Vector Nat 4} {x16 : Vector Nat 4} {x17 :
    Vector Int 4} {x18 : Vector Bool 24} {x19 : Vector Nat 24} {x20 : Vector (List (Nat × Bool)) 24} {x21 :
    Vector (List (Nat × Word)) 24} {x22 : Vector Grd 4} {x23 : Vector Isl 4} {x24 : Vector Mtr 4} {x25 :
    Option (Nat × Nat)} {x26 : Bool} {x27 : Bool} {x28 : Nat × Nat} {x29 : Nat} {x30 : Nat} {x31 : Nat} {x32 :
    Int} {x33 : Nat} {x34 : Nat} {x35 : Bool} {x36 : Nat} {x37 : Vector Pair 8} {x38 : Vector Pair 8} {x39 :
    Vector Nat 8} {x40 : Vector Nat 8} {x41 : Nat} {x42 : Vector Nat 2} {x43 : Vector TestPulse 2} {x44 :
    Vector Bool 16} {x45 : List TgCopy} {x46 : List TgFx} {x47 : Bool} {x48 : Vector Bool 2} {x49 : Vector
    Bool 2} {x50 : Nat × Nat} {x51 : Option ((Nat × Nat) × List Nat)} {x52 : List Nat} {x53 : Nat} {x54 : Nat}
    {x55 : Bool} {x56 : Bool} {x57 : List Nat} {x58 : Nat} {x59 : Option Nat} {x60 : Bool} {x61 : Bool} {x62 :
    Option Nat} {x63 : Vector Bool 5} {x64 : Bool} {x65 : Nat} {x66 : Bool} {x67 : Bool} {x68 : Bool} {x69 :
    Bool} {x70 : Nat} {x71 : Bool} {x72 : Bool} {x73 : Bool} {x74 : Nat} {x75 : Bool} {x76 : Bool} {x77 : Nat}
    {x78 : Nat} {x79 : Option Word} {x80 : List (Nat × Word)} {x81 : Option Nat} {x82 : SyncO} {x83 : Vector
    Nat 7} {x84 : Nat} {x85 : Vector Bool 2} {x86 : List Staged} {x87 : List Cmd} {x88 : Nat} {x89 : Vector
    PortAcc 5} {x90 : Nat} {x91 : Vector (List Answer) 2} {x92 : List WReq} {x93 : List PReq} {x94 : Option
    (Option Nat)} {x95 : Bool} {x96 : Vector (Option Nat) 7} {x97 : Vector NetId 2} {x98 : Vector (List
    RxFrame) 2} {x99 : Vector (List Byte) 2} {x100 : Vector (Option Nat) 2} {x101 : Vector (Option Nat) 2}
    {x102 : Nat} {x103 : Bool} {x104 : Bool} {x105 : Nat} {x106 : Nat} :
    σ.follows (State.mk
      s.regs s.mem x2 x3 x4 x5 x6 x7 x8 x9 x10 x11 x12 x13 x14 x15 x16 x17 x18 x19 x20 x21 x22 x23 x24 x25
      x26 x27 x28 x29 x30 x31 x32 x33 x34 x35 x36 x37 x38 x39 x40 x41 x42 x43 x44 x45 x46 x47 x48 x49 x50
      x51 x52 x53 x54 x55 x56 x57 x58 x59 x60 x61 x62 x63 x64 x65 x66 x67 x68 x69 x70 x71 x72 x73 x74 x75
      x76 x77 x78 x79 x80 x81 x82 x83 x84 x85 x86 x87 x88 x89 x90 x91 x92 x93 x94 x95 x96 x97 x98 x99 x100
      x101 x102 x103 x104 x105 x106 s.out s.pending) :=
  State.upd_follows h rfl rfl rfl rfl

/-- Memory bytes taken out. -/
theorem State.memFilter_follows {σ s t : State} (h : σ.follows s) (f : Host.Cell → Bool) (hm : t.mem = s.mem.filter f)
    (hr : t.regs = s.regs) (hp : t.pending = s.pending) (ho : t.out = s.out) : σ.follows t :=
  h.trans ⟨fun c => ⟨by rw [hm]; exact Memory.wf_filter _ _ c.1, by rw [hr]; exact c.2⟩, hp, ⟨[], (List.nil_append _).trans ho.symm⟩⟩

/-- A reset: bytes and register words taken out, one register written. -/
theorem State.cut_follows {σ s t : State} (h : σ.follows s) (f : Host.Cell → Bool) (g : Nat × Word → Bool) (a : Nat) (v : Word)
    (hm : t.mem = s.mem.filter f) (hr : t.regs = smSet regReset (s.regs.filter g) a v) (hp : t.pending = s.pending)
    (ho : t.out = s.out) : σ.follows t :=
  h.trans ⟨fun c => ⟨by rw [hm]; exact Memory.wf_filter _ _ c.1, by
    rw [hr]; exact smWf_smSet _ _ _ _ (smWf_filter _ _ _ c.2)⟩, hp, ⟨[], (List.nil_append _).trans ho.symm⟩⟩

theorem State.foldl_follows {α : Type} {σ : State} {f : State → α → State} {l : List α} {s : State}
    (hf : ∀ t x, σ.follows t → σ.follows (f t x)) (h : σ.follows s) : σ.follows (l.foldl f s) := by
  induction l generalizing s with
  | nil => exact h
  | cons x t ih => exact ih (hf _ _ h)

theorem State.pair_follows {α : Type} {σ t : State} {p : α × State} {a : α} (h : σ.follows p.2) (e : p = (a, t)) :
    σ.follows t := by rw [e] at h; exact h

theorem State.triple_follows {α β : Type} {σ t : State} {p : α × β × State} {a : α} {b : β} (h : σ.follows p.2.2)
    (e : p = (a, b, t)) : σ.follows t := by rw [e] at h; exact h

theorem State.ite_follows {σ s t : State} {c : Prop} [Decidable c] (h : σ.follows s) (k : σ.follows t) :
    σ.follows (if c then s else t) := by split <;> assumption

theorem State.next_follows {σ t : State} (h : σ.follows t) : σ.followedBy (.next t) := by
  intro u e
  cases e
  exact h

theorem State.setReg_follows {σ s : State} (h : σ.follows s) (a : Nat) (v : Word) : σ.follows (s.setReg a v) :=
  h.trans ⟨fun c => ⟨c.1, State.regs_wf_setReg _ _ _ c.2⟩, rfl, List.suffix_rfl⟩

theorem State.setMb_follows {σ s : State} (h : σ.follows s) (a : Nat) (b : Byte) : σ.follows (s.setMb a b) :=
  h.trans ⟨fun c => ⟨State.mem_wf_setMb _ _ _ c.1, c.2⟩, rfl, List.suffix_rfl⟩

theorem State.emit_follows {σ s : State} (h : σ.follows s) (o : Out) : σ.follows (s.emit o) :=
  h.trans ⟨id, rfl, List.suffix_cons _ _⟩

/-! ### Operations -/

theorem State.mergeReg_follows {σ s : State} (a : Nat) (v : Word) (m : Word) (hσ : σ.follows s) : σ.follows
    (State.mergeReg s a v m) := by
  unfold State.mergeReg
  repeat' first
    | with_reducible first
        | assumption | apply State.setReg_follows | apply State.ite_follows
    | split

theorem State.put_follows {σ s : State} (x : Fld) (v : Nat) (hσ : σ.follows s) : σ.follows (State.put s x v) := by
  unfold State.put
  repeat' first
    | with_reducible first
        | assumption | apply State.setReg_follows | apply State.ite_follows
    | split

theorem State.set1_follows {σ s : State} (x : Fld) (hσ : σ.follows s) : σ.follows (State.set1 s x) := by
  unfold State.set1
  repeat' first
    | with_reducible first
        | assumption | apply State.put_follows | apply State.ite_follows
    | split

theorem State.putB_follows {σ s : State} (x : Fld) (b : Bool) (hσ : σ.follows s) : σ.follows (State.putB s x b) := by
  unfold State.putB
  repeat' first
    | with_reducible first
        | assumption | apply State.put_follows | apply State.ite_follows
    | split

theorem State.bump_follows {σ s : State} (x : Fld) (hσ : σ.follows s) : σ.follows (State.bump s x) := by
  unfold State.bump
  repeat' first
    | with_reducible first
        | assumption | apply State.put_follows | apply State.ite_follows
    | split

theorem State.setMw_follows {σ s : State} (a : Nat) (w : Word) (hσ : σ.follows s) : σ.follows (State.setMw s a
    w) := by
  unfold State.setMw
  repeat' first
    | with_reducible first
        | assumption | apply State.setMb_follows | apply State.ite_follows
    | split

theorem State.setMh_follows {σ s : State} (a : Nat) (v : Nat) (hσ : σ.follows s) : σ.follows (State.setMh s a v) := by
  unfold State.setMh
  repeat' first
    | with_reducible first
        | assumption | apply State.setMb_follows | apply State.ite_follows
    | split

theorem State.setBytes_follows {σ s : State} (a : Nat) (bs : List Byte) (h : σ.follows s) :
    σ.follows (s.setBytes a bs) := by
  induction bs generalizing s a with
  | nil => exact h
  | cons b t ih => exact ih _ (State.setMb_follows h _ _)

theorem State.setCtx_follows {σ s : State} (e : CtxId) (c : Ctx) (hσ : σ.follows s) : σ.follows (State.setCtx s
    e c) := by
  unfold State.setCtx
  repeat' first
    | with_reducible first
        | assumption
    | split | apply State.mk_follows

theorem State.setStg_follows {σ s : State} (k : Stage) (g : Stg) (hσ : σ.follows s) : σ.follows (State.setStg s
    k g) := by
  unfold State.setStg
  repeat' first
    | with_reducible first
        | assumption
    | split | apply State.mk_follows

theorem State.setLnk_follows {σ s : State} (n : Link) (l : Lnk) (hσ : σ.follows s) : σ.follows (State.setLnk s n
    l) := by
  unfold State.setLnk
  repeat' first
    | with_reducible first
        | assumption
    | split | apply State.mk_follows

theorem State.fresh_follows {σ s : State} (hσ : σ.follows s) : σ.follows (State.fresh s).2 := by
  unfold State.fresh
  dsimp only
  repeat' first
    | with_reducible first
        | assumption | apply State.ite_follows
    | split | apply State.mk_follows

theorem State.freshN_follows {σ s : State} (hσ : σ.follows s) : σ.follows (State.freshN s).2 := by
  unfold State.freshN
  dsimp only
  repeat' first
    | with_reducible first
        | assumption | apply State.ite_follows
    | split | apply State.mk_follows

theorem State.heard_follows {σ s : State} (t : State) (hxt : σ.follows t) (hσ : σ.follows s) : σ.follows
    (State.heard s t) := by
  unfold State.heard
  repeat' first
    | with_reducible first
        | assumption | apply State.ite_follows
    | split

theorem State.pendTarget_follows {σ s : State} (ev : Nat) (t : Nat) (hσ : σ.follows s) : σ.follows
    (State.pendTarget s ev t) := by
  unfold State.pendTarget
  repeat' first
    | with_reducible first
        | assumption | apply State.setReg_follows | apply State.ite_follows
    | split

theorem State.raise_follows {σ s : State} (ev : Nat) (hσ : σ.follows s) : σ.follows (State.raise s ev) := by
  unfold State.raise
  repeat' first
    | with_reducible first
        | assumption | apply State.setReg_follows | apply State.pendTarget_follows | intro _
        | (apply State.foldl_follows; intro _ _ _)
    | split | apply State.mk_follows

theorem State.src_follows {σ s : State} (bit : Fld) (ev : Nat) (hσ : σ.follows s) : σ.follows (State.src s bit
    ev) := by
  unfold State.src
  repeat' first
    | with_reducible first
        | assumption | apply State.set1_follows | apply State.raise_follows | apply State.ite_follows
    | split

theorem State.takeId_follows {σ s : State} (i : Fin 2) (hσ : σ.follows s) : σ.follows (State.takeId s i) := by
  unfold State.takeId
  repeat' first
    | with_reducible first
        | assumption
    | split | apply State.mk_follows

theorem State.jOpen_follows {σ s : State} (c : Cmd) (hσ : σ.follows s) : σ.follows (State.jOpen s c) := by
  unfold State.jOpen
  repeat' first
    | with_reducible first
        | assumption | apply State.setReg_follows | apply State.setBytes_follows | apply State.ite_follows
    | split

theorem State.jClose_follows {σ s : State} (c : Cmd) (hσ : σ.follows s) : σ.follows (State.jClose s c) := by
  unfold State.jClose
  repeat' first
    | with_reducible first
        | assumption | apply State.setBytes_follows | apply State.ite_follows
    | split

theorem State.updCmd_follows {σ s : State} (id : Nat) (f : Cmd → Cmd) (hσ : σ.follows s) : σ.follows
    (State.updCmd s id f) := by
  unfold State.updCmd
  repeat' first
    | with_reducible first
        | assumption
    | split | apply State.mk_follows

theorem State.deliver_follows {σ s : State} (port : Nat) (accepted : Bool) (dst : List Byte) (b : List Byte) (hσ
    : σ.follows s) : σ.follows (State.deliver s port accepted dst b) := by
  unfold State.deliver
  dsimp only
  repeat' first
    | with_reducible first
        | assumption | apply State.bump_follows | apply State.emit_follows | apply State.src_follows
        | apply State.ite_follows
    | split | apply State.mk_follows

theorem State.doneEvents_follows {σ s : State} (port : Nat) (res : Nat) (hσ : σ.follows s) : σ.follows
    (State.doneEvents s port res) := by
  unfold State.doneEvents
  repeat' first
    | with_reducible first
        | assumption | apply State.src_follows | apply State.ite_follows
    | split

theorem State.respond_follows {σ s : State} (c : Cmd) (data : List Byte) (hσ : σ.follows s) : σ.follows
    (State.respond s c data) := by
  unfold State.respond
  dsimp only
  repeat' first
    | with_reducible first
        | assumption | apply State.put_follows | apply State.putB_follows | apply State.setMw_follows
        | apply State.src_follows | apply State.deliver_follows | apply State.doneEvents_follows
        | apply State.ite_follows
    | split | apply State.mk_follows

theorem State.copyEntry_follows {σ s : State} (c : Cmd) (hσ : σ.follows s) : σ.follows (State.copyEntry s c) := by
  unfold State.copyEntry
  dsimp only
  repeat' first
    | with_reducible first
        | assumption | apply State.setMb_follows | apply State.ite_follows
    | split | apply State.mk_follows

theorem State.finish_follows {σ s : State} (id : Nat) (res : Nat) (part : Nat) (cause : Nat) (word : Nat) (data
    : List Byte) (hσ : σ.follows s) : σ.follows (State.finish s id res part cause word data) := by
  unfold State.finish
  dsimp only
  repeat' first
    | with_reducible first
        | assumption | apply State.jClose_follows | apply State.respond_follows | apply State.copyEntry_follows
        | apply State.ite_follows
    | split | apply State.mk_follows

theorem State.finishR_follows {σ s : State} (id : Nat) (res : Nat) (hσ : σ.follows s) : σ.follows (State.finishR
    s id res) := by
  unfold State.finishR
  repeat' first
    | with_reducible first
        | assumption | apply State.finish_follows | apply State.ite_follows
    | split

theorem State.endCmds_follows {σ s : State} (p : Cmd → Bool) (hσ : σ.follows s) : σ.follows (State.endCmds s p) := by
  unfold State.endCmds
  repeat' first
    | with_reducible first
        | assumption | apply State.finishR_follows | intro _ | (apply State.foldl_follows; intro _ _ _)
    | split | apply State.mk_follows

theorem State.startRamp_follows {σ s : State} (c : Cmd) (hσ : σ.follows s) : σ.follows (State.startRamp s c) := by
  unfold State.startRamp
  try dsimp only
  repeat' first
    | with_reducible first
        | assumption | intro _ | apply State.finishR_follows | (apply State.foldl_follows; intro _ _ _)
        | (refine State.pair_follows ?_ (by assumption)) | (refine State.triple_follows ?_ (by assumption))
        | apply State.ite_follows
    | split | dsimp only | apply State.mk_follows

theorem State.settle_follows {σ s : State} (hσ : σ.follows s) : σ.follows (State.settle s) := by
  unfold State.settle
  repeat' first
    | with_reducible first
        | assumption | apply State.finish_follows | apply State.startRamp_follows | apply State.applying_follows
        | intro _ | (apply State.foldl_follows; intro _ _ _)
    | split | apply State.mk_follows

theorem State.endWith_follows {σ s : State} (p : Cmd → Bool) (hσ : σ.follows s) : σ.follows (State.endWith s p) := by
  unfold State.endWith
  dsimp only
  repeat' first
    | with_reducible first
        | assumption | apply State.endCmds_follows | apply State.ite_follows
    | split | apply State.mk_follows

theorem State.endGroups_follows {σ s : State} (hσ : σ.follows s) : σ.follows (State.endGroups s) := by
  unfold State.endGroups
  repeat' first
    | with_reducible first
        | assumption | apply State.endWith_follows | apply State.ite_follows
    | split

theorem State.endRamps_follows {σ s : State} (hσ : σ.follows s) : σ.follows (State.endRamps s) := by
  unfold State.endRamps
  repeat' first
    | with_reducible first
        | assumption | apply State.endWith_follows | apply State.ite_follows
    | split

theorem State.islEvt_follows {σ s : State} (g : Fin 4) (b : Nat) (hσ : σ.follows s) : σ.follows (State.islEvt s
    g b) := by
  unfold State.islEvt
  repeat' first
    | with_reducible first
        | assumption | apply State.src_follows | apply State.ite_follows
    | split

theorem State.kConfirm_follows {σ s : State} (st : Nat) (ev : Nat) (hσ : σ.follows s) : σ.follows
    (State.kConfirm s st ev) := by
  unfold State.kConfirm
  repeat' first
    | with_reducible first
        | assumption | apply State.put_follows | apply State.islEvt_follows | apply State.ite_follows
    | split

theorem State.kSettle_follows {σ s : State} (hσ : σ.follows s) : σ.follows (State.kSettle s) := by
  unfold State.kSettle
  repeat' first
    | with_reducible first
        | assumption | apply State.kConfirm_follows | apply State.ite_follows
    | split

theorem State.kDrive_follows {σ s : State} (st : Nat) (drv : Nat) (hσ : σ.follows s) : σ.follows (State.kDrive s
    st drv) := by
  unfold State.kDrive
  dsimp only
  repeat' first
    | with_reducible first
        | assumption | apply State.put_follows | apply State.kSettle_follows | apply State.ite_follows
    | split | apply State.mk_follows

theorem State.kOpen_follows {σ s : State} (hσ : σ.follows s) : σ.follows (State.kOpen s) := by
  unfold State.kOpen
  repeat' first
    | with_reducible first
        | assumption | apply State.kDrive_follows | apply State.ite_follows
    | split

theorem State.pchEnd_follows {σ s : State} (hσ : σ.follows s) : σ.follows (State.pchEnd s) := by
  unfold State.pchEnd
  dsimp only
  repeat' first
    | with_reducible first
        | assumption | apply State.put_follows | apply State.ite_follows
    | split | apply State.mk_follows

theorem State.soCheck_follows {σ s : State} (hσ : σ.follows s) : σ.follows (State.soCheck s) := by
  unfold State.soCheck
  repeat' first
    | with_reducible first
        | assumption
    | split | apply State.mk_follows

theorem State.soLow_follows {σ s : State} (hσ : σ.follows s) : σ.follows (State.soLow s) := by
  unfold State.soLow
  dsimp only
  repeat' first
    | with_reducible first
        | assumption | apply State.put_follows | apply State.src_follows | apply State.ite_follows
    | split | apply State.mk_follows

theorem State.clearRun_follows {σ s : State} (k : Stage) (hσ : σ.follows s) : σ.follows (State.clearRun s k) := by
  unfold State.clearRun
  repeat' first
    | with_reducible first
        | assumption | apply State.put_follows | apply State.setStg_follows | apply State.ite_follows
    | split

theorem State.clearRuns_follows {σ s : State} (hσ : σ.follows s) : σ.follows (State.clearRuns s) := by
  unfold State.clearRuns
  repeat' first
    | with_reducible first
        | assumption | apply State.clearRun_follows | intro _ | (apply State.foldl_follows; intro _ _ _)
    | split | apply State.mk_follows

theorem State.modeTo_follows {σ s : State} (m : Nat) (hσ : σ.follows s) : σ.follows (State.modeTo s m) := by
  unfold State.modeTo
  repeat' first
    | with_reducible first
        | assumption | apply State.put_follows | apply State.bump_follows | apply State.src_follows
        | apply State.ite_follows
    | split

theorem State.changeMode_follows {σ s : State} (m : Nat) (hσ : σ.follows s) : σ.follows (State.changeMode s m) := by
  unfold State.changeMode
  dsimp only
  repeat' first
    | with_reducible first
        | assumption | apply State.put_follows | apply State.endWith_follows | apply State.endGroups_follows
        | apply State.endRamps_follows | apply State.pchEnd_follows | apply State.soCheck_follows
        | apply State.modeTo_follows | apply State.ite_follows
    | split | apply State.mk_follows

theorem State.quietRestart_follows {σ s : State} (hσ : σ.follows s) : σ.follows (State.quietRestart s) := by
  unfold State.quietRestart
  repeat' first
    | with_reducible first
        | assumption | apply State.putB_follows | apply State.ite_follows
    | split

theorem State.enterSafeStop_follows {σ s : State} (hσ : σ.follows s) : σ.follows (State.enterSafeStop s) := by
  unfold State.enterSafeStop
  repeat' first
    | with_reducible first
        | assumption | apply State.put_follows | apply State.kOpen_follows | apply State.clearRuns_follows
        | apply State.changeMode_follows | apply State.quietRestart_follows | apply State.ite_follows
    | split

theorem State.escalate_follows {σ s : State} (hσ : σ.follows s) : σ.follows (State.escalate s) := by
  unfold State.escalate
  repeat' first
    | with_reducible first
        | assumption | apply State.set1_follows | apply State.src_follows | apply State.enterSafeStop_follows
        | apply State.ite_follows
    | split

theorem State.aliveLow_follows {σ s : State} (hσ : σ.follows s) : σ.follows (State.aliveLow s) := by
  unfold State.aliveLow
  repeat' first
    | with_reducible first
        | assumption
    | split | apply State.mk_follows

theorem State.merge_follows {σ s : State} (code : Nat) (hσ : σ.follows s) : σ.follows (State.merge s code) := by
  unfold State.merge
  repeat' first
    | with_reducible first
        | assumption | apply State.put_follows | apply State.set1_follows | apply State.src_follows
        | apply State.quietRestart_follows | apply State.ite_follows
    | split

theorem State.firstSource_follows {σ s : State} (code : Nat) (cls : Nat) (arg : Word) (hσ : σ.follows s) :
    σ.follows (State.firstSource s code cls arg) := by
  unfold State.firstSource
  repeat' first
    | with_reducible first
        | assumption | apply State.setReg_follows | apply State.put_follows | apply State.set1_follows
        | apply State.ite_follows
    | split

theorem State.openEpisode_follows {σ s : State} (code : Nat) (cls : Nat) (arg : Word) (hσ : σ.follows s) :
    σ.follows (State.openEpisode s code cls arg) := by
  unfold State.openEpisode
  dsimp only
  repeat' first
    | with_reducible first
        | assumption | apply State.setReg_follows | apply State.put_follows | apply State.set1_follows
        | apply State.src_follows | apply State.firstSource_follows | apply State.ite_follows
    | split | apply State.mk_follows

theorem State.enterFaultHold_follows {σ s : State} (hσ : σ.follows s) : σ.follows (State.enterFaultHold s) := by
  unfold State.enterFaultHold
  dsimp only
  repeat' first
    | with_reducible first
        | assumption | apply State.set1_follows | apply State.changeMode_follows | apply State.ite_follows
    | split | apply State.mk_follows

theorem State.noteC_follows {σ s : State} (code : Nat) (hσ : σ.follows s) : σ.follows (State.noteC s code) := by
  unfold State.noteC
  repeat' first
    | with_reducible first
        | assumption | apply State.put_follows | apply State.bump_follows | apply State.src_follows
        | apply State.ite_follows
    | split

theorem State.markSwitching_follows {σ s : State} (hσ : σ.follows s) : σ.follows (State.markSwitching s) := by
  unfold State.markSwitching
  repeat' first
    | with_reducible first
        | assumption
    | split | apply State.mk_follows

theorem State.unraiseB_follows {σ s : State} (hσ : σ.follows s) : σ.follows (State.unraiseB s) := by
  unfold State.unraiseB
  repeat' first
    | with_reducible first
        | assumption | apply State.put_follows | intro _ | (apply State.foldl_follows; intro _ _ _)
    | split | apply State.mk_follows

theorem State.overtake_follows {σ s : State} (code : Nat) (cls : Nat) (arg : Word) (hσ : σ.follows s) :
    σ.follows (State.overtake s code cls arg) := by
  unfold State.overtake
  repeat' first
    | with_reducible first
        | assumption | apply State.setReg_follows | apply State.put_follows | apply State.set1_follows
        | apply State.src_follows | apply State.merge_follows | apply State.unraiseB_follows
        | apply State.ite_follows
    | split

theorem State.joinEpisode_follows {σ s : State} (code : Nat) (cls : Nat) (arg : Word) (hσ : σ.follows s) :
    σ.follows (State.joinEpisode s code cls arg) := by
  unfold State.joinEpisode
  repeat' first
    | with_reducible first
        | assumption | apply State.merge_follows | apply State.overtake_follows | apply State.ite_follows
    | split

theorem State.stopInstead_follows {σ s : State} (hσ : σ.follows s) : σ.follows (State.stopInstead s) := by
  unfold State.stopInstead
  repeat' first
    | with_reducible first
        | assumption | apply State.put_follows | apply State.enterSafeStop_follows | apply State.ite_follows
    | split

theorem State.stopForA_follows {σ s : State} (hσ : σ.follows s) : σ.follows (State.stopForA s) := by
  unfold State.stopForA
  repeat' first
    | with_reducible first
        | assumption | apply State.soCheck_follows | apply State.enterSafeStop_follows | apply State.ite_follows
    | split

theorem State.collect_follows {σ s0 : State} (code : Nat) (cls : Cls) (arg : Word) (hσ : σ.follows s0) :
    σ.follows (State.collect s0 code cls arg) := by
  unfold State.collect
  repeat' first
    | with_reducible first
        | assumption | apply State.put_follows | apply State.escalate_follows | apply State.aliveLow_follows
        | apply State.openEpisode_follows | apply State.enterFaultHold_follows | apply State.noteC_follows
        | apply State.markSwitching_follows | apply State.joinEpisode_follows | apply State.stopInstead_follows
        | apply State.stopForA_follows | apply State.ite_follows
    | split

theorem State.storeCfg_follows {σ s : State} (n : Link) (hσ : σ.follows s) : σ.follows (State.storeCfg s n) := by
  unfold State.storeCfg
  repeat' first
    | with_reducible first
        | assumption | apply State.mergeReg_follows | intro _ | (apply State.foldl_follows; intro _ _ _)
    | split | apply State.mk_follows

theorem State.partLink_follows {σ s : State} (n : Link) (hσ : σ.follows s) : σ.follows (State.partLink s n) := by
  unfold State.partLink
  repeat' first
    | with_reducible first
        | assumption | apply State.put_follows | apply State.set1_follows | apply State.setLnk_follows
        | apply State.emit_follows | apply State.src_follows | apply State.storeCfg_follows
        | apply State.ite_follows
    | split

theorem State.partStage_follows {σ s : State} (k : Stage) (hσ : σ.follows s) : σ.follows (State.partStage s k) := by
  unfold State.partStage
  repeat' first
    | with_reducible first
        | assumption | apply State.setStg_follows | apply State.ite_follows
    | split

theorem State.partLinks_follows {σ s : State} (relay : Bool) (hσ : σ.follows s) : σ.follows (State.partLinks s
    relay) := by
  unfold State.partLinks
  repeat' first
    | with_reducible first
        | assumption | apply State.emit_follows | apply State.settle_follows | apply State.partLink_follows
        | apply State.partStage_follows | intro _ | (apply State.foldl_follows; intro _ _ _)
    | split | apply State.mk_follows

theorem State.seqsFailed_follows {σ s : State} (ns : List Link) (relay : Bool) (hσ : σ.follows s) : σ.follows
    (State.seqsFailed s ns relay) := by
  unfold State.seqsFailed
  repeat' first
    | with_reducible first
        | assumption | apply State.escalate_follows | apply State.aliveLow_follows | apply State.merge_follows
        | apply State.collect_follows | apply State.partLinks_follows | intro _
        | (apply State.foldl_follows; intro _ _ _)
    | split | apply State.mk_follows

theorem State.partAll_follows {σ s : State} (relay : Bool) (hσ : σ.follows s) : σ.follows (State.partAll s
    relay) := by
  unfold State.partAll
  repeat' first
    | with_reducible first
        | assumption | apply State.partLinks_follows | apply State.seqsFailed_follows | apply State.ite_follows
    | split

theorem State.report_follows {σ s : State} (code : Nat) (cls : Cls) (arg : Word) (hσ : σ.follows s) : σ.follows
    (State.report s code cls arg) := by
  unfold State.report
  repeat' first
    | with_reducible first
        | assumption | apply State.collect_follows | apply State.partAll_follows | apply State.ite_follows
    | split

theorem State.deliverRef_follows {σ s : State} (hσ : σ.follows s) : σ.follows (State.deliverRef s) := by
  unfold State.deliverRef
  dsimp only
  repeat' first
    | with_reducible first
        | assumption | apply State.put_follows | apply State.merge_follows | apply State.firstSource_follows
        | apply State.report_follows | apply State.ite_follows
    | split | apply State.mk_follows

theorem State.selftestFailed_follows {σ s : State} (i : Nat) (ms : Nat) (arg : Word) (hσ : σ.follows s) :
    σ.follows (State.selftestFailed s i ms arg) := by
  unfold State.selftestFailed
  repeat' first
    | with_reducible first
        | assumption | apply State.put_follows | apply State.enterSafeStop_follows | apply State.report_follows
        | apply State.deliverRef_follows | apply State.ite_follows
    | split

theorem State.startSeq_follows {σ s : State} (n : Link) (hσ : σ.follows s) : σ.follows (State.startSeq s n) := by
  unfold State.startSeq
  repeat' first
    | with_reducible first
        | assumption | apply State.put_follows | apply State.set1_follows | apply State.setLnk_follows
        | apply State.emit_follows | apply State.settle_follows | apply State.storeCfg_follows
        | apply State.ite_follows
    | split

theorem State.startSeqs_follows {σ s : State} (hσ : σ.follows s) : σ.follows (State.startSeqs s) := by
  unfold State.startSeqs
  repeat' first
    | with_reducible first
        | assumption | apply State.startSeq_follows | intro _ | (apply State.foldl_follows; intro _ _ _)
    | split | apply State.mk_follows

theorem State.enterStandby_follows {σ s : State} (hσ : σ.follows s) : σ.follows (State.enterStandby s) := by
  unfold State.enterStandby
  repeat' first
    | with_reducible first
        | assumption | apply State.clearRuns_follows | apply State.changeMode_follows | apply State.ite_follows
    | split

theorem State.closeEpisode_follows {σ s : State} (hσ : σ.follows s) : σ.follows (State.closeEpisode s) := by
  unfold State.closeEpisode
  dsimp only
  repeat' first
    | with_reducible first
        | assumption | apply State.put_follows | apply State.ite_follows
    | split | apply State.mk_follows

theorem State.rcRestart_follows {σ s : State} (g : Fin 4) (hσ : σ.follows s) : σ.follows (State.rcRestart s g) := by
  unfold State.rcRestart
  dsimp only
  repeat' first
    | with_reducible first
        | assumption | apply State.put_follows | apply State.ite_follows
    | split | apply State.mk_follows

theorem State.islNote_follows {σ s : State} (g : Fin 4) (hσ : σ.follows s) : σ.follows (State.islNote s g) := by
  unfold State.islNote
  repeat' first
    | with_reducible first
        | assumption | apply State.put_follows | apply State.bump_follows | apply State.islEvt_follows
        | apply State.ite_follows
    | split

theorem State.tripSequence_follows {σ s : State} (gs : List (Fin 4)) (hσ : σ.follows s) : σ.follows
    (State.tripSequence s gs) := by
  unfold State.tripSequence
  try dsimp only
  repeat' first
    | with_reducible first
        | assumption | intro _ | apply State.kOpen_follows | apply State.partAll_follows
        | apply State.startSeqs_follows | apply State.enterStandby_follows | apply State.rcRestart_follows
        | apply State.islNote_follows | (apply State.foldl_follows; intro _ _ _)
        | (refine State.pair_follows ?_ (by assumption)) | (refine State.triple_follows ?_ (by assumption))
        | apply State.ite_follows
    | split | dsimp only | apply State.mk_follows

theorem State.noteFault_follows {σ s : State} (e : CtxId) (cause : Nat) (pc : Nat) (hσ : σ.follows s) :
    σ.follows (State.noteFault s e cause pc) := by
  unfold State.noteFault
  repeat' first
    | with_reducible first
        | assumption | apply State.put_follows | apply State.ite_follows
    | split

theorem State.endRampsOf_follows {σ s : State} (k : Nat) (hσ : σ.follows s) : σ.follows (State.endRampsOf s k) := by
  unfold State.endRampsOf
  repeat' first
    | with_reducible first
        | assumption | apply State.endWith_follows | apply State.ite_follows
    | split

theorem State.toFault_follows {σ s : State} (e : CtxId) (cause : Nat) (hσ : σ.follows s) : σ.follows
    (State.toFault s e cause) := by
  unfold State.toFault
  repeat' first
    | with_reducible first
        | assumption | apply State.put_follows | apply State.setCtx_follows | apply State.raise_follows
        | apply State.noteFault_follows | apply State.endRampsOf_follows | apply State.ite_follows
    | split

theorem State.engineFault_follows {σ s : State} (e : CtxId) (cause : Nat) (hσ : σ.follows s) : σ.follows
    (State.engineFault s e cause) := by
  unfold State.engineFault
  repeat' first
    | with_reducible first
        | assumption | apply State.report_follows | apply State.toFault_follows | apply State.ite_follows
    | split

theorem State.replayOf_follows {σ s : State} (e : CtxId) (hσ : σ.follows s) : σ.follows (State.replayOf s e) := by
  unfold State.replayOf
  repeat' first
    | with_reducible first
        | assumption | apply State.bump_follows | apply State.setCtx_follows | apply State.raise_follows
        | apply State.ite_follows
    | split

theorem State.replays_follows {σ s : State} (e : CtxId) (n : Nat) (h : σ.follows s) :
    σ.follows (s.replays e n) := by
  induction n generalizing s with
  | zero => exact h
  | succ n ih => exact ih (State.replayOf_follows e h)

theorem State.parityFail_follows {σ s : State} (e : CtxId) (unit : Nat) (addr : Nat) (hσ : σ.follows s) :
    σ.follows (State.parityFail s e unit addr) := by
  unfold State.parityFail
  repeat' first
    | with_reducible first
        | assumption | apply State.report_follows | apply State.toFault_follows | apply State.replayOf_follows
        | apply State.ite_follows
    | split

theorem State.haltCtx_follows {σ s : State} (e : CtxId) (hσ : σ.follows s) : σ.follows (State.haltCtx s e) := by
  unfold State.haltCtx
  repeat' first
    | with_reducible first
        | assumption | apply State.setCtx_follows | apply State.endRampsOf_follows | apply State.ite_follows
    | split

theorem State.haltEngine_follows {σ s : State} (m : Fin 7) (cause : Nat) (index : Nat) (ctx : Nat) (hσ :
    σ.follows s) : σ.follows (State.haltEngine s m cause index ctx) := by
  unfold State.haltEngine
  try dsimp only
  repeat' first
    | with_reducible first
        | assumption | intro _ | apply State.put_follows | apply State.src_follows | apply State.report_follows
        | apply State.haltCtx_follows | (apply State.foldl_follows; intro _ _ _)
        | (refine State.pair_follows ?_ (by assumption)) | (refine State.triple_follows ?_ (by assumption))
        | apply State.ite_follows
    | split | dsimp only | apply State.mk_follows

theorem State.trigger_follows {σ s : State} (e : CtxId) (cause : Nat) (index : Nat) (hσ : σ.follows s) :
    σ.follows (State.trigger s e cause index) := by
  unfold State.trigger
  repeat' first
    | with_reducible first
        | assumption | apply State.haltEngine_follows | apply State.ite_follows
    | split

theorem State.watch_follows {σ s : State} (e : CtxId) (rd : List Nat) (wr : List Nat) (hσ : σ.follows s) :
    σ.follows (State.watch s e rd wr) := by
  unfold State.watch
  repeat' first
    | with_reducible first
        | assumption | apply State.trigger_follows | apply State.ite_follows
    | split

end Sys2Proof.Machine
end

