-- ==== Sys2Proof/Laws/FollowsEngine.lean ====
section
/-! SUPPORT. What every operation respects (`State.follows`): the issue of an instruction, the shared forms of the engines, acquisition reads, contexts. -/

namespace Sys2Proof.Machine

theorem State.notePc_follows {σ s : State} (e : CtxId) (pc : Nat) (hσ : σ.follows s) : σ.follows (State.notePc s
    e pc) := by
  unfold State.notePc
  repeat' first
    | with_reducible first
        | assumption | apply State.setReg_follows | apply State.ite_follows
    | split

theorem State.fetched_follows {σ s : State} (e : CtxId) (hσ : σ.follows s) : σ.follows (State.fetched s e) := by
  unfold State.fetched
  repeat' first
    | with_reducible first
        | assumption | apply State.setCtx_follows | apply State.notePc_follows | apply State.ite_follows
    | split

theorem State.fetch_follows {σ s : State} (e : CtxId) (f : State → State) (hf : ∀ t, σ.follows t → σ.follows (f
    t)) (hσ : σ.follows s) : σ.follows (State.fetch s e f) := by
  unfold State.fetch
  repeat' first
    | with_reducible first
        | assumption | exact hf _ hσ | apply hf | apply State.engineFault_follows
        | apply State.haltEngine_follows | apply State.ite_follows
    | split

theorem State.issue_follows {σ s : State} (e : CtxId) (f : State → State) (hf : ∀ t, σ.follows t → σ.follows (f
    t)) (hσ : σ.follows s) : σ.follows (State.issue s e f) := by
  unfold State.issue
  repeat' first
    | with_reducible first
        | assumption | exact hf _ hσ | apply hf | apply State.fetched_follows | apply State.fetch_follows
        | intro _
    | split | apply State.mk_follows

theorem State.issueIf_follows {σ s : State} (e : CtxId) (ok : Bool) (f : State → State) (hf : ∀ t, σ.follows t →
    σ.follows (f t)) (hσ : σ.follows s) : σ.follows (State.issueIf s e ok f) := by
  unfold State.issueIf
  repeat' first
    | with_reducible first
        | assumption | exact hf _ hσ | apply hf | apply State.engineFault_follows | apply State.issue_follows
        | intro _
    | split | apply State.mk_follows

theorem State.done_follows {σ s : State} (e : CtxId) (d : VReg) (r : Word × BitVec 8) (n : Nat) (hσ : σ.follows
    s) : σ.follows (State.done s e d r n) := by
  unfold State.done
  repeat' first
    | with_reducible first
        | assumption | apply State.setCtx_follows | apply State.ite_follows
    | split

theorem State.donePair_follows {σ s : State} (e : CtxId) (d : VReg) (x : Word) (y : Word) (fl : BitVec 8) (n :
    Nat) (hσ : σ.follows s) : σ.follows (State.donePair s e d x y fl n) := by
  unfold State.donePair
  repeat' first
    | with_reducible first
        | assumption | apply State.setCtx_follows | apply State.ite_follows
    | split

theorem State.regOp_follows {σ s : State} (e : CtxId) (d : VReg) (n : Nat) (f : Ctx → Word × BitVec 8) (hσ :
    σ.follows s) : σ.follows (State.regOp s e d n f) := by
  unfold State.regOp
  repeat' first
    | with_reducible first
        | assumption | apply State.issue_follows | apply State.done_follows | intro _
    | split | apply State.mk_follows

theorem State.regOp0_follows {σ s : State} (e : CtxId) (d : VReg) (n : Nat) (f : Ctx → Word) (hσ : σ.follows s)
    : σ.follows (State.regOp0 s e d n f) := by
  unfold State.regOp0
  repeat' first
    | with_reducible first
        | assumption | apply State.regOp_follows | apply State.ite_follows
    | split

theorem State.accOp_follows {σ s : State} (e : CtxId) (n : BitVec 2) (f : Ctx → BitVec 48 × BitVec 8) (hσ :
    σ.follows s) : σ.follows (State.accOp s e n f) := by
  unfold State.accOp
  repeat' first
    | with_reducible first
        | assumption | apply State.setCtx_follows | apply State.issue_follows | intro _
    | split | apply State.mk_follows

theorem State.jump_follows {σ s : State} (e : CtxId) (d : VReg) (t : Nat) (hσ : σ.follows s) : σ.follows
    (State.jump s e d t) := by
  unfold State.jump
  repeat' first
    | with_reducible first
        | assumption | apply State.setCtx_follows | apply State.engineFault_follows | apply State.ite_follows
    | split

theorem State.branch_follows {σ s : State} (e : CtxId) (d : VReg) (a : VReg) (off : BitVec 16) (p : Word → Word
    → Bool) (hσ : σ.follows s) : σ.follows (State.branch s e d a off p) := by
  unfold State.branch
  try dsimp only
  repeat' first
    | with_reducible first
        | assumption | intro _ | apply State.setCtx_follows | apply State.engineFault_follows
        | apply State.issue_follows | (refine State.pair_follows ?_ (by assumption))
        | (refine State.triple_follows ?_ (by assumption)) | apply State.ite_follows
    | split | dsimp only | apply State.mk_follows

theorem State.parityRead_follows {σ s : State} (e : CtxId) (p : Par) (a : Nat) (f : State → Word → State) (hf :
    ∀ t w, σ.follows t → σ.follows (f t w)) (hσ : σ.follows s) : σ.follows (State.parityRead s e p a f) := by
  unfold State.parityRead
  repeat' first
    | with_reducible first
        | assumption | exact hf _ hσ | apply hf | apply State.replayOf_follows | apply State.parityFail_follows
        | apply State.ite_follows
    | split

theorem State.parityBlock_follows {σ s : State} (e : CtxId) (n : Nat) (bad : Option (Nat × Nat)) (f : State →
    State) (hf : ∀ t, σ.follows t → σ.follows (f t)) (hσ : σ.follows s) : σ.follows (State.parityBlock s e n bad f)
    := by
  unfold State.parityBlock
  repeat' first
    | with_reducible first
        | assumption | exact hf _ hσ | apply hf | apply State.replays_follows | apply State.parityFail_follows
        | apply State.ite_follows
    | split

theorem State.storeWord_follows {σ s : State} (e : CtxId) (off : Nat) (w : Nat) (v : Word) (hσ : σ.follows s) :
    σ.follows (State.storeWord s e off w v) := by
  unfold State.storeWord
  repeat' first
    | with_reducible first
        | assumption | apply State.bump_follows | apply State.setMw_follows | apply State.report_follows
        | apply State.ite_follows
    | split

theorem execPmac_follows {σ s : State} (e : CtxId) (n : BitVec 2) (a : VReg) (b : VReg) (hσ : σ.follows s) :
    σ.followedBy (execPmac e n a b s) := by
  unfold execPmac
  repeat' first
    | with_reducible first
        | assumption | apply State.next_follows | apply State.accOp_follows | apply State.ite_follows
    | split

theorem execPmsb_follows {σ s : State} (e : CtxId) (n : BitVec 2) (a : VReg) (b : VReg) (hσ : σ.follows s) :
    σ.followedBy (execPmsb e n a b s) := by
  unfold execPmsb
  repeat' first
    | with_reducible first
        | assumption | apply State.next_follows | apply State.accOp_follows | apply State.ite_follows
    | split

theorem execAccld_follows {σ s : State} (e : CtxId) (n : BitVec 2) (a : VReg) (hσ : σ.follows s) : σ.followedBy
    (execAccld e n a s) := by
  unfold execAccld
  repeat' first
    | with_reducible first
        | assumption | apply State.next_follows | apply State.accOp_follows | apply State.ite_follows
    | split

theorem execAccadd_follows {σ s : State} (e : CtxId) (n : BitVec 2) (a : VReg) (hσ : σ.follows s) : σ.followedBy
    (execAccadd e n a s) := by
  unfold execAccadd
  repeat' first
    | with_reducible first
        | assumption | apply State.next_follows | apply State.accOp_follows | apply State.ite_follows
    | split

theorem execAccrd_follows {σ s : State} (e : CtxId) (d : VReg) (n : BitVec 2) (hσ : σ.follows s) : σ.followedBy
    (execAccrd e d n s) := by
  unfold execAccrd
  repeat' first
    | with_reducible first
        | assumption | apply State.next_follows | apply State.regOp_follows | apply State.ite_follows
    | split

theorem execAccclr_follows {σ s : State} (e : CtxId) (n : BitVec 2) (hσ : σ.follows s) : σ.followedBy
    (execAccclr e n s) := by
  unfold execAccclr
  repeat' first
    | with_reducible first
        | assumption | apply State.next_follows | apply State.accOp_follows | apply State.ite_follows
    | split

theorem execAcclo_follows {σ s : State} (e : CtxId) (d : VReg) (n : BitVec 2) (hσ : σ.follows s) : σ.followedBy
    (execAcclo e d n s) := by
  unfold execAcclo
  repeat' first
    | with_reducible first
        | assumption | apply State.next_follows | apply State.regOp0_follows | apply State.ite_follows
    | split

theorem execAcchi_follows {σ s : State} (e : CtxId) (d : VReg) (n : BitVec 2) (hσ : σ.follows s) : σ.followedBy
    (execAcchi e d n s) := by
  unfold execAcchi
  repeat' first
    | with_reducible first
        | assumption | apply State.next_follows | apply State.regOp0_follows | apply State.ite_follows
    | split

theorem execAccset_follows {σ s : State} (e : CtxId) (n : BitVec 2) (a : VReg) (b : VReg) (hσ : σ.follows s) :
    σ.followedBy (execAccset e n a b s) := by
  unfold execAccset
  repeat' first
    | with_reducible first
        | assumption | apply State.next_follows | apply State.accOp_follows | apply State.ite_follows
    | split

theorem State.toInstant_follows {σ s : State} (t : Nat) (hσ : σ.follows s) : σ.follows (State.toInstant s t) := by
  unfold State.toInstant
  repeat' first
    | with_reducible first
        | assumption
    | split | apply State.mk_follows

theorem State.setMtr_follows {σ s : State} (m : Fin 4) (x : Mtr) (hσ : σ.follows s) : σ.follows (State.setMtr s
    m x) := by
  unfold State.setMtr
  repeat' first
    | with_reducible first
        | assumption
    | split | apply State.mk_follows

theorem State.meterEntFail_follows {σ s : State} (e : Nat) (hσ : σ.follows s) : σ.follows (State.meterEntFail s
    e) := by
  unfold State.meterEntFail
  repeat' first
    | with_reducible first
        | assumption | apply State.src_follows | apply State.setMtr_follows | intro _
        | (apply State.foldl_follows; intro _ _ _)
    | split | apply State.mk_follows

theorem State.setEnt_follows {σ s : State} (e : Fin 64) (x : Ent) (hσ : σ.follows s) : σ.follows (State.setEnt s
    e x) := by
  unfold State.setEnt
  repeat' first
    | with_reducible first
        | assumption
    | split | apply State.mk_follows

theorem State.plausFail_follows {σ s : State} (e : Nat) (w : Nat) (arg : Nat) (hσ : σ.follows s) : σ.follows
    (State.plausFail s e w arg) := by
  unfold State.plausFail
  repeat' first
    | with_reducible first
        | assumption | apply State.set1_follows | apply State.src_follows | apply State.report_follows
        | apply State.meterEntFail_follows | apply State.ite_follows
    | split

theorem State.plausClear_follows {σ s : State} (e : Nat) (w : Nat) (hσ : σ.follows s) : σ.follows
    (State.plausClear s e w) := by
  unfold State.plausClear
  repeat' first
    | with_reducible first
        | assumption | apply State.put_follows | apply State.ite_follows
    | split

theorem State.internalFail_follows {σ s : State} (a : Nat) (n : Nat) (code : Nat) (hσ : σ.follows s) : σ.follows
    (State.internalFail s a n code) := by
  unfold State.internalFail
  repeat' first
    | with_reducible first
        | assumption | apply State.set1_follows | apply State.src_follows | apply State.report_follows
        | apply State.plausFail_follows | intro _ | (apply State.foldl_follows; intro _ _ _)
    | split | apply State.mk_follows

theorem State.publish_follows {σ s : State} (e : Fin 64) (hσ : σ.follows s) : σ.follows (State.publish s e) := by
  unfold State.publish
  dsimp only
  repeat' first
    | with_reducible first
        | assumption | apply State.setReg_follows | apply State.put_follows | apply State.ite_follows
    | split | apply State.mk_follows

theorem State.dropWindows_follows {σ s : State} (k : Stage) (hσ : σ.follows s) : σ.follows (State.dropWindows s
    k) := by
  unfold State.dropWindows
  repeat' first
    | with_reducible first
        | assumption | intro _ | (apply State.foldl_follows; intro _ _ _)
    | split | apply State.mk_follows

theorem execTbl_follows {σ s : State} (e : CtxId) (d : VReg) (a : VReg) (b : VReg) (lit : BitVec 5) (rp : Fin 7)
    (bad : Option (Fin 3 × Bool)) (hσ : σ.follows s) : σ.followedBy (execTbl e d a b lit rp bad s) := by
  unfold execTbl
  repeat' first
    | with_reducible first
        | assumption | apply State.next_follows | apply State.bump_follows | apply State.engineFault_follows
        | apply State.issue_follows | apply State.done_follows | apply State.parityBlock_follows | intro _
    | split | apply State.mk_follows

theorem execTblu_follows {σ s : State} (e : CtxId) (d : VReg) (a : VReg) (b : VReg) (lit : BitVec 5) (rp : Fin
    7) (bad : Option (Fin 3 × Bool)) (hσ : σ.follows s) : σ.followedBy (execTblu e d a b lit rp bad s) := by
  unfold execTblu
  repeat' first
    | with_reducible first
        | assumption | apply State.next_follows | apply State.bump_follows | apply State.setMh_follows
        | apply State.setCtx_follows | apply State.engineFault_follows | apply State.issue_follows
        | apply State.parityBlock_follows | intro _
    | split | apply State.mk_follows

theorem State.tblClear_follows {σ s : State} (k m : Nat) (h : σ.follows s) : σ.follows (State.tblClear s k m) :=
  State.memFilter_follows h _ rfl rfl rfl rfl

theorem State.takeBounds_follows {σ s : State} (sw : Nat) (hσ : σ.follows s) : σ.follows (State.takeBounds s sw) := by
  unfold State.takeBounds
  repeat' first
    | with_reducible first
        | assumption | apply State.setLnk_follows | apply State.ite_follows
    | split

theorem State.syncoOff_follows {σ s : State} (hσ : σ.follows s) : σ.follows (State.syncoOff s) := by
  unfold State.syncoOff
  dsimp only
  repeat' first
    | with_reducible first
        | assumption | apply State.ite_follows
    | split | apply State.mk_follows

theorem State.syncoPeriod_follows {σ s : State} (t : Nat) (hσ : σ.follows s) : σ.follows (State.syncoPeriod s t) := by
  unfold State.syncoPeriod
  dsimp only
  repeat' first
    | with_reducible first
        | assumption | apply State.src_follows | apply State.syncoOff_follows | apply State.ite_follows
    | split | apply State.mk_follows

theorem State.syncoStage_follows {σ s : State} (k : Stage) (t : Nat) (hσ : σ.follows s) : σ.follows
    (State.syncoStage s k t) := by
  unfold State.syncoStage
  repeat' first
    | with_reducible first
        | assumption | apply State.src_follows | apply State.syncoPeriod_follows | apply State.ite_follows
    | split

theorem State.syncoCycle_follows {σ s : State} (hσ : σ.follows s) : σ.follows (State.syncoCycle s) := by
  unfold State.syncoCycle
  repeat' first
    | with_reducible first
        | assumption | apply State.src_follows | apply State.syncoOff_follows | apply State.syncoPeriod_follows
        | apply State.ite_follows
    | split

theorem State.donePu_follows {σ s : State} (e : CtxId) (d : VReg) (x : Int) (y : Int) (hσ : σ.follows s) :
    σ.follows (State.donePu s e d x y) := by
  unfold State.donePu
  repeat' first
    | with_reducible first
        | assumption | apply State.donePair_follows | apply State.ite_follows
    | split

theorem State.transform_follows {σ s : State} (e : CtxId) (d : VReg) (a : VReg) (pa : Bool) (f : Ctx → Int ×
    Int) (hσ : σ.follows s) : σ.follows (State.transform s e d a pa f) := by
  unfold State.transform
  repeat' first
    | with_reducible first
        | assumption | apply State.issueIf_follows | apply State.donePu_follows | intro _
    | split | apply State.mk_follows

theorem execClarke_follows {σ s : State} (e : CtxId) (d : VReg) (a : VReg) (b : VReg) (hσ : σ.follows s) :
    σ.followedBy (execClarke e d a b s) := by
  unfold execClarke
  repeat' first
    | with_reducible first
        | assumption | apply State.next_follows | apply State.transform_follows | apply State.ite_follows
    | split

theorem execClarke2_follows {σ s : State} (e : CtxId) (d : VReg) (a : VReg) (hσ : σ.follows s) : σ.followedBy
    (execClarke2 e d a s) := by
  unfold execClarke2
  repeat' first
    | with_reducible first
        | assumption | apply State.next_follows | apply State.transform_follows | apply State.ite_follows
    | split

theorem execPark_follows {σ s : State} (e : CtxId) (d : VReg) (a : VReg) (b : VReg) (hσ : σ.follows s) :
    σ.followedBy (execPark e d a b s) := by
  unfold execPark
  repeat' first
    | with_reducible first
        | assumption | apply State.next_follows | apply State.transform_follows | apply State.ite_follows
    | split

theorem execIpark_follows {σ s : State} (e : CtxId) (d : VReg) (a : VReg) (b : VReg) (hσ : σ.follows s) :
    σ.followedBy (execIpark e d a b s) := by
  unfold execIpark
  repeat' first
    | with_reducible first
        | assumption | apply State.next_follows | apply State.transform_follows | apply State.ite_follows
    | split

theorem execSincos_follows {σ s : State} (e : CtxId) (d : VReg) (a : VReg) (hσ : σ.follows s) : σ.followedBy
    (execSincos e d a s) := by
  unfold execSincos
  repeat' first
    | with_reducible first
        | assumption | apply State.next_follows | apply State.transform_follows | apply State.ite_follows
    | split

theorem State.devRead_follows {σ s : State} (e : CtxId) (d : VReg) (f : State → Word) (hσ : σ.follows s) :
    σ.follows (State.devRead s e d f) := by
  unfold State.devRead
  repeat' first
    | with_reducible first
        | assumption | apply State.issue_follows | apply State.done_follows | intro _
    | split | apply State.mk_follows

theorem execAvg_follows {σ s : State} (e : CtxId) (d : VReg) (x : Fin 64) (sel : Fin 4) (hσ : σ.follows s) :
    σ.followedBy (execAvg e d x sel s) := by
  unfold execAvg
  repeat' first
    | with_reducible first
        | assumption | apply State.next_follows | apply State.devRead_follows | apply State.ite_follows
    | split

theorem execSmp_follows {σ s : State} (e : CtxId) (d : VReg) (x : Fin 64) (raw : Bool) (hσ : σ.follows s) :
    σ.followedBy (execSmp e d x raw s) := by
  unfold execSmp
  repeat' first
    | with_reducible first
        | assumption | apply State.next_follows | apply State.devRead_follows | apply State.ite_follows
    | split

theorem execGrid_follows {σ s : State} (e : CtxId) (d : VReg) (g : Fin 4) (q : BitVec 6) (hσ : σ.follows s) :
    σ.followedBy (execGrid e d g q s) := by
  unfold execGrid
  repeat' first
    | with_reducible first
        | assumption | apply State.next_follows | apply State.engineFault_follows | apply State.issue_follows
        | apply State.done_follows | intro _
    | split | apply State.mk_follows

theorem execMtr_follows {σ s : State} (e : CtxId) (d : VReg) (m : Fin 4) (q : BitVec 6) (hσ : σ.follows s) :
    σ.followedBy (execMtr e d m q s) := by
  unfold execMtr
  repeat' first
    | with_reducible first
        | assumption | apply State.next_follows | apply State.issueIf_follows | apply State.done_follows
        | intro _
    | split | apply State.mk_follows

theorem State.clearPend_follows {σ s : State} (e : CtxId) (hσ : σ.follows s) : σ.follows (State.clearPend s e) := by
  unfold State.clearPend
  repeat' first
    | with_reducible first
        | assumption | apply State.setStg_follows | apply State.ite_follows
    | split

theorem State.startCtx_follows {σ s : State} (e : CtxId) (hσ : σ.follows s) : σ.follows (State.startCtx s e) := by
  unfold State.startCtx
  repeat' first
    | with_reducible first
        | assumption | apply State.setCtx_follows | apply State.clearPend_follows | apply State.idle_follows
        | apply State.ite_follows
    | split

theorem State.toIdle_follows {σ s : State} (e : CtxId) (hσ : σ.follows s) : σ.follows (State.toIdle s e) := by
  unfold State.toIdle
  repeat' first
    | with_reducible first
        | assumption | apply State.put_follows | apply State.setCtx_follows | apply State.endRampsOf_follows
        | apply State.latch_follows | apply State.idle_follows | apply State.ite_follows
    | split

theorem State.stopCtx_follows {σ s : State} (e : CtxId) (hσ : σ.follows s) : σ.follows (State.stopCtx s e).2 := by
  unfold State.stopCtx
  dsimp only
  repeat' first
    | with_reducible first
        | assumption | apply State.setCtx_follows | apply State.toIdle_follows | apply State.ite_follows
    | split

theorem State.clearStats_follows {σ s : State} (k : Nat) (hσ : σ.follows s) : σ.follows (State.clearStats s k) := by
  unfold State.clearStats
  repeat' first
    | with_reducible first
        | assumption | apply State.setReg_follows | apply State.ite_follows
    | split

theorem State.ctxEvent_follows {σ s : State} (k : Stage) (hσ : σ.follows s) : σ.follows (State.ctxEvent s k) := by
  unfold State.ctxEvent
  repeat' first
    | with_reducible first
        | assumption | apply State.bump_follows | apply State.setCtx_follows | apply State.raise_follows
        | apply State.report_follows | apply State.latch_follows | apply State.idle_follows
        | apply State.ite_follows
    | split

theorem State.stageEvent_follows {σ s : State} (k : Stage) (hσ : σ.follows s) : σ.follows (State.stageEvent s k) := by
  unfold State.stageEvent
  repeat' first
    | with_reducible first
        | assumption | apply State.raise_follows | apply State.ctxEvent_follows | apply State.ite_follows
    | split

theorem State.loopState_follows {σ s : State} (e : CtxId) (due : Nat) (hσ : σ.follows s) : σ.follows
    (State.loopState s e due) := by
  unfold State.loopState
  repeat' first
    | with_reducible first
        | assumption | apply State.setMw_follows | apply State.setCtx_follows | apply State.ite_follows
    | split

theorem State.waitReturn_follows {σ s : State} (e : CtxId) (d : VReg) (hσ : σ.follows s) : σ.follows
    (State.waitReturn s e d) := by
  unfold State.waitReturn
  repeat' first
    | with_reducible first
        | assumption | apply State.setCtx_follows | apply State.loopState_follows | apply State.latch_follows
        | apply State.ite_follows
    | split

theorem State.countRun_follows {σ s : State} (e : CtxId) (hσ : σ.follows s) : σ.follows (State.countRun s e) := by
  unfold State.countRun
  repeat' first
    | with_reducible first
        | assumption | apply State.put_follows | apply State.ite_follows
    | split

theorem State.hsDispatch_follows {σ s : State} (ev : Nat) (hσ : σ.follows s) : σ.follows (State.hsDispatch s ev) := by
  unfold State.hsDispatch
  dsimp only
  repeat' first
    | with_reducible first
        | assumption | apply State.setReg_follows | apply State.put_follows | apply State.setCtx_follows
        | apply State.ite_follows
    | split | apply State.mk_follows

theorem State.hsWait_follows {σ s : State} (hσ : σ.follows s) : σ.follows (State.hsWait s) := by
  unfold State.hsWait
  repeat' first
    | with_reducible first
        | assumption | apply State.put_follows | apply State.setCtx_follows | apply State.toIdle_follows
        | apply State.countRun_follows | apply State.hsDispatch_follows | apply State.ite_follows
    | split

theorem State.latheWait_follows {σ s : State} (e : CtxId) (d : VReg) (hσ : σ.follows s) : σ.follows
    (State.latheWait s e d) := by
  unfold State.latheWait
  repeat' first
    | with_reducible first
        | assumption | apply State.setCtx_follows | apply State.toIdle_follows | apply State.waitReturn_follows
        | apply State.countRun_follows | apply State.latch_follows | apply State.ite_follows
    | split

theorem execWait_follows {σ s : State} (e : CtxId) (d : VReg) (hσ : σ.follows s) : σ.followedBy (execWait e d s) := by
  unfold execWait
  repeat' first
    | with_reducible first
        | assumption | apply State.next_follows | apply State.engineFault_follows | apply State.issue_follows
        | apply State.hsWait_follows | apply State.latheWait_follows | intro _
    | split | apply State.mk_follows

theorem execContextWake_follows {σ s : State} (k : Stage) (hσ : σ.follows s) : σ.followedBy (execContextWake k
    s) := by
  unfold execContextWake
  repeat' first
    | with_reducible first
        | assumption | apply State.next_follows | apply State.waitReturn_follows | apply State.latch_follows
        | apply State.ite_follows
    | split

theorem execHsDispatch_follows {σ s : State} (hσ : σ.follows s) : σ.followedBy (execHsDispatch s) := by
  unfold execHsDispatch
  repeat' first
    | with_reducible first
        | assumption | apply State.next_follows | apply State.hsDispatch_follows | apply State.ite_follows
    | split

theorem execHsWatchdogExpiry_follows {σ s : State} (hσ : σ.follows s) : σ.followedBy (execHsWatchdogExpiry s) := by
  unfold execHsWatchdogExpiry
  repeat' first
    | with_reducible first
        | assumption | apply State.next_follows | apply State.report_follows | apply State.toFault_follows
        | apply State.ite_follows
    | split

theorem execHsTimerExpiry_follows {σ s : State} (i : Fin 2) (hσ : σ.follows s) : σ.followedBy (execHsTimerExpiry
    i s) := by
  unfold execHsTimerExpiry
  dsimp only
  repeat' first
    | with_reducible first
        | assumption | apply State.next_follows | apply State.raise_follows | apply State.ite_follows
    | split | apply State.mk_follows

theorem State.hsTimerSet_follows {σ s : State} (i : Fin 2) (w : Word) (hσ : σ.follows s) : σ.follows
    (State.hsTimerSet s i w) := by
  unfold State.hsTimerSet
  dsimp only
  repeat' first
    | with_reducible first
        | assumption | apply State.setReg_follows | apply State.ite_follows
    | split | apply State.mk_follows

theorem execEvt_follows {σ s : State} (e : CtxId) (imm : BitVec 16) (hσ : σ.follows s) : σ.followedBy (execEvt e
    imm s) := by
  unfold execEvt
  repeat' first
    | with_reducible first
        | assumption | apply State.next_follows | apply State.put_follows | apply State.set1_follows
        | apply State.setCtx_follows | apply State.raise_follows | apply State.issueIf_follows | intro _
    | split | apply State.mk_follows

theorem execSfclr_follows {σ s : State} (e : CtxId) (imm : BitVec 16) (fp : Bool) (hσ : σ.follows s) :
    σ.followedBy (execSfclr e imm fp s) := by
  unfold execSfclr
  repeat' first
    | with_reducible first
        | assumption | apply State.next_follows | apply State.setCtx_follows | apply State.replayOf_follows
        | apply State.issueIf_follows | intro _
    | split | apply State.mk_follows

theorem State.repairWord_follows {σ s : State} (m : Fin 7) (a : Nat) (hσ : σ.follows s) : σ.follows
    (State.repairWord s m a) := by
  unfold State.repairWord
  repeat' first
    | with_reducible first
        | assumption | apply State.setMw_follows | apply State.ite_follows
    | split

theorem State.countRepair_follows {σ s : State} (m : Fin 7) (hσ : σ.follows s) : σ.follows (State.countRepair s
    m) := by
  unfold State.countRepair
  repeat' first
    | with_reducible first
        | assumption | apply State.bump_follows | apply State.raise_follows | apply State.ite_follows
    | split

theorem State.repairFetch_follows {σ s : State} (e : CtxId) (r : Repair) (hσ : σ.follows s) : σ.follows
    (State.repairFetch s e r) := by
  unfold State.repairFetch
  repeat' first
    | with_reducible first
        | assumption | apply State.setCtx_follows | apply State.freshN_follows | apply State.report_follows
        | apply State.toFault_follows | apply State.replayOf_follows | apply State.repairWord_follows
        | apply State.countRepair_follows | apply State.ite_follows
    | split

theorem execInstructionRepair_follows {σ s : State} (e : CtxId) (r : Repair) (hσ : σ.follows s) : σ.followedBy
    (execInstructionRepair e r s) := by
  unfold execInstructionRepair
  repeat' first
    | with_reducible first
        | assumption | apply State.next_follows | apply State.fetch_follows | apply State.repairFetch_follows
        | intro _
    | split | apply State.mk_follows

theorem execScrubRead_follows {σ s : State} (m : Fin 7) (r : Option Repair) (hσ : σ.follows s) : σ.followedBy
    (execScrubRead m r s) := by
  unfold execScrubRead
  dsimp only
  repeat' first
    | with_reducible first
        | assumption | apply State.next_follows | apply State.bump_follows | apply State.raise_follows
        | apply State.report_follows | apply State.repairWord_follows | apply State.countRepair_follows
        | apply State.ite_follows
    | split | apply State.mk_follows

end Sys2Proof.Machine
end

