-- ==== Sys2Proof/Laws/FollowsStages.lean ====
section
/-! SUPPORT. What every operation respects (`State.follows`): stages, grid interfaces, islanding and precharge. -/

namespace Sys2Proof.Machine

theorem State.setOpen_follows {σ s : State} (k : Stage) (o : Nat) (hσ : σ.follows s) : σ.follows (State.setOpen
    s k o) := by
  unfold State.setOpen
  repeat' first
    | with_reducible first
        | assumption | apply State.setCtx_follows | apply State.ite_follows
    | split

theorem State.ssCleared_follows {σ s : State} (k : Stage) (hσ : σ.follows s) : σ.follows (State.ssCleared s k) := by
  unfold State.ssCleared
  repeat' first
    | with_reducible first
        | assumption | apply State.put_follows | apply State.setStg_follows | apply State.ite_follows
    | split

theorem State.applyWord_follows {σ s : State} (a : Nat) (val : Word) (mask : Word) (hσ : σ.follows s) :
    σ.follows (State.applyWord s a val mask) := by
  unfold State.applyWord
  repeat' first
    | with_reducible first
        | assumption | apply State.setReg_follows | apply State.setMw_follows | apply State.ssCleared_follows
        | apply State.ite_follows
    | split

theorem State.takeOpen_follows {σ s : State} (a : Nat) (hσ : σ.follows s) : σ.follows (State.takeOpen s a) := by
  unfold State.takeOpen
  repeat' first
    | with_reducible first
        | assumption | apply State.setOpen_follows | apply State.ite_follows
    | split

theorem State.actWord_follows {σ s : State} (a : Nat) (v : Word) (hσ : σ.follows s) : σ.follows (State.actWord s
    a v) := by
  unfold State.actWord
  repeat' first
    | with_reducible first
        | assumption | apply State.setReg_follows | apply State.tblClear_follows | apply State.ite_follows
    | split

theorem State.sampleStage_follows {σ s : State} (k : Stage) (hσ : σ.follows s) : σ.follows (State.sampleStage s
    k) := by
  unfold State.sampleStage
  repeat' first
    | with_reducible first
        | assumption
    | split | apply State.mk_follows

theorem State.view_follows {σ s : State} (k : Stage) (hσ : σ.follows s) : σ.follows (State.view s k) := by
  unfold State.view
  repeat' first
    | with_reducible first
        | assumption | apply State.applyWord_follows | intro _ | (apply State.foldl_follows; intro _ _ _)
    | split | apply State.mk_follows

theorem State.applyStaged_follows {σ s : State} (p : Staged → Bool) (hσ : σ.follows s) : σ.follows
    (State.applyStaged s p) := by
  unfold State.applyStaged
  repeat' first
    | with_reducible first
        | assumption | apply State.settle_follows | apply State.endWith_follows | apply State.applyWord_follows
        | apply State.takeOpen_follows | apply State.actWord_follows | intro _
        | (apply State.foldl_follows; intro _ _ _)
    | split | apply State.mk_follows

theorem State.stgEvt_follows {σ s : State} (k : Stage) (b : Nat) (hσ : σ.follows s) : σ.follows (State.stgEvt s
    k b) := by
  unfold State.stgEvt
  repeat' first
    | with_reducible first
        | assumption | apply State.src_follows | apply State.ite_follows
    | split

theorem State.ringFix_follows {σ s : State} (num ts len n : Nat) (k : Stage) (h : σ.follows s) :
    σ.follows (s.ringFix num ts len n k) := by
  induction n generalizing s num ts len k with
  | zero => exact h
  | succ n ih =>
    unfold State.ringFix
    dsimp only
    repeat' split
    · exact ih _ _ _ _ (State.put_follows _ _ h)
    · exact h
    · exact ih _ _ _ _ (State.setStg_follows _ _ h)
    · exact h
    · exact h

theorem State.syncNote_follows {σ s : State} (k : Stage) (e : Int) (hσ : σ.follows s) : σ.follows
    (State.syncNote s k e) := by
  unfold State.syncNote
  repeat' first
    | with_reducible first
        | assumption | apply State.put_follows | apply State.setStg_follows | apply State.ite_follows
    | split

theorem State.fixLen_follows {σ s : State} (v : State) (k : Stage) (hσ : σ.follows s) : σ.follows (State.fixLen
    s v k).2 := by
  unfold State.fixLen
  dsimp only
  repeat' first
    | with_reducible first
        | assumption | apply State.setStg_follows | apply State.src_follows | apply State.syncNote_follows
        | apply State.ite_follows
    | split | apply State.mk_follows

theorem State.boundLoop_follows {σ s : State} (sw : Nat) (dv : Bool) (dt : Bool) (hσ : σ.follows s) : σ.follows
    (State.boundLoop s sw dv dt) := by
  unfold State.boundLoop
  repeat' first
    | with_reducible first
        | assumption | apply State.put_follows | intro _ | (apply State.foldl_follows; intro _ _ _)
    | split | apply State.mk_follows

theorem State.loopInit_follows {σ s : State} (n : Link) (i : Nat) (dv : Bool) (dt : Bool) (hσ : σ.follows s) :
    σ.follows (State.loopInit s n i dv dt) := by
  unfold State.loopInit
  repeat' first
    | with_reducible first
        | assumption | apply State.mergeReg_follows | apply State.setLnk_follows | intro _
        | (apply State.foldl_follows; intro _ _ _)
    | split | apply State.mk_follows

theorem State.reloadLoop_follows {σ s : State} (sw : Nat) (hσ : σ.follows s) : σ.follows (State.reloadLoop s sw) := by
  unfold State.reloadLoop
  repeat' first
    | with_reducible first
        | assumption | apply State.takeBounds_follows | apply State.boundLoop_follows | apply State.ite_follows
    | split

theorem State.noteDrops_follows {σ s : State} (k : Stage) (b : Built) (hσ : σ.follows s) : σ.follows
    (State.noteDrops s k b) := by
  unfold State.noteDrops
  repeat' first
    | with_reducible first
        | assumption | apply State.put_follows | apply State.bump_follows | apply State.report_follows
        | apply State.stgEvt_follows | intro _ | (apply State.foldl_follows; intro _ _ _)
    | split | apply State.mk_follows

theorem State.stream_follows {σ s : State} (v : State) (k : Stage) (p : Plan) (b : Built) (slots : List Slotted)
    (hσ : σ.follows s) : σ.follows (State.stream s v k p b slots) := by
  unfold State.stream
  dsimp only
  repeat' first
    | with_reducible first
        | assumption | apply State.noteDrops_follows | apply State.ite_follows
    | split | apply State.mk_follows

theorem State.allOffDone_follows {σ s : State} (k : Stage) (stop : Bool) (hic : Bool) (hσ : σ.follows s) :
    σ.follows (State.allOffDone s k stop hic) := by
  unfold State.allOffDone
  repeat' first
    | with_reducible first
        | assumption | apply State.put_follows | apply State.setStg_follows | apply State.report_follows
        | apply State.stgEvt_follows | apply State.ite_follows
    | split

theorem State.latchPlan_follows {σ s : State} (v : State) (k : Stage) (p : Plan) (stop : Bool) (hic : Bool) (hσ
    : σ.follows s) : σ.follows (State.latchPlan s v k p stop hic) := by
  unfold State.latchPlan
  dsimp only
  repeat' first
    | with_reducible first
        | assumption | apply State.bump_follows | apply State.setStg_follows | apply State.report_follows
        | apply State.stgEvt_follows | apply State.noteDrops_follows | apply State.stream_follows
        | apply State.allOffDone_follows | apply State.ite_follows
    | split

theorem State.rampsAt_follows {σ s : State} (k : Stage) (hσ : σ.follows s) : σ.follows (State.rampsAt s k) := by
  unfold State.rampsAt
  try dsimp only
  repeat' first
    | with_reducible first
        | assumption | intro _ | apply State.finish_follows | (apply State.foldl_follows; intro _ _ _)
        | (refine State.pair_follows ?_ (by assumption)) | (refine State.triple_follows ?_ (by assumption))
        | apply State.ite_follows
    | split | dsimp only | apply State.mk_follows

theorem State.runLateDone_follows {σ s : State} (k : Stage) (hσ : σ.follows s) : σ.follows (State.runLateDone s
    k) := by
  unfold State.runLateDone
  repeat' first
    | with_reducible first
        | assumption | apply State.put_follows | apply State.setStg_follows | apply State.ite_follows
    | split

theorem State.lenStage_follows {σ s : State} (k : Stage) (hσ : σ.follows s) : σ.follows (State.lenStage s k) := by
  unfold State.lenStage
  repeat' first
    | with_reducible first
        | assumption | apply State.put_follows | apply State.view_follows | apply State.ringFix_follows
        | apply State.fixLen_follows | apply State.ite_follows
    | split

theorem State.lenView_follows {σ s : State} (t : State) (k : Stage) (hσ : σ.follows s) : σ.follows
    (State.lenView s t k) := by
  unfold State.lenView
  repeat' first
    | with_reducible first
        | assumption | apply State.put_follows | apply State.setStg_follows | apply State.view_follows
        | apply State.ite_follows
    | split

theorem State.reloadLoops_follows {σ s : State} (l : List Nat) (hσ : σ.follows s) : σ.follows (State.reloadLoops
    s l) := by
  unfold State.reloadLoops
  repeat' first
    | with_reducible first
        | assumption | apply State.reloadLoop_follows | intro _ | (apply State.foldl_follows; intro _ _ _)
    | split | apply State.mk_follows

theorem State.latchOwn_follows {σ s : State} (v : State) (k : Stage) (resume : Bool) (hσ : σ.follows s) :
    σ.follows (State.latchOwn s v k resume) := by
  unfold State.latchOwn
  repeat' first
    | with_reducible first
        | assumption | apply State.put_follows | apply State.setStg_follows | apply State.ite_follows
    | split

theorem State.reload_follows {σ s0 : State} (k : Stage) (hσ : σ.follows s0) : σ.follows (State.reload s0 k) := by
  unfold State.reload
  repeat' first
    | with_reducible first
        | assumption | apply State.toInstant_follows | apply State.sampleStage_follows
        | apply State.latchPlan_follows | apply State.rampsAt_follows | apply State.runLateDone_follows
        | apply State.lenStage_follows | apply State.lenView_follows | apply State.reloadLoops_follows
        | apply State.latchOwn_follows | apply State.ite_follows
    | split

theorem State.limitNote_follows {σ s : State} (k : Stage) (hσ : σ.follows s) : σ.follows (State.limitNote s k) := by
  unfold State.limitNote
  repeat' first
    | with_reducible first
        | assumption | apply State.put_follows | apply State.setStg_follows | apply State.report_follows
        | apply State.stgEvt_follows | apply State.ite_follows
    | split

theorem State.limitCheck_follows {σ s : State} (k : Stage) (hσ : σ.follows s) : σ.follows (State.limitCheck s k) := by
  unfold State.limitCheck
  repeat' first
    | with_reducible first
        | assumption | apply State.put_follows | apply State.setStg_follows | apply State.ite_follows
    | split

theorem State.carrierPhase_follows {σ s : State} (k : Stage) (tn : Nat) (hσ : σ.follows s) : σ.follows
    (State.carrierPhase s k tn) := by
  unfold State.carrierPhase
  dsimp only
  repeat' first
    | with_reducible first
        | assumption | apply State.emit_follows | apply State.freshN_follows | apply State.ite_follows
    | split | apply State.mk_follows

theorem State.periodStart_follows {σ s0 : State} (k : Stage) (hσ : σ.follows s0) : σ.follows (State.periodStart
    s0 k) := by
  unfold State.periodStart
  repeat' first
    | with_reducible first
        | assumption | apply State.setReg_follows | apply State.putB_follows | apply State.setStg_follows
        | apply State.toInstant_follows | apply State.syncoStage_follows | apply State.applyStaged_follows
        | apply State.limitCheck_follows | apply State.carrierPhase_follows | apply State.ite_follows
    | split

theorem execPeriodStart_follows {σ s : State} (k : Stage) (hσ : σ.follows s) : σ.followedBy (execPeriodStart k
    s) := by
  unfold execPeriodStart
  repeat' first
    | with_reducible first
        | assumption | apply State.next_follows | apply State.periodStart_follows | apply State.ite_follows
    | split

theorem execHiccupEnd_follows {σ s : State} (k : Stage) (hσ : σ.follows s) : σ.followedBy (execHiccupEnd k s) := by
  unfold execHiccupEnd
  repeat' first
    | with_reducible first
        | assumption | apply State.next_follows | apply State.put_follows | apply State.setStg_follows
        | apply State.toInstant_follows | apply State.ite_follows
    | split

theorem State.syncMiss_follows {σ s : State} (k : Stage) (hσ : σ.follows s) : σ.follows (State.syncMiss s k) := by
  unfold State.syncMiss
  repeat' first
    | with_reducible first
        | assumption | apply State.put_follows | apply State.report_follows | apply State.stgEvt_follows
        | apply State.ite_follows
    | split

theorem execSyncMiss_follows {σ s : State} (k : Stage) (hσ : σ.follows s) : σ.followedBy (execSyncMiss k s) := by
  unfold execSyncMiss
  repeat' first
    | with_reducible first
        | assumption | apply State.next_follows | apply State.setStg_follows | apply State.syncMiss_follows
        | apply State.ite_follows
    | split

theorem State.syncEvent_follows {σ s : State} (src : Nat) (c : Nat) (arr : Nat) (hσ : σ.follows s) : σ.follows
    (State.syncEvent s src c arr) := by
  unfold State.syncEvent
  repeat' first
    | with_reducible first
        | assumption | apply State.setStg_follows | apply State.src_follows | intro _
        | (apply State.foldl_follows; intro _ _ _)
    | split | apply State.mk_follows

theorem execTimebaseStart_follows {σ s : State} (k : Stage) (hσ : σ.follows s) : σ.followedBy (execTimebaseStart
    k s) := by
  unfold execTimebaseStart
  repeat' first
    | with_reducible first
        | assumption | apply State.next_follows | apply State.setReg_follows | apply State.put_follows
        | apply State.setStg_follows | apply State.src_follows | apply State.toInstant_follows
        | apply State.takeBounds_follows | apply State.syncoStage_follows | apply State.applyStaged_follows
        | apply State.carrierPhase_follows | apply State.syncMiss_follows | intro _
        | (apply State.foldl_follows; intro _ _ _)
    | split | apply State.mk_follows

theorem State.startStage_follows {σ s : State} (k : Stage) (hσ : σ.follows s) : σ.follows (State.startStage s k) := by
  unfold State.startStage
  repeat' first
    | with_reducible first
        | assumption | apply State.put_follows | apply State.setStg_follows | apply State.src_follows
        | apply State.ite_follows
    | split

theorem State.stopStage_follows {σ s : State} (k : Stage) (hσ : σ.follows s) : σ.follows (State.stopStage s k) := by
  unfold State.stopStage
  repeat' first
    | with_reducible first
        | assumption | apply State.put_follows | apply State.setStg_follows | apply State.ite_follows
    | split

theorem State.stopTb_follows {σ s : State} (k : Stage) (hσ : σ.follows s) : σ.follows (State.stopTb s k) := by
  unfold State.stopTb
  repeat' first
    | with_reducible first
        | assumption | apply State.put_follows | apply State.setStg_follows | apply State.endRampsOf_follows
        | apply State.dropWindows_follows | apply State.applyStaged_follows | apply State.ite_follows
    | split

theorem State.tbWrite_follows {σ s : State} (k : Stage) (on : Bool) (hσ : σ.follows s) : σ.follows
    (State.tbWrite s k on).2 := by
  unfold State.tbWrite
  repeat' first
    | with_reducible first
        | assumption | apply State.put_follows | apply State.setStg_follows | apply State.src_follows
        | apply State.stopTb_follows | apply State.ite_follows
    | split

theorem State.stgClr_follows {σ s : State} (k : Stage) (hσ : σ.follows s) : σ.follows (State.stgClr s k) := by
  unfold State.stgClr
  repeat' first
    | with_reducible first
        | assumption | apply State.setReg_follows | apply State.put_follows | apply State.ite_follows
    | split

theorem execWindowClose_follows {σ s : State} (k : Stage) (hσ : σ.follows s) : σ.followedBy (execWindowClose k
    s) := by
  unfold execWindowClose
  repeat' first
    | with_reducible first
        | assumption | apply State.next_follows | apply State.setStg_follows | apply State.toInstant_follows
        | intro _ | (apply State.foldl_follows; intro _ _ _)
    | split | apply State.mk_follows

theorem execStageEvent_follows {σ s : State} (k : Stage) (hσ : σ.follows s) : σ.followedBy (execStageEvent k s) := by
  unfold execStageEvent
  repeat' first
    | with_reducible first
        | assumption | apply State.next_follows | apply State.setStg_follows | apply State.publish_follows
        | apply State.stageEvent_follows | intro _ | (apply State.foldl_follows; intro _ _ _)
    | split | apply State.mk_follows

theorem State.grdEvt_follows {σ s : State} (g : Fin 4) (b : Nat) (hσ : σ.follows s) : σ.follows (State.grdEvt s
    g b) := by
  unfold State.grdEvt
  repeat' first
    | with_reducible first
        | assumption | apply State.src_follows | apply State.ite_follows
    | split

theorem State.setGrd_follows {σ s : State} (g : Fin 4) (x : Grd) (hσ : σ.follows s) : σ.follows (State.setGrd s
    g x) := by
  unfold State.setGrd
  repeat' first
    | with_reducible first
        | assumption
    | split | apply State.mk_follows

theorem State.measureGrid_follows {σ s0 : State} (g : Fin 4) (hσ : σ.follows s0) : σ.follows (State.measureGrid
    s0 g) := by
  unfold State.measureGrid
  repeat' first
    | with_reducible first
        | assumption | apply State.put_follows | apply State.fresh_follows | apply State.setGrd_follows
        | apply State.ite_follows
    | split

theorem State.holdCheck_follows {σ s : State} (g : Fin 4) (hσ : σ.follows s) : σ.follows (State.holdCheck s g) := by
  unfold State.holdCheck
  repeat' first
    | with_reducible first
        | assumption | apply State.put_follows | apply State.grdEvt_follows | apply State.ite_follows
    | split

theorem State.trackGrid_follows {σ s0 : State} (g : Fin 4) (t : Nat) (hσ : σ.follows s0) : σ.follows
    (State.trackGrid s0 g t) := by
  unfold State.trackGrid
  repeat' first
    | with_reducible first
        | assumption | apply State.setReg_follows | apply State.fresh_follows | apply State.setGrd_follows
        | apply State.ite_follows
    | split

theorem State.freqAt_follows {σ s0 : State} (g : Fin 4) (t : Nat) (a : Word) (b : Word) (hσ : σ.follows s0) :
    σ.follows (State.freqAt s0 g t a b) := by
  unfold State.freqAt
  repeat' first
    | with_reducible first
        | assumption | apply State.setReg_follows | apply State.put_follows | apply State.setGrd_follows
        | apply State.ite_follows
    | split

theorem State.trackFreq_follows {σ s : State} (g : Fin 4) (t : Nat) (hσ : σ.follows s) : σ.follows
    (State.trackFreq s g t) := by
  unfold State.trackFreq
  repeat' first
    | with_reducible first
        | assumption | apply State.fresh_follows | apply State.freqAt_follows | apply State.ite_follows
    | split

theorem State.compareGrid_follows {σ s0 : State} (g : Fin 4) (hσ : σ.follows s0) : σ.follows (State.compareGrid
    s0 g) := by
  unfold State.compareGrid
  repeat' first
    | with_reducible first
        | assumption | apply State.put_follows | apply State.putB_follows | apply State.fresh_follows
        | apply State.ite_follows
    | split

theorem State.syncCheck_follows {σ s : State} (g : Fin 4) (hσ : σ.follows s) : σ.follows (State.syncCheck s g) := by
  unfold State.syncCheck
  repeat' first
    | with_reducible first
        | assumption | apply State.put_follows | apply State.rcRestart_follows | apply State.setGrd_follows
        | apply State.ite_follows
    | split

theorem State.gridTimes_follows {σ s : State} (g : Fin 4) (t : Nat) (hσ : σ.follows s) : σ.follows
    (State.gridTimes s g t) := by
  unfold State.gridTimes
  repeat' first
    | with_reducible first
        | assumption | apply State.setGrd_follows | apply State.ite_follows
    | split

theorem State.lockNow_follows {σ s : State} (g : Fin 4) (hσ : σ.follows s) : σ.follows (State.lockNow s g) := by
  unfold State.lockNow
  repeat' first
    | with_reducible first
        | assumption | apply State.put_follows | apply State.grdEvt_follows | apply State.ite_follows
    | split

theorem State.unlockNow_follows {σ s : State} (g : Fin 4) (hσ : σ.follows s) : σ.follows (State.unlockNow s g) := by
  unfold State.unlockNow
  repeat' first
    | with_reducible first
        | assumption | apply State.put_follows | apply State.grdEvt_follows | apply State.syncCheck_follows
        | apply State.ite_follows
    | split

theorem State.syncNow_follows {σ s : State} (g : Fin 4) (hσ : σ.follows s) : σ.follows (State.syncNow s g) := by
  unfold State.syncNow
  repeat' first
    | with_reducible first
        | assumption | apply State.put_follows | apply State.grdEvt_follows | apply State.ite_follows
    | split

theorem State.gridEval_follows {σ s : State} (g : Fin 4) (t : Nat) (hσ : σ.follows s) : σ.follows
    (State.gridEval s g t) := by
  unfold State.gridEval
  repeat' first
    | with_reducible first
        | assumption | apply State.measureGrid_follows | apply State.holdCheck_follows
        | apply State.trackGrid_follows | apply State.trackFreq_follows | apply State.compareGrid_follows
        | apply State.syncCheck_follows | apply State.gridTimes_follows | apply State.lockNow_follows
        | apply State.unlockNow_follows | apply State.syncNow_follows | apply State.ite_follows
    | split

theorem execGridLock_follows {σ s : State} (g : Fin 4) (hσ : σ.follows s) : σ.followedBy (execGridLock g s) := by
  unfold execGridLock
  repeat' first
    | with_reducible first
        | assumption | apply State.next_follows | apply State.lockNow_follows | apply State.ite_follows
    | split

theorem execGridUnlock_follows {σ s : State} (g : Fin 4) (hσ : σ.follows s) : σ.followedBy (execGridUnlock g s) := by
  unfold execGridUnlock
  repeat' first
    | with_reducible first
        | assumption | apply State.next_follows | apply State.unlockNow_follows | apply State.ite_follows
    | split

theorem execSyncOk_follows {σ s : State} (g : Fin 4) (hσ : σ.follows s) : σ.followedBy (execSyncOk g s) := by
  unfold execSyncOk
  repeat' first
    | with_reducible first
        | assumption | apply State.next_follows | apply State.syncNow_follows | apply State.ite_follows
    | split

theorem State.declare_follows {σ s : State} (g : Fin 4) (hv : Bool) (hσ : σ.follows s) : σ.follows
    (State.declare s g hv) := by
  unfold State.declare
  repeat' first
    | with_reducible first
        | assumption | apply State.put_follows | apply State.bump_follows | apply State.changeMode_follows
        | apply State.grdEvt_follows | apply State.setGrd_follows | apply State.syncCheck_follows
        | apply State.ite_follows
    | split

theorem State.rideEnd_follows {σ s : State} (hσ : σ.follows s) : σ.follows (State.rideEnd s) := by
  unfold State.rideEnd
  repeat' first
    | with_reducible first
        | assumption | apply State.changeMode_follows | apply State.ite_follows
    | split

theorem State.rtCounts_follows {σ s : State} (g : Fin 4) (hσ : σ.follows s) : σ.follows (State.rtCounts s g) := by
  unfold State.rtCounts
  repeat' first
    | with_reducible first
        | assumption | apply State.setGrd_follows | apply State.ite_follows
    | split

theorem State.rtDeclare_follows {σ s : State} (g : Fin 4) (hv : Bool) (hσ : σ.follows s) : σ.follows
    (State.rtDeclare s g hv) := by
  unfold State.rtDeclare
  repeat' first
    | with_reducible first
        | assumption | apply State.declare_follows | apply State.ite_follows
    | split

theorem State.rtLeave_follows {σ s : State} (g : Fin 4) (b : Nat) (back : Bool) (hσ : σ.follows s) : σ.follows
    (State.rtLeave s g b back) := by
  unfold State.rtLeave
  repeat' first
    | with_reducible first
        | assumption | apply State.put_follows | apply State.ite_follows
    | split

theorem State.rtRecover_follows {σ s : State} (g : Fin 4) (hσ : σ.follows s) : σ.follows (State.rtRecover s g) := by
  unfold State.rtRecover
  repeat' first
    | with_reducible first
        | assumption | apply State.put_follows | apply State.fresh_follows | apply State.setGrd_follows
        | apply State.ite_follows
    | split

theorem State.rtBackStep_follows {σ s : State} (g : Fin 4) (back : Bool) (hσ : σ.follows s) : σ.follows
    (State.rtBackStep s g back) := by
  unfold State.rtBackStep
  repeat' first
    | with_reducible first
        | assumption | apply State.put_follows | apply State.grdEvt_follows | apply State.setGrd_follows
        | apply State.ite_follows
    | split

theorem State.rtSettle_follows {σ s : State} (g : Fin 4) (was : Bool) (back : Bool) (hσ : σ.follows s) :
    σ.follows (State.rtSettle s g was back) := by
  unfold State.rtSettle
  repeat' first
    | with_reducible first
        | assumption | apply State.put_follows | apply State.rtRecover_follows | apply State.rtBackStep_follows
        | apply State.ite_follows
    | split

theorem State.rtStates_follows {σ s : State} (g : Fin 4) (hσ : σ.follows s) : σ.follows (State.rtStates s g) := by
  unfold State.rtStates
  repeat' first
    | with_reducible first
        | assumption | apply State.rtDeclare_follows | apply State.rtLeave_follows
        | apply State.rtSettle_follows | apply State.ite_follows
    | split

theorem State.noteTrips_follows {σ s : State} (g : Fin 4) (l : List GTrip) (hσ : σ.follows s) : σ.follows
    (State.noteTrips s g l) := by
  unfold State.noteTrips
  repeat' first
    | with_reducible first
        | assumption | apply State.put_follows | apply State.grdEvt_follows | apply State.syncCheck_follows
        | intro _ | (apply State.foldl_follows; intro _ _ _)
    | split | apply State.mk_follows

theorem State.countTrip_follows {σ s : State} (g : Fin 4) (hσ : σ.follows s) : σ.follows (State.countTrip s g) := by
  unfold State.countTrip
  repeat' first
    | with_reducible first
        | assumption | apply State.setReg_follows | apply State.bump_follows | apply State.fresh_follows
        | apply State.ite_follows
    | split

theorem State.gridTrips_follows {σ s : State} (gs : List (Fin 4)) (hσ : σ.follows s) : σ.follows
    (State.gridTrips s gs) := by
  unfold State.gridTrips
  repeat' first
    | with_reducible first
        | assumption | apply State.tripSequence_follows | apply State.countTrip_follows | intro _
        | (apply State.foldl_follows; intro _ _ _)
    | split | apply State.mk_follows

theorem State.rtEnvelope_follows {σ s : State} (g : Fin 4) (hσ : σ.follows s) : σ.follows (State.rtEnvelope s g) := by
  unfold State.rtEnvelope
  repeat' first
    | with_reducible first
        | assumption | apply State.setGrd_follows | apply State.ite_follows
    | split

theorem State.rtFreq_follows {σ s : State} (g : Fin 4) (hσ : σ.follows s) : σ.follows (State.rtFreq s g) := by
  unfold State.rtFreq
  repeat' first
    | with_reducible first
        | assumption | apply State.setGrd_follows | apply State.ite_follows
    | split

theorem State.rtTrips_follows {σ s : State} (g : Fin 4) (hσ : σ.follows s) : σ.follows (State.rtTrips s g) := by
  unfold State.rtTrips
  repeat' first
    | with_reducible first
        | assumption | apply State.setGrd_follows | apply State.noteTrips_follows | apply State.ite_follows
    | split

theorem State.rtBand_follows {σ s : State} (g : Fin 4) (hσ : σ.follows s) : σ.follows (State.rtBand s g) := by
  unfold State.rtBand
  repeat' first
    | with_reducible first
        | assumption | apply State.putB_follows | apply State.grdEvt_follows | apply State.ite_follows
    | split

theorem State.rtCounted_follows {σ s : State} (g : Fin 4) (hσ : σ.follows s) : σ.follows (State.rtCounted s g) := by
  unfold State.rtCounted
  repeat' first
    | with_reducible first
        | assumption | apply State.rtCounts_follows | apply State.rtStates_follows
        | apply State.rtEnvelope_follows | apply State.rtFreq_follows | apply State.ite_follows
    | split

theorem State.rtTick_follows {σ s : State} (gs : List (Fin 4)) (hσ : σ.follows s) : σ.follows (State.rtTick s
    gs) := by
  unfold State.rtTick
  repeat' first
    | with_reducible first
        | assumption | apply State.rideEnd_follows | apply State.gridTrips_follows | apply State.rtTrips_follows
        | apply State.rtBand_follows | apply State.rtCounted_follows | intro _
        | (apply State.foldl_follows; intro _ _ _)
    | split | apply State.mk_follows

theorem execRtTick_follows {σ s : State} (hσ : σ.follows s) : σ.followedBy (execRtTick s) := by
  unfold execRtTick
  repeat' first
    | with_reducible first
        | assumption | apply State.next_follows | apply State.rtTick_follows | apply State.ite_follows
    | split

theorem State.tickIf_follows {σ s : State} (g : Fin 4) (b : Bool) (hσ : σ.follows s) : σ.follows (State.tickIf s
    g b) := by
  unfold State.tickIf
  repeat' first
    | with_reducible first
        | assumption | apply State.rtTick_follows | apply State.ite_follows
    | split

theorem execEpisodeDeclared_follows {σ s : State} (g : Fin 4) (hv : Bool) (hσ : σ.follows s) : σ.followedBy
    (execEpisodeDeclared g hv s) := by
  unfold execEpisodeDeclared
  repeat' first
    | with_reducible first
        | assumption | apply State.next_follows | apply State.rtCounted_follows | apply State.tickIf_follows
        | apply State.ite_follows
    | split

theorem execRecoveryEnd_follows {σ s : State} (g : Fin 4) (hσ : σ.follows s) : σ.followedBy (execRecoveryEnd g
    s) := by
  unfold execRecoveryEnd
  repeat' first
    | with_reducible first
        | assumption | apply State.next_follows | apply State.rtCounted_follows | apply State.tickIf_follows
        | apply State.ite_follows
    | split

theorem execVoltageTrip_follows {σ s : State} (g : Fin 4) (hv : Option Bool) (hσ : σ.follows s) : σ.followedBy
    (execVoltageTrip g hv s) := by
  unfold execVoltageTrip
  repeat' first
    | with_reducible first
        | assumption | apply State.next_follows | apply State.rtCounted_follows | apply State.tickIf_follows
        | apply State.ite_follows
    | split

theorem execFrequencyTrip_follows {σ s : State} (g : Fin 4) (hi : Bool) (j : Fin 4) (hσ : σ.follows s) :
    σ.followedBy (execFrequencyTrip g hi j s) := by
  unfold execFrequencyTrip
  repeat' first
    | with_reducible first
        | assumption | apply State.next_follows | apply State.rtCounted_follows | apply State.tickIf_follows
        | apply State.ite_follows
    | split

theorem State.gridSwitch_follows {σ s : State} (g : Fin 4) (on : Bool) (hσ : σ.follows s) : σ.follows
    (State.gridSwitch s g on) := by
  unfold State.gridSwitch
  repeat' first
    | with_reducible first
        | assumption | apply State.put_follows | apply State.putB_follows | apply State.rcRestart_follows
        | apply State.setGrd_follows | apply State.ite_follows
    | split

theorem State.setIsl_follows {σ s : State} (g : Fin 4) (x : Isl) (hσ : σ.follows s) : σ.follows (State.setIsl s
    g x) := by
  unfold State.setIsl
  repeat' first
    | with_reducible first
        | assumption
    | split | apply State.mk_follows

theorem State.setParity_follows {σ s : State} (g : Fin 4) (p : Bool) (hσ : σ.follows s) : σ.follows
    (State.setParity s g p) := by
  unfold State.setParity
  repeat' first
    | with_reducible first
        | assumption | apply State.putB_follows | apply State.bump_follows | apply State.islEvt_follows
        | apply State.ite_follows
    | split

theorem State.islVolt_follows {σ s : State} (g : Fin 4) (hσ : σ.follows s) : σ.follows (State.islVolt s g) := by
  unfold State.islVolt
  repeat' first
    | with_reducible first
        | assumption | apply State.heard_follows | apply State.setIsl_follows | apply State.ite_follows
    | split

theorem State.listenWrap_follows {σ s : State} (g : Fin 4) (t : Nat) (hσ : σ.follows s) : σ.follows
    (State.listenWrap s g t) := by
  unfold State.listenWrap
  repeat' first
    | with_reducible first
        | assumption | apply State.heard_follows | apply State.setIsl_follows | apply State.ite_follows
    | split

theorem State.windowWrap_follows {σ s : State} (g : Fin 4) (hσ : σ.follows s) : σ.follows (State.windowWrap s g) := by
  unfold State.windowWrap
  repeat' first
    | with_reducible first
        | assumption | apply State.done_follows | apply State.setIsl_follows | apply State.ite_follows
    | split

theorem State.parityWrap_follows {σ s : State} (g : Fin 4) (hσ : σ.follows s) : σ.follows (State.parityWrap s g) := by
  unfold State.parityWrap
  repeat' first
    | with_reducible first
        | assumption | apply State.putB_follows | apply State.emit_follows | apply State.setIsl_follows
        | apply State.setParity_follows | apply State.ite_follows
    | split

theorem State.passiveStep_follows {σ s : State} (g : Fin 4) (dt : Nat) (hσ : σ.follows s) : σ.follows
    (State.passiveStep s g dt) := by
  unfold State.passiveStep
  repeat' first
    | with_reducible first
        | assumption | apply State.setIsl_follows | apply State.ite_follows
    | split

theorem State.shiftWrap_follows {σ s : State} (g : Fin 4) (t : Nat) (hσ : σ.follows s) : σ.follows
    (State.shiftWrap s g t) := by
  unfold State.shiftWrap
  repeat' first
    | with_reducible first
        | assumption | apply State.setIsl_follows | apply State.ite_follows
    | split

theorem State.islSample_follows {σ s : State} (g : Fin 4) (t : Nat) (t0 : Nat) (old : Word) (hσ : σ.follows s) :
    σ.follows (State.islSample s g t t0 old) := by
  unfold State.islSample
  repeat' first
    | with_reducible first
        | assumption | apply State.putB_follows | apply State.setIsl_follows | apply State.islVolt_follows
        | apply State.listenWrap_follows | apply State.windowWrap_follows | apply State.parityWrap_follows
        | apply State.passiveStep_follows | apply State.shiftWrap_follows | apply State.ite_follows
    | split

theorem State.gridIslSample_follows {σ s : State} (e : Nat) (t : Nat) (hσ : σ.follows s) : σ.follows
    (State.gridIslSample s e t) := by
  unfold State.gridIslSample
  try dsimp only
  repeat' first
    | with_reducible first
        | assumption | intro _ | apply State.gridEval_follows | apply State.islSample_follows
        | (apply State.foldl_follows; intro _ _ _) | (refine State.pair_follows ?_ (by assumption))
        | (refine State.triple_follows ?_ (by assumption)) | apply State.ite_follows
    | split | dsimp only | apply State.mk_follows

theorem State.islCurrents_follows {σ s : State} (e : Nat) (t : Nat) (hσ : σ.follows s) : σ.follows
    (State.islCurrents s e t) := by
  unfold State.islCurrents
  repeat' first
    | with_reducible first
        | assumption | apply State.setIsl_follows | intro _ | (apply State.foldl_follows; intro _ _ _)
    | split | apply State.mk_follows

theorem State.islTrip_follows {σ s : State} (g : Fin 4) (cause : Nat) (zmag : Nat) (hσ : σ.follows s) :
    σ.follows (State.islTrip s g cause zmag) := by
  unfold State.islTrip
  repeat' first
    | with_reducible first
        | assumption | apply State.put_follows | apply State.islEvt_follows | apply State.tripSequence_follows
        | apply State.setIsl_follows | apply State.ite_follows
    | split

theorem execIslandPassiveTrip_follows {σ s : State} (g : Fin 4) (i : Fin 4) (hσ : σ.follows s) : σ.followedBy
    (execIslandPassiveTrip g i s) := by
  unfold execIslandPassiveTrip
  repeat' first
    | with_reducible first
        | assumption | apply State.next_follows | apply State.islTrip_follows | apply State.ite_follows
    | split

theorem State.islJudge_follows {σ s0 : State} (g : Fin 4) (v : Corr) (i : Corr) (hσ : σ.follows s0) : σ.follows
    (State.islJudge s0 g v i) := by
  unfold State.islJudge
  repeat' first
    | with_reducible first
        | assumption | apply State.put_follows | apply State.freshN_follows | apply State.islEvt_follows
        | apply State.setIsl_follows | apply State.islTrip_follows | apply State.ite_follows
    | split

theorem State.islEvaluate_follows {σ s : State} (g : Fin 4) (hσ : σ.follows s) : σ.follows (State.islEvaluate s
    g) := by
  unfold State.islEvaluate
  repeat' first
    | with_reducible first
        | assumption | apply State.put_follows | apply State.islEvt_follows | apply State.islJudge_follows
        | apply State.ite_follows
    | split

theorem execCorrelationWindowEnd_follows {σ s : State} (g : Fin 4) (_zmag : Unit) (_zang : Unit) (_low : Unit)
    (hσ : σ.follows s) : σ.followedBy (execCorrelationWindowEnd g _zmag _zang _low s) := by
  unfold execCorrelationWindowEnd
  repeat' first
    | with_reducible first
        | assumption | apply State.next_follows | apply State.done_follows | apply State.setIsl_follows
        | apply State.islEvaluate_follows | apply State.ite_follows
    | split

theorem State.listenStart_follows {σ s0 : State} (g : Fin 4) (hσ : σ.follows s0) : σ.follows (State.listenStart
    s0 g) := by
  unfold State.listenStart
  repeat' first
    | with_reducible first
        | assumption | apply State.put_follows | apply State.freshN_follows | apply State.heard_follows
        | apply State.setIsl_follows | apply State.ite_follows
    | split

theorem execListenStart_follows {σ s : State} (g : Fin 4) (hσ : σ.follows s) : σ.followedBy (execListenStart g
    s) := by
  unfold execListenStart
  repeat' first
    | with_reducible first
        | assumption | apply State.next_follows | apply State.listenStart_follows | apply State.ite_follows
    | split

theorem execListenEnd_follows {σ s : State} (g : Fin 4) (_mag : Unit) (_aligned : Unit) (hσ : σ.follows s) :
    σ.followedBy (execListenEnd g _mag _aligned s) := by
  unfold execListenEnd
  repeat' first
    | with_reducible first
        | assumption | apply State.next_follows | apply State.put_follows | apply State.heard_follows
        | apply State.setIsl_follows | apply State.setParity_follows | apply State.ite_follows
    | split

theorem State.peerLostAt_follows {σ s : State} (g : Fin 4) (hσ : σ.follows s) : σ.follows (State.peerLostAt s g) := by
  unfold State.peerLostAt
  repeat' first
    | with_reducible first
        | assumption | apply State.put_follows | apply State.listenStart_follows | apply State.ite_follows
    | split

theorem State.peerLost_follows {σ s : State} (hσ : σ.follows s) : σ.follows (State.peerLost s) := by
  unfold State.peerLost
  repeat' first
    | with_reducible first
        | assumption | apply State.peerLostAt_follows | intro _ | (apply State.foldl_follows; intro _ _ _)
    | split | apply State.mk_follows

theorem State.peerParity_follows {σ s : State} (g : Fin 4) (p : Bool) (c : Nat) (hσ : σ.follows s) : σ.follows
    (State.peerParity s g p c) := by
  unfold State.peerParity
  repeat' first
    | with_reducible first
        | assumption | apply State.setParity_follows | apply State.ite_follows
    | split

theorem State.islSwitch_follows {σ s : State} (g : Fin 4) (on : Bool) (hσ : σ.follows s) : σ.follows
    (State.islSwitch s g on) := by
  unfold State.islSwitch
  repeat' first
    | with_reducible first
        | assumption | apply State.put_follows | apply State.putB_follows | apply State.setIsl_follows
        | apply State.peerLostAt_follows | apply State.ite_follows
    | split

theorem State.rcStep_follows {σ s : State} (g : Fin 4) (hσ : σ.follows s) : σ.follows (State.rcStep s g) := by
  unfold State.rcStep
  repeat' first
    | with_reducible first
        | assumption | apply State.put_follows | apply State.islEvt_follows | apply State.setIsl_follows
        | apply State.ite_follows
    | split

theorem State.rcTick_follows {σ s : State} (hσ : σ.follows s) : σ.follows (State.rcTick s) := by
  unfold State.rcTick
  repeat' first
    | with_reducible first
        | assumption | apply State.rcStep_follows | intro _ | (apply State.foldl_follows; intro _ _ _)
    | split | apply State.mk_follows

theorem execReconnectDone_follows {σ s : State} (g : Fin 4) (hσ : σ.follows s) : σ.followedBy (execReconnectDone
    g s) := by
  unfold execReconnectDone
  repeat' first
    | with_reducible first
        | assumption | apply State.next_follows | apply State.rcStep_follows | apply State.ite_follows
    | split

theorem State.kClose_follows {σ s : State} (hσ : σ.follows s) : σ.follows (State.kClose s).2 := by
  unfold State.kClose
  repeat' first
    | with_reducible first
        | assumption | apply State.kDrive_follows | apply State.ite_follows
    | split

theorem State.kDrop_follows {σ s : State} (hσ : σ.follows s) : σ.follows (State.kDrop s) := by
  unfold State.kDrop
  repeat' first
    | with_reducible first
        | assumption | apply State.kOpen_follows | apply State.report_follows | apply State.ite_follows
    | split

theorem State.kFollow_follows {σ s : State} (hσ : σ.follows s) : σ.follows (State.kFollow s) := by
  unfold State.kFollow
  repeat' first
    | with_reducible first
        | assumption | apply State.kSettle_follows | apply State.kDrop_follows | apply State.ite_follows
    | split

theorem execKfbChange_follows {σ s0 : State} (b : Bool) (w : BitVec 10) (t : Nat) (hσ : σ.follows s0) :
    σ.followedBy (execKfbChange b w t s0) := by
  unfold execKfbChange
  repeat' first
    | with_reducible first
        | assumption | apply State.next_follows | apply State.putB_follows | apply State.heard_follows
        | apply State.toInstant_follows | apply State.kFollow_follows | apply State.ite_follows
    | split

theorem State.kcfgPol_follows {σ t : State} (s : State) (h : σ.follows t) : σ.follows (State.kcfgPol s t) :=
  State.putB_follows _ _ (State.putB_follows _ _ h)

theorem execContactorTimeout_follows {σ s : State} (hσ : σ.follows s) : σ.followedBy (execContactorTimeout s) := by
  unfold execContactorTimeout
  repeat' first
    | with_reducible first
        | assumption | apply State.next_follows | apply State.put_follows | apply State.islEvt_follows
        | apply State.kOpen_follows | apply State.report_follows | apply State.ite_follows
    | split

theorem State.sysEvt_follows {σ s : State} (b : Nat) (ev : Nat) (hσ : σ.follows s) : σ.follows (State.sysEvt s b
    ev) := by
  unfold State.sysEvt
  repeat' first
    | with_reducible first
        | assumption | apply State.src_follows | apply State.ite_follows
    | split

theorem State.pchDone_follows {σ s : State} (hσ : σ.follows s) : σ.follows (State.pchDone s) := by
  unfold State.pchDone
  repeat' first
    | with_reducible first
        | assumption | apply State.put_follows | apply State.sysEvt_follows | apply State.ite_follows
    | split

theorem State.pchEnter_follows {σ s : State} (hσ : σ.follows s) : σ.follows (State.pchEnter s) := by
  unfold State.pchEnter
  dsimp only
  repeat' first
    | with_reducible first
        | assumption | apply State.put_follows | apply State.pchDone_follows | apply State.ite_follows
    | split | apply State.mk_follows

theorem State.pchFail_follows {σ s : State} (cause : Nat) (hσ : σ.follows s) : σ.follows (State.pchFail s cause) := by
  unfold State.pchFail
  repeat' first
    | with_reducible first
        | assumption | apply State.put_follows | apply State.report_follows | apply State.enterStandby_follows
        | apply State.sysEvt_follows | apply State.ite_follows
    | split

theorem State.pchSample_follows {σ s : State} (hσ : σ.follows s) : σ.follows (State.pchSample s) := by
  unfold State.pchSample
  dsimp only
  repeat' first
    | with_reducible first
        | assumption | apply State.put_follows | apply State.ite_follows
    | split | apply State.mk_follows

theorem State.pchSettle_follows {σ s : State} (hσ : σ.follows s) : σ.follows (State.pchSettle s) := by
  unfold State.pchSettle
  repeat' first
    | with_reducible first
        | assumption | apply State.pchDone_follows | apply State.ite_follows
    | split

theorem State.pchJudge_follows {σ s : State} (hσ : σ.follows s) : σ.follows (State.pchJudge s) := by
  unfold State.pchJudge
  dsimp only
  repeat' first
    | with_reducible first
        | assumption | apply State.pchFail_follows | apply State.ite_follows
    | split | apply State.mk_follows

theorem State.pchEval_follows {σ s : State} (hσ : σ.follows s) : σ.follows (State.pchEval s) := by
  unfold State.pchEval
  repeat' first
    | with_reducible first
        | assumption | apply State.pchSample_follows | apply State.pchSettle_follows
        | apply State.pchJudge_follows | apply State.ite_follows
    | split

theorem execPrechargeEvaluate_follows {σ s : State} (hσ : σ.follows s) : σ.followedBy (execPrechargeEvaluate s) := by
  unfold execPrechargeEvaluate
  repeat' first
    | with_reducible first
        | assumption | apply State.next_follows | apply State.pchEval_follows | apply State.ite_follows
    | split

theorem execPrechargeDone_follows {σ s : State} (hσ : σ.follows s) : σ.followedBy (execPrechargeDone s) := by
  unfold execPrechargeDone
  repeat' first
    | with_reducible first
        | assumption | apply State.next_follows | apply State.pchEval_follows | apply State.ite_follows
    | split

theorem execPrechargeTimeout_follows {σ s : State} (hσ : σ.follows s) : σ.followedBy (execPrechargeTimeout s) := by
  unfold execPrechargeTimeout
  repeat' first
    | with_reducible first
        | assumption | apply State.next_follows | apply State.pchEval_follows | apply State.ite_follows
    | split

theorem execPrechargeProgressCheck_follows {σ s : State} (hσ : σ.follows s) : σ.followedBy
    (execPrechargeProgressCheck s) := by
  unfold execPrechargeProgressCheck
  repeat' first
    | with_reducible first
        | assumption | apply State.next_follows | apply State.pchEval_follows | apply State.ite_follows
    | split

theorem execPrechargeOverlapEnd_follows {σ s : State} (hσ : σ.follows s) : σ.followedBy (execPrechargeOverlapEnd
    s) := by
  unfold execPrechargeOverlapEnd
  repeat' first
    | with_reducible first
        | assumption | apply State.next_follows | apply State.pchEnd_follows | apply State.ite_follows
    | split

end Sys2Proof.Machine
end

