-- ==== Sys2Proof/Laws/FollowsUnits.lean ====
section
/-! SUPPORT. What every operation respects (`State.follows`): the persistent store, metering, samples, safety and the fault collector. -/

namespace Sys2Proof.Machine

theorem State.prsEvt_follows {σ s : State} (b : Nat) (hσ : σ.follows s) : σ.follows (State.prsEvt s b) := by
  unfold State.prsEvt
  repeat' first
    | with_reducible first
        | assumption | apply State.src_follows | apply State.ite_follows
    | split

theorem State.noteRef_follows {σ s : State} (a : Nat) (hσ : σ.follows s) : σ.follows (State.noteRef s a) := by
  unfold State.noteRef
  repeat' first
    | with_reducible first
        | assumption | apply State.put_follows | apply State.ite_follows
    | split

theorem State.countWrite_follows {σ s : State} (a : Nat) (hot : Bool) (hσ : σ.follows s) : σ.follows
    (State.countWrite s a hot) := by
  unfold State.countWrite
  repeat' first
    | with_reducible first
        | assumption | apply State.setReg_follows | apply State.prsEvt_follows | apply State.noteRef_follows
        | apply State.ite_follows
    | split

theorem State.refuseWord_follows {σ s : State} (a : Nat) (hσ : σ.follows s) : σ.follows (State.refuseWord s a) := by
  unfold State.refuseWord
  repeat' first
    | with_reducible first
        | assumption | apply State.prsEvt_follows | apply State.noteRef_follows | apply State.ite_follows
    | split

theorem State.persistDone_follows {σ s : State} (hσ : σ.follows s) : σ.follows (State.persistDone s) := by
  unfold State.persistDone
  repeat' first
    | with_reducible first
        | assumption | apply State.finish_follows | intro _ | (apply State.foldl_follows; intro _ _ _)
    | split | apply State.mk_follows

theorem State.storeTake_follows {σ s : State} (n : Nat) (h : σ.follows s) : σ.follows (s.storeTake n) := by
  induction n generalizing s with
  | zero => exact h
  | succ n ih =>
    unfold State.storeTake
    split
    · exact h
    · split
      · exact h
      · split
        · exact ih (State.finish_follows _ _ _ _ _ _ (State.refuseWord_follows _ (State.upd_follows h rfl rfl
            rfl rfl)))
        · split
          · exact ih (State.upd_follows h rfl rfl rfl rfl)
          · exact h

theorem State.storeNext_follows {σ s : State} (hσ : σ.follows s) : σ.follows (State.storeNext s) := by
  unfold State.storeNext
  repeat' first
    | with_reducible first
        | assumption | apply State.persistDone_follows | apply State.storeTake_follows | apply State.ite_follows
    | split

theorem State.meterSample_follows {σ s : State} (e : Nat) (t : Nat) (hσ : σ.follows s) : σ.follows
    (State.meterSample s e t) := by
  unfold State.meterSample
  repeat' first
    | with_reducible first
        | assumption | apply State.setMtr_follows | intro _ | (apply State.foldl_follows; intro _ _ _)
    | split | apply State.mk_follows

theorem State.near_follows {σ s : State} (x : Int) (hσ : σ.follows s) : σ.follows (State.near s x).2 := by
  unfold State.near
  repeat' first
    | with_reducible first
        | assumption | apply State.fresh_follows | apply State.ite_follows
    | split

theorem State.nearQ_follows {σ s : State} (m : Fin 4) (c : Cycle) (x : Fin 3) (v2 : Int) (i2 : Int) (hσ :
    σ.follows s) : σ.follows (State.nearQ s m c x v2 i2).2 := by
  unfold State.nearQ
  dsimp only
  repeat' first
    | with_reducible first
        | assumption | apply State.fresh_follows | apply State.ite_follows
    | split

theorem State.phaseQuantities_follows {σ s : State} (m : Fin 4) (c : Cycle) (x : Fin 3) (hσ : σ.follows s) :
    σ.follows (State.phaseQuantities s m c x) := by
  unfold State.phaseQuantities
  repeat' first
    | with_reducible first
        | assumption | apply State.setReg_follows | apply State.near_follows | apply State.nearQ_follows
        | apply State.ite_follows
    | split

theorem State.angles_follows {σ s : State} (m : Fin 4) (c : Cycle) (hσ : σ.follows s) : σ.follows (State.angles
    s m c) := by
  unfold State.angles
  repeat' first
    | with_reducible first
        | assumption | apply State.put_follows | apply State.ite_follows
    | split

theorem State.totals_follows {σ s : State} (m : Fin 4) (c : Cycle) (hσ : σ.follows s) : σ.follows (State.totals
    s m c) := by
  unfold State.totals
  repeat' first
    | with_reducible first
        | assumption | apply State.setReg_follows | apply State.put_follows | apply State.ite_follows
    | split

theorem State.accumulate_follows {σ s : State} (m : Fin 4) (num : Nat) (den : Nat) (hσ : σ.follows s) :
    σ.follows (State.accumulate s m num den) := by
  unfold State.accumulate
  repeat' first
    | with_reducible first
        | assumption | apply State.put_follows | apply State.setMtr_follows | apply State.ite_follows
    | split

theorem State.latchCmds_follows {σ s : State} (m : Nat) (ok : Bool) (hσ : σ.follows s) : σ.follows
    (State.latchCmds s m ok) := by
  unfold State.latchCmds
  repeat' first
    | with_reducible first
        | assumption | apply State.finish_follows | apply State.finishR_follows | intro _
        | (apply State.foldl_follows; intro _ _ _)
    | split | apply State.mk_follows

theorem State.meterLatch_follows {σ s : State} (m : Fin 4) (hσ : σ.follows s) : σ.follows (State.meterLatch s m) := by
  unfold State.meterLatch
  repeat' first
    | with_reducible first
        | assumption | apply State.setReg_follows | apply State.put_follows | apply State.src_follows
        | apply State.setMtr_follows | apply State.latchCmds_follows | apply State.ite_follows
    | split

theorem State.cycleEnd_follows {σ s : State} (m : Fin 4) (c : Cycle) (hσ : σ.follows s) : σ.follows
    (State.cycleEnd s m c) := by
  unfold State.cycleEnd
  try dsimp only
  repeat' first
    | with_reducible first
        | assumption | intro _ | apply State.put_follows | apply State.phaseQuantities_follows
        | apply State.angles_follows | apply State.totals_follows | apply State.accumulate_follows
        | apply State.meterLatch_follows | (apply State.foldl_follows; intro _ _ _)
        | (refine State.pair_follows ?_ (by assumption)) | (refine State.triple_follows ?_ (by assumption))
        | apply State.ite_follows
    | split | dsimp only | apply State.mk_follows

theorem State.pqOpen_follows {σ s : State} (m : Fin 4) (typ : Nat) (phases : Nat) (ext : Nat) (hσ : σ.follows s)
    : σ.follows (State.pqOpen s m typ phases ext).2 := by
  unfold State.pqOpen
  repeat' first
    | with_reducible first
        | assumption | apply State.put_follows | apply State.setMw_follows | apply State.src_follows
        | apply State.ite_follows
    | split

theorem State.pqUpdate_follows {σ s : State} (a : Nat) (typ : Nat) (phases : Nat) (ext : Nat) (hσ : σ.follows s)
    : σ.follows (State.pqUpdate s a typ phases ext) := by
  unfold State.pqUpdate
  repeat' first
    | with_reducible first
        | assumption | apply State.setMw_follows | apply State.ite_follows
    | split

theorem State.pqClose_follows {σ s : State} (m : Fin 4) (a : Nat) (hσ : σ.follows s) : σ.follows (State.pqClose
    s m a) := by
  unfold State.pqClose
  repeat' first
    | with_reducible first
        | assumption | apply State.setMw_follows | apply State.src_follows | apply State.ite_follows
    | split

theorem State.sagStep_follows {σ s : State} (m : Fin 4) (u : Vector Int 3) (hσ : σ.follows s) : σ.follows
    (State.sagStep s m u) := by
  unfold State.sagStep
  repeat' first
    | with_reducible first
        | assumption | apply State.setMtr_follows | apply State.pqOpen_follows | apply State.pqUpdate_follows
        | apply State.pqClose_follows | apply State.ite_follows
    | split

theorem State.swellStep_follows {σ s : State} (m : Fin 4) (u : Vector Int 3) (hσ : σ.follows s) : σ.follows
    (State.swellStep s m u) := by
  unfold State.swellStep
  repeat' first
    | with_reducible first
        | assumption | apply State.setMtr_follows | apply State.pqOpen_follows | apply State.pqUpdate_follows
        | apply State.pqClose_follows | apply State.ite_follows
    | split

theorem State.rmsOf_follows {σ s : State} (l : List MSmp) (x : Fin 3) (hσ : σ.follows s) : σ.follows
    (State.rmsOf s l x).2 := by
  unfold State.rmsOf
  repeat' first
    | with_reducible first
        | assumption | apply State.near_follows | apply State.ite_follows
    | split

theorem State.pqStep_follows {σ s : State} (m : Fin 4) (t : Nat) (full : Bool) (hσ : σ.follows s) : σ.follows
    (State.pqStep s m t full) := by
  unfold State.pqStep
  repeat' first
    | with_reducible first
        | assumption | apply State.putB_follows | apply State.sagStep_follows | apply State.swellStep_follows
        | apply State.rmsOf_follows | apply State.ite_follows
    | split

theorem State.endCycle_follows {σ s : State} (m : Fin 4) (t : Nat) (nominal : Bool) (hσ : σ.follows s) :
    σ.follows (State.endCycle s m t nominal) := by
  unfold State.endCycle
  repeat' first
    | with_reducible first
        | assumption | apply State.meterLatch_follows | apply State.cycleEnd_follows | apply State.ite_follows
    | split

theorem State.cross_follows {σ s : State} (m : Fin 4) (pos : Bool) (c : Nat) (hσ : σ.follows s) : σ.follows
    (State.cross s m pos c) := by
  unfold State.cross
  repeat' first
    | with_reducible first
        | assumption | apply State.put_follows | apply State.setMtr_follows | apply State.pqStep_follows
        | apply State.endCycle_follows | apply State.ite_follows
    | split

theorem execZeroCrossing_follows {σ s : State} (m : Fin 4) (pos : Bool) (_t : Unit) (hσ : σ.follows s) :
    σ.followedBy (execZeroCrossing m pos _t s) := by
  unfold execZeroCrossing
  repeat' first
    | with_reducible first
        | assumption | apply State.next_follows | apply State.cross_follows | apply State.ite_follows
    | split

theorem execFreeRun_follows {σ s : State} (m : Fin 4) (hσ : σ.follows s) : σ.followedBy (execFreeRun m s) := by
  unfold execFreeRun
  repeat' first
    | with_reducible first
        | assumption | apply State.next_follows | apply State.put_follows | apply State.setMtr_follows
        | apply State.ite_follows
    | split

theorem execFreeRunHalfCycle_follows {σ s : State} (m : Fin 4) (hσ : σ.follows s) : σ.followedBy
    (execFreeRunHalfCycle m s) := by
  unfold execFreeRunHalfCycle
  repeat' first
    | with_reducible first
        | assumption | apply State.next_follows | apply State.setMtr_follows | apply State.pqStep_follows
        | apply State.endCycle_follows | apply State.ite_follows
    | split

theorem State.latchQuantities_follows {σ s : State} (m : Fin 4) (hσ : σ.follows s) : σ.follows
    (State.latchQuantities s m) := by
  unfold State.latchQuantities
  repeat' first
    | with_reducible first
        | assumption | apply State.setMtr_follows | apply State.ite_follows
    | split

theorem State.fillReadBuffer_follows {σ s : State} (m : Fin 4) (hσ : σ.follows s) : σ.follows
    (State.fillReadBuffer s m) := by
  unfold State.fillReadBuffer
  repeat' first
    | with_reducible first
        | assumption | apply State.setReg_follows | intro _ | (apply State.foldl_follows; intro _ _ _)
    | split | apply State.mk_follows

theorem State.saveWith_follows {σ s : State} (j : Nat) (seq : Nat) (final : Bool) (q : List WReq) (hσ :
    σ.follows s) : σ.follows (State.saveWith s j seq final q) := by
  unfold State.saveWith
  dsimp only
  repeat' first
    | with_reducible first
        | assumption | apply State.put_follows | apply State.ite_follows
    | split | apply State.mk_follows

theorem State.saveAt_follows {σ s : State} (j : Nat) (seq : Nat) (final : Bool) (hσ : σ.follows s) : σ.follows
    (State.saveAt s j seq final) := by
  unfold State.saveAt
  repeat' first
    | with_reducible first
        | assumption | apply State.saveWith_follows | apply State.ite_follows
    | split

theorem State.mtrBlockEvt_follows {σ s : State} (b : Nat) (hσ : σ.follows s) : σ.follows (State.mtrBlockEvt s b) := by
  unfold State.mtrBlockEvt
  repeat' first
    | with_reducible first
        | assumption | apply State.src_follows | apply State.ite_follows
    | split

theorem State.saveStart_follows {σ s : State} (final : Bool) (hσ : σ.follows s) : σ.follows (State.saveStart s
    final) := by
  unfold State.saveStart
  dsimp only
  repeat' first
    | with_reducible first
        | assumption | apply State.saveAt_follows | apply State.mtrBlockEvt_follows | apply State.ite_follows
    | split | apply State.mk_follows

theorem execEnergySaveStart_follows {σ s : State} (hσ : σ.follows s) : σ.followedBy (execEnergySaveStart s) := by
  unfold execEnergySaveStart
  repeat' first
    | with_reducible first
        | assumption | apply State.next_follows | apply State.saveStart_follows | apply State.ite_follows
    | split

theorem State.saveNow_follows {σ s : State} (hσ : σ.follows s) : σ.follows (State.saveNow s).2 := by
  unfold State.saveNow
  repeat' first
    | with_reducible first
        | assumption | apply State.saveStart_follows | apply State.ite_follows
    | split

theorem State.saveDone_follows {σ s : State} (j : Nat) (hσ : σ.follows s) : σ.follows (State.saveDone s j) := by
  unfold State.saveDone
  repeat' first
    | with_reducible first
        | assumption | apply State.setReg_follows | apply State.put_follows | apply State.putB_follows
        | apply State.mtrBlockEvt_follows | apply State.ite_follows
    | split

theorem State.repeatSave_follows {σ s0 : State} (j : Nat) (hσ : σ.follows s0) : σ.follows (State.repeatSave s0
    j) := by
  unfold State.repeatSave
  dsimp only
  repeat' first
    | with_reducible first
        | assumption | apply State.saveWith_follows | apply State.mtrBlockEvt_follows | apply State.ite_follows
    | split | apply State.mk_follows

theorem State.slotRefused_follows {σ s : State} (j : Nat) (hσ : σ.follows s) : σ.follows (State.slotRefused s j) := by
  unfold State.slotRefused
  dsimp only
  repeat' first
    | with_reducible first
        | assumption | apply State.set1_follows | apply State.putB_follows | apply State.report_follows
        | apply State.mtrBlockEvt_follows | apply State.repeatSave_follows | apply State.ite_follows
    | split | apply State.mk_follows

theorem State.energyGap_follows {σ s : State} (n : Nat) (hσ : σ.follows s) : σ.follows (State.energyGap s n) := by
  unfold State.energyGap
  dsimp only
  repeat' first
    | with_reducible first
        | assumption | apply State.put_follows | apply State.mtrBlockEvt_follows | apply State.ite_follows
    | split | apply State.mk_follows

theorem State.restoreEnergy_follows {σ s0 : State} (hσ : σ.follows s0) : σ.follows (State.restoreEnergy s0) := by
  unfold State.restoreEnergy
  dsimp only
  repeat' first
    | with_reducible first
        | assumption | apply State.setReg_follows | apply State.put_follows | apply State.mtrBlockEvt_follows
        | apply State.energyGap_follows | apply State.ite_follows
    | split | apply State.mk_follows

theorem State.meterDiscard_follows {σ s : State} (m : Fin 4) (hσ : σ.follows s) : σ.follows (State.meterDiscard
    s m).2 := by
  unfold State.meterDiscard
  repeat' first
    | with_reducible first
        | assumption | apply State.put_follows | apply State.setMtr_follows | apply State.ite_follows
    | split

theorem State.meterSwitch_follows {σ s : State} (m : Fin 4) (on : Bool) (hσ : σ.follows s) : σ.follows
    (State.meterSwitch s m on) := by
  unfold State.meterSwitch
  repeat' first
    | with_reducible first
        | assumption | apply State.put_follows | apply State.putB_follows | apply State.setMtr_follows
        | apply State.latchCmds_follows | apply State.ite_follows
    | split

theorem State.applyScan_follows {σ s : State} (a : Fin 4) (hσ : σ.follows s) : σ.follows (State.applyScan s a) := by
  unfold State.applyScan
  dsimp only
  repeat' first
    | with_reducible first
        | assumption | apply State.put_follows | apply State.ite_follows
    | split | apply State.mk_follows

theorem State.scanDue_follows {σ s : State} (a : Fin 4) (t : Nat) (hσ : σ.follows s) : σ.follows (State.scanDue
    s a t) := by
  unfold State.scanDue
  repeat' first
    | with_reducible first
        | assumption | apply State.applyScan_follows | apply State.ite_follows
    | split

theorem State.passStep_follows {σ s : State} (a : Fin 4) (n : Nat) (t : Nat) (hσ : σ.follows s) : σ.follows
    (State.passStep s a n t) := by
  unfold State.passStep
  dsimp only
  repeat' first
    | with_reducible first
        | assumption | apply State.scanDue_follows | apply State.ite_follows
    | split | apply State.mk_follows

theorem State.scanWrite_follows {σ s : State} (a : Fin 4) (m : Nat) (hσ : σ.follows s) : σ.follows
    (State.scanWrite s a m).2 := by
  unfold State.scanWrite
  dsimp only
  repeat' first
    | with_reducible first
        | assumption | apply State.applyScan_follows | apply State.ite_follows
    | split | apply State.mk_follows

theorem State.passStart_follows {σ s : State} (mask : Nat) (hσ : σ.follows s) : σ.follows (State.passStart s
    mask) := by
  unfold State.passStart
  repeat' first
    | with_reducible first
        | assumption | intro _ | (apply State.foldl_follows; intro _ _ _)
    | split | apply State.mk_follows

theorem State.adcRestart_follows {σ s : State} (mask : Nat) (hσ : σ.follows s) : σ.follows (State.adcRestart s
    mask) := by
  unfold State.adcRestart
  repeat' first
    | with_reducible first
        | assumption | apply State.passStart_follows | apply State.ite_follows
    | split

theorem State.adcCal_follows {σ s : State} (hσ : σ.follows s) : σ.follows (State.adcCal s).2 := by
  unfold State.adcCal
  repeat' first
    | with_reducible first
        | assumption
    | split | apply State.mk_follows

theorem State.calResults_follows {σ s : State} (ok : BitVec 4) (hσ : σ.follows s) : σ.follows (State.calResults
    s ok) := by
  unfold State.calResults
  repeat' first
    | with_reducible first
        | assumption | apply State.put_follows | apply State.putB_follows | apply State.fresh_follows | intro _
        | (apply State.foldl_follows; intro _ _ _)
    | split | apply State.mk_follows

theorem execAdcCalDone_follows {σ s : State} (ok : BitVec 4) (hσ : σ.follows s) : σ.followedBy (execAdcCalDone
    ok s) := by
  unfold execAdcCalDone
  dsimp only
  repeat' first
    | with_reducible first
        | assumption | apply State.next_follows | apply State.selftestFailed_follows
        | apply State.passStart_follows | apply State.calResults_follows | apply State.ite_follows
    | split | apply State.mk_follows

theorem State.mmClear_follows {σ s : State} (e : Nat) (hσ : σ.follows s) : σ.follows (State.mmClear s e) := by
  unfold State.mmClear
  repeat' first
    | with_reducible first
        | assumption | apply State.put_follows | apply State.ite_follows
    | split

theorem State.avgLatch_follows {σ s : State} (e : Nat) (hσ : σ.follows s) : σ.follows (State.avgLatch s e) := by
  unfold State.avgLatch
  repeat' first
    | with_reducible first
        | assumption
    | split | apply State.mk_follows

theorem State.freezeStep_follows {σ s : State} (e : Fin 64) (code : Nat) (hσ : σ.follows s) : σ.follows
    (State.freezeStep s e code) := by
  unfold State.freezeStep
  repeat' first
    | with_reducible first
        | assumption | apply State.setEnt_follows | apply State.plausFail_follows
        | apply State.plausClear_follows | apply State.ite_follows
    | split

theorem State.rangeEnd_follows {σ s : State} (a : Fin 4) (hσ : σ.follows s) : σ.follows (State.rangeEnd s a) := by
  unfold State.rangeEnd
  try dsimp only
  repeat' first
    | with_reducible first
        | assumption | intro _ | apply State.plausClear_follows | (apply State.foldl_follows; intro _ _ _)
        | (refine State.pair_follows ?_ (by assumption)) | (refine State.triple_follows ?_ (by assumption))
        | apply State.ite_follows
    | split | dsimp only | apply State.mk_follows

theorem State.rangeStep_follows {σ s : State} (e : Fin 64) (code : Nat) (hσ : σ.follows s) : σ.follows
    (State.rangeStep s e code) := by
  unfold State.rangeStep
  repeat' first
    | with_reducible first
        | assumption | apply State.setEnt_follows | apply State.plausFail_follows
        | apply State.plausClear_follows | apply State.ite_follows
    | split

theorem State.xchkStep_follows {σ s : State} (e : Fin 64) (t : Nat) (code : Nat) (hσ : σ.follows s) : σ.follows
    (State.xchkStep s e t code) := by
  unfold State.xchkStep
  dsimp only
  repeat' first
    | with_reducible first
        | assumption | apply State.setEnt_follows | apply State.plausFail_follows
        | apply State.plausClear_follows | apply State.ite_follows
    | split

theorem State.internalStep_follows {σ s : State} (e : Fin 64) (code : Nat) (raw : Nat) (hσ : σ.follows s) :
    σ.follows (State.internalStep s e code raw) := by
  unfold State.internalStep
  dsimp only
  repeat' first
    | with_reducible first
        | assumption | apply State.setEnt_follows | apply State.internalFail_follows
        | apply State.rangeEnd_follows | apply State.ite_follows
    | split | apply State.mk_follows

theorem State.loopback_follows {σ s : State} (a : Fin 4) (code : Nat) (hσ : σ.follows s) : σ.follows
    (State.loopback s a code) := by
  unfold State.loopback
  dsimp only
  repeat' first
    | with_reducible first
        | assumption | apply State.put_follows | apply State.internalFail_follows | apply State.rangeEnd_follows
        | apply State.ite_follows
    | split | apply State.mk_follows

theorem State.midscale_follows {σ s : State} (a : Fin 4) (raw : Nat) (hσ : σ.follows s) : σ.follows
    (State.midscale s a raw) := by
  unfold State.midscale
  dsimp only
  repeat' first
    | with_reducible first
        | assumption | apply State.put_follows | apply State.putB_follows | apply State.internalFail_follows
        | apply State.rangeEnd_follows | apply State.ite_follows
    | split | apply State.mk_follows

theorem State.joinWindow_follows {σ s : State} (e : Fin 64) (t : Nat) (code : Nat) (hσ : σ.follows s) :
    σ.follows (State.joinWindow s e t code) := by
  unfold State.joinWindow
  repeat' first
    | with_reducible first
        | assumption | apply State.setEnt_follows | apply State.ite_follows
    | split

theorem State.latestSample_follows {σ s : State} (e : Nat) (code : Nat) (clamp : Bool) (hσ : σ.follows s) :
    σ.follows (State.latestSample s e code clamp) := by
  unfold State.latestSample
  repeat' first
    | with_reducible first
        | assumption | apply State.put_follows | apply State.putB_follows | apply State.ite_follows
    | split

theorem State.takeSample_follows {σ s : State} (a : Fin 4) (e : Fin 64) (t : Nat) (raw : Nat) (clamp : Bool) (hσ
    : σ.follows s) : σ.follows (State.takeSample s a e t raw clamp) := by
  unfold State.takeSample
  repeat' first
    | with_reducible first
        | assumption | apply State.setEnt_follows | apply State.gridIslSample_follows
        | apply State.islCurrents_follows | apply State.meterSample_follows | apply State.passStep_follows
        | apply State.freezeStep_follows | apply State.rangeStep_follows | apply State.xchkStep_follows
        | apply State.internalStep_follows | apply State.loopback_follows | apply State.midscale_follows
        | apply State.joinWindow_follows | apply State.latestSample_follows | apply State.ite_follows
    | split

theorem execAdcSample_follows {σ s0 : State} (e : Fin 64) (t : Nat) (raw : BitVec 14) (clamp : Bool) (_code :
    Unit) (_out : Unit) (hσ : σ.follows s0) : σ.followedBy (execAdcSample e t raw clamp _code _out s0) := by
  unfold execAdcSample
  repeat' first
    | with_reducible first
        | assumption | apply State.next_follows | apply State.toInstant_follows | apply State.scanDue_follows
        | apply State.takeSample_follows | apply State.ite_follows
    | split

theorem execFreezeFail_follows {σ s : State} (e : Fin 64) (code : BitVec 14) (hσ : σ.follows s) : σ.followedBy
    (execFreezeFail e code s) := by
  unfold execFreezeFail
  repeat' first
    | with_reducible first
        | assumption | apply State.next_follows | apply State.freezeStep_follows | apply State.ite_follows
    | split

theorem execRangeFail_follows {σ s : State} (e : Fin 64) (code : BitVec 14) (hσ : σ.follows s) : σ.followedBy
    (execRangeFail e code s) := by
  unfold execRangeFail
  repeat' first
    | with_reducible first
        | assumption | apply State.next_follows | apply State.rangeStep_follows | apply State.ite_follows
    | split

theorem execXchkFail_follows {σ s : State} (e : Fin 64) (hσ : σ.follows s) : σ.followedBy (execXchkFail e s) := by
  unfold execXchkFail
  repeat' first
    | with_reducible first
        | assumption | apply State.next_follows | apply State.setEnt_follows | apply State.plausFail_follows
        | apply State.ite_follows
    | split

theorem execInternalEntryFail_follows {σ s : State} (a : Fin 4) (n : Fin 4) (code : BitVec 14) (hσ : σ.follows
    s) : σ.followedBy (execInternalEntryFail a n code s) := by
  unfold execInternalEntryFail
  repeat' first
    | with_reducible first
        | assumption | apply State.next_follows | apply State.internalStep_follows
        | apply State.loopback_follows | apply State.ite_follows
    | split

theorem State.safEvt_follows {σ s : State} (b : Nat) (hσ : σ.follows s) : σ.follows (State.safEvt s b) := by
  unfold State.safEvt
  repeat' first
    | with_reducible first
        | assumption | apply State.src_follows | apply State.ite_follows
    | split

theorem State.safUpdate_follows {σ s : State} (hσ : σ.follows s) : σ.follows (State.safUpdate s) := by
  unfold State.safUpdate
  dsimp only
  repeat' first
    | with_reducible first
        | assumption | apply State.kOpen_follows | apply State.pchEnd_follows | apply State.soCheck_follows
        | apply State.partAll_follows | apply State.startSeqs_follows | apply State.enterStandby_follows
        | apply State.ite_follows
    | split | apply State.mk_follows

theorem State.soSet_follows {σ s : State} (ch : Fin 2) (on : Bool) (hσ : σ.follows s) : σ.follows (State.soSet s
    ch on) := by
  unfold State.soSet
  dsimp only
  repeat' first
    | with_reducible first
        | assumption | apply State.safEvt_follows | apply State.ite_follows
    | split | apply State.mk_follows

theorem State.soEnergise_follows {σ s : State} (hσ : σ.follows s) : σ.follows (State.soEnergise s) := by
  unfold State.soEnergise
  repeat' first
    | with_reducible first
        | assumption | apply State.soSet_follows | intro _ | (apply State.foldl_follows; intro _ _ _)
    | split | apply State.mk_follows

theorem execSafeOutputDrop_follows {σ s : State} (ch : Fin 2) (hσ : σ.follows s) : σ.followedBy
    (execSafeOutputDrop ch s) := by
  unfold execSafeOutputDrop
  dsimp only
  repeat' first
    | with_reducible first
        | assumption | apply State.next_follows | apply State.soSet_follows | apply State.ite_follows
    | split | apply State.mk_follows

theorem State.setPair_follows {σ s : State} (ch : Fin 2) (p : Fin 8) (x : Pair) (hσ : σ.follows s) : σ.follows
    (State.setPair s ch p x) := by
  unfold State.setPair
  repeat' first
    | with_reducible first
        | assumption
    | split | apply State.mk_follows

theorem State.unitEvents_follows {σ s : State} (old : Nat) (new : Nat) (hσ : σ.follows s) : σ.follows
    (State.unitEvents s old new) := by
  unfold State.unitEvents
  repeat' first
    | with_reducible first
        | assumption | apply State.safEvt_follows | apply State.ite_follows
    | split

theorem State.discFault_follows {σ s : State} (p : Fin 8) (n : Nat) (hσ : σ.follows s) : σ.follows
    (State.discFault s p n) := by
  unfold State.discFault
  repeat' first
    | with_reducible first
        | assumption | apply State.put_follows | apply State.report_follows | apply State.safEvt_follows
        | apply State.ite_follows
    | split

theorem State.noteDisc_follows {σ s : State} (p : Fin 8) (n : Nat) (hσ : σ.follows s) : σ.follows
    (State.noteDisc s p n) := by
  unfold State.noteDisc
  repeat' first
    | with_reducible first
        | assumption | apply State.put_follows | apply State.ite_follows
    | split

theorem State.pairTick_follows {σ s : State} (p : Fin 8) (a : Bool) (b : Bool) (hσ : σ.follows s) : σ.follows
    (State.pairTick s p a b) := by
  unfold State.pairTick
  repeat' first
    | with_reducible first
        | assumption | apply State.putB_follows | apply State.setPair_follows | apply State.unitEvents_follows
        | apply State.discFault_follows | apply State.noteDisc_follows | apply State.ite_follows
    | split

theorem execFilterChange_follows {σ s : State} (p : Fin 8) (b : Bool) (level : Bool) (hσ : σ.follows s) :
    σ.followedBy (execFilterChange p b level s) := by
  unfold execFilterChange
  repeat' first
    | with_reducible first
        | assumption | apply State.next_follows | apply State.setPair_follows | apply State.ite_follows
    | split

theorem State.lockPair_follows {σ s : State} (p : Fin 8) (hσ : σ.follows s) : σ.follows (State.lockPair s p) := by
  unfold State.lockPair
  repeat' first
    | with_reducible first
        | assumption | apply State.setPair_follows | apply State.unitEvents_follows | apply State.ite_follows
    | split

theorem execDiscrepancyFault_follows {σ s : State} (p : Fin 8) (hσ : σ.follows s) : σ.followedBy
    (execDiscrepancyFault p s) := by
  unfold execDiscrepancyFault
  repeat' first
    | with_reducible first
        | assumption | apply State.next_follows | apply State.safUpdate_follows | apply State.setPair_follows
        | apply State.discFault_follows | apply State.noteDisc_follows | apply State.lockPair_follows
        | apply State.ite_follows
    | split

theorem execTestPulseStart_follows {σ s : State} (ch : Fin 2) (hσ : σ.follows s) : σ.followedBy
    (execTestPulseStart ch s) := by
  unfold execTestPulseStart
  repeat' first
    | with_reducible first
        | assumption | apply State.next_follows
    | split | apply State.mk_follows

theorem State.testFault_follows {σ s : State} (p : Fin 8) (ch : Fin 2) (hσ : σ.follows s) : σ.follows
    (State.testFault s p ch) := by
  unfold State.testFault
  repeat' first
    | with_reducible first
        | assumption | apply State.put_follows | apply State.report_follows | apply State.safEvt_follows
        | apply State.safUpdate_follows | apply State.lockPair_follows | apply State.ite_follows
    | split

theorem State.testBall_follows {σ s : State} (p : Fin 8) (ch : Fin 2) (high : Bool) (hσ : σ.follows s) :
    σ.follows (State.testBall s p ch high) := by
  unfold State.testBall
  dsimp only
  repeat' first
    | with_reducible first
        | assumption | apply State.testFault_follows | apply State.ite_follows
    | split | apply State.mk_follows

theorem execTestPulseCheck_follows {σ s : State} (ch : Fin 2) (balls : BitVec 8) (hσ : σ.follows s) :
    σ.followedBy (execTestPulseCheck ch balls s) := by
  unfold execTestPulseCheck
  repeat' first
    | with_reducible first
        | assumption | apply State.next_follows | apply State.testBall_follows | intro _
        | (apply State.foldl_follows; intro _ _ _)
    | split | apply State.mk_follows

theorem execTestFault_follows {σ s : State} (p : Fin 8) (ch : Fin 2) (hσ : σ.follows s) : σ.followedBy
    (execTestFault p ch s) := by
  unfold execTestFault
  repeat' first
    | with_reducible first
        | assumption | apply State.next_follows | apply State.testFault_follows | apply State.ite_follows
    | split

theorem State.tgReport_follows {σ s : State} (x : TgFx) (h : σ.follows s) : σ.follows (s.tgReport x) := by
  cases x
  · exact h
  · exact State.report_follows _ _ _ h
  · exact State.report_follows _ _ _ (State.safEvt_follows _ (State.put_follows _ _ (State.put_follows _ _ h)))

theorem State.inputsTick_follows {σ s : State} (hσ : σ.follows s) : σ.follows (State.inputsTick s) := by
  unfold State.inputsTick
  try dsimp only
  repeat' first
    | with_reducible first
        | assumption | intro _ | apply State.safEvt_follows | apply State.unitEvents_follows
        | apply State.tgReport_follows | (apply State.foldl_follows; intro _ _ _)
        | (refine State.pair_follows ?_ (by assumption)) | (refine State.triple_follows ?_ (by assumption))
        | apply State.ite_follows
    | split | dsimp only | apply State.mk_follows

theorem State.releaseUnit_follows {σ s : State} (u : Fin 16) (hσ : σ.follows s) : σ.follows (State.releaseUnit s
    u) := by
  unfold State.releaseUnit
  dsimp only
  repeat' first
    | with_reducible first
        | assumption | apply State.setPair_follows | apply State.unitEvents_follows | apply State.ite_follows
    | split | apply State.mk_follows

theorem State.ackTick_follows {σ s : State} (old : State) (c : Cmd) (hσ : σ.follows s) : σ.follows
    (State.ackTick s old c) := by
  unfold State.ackTick
  repeat' first
    | with_reducible first
        | assumption | apply State.finish_follows | apply State.releaseUnit_follows | intro _
        | (apply State.foldl_follows; intro _ _ _)
    | split | apply State.mk_follows

theorem State.channelCheck_follows {σ s : State} (rb : Vector Bool 2) (hσ : σ.follows s) : σ.follows
    (State.channelCheck s rb) := by
  unfold State.channelCheck
  try dsimp only
  repeat' first
    | with_reducible first
        | assumption | intro _ | apply State.putB_follows | apply State.report_follows
        | (apply State.foldl_follows; intro _ _ _) | (refine State.pair_follows ?_ (by assumption))
        | (refine State.triple_follows ?_ (by assumption)) | apply State.ite_follows
    | split | dsimp only | apply State.mk_follows

theorem execSafetyTick_follows {σ s : State} (a : BitVec 8) (b : BitVec 8) (rbA : Bool) (rbB : Bool) (hσ :
    σ.follows s) : σ.followedBy (execSafetyTick a b rbA rbB s) := by
  unfold execSafetyTick
  repeat' first
    | with_reducible first
        | assumption | apply State.next_follows | apply State.heard_follows | apply State.safUpdate_follows
        | apply State.soEnergise_follows | apply State.pairTick_follows | apply State.inputsTick_follows
        | apply State.ackTick_follows | apply State.channelCheck_follows | intro _
        | (apply State.foldl_follows; intro _ _ _)
    | split | apply State.mk_follows

theorem execStrobeIntervalFault_follows {σ s : State} (n : Nat) (hσ : σ.follows s) : σ.followedBy
    (execStrobeIntervalFault n s) := by
  unfold execStrobeIntervalFault
  dsimp only
  repeat' first
    | with_reducible first
        | assumption | apply State.next_follows | apply State.heard_follows | apply State.report_follows
        | apply State.soSet_follows | apply State.ite_follows
    | split | apply State.mk_follows

theorem execChannelDisagreement_follows {σ s : State} (u : Fin 18) (hσ : σ.follows s) : σ.followedBy
    (execChannelDisagreement u s) := by
  unfold execChannelDisagreement
  repeat' first
    | with_reducible first
        | assumption | apply State.next_follows | apply State.heard_follows | apply State.report_follows
        | apply State.ite_follows
    | split

theorem State.tgAccept_follows {σ s : State} (seq : Nat) (rel : Nat) (hσ : σ.follows s) : σ.follows
    (State.tgAccept s seq rel) := by
  unfold State.tgAccept
  dsimp only
  repeat' first
    | with_reducible first
        | assumption | apply State.put_follows | apply State.emit_follows | apply State.accept_follows
        | apply State.ite_follows
    | split | apply State.mk_follows

theorem State.tgCopy_follows {σ s : State} (net : Fin 2) (src : List Byte) (b : List Byte) (hσ : σ.follows s) :
    σ.follows (State.tgCopy s net src b) := by
  unfold State.tgCopy
  dsimp only
  repeat' first
    | with_reducible first
        | assumption | apply State.bump_follows | apply State.src_follows | apply State.safEvt_follows
        | apply State.tgAccept_follows | apply State.ite_follows
    | split | apply State.mk_follows

theorem execTelegramSkewExpiry_follows {σ s : State} (hσ : σ.follows s) : σ.followedBy (execTelegramSkewExpiry
    s) := by
  unfold execTelegramSkewExpiry
  dsimp only
  repeat' first
    | with_reducible first
        | assumption | apply State.next_follows | apply State.bump_follows | apply State.safEvt_follows
        | apply State.ite_follows
    | split | apply State.mk_follows

theorem execTelegramWatchdog_follows {σ s : State} (hσ : σ.follows s) : σ.followedBy (execTelegramWatchdog s) := by
  unfold execTelegramWatchdog
  repeat' first
    | with_reducible first
        | assumption | apply State.next_follows
    | split | apply State.mk_follows

theorem State.safClr_follows {σ s : State} (hσ : σ.follows s) : σ.follows (State.safClr s) := by
  unfold State.safClr
  repeat' first
    | with_reducible first
        | assumption | apply State.setReg_follows | apply State.put_follows | intro _
        | (apply State.foldl_follows; intro _ _ _)
    | split | apply State.mk_follows

theorem State.pairEnable_follows {σ s : State} (p : Fin 8) (hσ : σ.follows s) : σ.follows (State.pairEnable s p) := by
  unfold State.pairEnable
  dsimp only
  repeat' first
    | with_reducible first
        | assumption | apply State.setPair_follows | apply State.unitEvents_follows | apply State.ite_follows
    | split | apply State.mk_follows

theorem State.inputDemand_follows {σ s : State} (i : Fin 8) (hσ : σ.follows s) : σ.follows (State.inputDemand s
    i) := by
  unfold State.inputDemand
  dsimp only
  repeat' first
    | with_reducible first
        | assumption | apply State.safEvt_follows | apply State.unitEvents_follows | apply State.ite_follows
    | split | apply State.mk_follows

theorem State.tgEnable_follows {σ s : State} (old : State) (hσ : σ.follows s) : σ.follows (State.tgEnable s old) := by
  unfold State.tgEnable
  repeat' first
    | with_reducible first
        | assumption | apply State.put_follows | apply State.inputDemand_follows | intro _
        | (apply State.foldl_follows; intro _ _ _)
    | split | apply State.mk_follows

theorem execFaultReport_follows {σ s : State} (code : BitVec 16) (arg : Word) (hσ : σ.follows s) : σ.followedBy
    (execFaultReport code arg s) := by
  unfold execFaultReport
  repeat' first
    | with_reducible first
        | assumption | apply State.next_follows | apply State.heard_follows | apply State.report_follows
        | apply State.ite_follows
    | split

theorem execHoldExpiry_follows {σ s : State} (hσ : σ.follows s) : σ.followedBy (execHoldExpiry s) := by
  unfold execHoldExpiry
  repeat' first
    | with_reducible first
        | assumption | apply State.next_follows | apply State.escalate_follows | apply State.ite_follows
    | split

theorem State.recover_follows {σ s : State} (hσ : σ.follows s) : σ.follows (State.recover s) := by
  unfold State.recover
  dsimp only
  repeat' first
    | with_reducible first
        | assumption | apply State.put_follows | apply State.src_follows | apply State.startSeqs_follows
        | apply State.enterStandby_follows | apply State.closeEpisode_follows | apply State.ite_follows
    | split | apply State.mk_follows

theorem State.lockRecovery_follows {σ s : State} (hσ : σ.follows s) : σ.follows (State.lockRecovery s) := by
  unfold State.lockRecovery
  repeat' first
    | with_reducible first
        | assumption | apply State.put_follows | apply State.src_follows | apply State.ite_follows
    | split

theorem execQuietExpiry_follows {σ s : State} (hσ : σ.follows s) : σ.followedBy (execQuietExpiry s) := by
  unfold execQuietExpiry
  repeat' first
    | with_reducible first
        | assumption | apply State.next_follows | apply State.recover_follows | apply State.lockRecovery_follows
        | apply State.ite_follows
    | split

theorem State.recoveryEnd_follows {σ s : State} (hσ : σ.follows s) : σ.follows (State.recoveryEnd s) := by
  unfold State.recoveryEnd
  dsimp only
  repeat' first
    | with_reducible first
        | assumption | apply State.put_follows | apply State.ite_follows
    | split | apply State.mk_follows

theorem execRecoveryWindowEnd_follows {σ s : State} (hσ : σ.follows s) : σ.followedBy (execRecoveryWindowEnd s) := by
  unfold execRecoveryWindowEnd
  repeat' first
    | with_reducible first
        | assumption | apply State.next_follows | apply State.recoveryEnd_follows | apply State.ite_follows
    | split

theorem execFltBlockCleared_follows {σ s : State} (hσ : σ.follows s) : σ.followedBy (execFltBlockCleared s) := by
  unfold execFltBlockCleared
  repeat' first
    | with_reducible first
        | assumption | apply State.next_follows | apply State.quietRestart_follows | apply State.ite_follows
    | split

theorem State.fltCclr_follows {σ s : State} (hσ : σ.follows s) : σ.follows (State.fltCclr s) := by
  unfold State.fltCclr
  repeat' first
    | with_reducible first
        | assumption | apply State.setReg_follows | apply State.ite_follows
    | split

theorem State.autoEn_follows {σ s : State} (on : Bool) (hσ : σ.follows s) : σ.follows (State.autoEn s on) := by
  unfold State.autoEn
  repeat' first
    | with_reducible first
        | assumption | apply State.putB_follows | apply State.quietRestart_follows | apply State.ite_follows
    | split

theorem State.resumeFault_follows {σ s : State} (hσ : σ.follows s) : σ.follows (State.resumeFault s).2 := by
  unfold State.resumeFault
  dsimp only
  repeat' first
    | with_reducible first
        | assumption | apply State.put_follows | apply State.src_follows | apply State.changeMode_follows
        | apply State.startSeqs_follows | apply State.enterStandby_follows | apply State.closeEpisode_follows
        | apply State.ite_follows
    | split | apply State.mk_follows

theorem State.kClear_follows {σ s : State} (hσ : σ.follows s) : σ.follows (State.kClear s) := by
  unfold State.kClear
  repeat' first
    | with_reducible first
        | assumption | apply State.put_follows | apply State.islEvt_follows | apply State.ite_follows
    | split

theorem State.faultClear_follows {σ s : State} (port : Nat) (hσ : σ.follows s) : σ.follows (State.faultClear s
    port).2 := by
  unfold State.faultClear
  repeat' first
    | with_reducible first
        | assumption | apply State.put_follows | apply State.src_follows | apply State.startSeqs_follows
        | apply State.enterStandby_follows | apply State.closeEpisode_follows | apply State.recoveryEnd_follows
        | apply State.kClear_follows | apply State.ite_follows
    | split

end Sys2Proof.Machine
end

