-- ==== Sys2Proof/Laws/FollowsReset.lean ====
section
/-! SUPPORT. What every operation respects (`State.follows`): reset, clocks, start-up, branches, saves and mode requests. -/

namespace Sys2Proof.Machine

theorem State.cutWord_follows {σ s : State} (cold : Bool) (hσ : σ.follows s) : σ.follows (State.cutWord s cold) := by
  unfold State.cutWord
  dsimp only
  repeat' first
    | with_reducible first
        | assumption | apply State.setReg_follows | apply State.freshN_follows | apply State.countWrite_follows
        | apply State.ite_follows
    | split | apply State.mk_follows

theorem State.cutProgram_follows {σ s : State} (hσ : σ.follows s) : σ.follows (State.cutProgram s) := by
  unfold State.cutProgram
  try dsimp only
  repeat' first
    | with_reducible first
        | assumption | intro _ | apply State.setMw_follows | apply State.fresh_follows
        | apply State.freshN_follows | (apply State.foldl_follows; intro _ _ _)
        | (refine State.pair_follows ?_ (by assumption)) | (refine State.triple_follows ?_ (by assumption))
        | apply State.ite_follows
    | split | dsimp only | apply State.mk_follows

theorem State.hwReset_follows {σ s : State} (cold : Bool) (cause : Nat) (h : σ.follows s) :
    σ.follows (State.hwReset s cold cause) := by
  unfold State.hwReset
  dsimp only
  apply State.put_follows
  apply State.put_follows
  exact State.cut_follows (State.cutProgram_follows (State.cutWord_follows cold h)) _ _ _ _ rfl rfl rfl rfl

theorem State.markStop_follows {σ s : State} (hσ : σ.follows s) : σ.follows (State.markStop s) := by
  unfold State.markStop
  repeat' first
    | with_reducible first
        | assumption
    | split | apply State.mk_follows

theorem State.outputsLow_follows {σ s : State} (hσ : σ.follows s) : σ.follows (State.outputsLow s) := by
  unfold State.outputsLow
  dsimp only
  repeat' first
    | with_reducible first
        | assumption | apply State.put_follows | apply State.soLow_follows | apply State.ite_follows
    | split | apply State.mk_follows

theorem execMonitorTrip_follows {σ s : State} (r : Fin 5) (hσ : σ.follows s) : σ.followedBy (execMonitorTrip r
    s) := by
  unfold execMonitorTrip
  dsimp only
  repeat' first
    | with_reducible first
        | assumption | apply State.next_follows | apply State.partAll_follows | apply State.hwReset_follows
        | apply State.markStop_follows | apply State.outputsLow_follows | apply State.ite_follows
    | split | apply State.mk_follows

theorem execMonitorRelease_follows {σ s : State} (r : Fin 5) (hσ : σ.follows s) : σ.followedBy
    (execMonitorRelease r s) := by
  unfold execMonitorRelease
  repeat' first
    | with_reducible first
        | assumption | apply State.next_follows
    | split | apply State.mk_follows

theorem execPowerOn_follows {σ s : State} (vbk : Bool) (sec : Word) (ms : Fin 1000) (hσ : σ.follows s) :
    σ.followedBy (execPowerOn vbk sec ms s) := by
  unfold execPowerOn
  dsimp only
  repeat' first
    | with_reducible first
        | assumption | apply State.next_follows | apply State.setReg_follows | apply State.put_follows
        | apply State.hwReset_follows | apply State.ite_follows
    | split | apply State.mk_follows

theorem State.rbgOff_follows {σ s : State} (hσ : σ.follows s) : σ.follows (State.rbgOff s) := by
  unfold State.rbgOff
  repeat' first
    | with_reducible first
        | assumption | apply State.report_follows | apply State.sysEvt_follows
    | split | apply State.mk_follows

theorem execResetnLow_follows {σ s : State} (hσ : σ.follows s) : σ.followedBy (execResetnLow s) := by
  unfold execResetnLow
  dsimp only
  repeat' first
    | with_reducible first
        | assumption | apply State.next_follows | apply State.partAll_follows | apply State.hwReset_follows
        | apply State.markStop_follows | apply State.outputsLow_follows | apply State.rbgOff_follows
        | apply State.ite_follows
    | split | apply State.mk_follows

theorem State.deferredReset_follows {σ s : State} (hσ : σ.follows s) : σ.follows (State.deferredReset s) := by
  unfold State.deferredReset
  repeat' first
    | with_reducible first
        | assumption | apply State.partAll_follows | apply State.hwReset_follows
        | apply State.outputsLow_follows | apply State.ite_follows
    | split

theorem execSoftResetAssert_follows {σ s : State} (hσ : σ.follows s) : σ.followedBy (execSoftResetAssert s) := by
  unfold execSoftResetAssert
  repeat' first
    | with_reducible first
        | assumption | apply State.next_follows | apply State.partAll_follows | apply State.hwReset_follows
        | apply State.outputsLow_follows
    | split | apply State.mk_follows

theorem execHoldupReleaseReset_follows {σ s : State} (hσ : σ.follows s) : σ.followedBy (execHoldupReleaseReset
    s) := by
  unfold execHoldupReleaseReset
  dsimp only
  repeat' first
    | with_reducible first
        | assumption | apply State.next_follows | apply State.partAll_follows | apply State.hwReset_follows
        | apply State.outputsLow_follows | apply State.ite_follows
    | split | apply State.mk_follows

theorem State.refuseCopy_follows {σ s : State} (c : Cmd) (hσ : σ.follows s) : σ.follows (State.refuseCopy s c) := by
  unfold State.refuseCopy
  repeat' first
    | with_reducible first
        | assumption | apply State.jClose_follows | apply State.respond_follows | apply State.ite_follows
    | split

theorem State.stopStore_follows {σ s : State} (hσ : σ.follows s) : σ.follows (State.stopStore s) := by
  unfold State.stopStore
  repeat' first
    | with_reducible first
        | assumption | apply State.put_follows | apply State.finishR_follows | apply State.mtrBlockEvt_follows
        | apply State.refuseCopy_follows | intro _ | (apply State.foldl_follows; intro _ _ _)
    | split | apply State.mk_follows

theorem State.enterHoldup_follows {σ s : State} (hσ : σ.follows s) : σ.follows (State.enterHoldup s) := by
  unfold State.enterHoldup
  repeat' first
    | with_reducible first
        | assumption | apply State.put_follows | apply State.kOpen_follows | apply State.clearRuns_follows
        | apply State.changeMode_follows | apply State.partAll_follows | apply State.saveStart_follows
        | apply State.markStop_follows | apply State.stopStore_follows | apply State.ite_follows
    | split

theorem execPfiAssert_follows {σ s : State} (hσ : σ.follows s) : σ.followedBy (execPfiAssert s) := by
  unfold execPfiAssert
  dsimp only
  repeat' first
    | with_reducible first
        | assumption | apply State.next_follows | apply State.markStop_follows | apply State.enterHoldup_follows
        | apply State.ite_follows
    | split | apply State.mk_follows

theorem execGateEnFall_follows {σ s : State} (hσ : σ.follows s) : σ.followedBy (execGateEnFall s) := by
  unfold execGateEnFall
  dsimp only
  repeat' first
    | with_reducible first
        | assumption | apply State.next_follows | apply State.partAll_follows | apply State.report_follows
        | apply State.ite_follows
    | split | apply State.mk_follows

theorem State.clearTrip_follows {σ s : State} (n : Link) (hσ : σ.follows s) : σ.follows (State.clearTrip s n) := by
  unfold State.clearTrip
  repeat' first
    | with_reducible first
        | assumption | apply State.setReg_follows | apply State.setLnk_follows | apply State.ite_follows
    | split

theorem execGateEnRise_follows {σ s : State} (long : Bool) (hσ : σ.follows s) : σ.followedBy (execGateEnRise
    long s) := by
  unfold execGateEnRise
  repeat' first
    | with_reducible first
        | assumption | apply State.next_follows | apply State.clearTrip_follows | intro _
        | (apply State.foldl_follows; intro _ _ _)
    | split | apply State.mk_follows

theorem execRbsQualified_follows {σ s : State} (hσ : σ.follows s) : σ.followedBy (execRbsQualified s) := by
  unfold execRbsQualified
  repeat' first
    | with_reducible first
        | assumption | apply State.next_follows
    | split | apply State.mk_follows

theorem execRbsOff_follows {σ s : State} (hσ : σ.follows s) : σ.followedBy (execRbsOff s) := by
  unfold execRbsOff
  repeat' first
    | with_reducible first
        | assumption | apply State.next_follows | apply State.rbgOff_follows | apply State.ite_follows
    | split

theorem execAliveToggle_follows {σ s : State} (hσ : σ.follows s) : σ.followedBy (execAliveToggle s) := by
  unfold execAliveToggle
  repeat' first
    | with_reducible first
        | assumption | apply State.next_follows
    | split | apply State.mk_follows

theorem State.bootToSelftest_follows {σ s : State} (hσ : σ.follows s) : σ.follows (State.bootToSelftest s) := by
  unfold State.bootToSelftest
  dsimp only
  repeat' first
    | with_reducible first
        | assumption | apply State.put_follows | apply State.changeMode_follows | apply State.ite_follows
    | split | apply State.mk_follows

theorem execLockQualified_follows {σ s : State} (hσ : σ.follows s) : σ.followedBy (execLockQualified s) := by
  unfold execLockQualified
  dsimp only
  repeat' first
    | with_reducible first
        | assumption | apply State.next_follows | apply State.put_follows | apply State.src_follows
        | apply State.bootToSelftest_follows | apply State.ite_follows
    | split | apply State.mk_follows

theorem execLockLost_follows {σ s : State} (hσ : σ.follows s) : σ.followedBy (execLockLost s) := by
  unfold execLockLost
  repeat' first
    | with_reducible first
        | assumption | apply State.next_follows | apply State.put_follows | apply State.bump_follows
        | apply State.freshN_follows | apply State.src_follows | apply State.partAll_follows
        | apply State.report_follows | apply State.ite_follows
    | split

theorem execAcquisitionRestart_follows {σ s : State} (hσ : σ.follows s) : σ.followedBy (execAcquisitionRestart
    s) := by
  unfold execAcquisitionRestart
  repeat' first
    | with_reducible first
        | assumption | apply State.next_follows | apply State.bump_follows | apply State.ite_follows
    | split

theorem State.refLoss_follows {σ s : State} (hσ : σ.follows s) : σ.follows (State.refLoss s) := by
  unfold State.refLoss
  dsimp only
  repeat' first
    | with_reducible first
        | assumption | apply State.put_follows | apply State.hwReset_follows | apply State.outputsLow_follows
        | apply State.ite_follows
    | split | apply State.mk_follows

theorem execRefLoss_follows {σ s : State} (hσ : σ.follows s) : σ.followedBy (execRefLoss s) := by
  unfold execRefLoss
  repeat' first
    | with_reducible first
        | assumption | apply State.next_follows | apply State.refLoss_follows | apply State.ite_follows
    | split

theorem execRefMeasure_follows {σ s : State} (khz : Nat) (hσ : σ.follows s) : σ.followedBy (execRefMeasure khz
    s) := by
  unfold execRefMeasure
  repeat' first
    | with_reducible first
        | assumption | apply State.next_follows | apply State.put_follows | apply State.partAll_follows
        | apply State.refLoss_follows | apply State.ite_follows
    | split

theorem execRefReturn_follows {σ s : State} (hσ : σ.follows s) : σ.followedBy (execRefReturn s) := by
  unfold execRefReturn
  dsimp only
  repeat' first
    | with_reducible first
        | assumption | apply State.next_follows | apply State.put_follows | apply State.ite_follows
    | split | apply State.mk_follows

theorem execSyncInCapture_follows {σ s : State} (x : SyncEdge) (hσ : σ.follows s) : σ.followedBy
    (execSyncInCapture x s) := by
  unfold execSyncInCapture
  dsimp only
  repeat' first
    | with_reducible first
        | assumption | apply State.next_follows | apply State.setReg_follows | apply State.bump_follows
        | apply State.heard_follows | apply State.src_follows | apply State.syncEvent_follows
        | apply State.ite_follows
    | split | apply State.mk_follows

theorem execSyncInTimeout_follows {σ s : State} (hσ : σ.follows s) : σ.followedBy (execSyncInTimeout s) := by
  unfold execSyncInTimeout
  repeat' first
    | with_reducible first
        | assumption | apply State.next_follows | apply State.set1_follows | apply State.heard_follows
        | apply State.src_follows | apply State.ite_follows
    | split

theorem State.judgeBanks_follows {σ s : State} (hσ : σ.follows s) : σ.follows (State.judgeBanks s) := by
  unfold State.judgeBanks
  repeat' first
    | with_reducible first
        | assumption | apply State.setReg_follows | apply State.putB_follows | apply State.ite_follows
    | split

theorem State.loadEngine_follows {σ s : State} (base : Nat) (e : Fin 7) (hσ : σ.follows s) : σ.follows
    (State.loadEngine s base e) := by
  unfold State.loadEngine
  repeat' first
    | with_reducible first
        | assumption | apply State.setMw_follows | intro _ | (apply State.foldl_follows; intro _ _ _)
    | split | apply State.mk_follows

theorem State.closedAux_follows {σ s : State} (a : Nat) (hσ : σ.follows s) : σ.follows (State.closedAux s a) := by
  unfold State.closedAux
  repeat' first
    | with_reducible first
        | assumption | apply State.setMw_follows | apply State.ite_follows
    | split

theorem State.closeJournal_follows {σ s : State} (hσ : σ.follows s) : σ.follows (State.closeJournal s) := by
  unfold State.closeJournal
  repeat' first
    | with_reducible first
        | assumption | apply State.putB_follows | apply State.setBytes_follows | apply State.closedAux_follows
        | intro _ | (apply State.foldl_follows; intro _ _ _)
    | split | apply State.mk_follows

theorem State.rebuildIndex_follows {σ s : State} (hσ : σ.follows s) : σ.follows (State.rebuildIndex s) := by
  unfold State.rebuildIndex
  dsimp only
  repeat' first
    | with_reducible first
        | assumption | apply State.setReg_follows | apply State.put_follows | apply State.ite_follows
    | split | apply State.mk_follows

theorem State.devarReset_follows {σ s : State} (hσ : σ.follows s) : σ.follows (State.devarReset s) := by
  unfold State.devarReset
  dsimp only
  repeat' first
    | with_reducible first
        | assumption | apply State.putB_follows | apply State.ite_follows
    | split | apply State.mk_follows

theorem State.initLoops_follows {σ s : State} (hσ : σ.follows s) : σ.follows (State.initLoops s) := by
  unfold State.initLoops
  repeat' first
    | with_reducible first
        | assumption | apply State.loopInit_follows | intro _ | (apply State.foldl_follows; intro _ _ _)
    | split | apply State.mk_follows

theorem State.takeIds_follows {σ s : State} (hσ : σ.follows s) : σ.follows (State.takeIds s) := by
  unfold State.takeIds
  repeat' first
    | with_reducible first
        | assumption | apply State.takeId_follows | apply State.ite_follows
    | split

theorem State.vbkFell_follows {σ s : State} (hσ : σ.follows s) : σ.follows (State.vbkFell s) := by
  unfold State.vbkFell
  repeat' first
    | with_reducible first
        | assumption | apply State.setReg_follows | apply State.put_follows | apply State.fresh_follows
        | apply State.freshN_follows | apply State.ite_follows
    | split

theorem State.withDead_follows {σ s : State} (ws : List Nat) (f : State → State) (hf : ∀ t, σ.follows t →
    σ.follows (f t)) (hσ : σ.follows s) : σ.follows (State.withDead s ws f) := by
  unfold State.withDead
  repeat' first
    | with_reducible first
        | assumption | exact hf _ hσ | apply hf | apply State.setReg_follows | intro _
        | (apply State.foldl_follows; intro _ _ _)
    | split | apply State.mk_follows

theorem State.correctedReads_follows {σ s : State} (n : Nat) (hσ : σ.follows s) : σ.follows
    (State.correctedReads s n) := by
  unfold State.correctedReads
  repeat' first
    | with_reducible first
        | assumption | apply State.put_follows | apply State.prsEvt_follows | apply State.ite_follows
    | split

theorem execResetRelease_follows {σ s0 : State} (r : Release) (hσ : σ.follows s0) : σ.followedBy
    (execResetRelease r s0) := by
  unfold execResetRelease
  repeat' first
    | with_reducible first
        | assumption | apply State.next_follows | apply State.put_follows | apply State.emit_follows
        | apply State.changeMode_follows | apply State.restoreEnergy_follows | apply State.judgeBanks_follows
        | apply State.closeJournal_follows | apply State.rebuildIndex_follows | apply State.devarReset_follows
        | apply State.initLoops_follows | apply State.takeIds_follows | apply State.vbkFell_follows
        | apply State.withDead_follows | apply State.correctedReads_follows | intro _
        | (apply State.foldl_follows; intro _ _ _)
    | split | apply State.mk_follows

theorem State.bootEnd_follows {σ s : State} (ok : Bool) (hσ : σ.follows s) : σ.follows (State.bootEnd s ok) := by
  unfold State.bootEnd
  dsimp only
  repeat' first
    | with_reducible first
        | assumption | apply State.putB_follows | apply State.bootToSelftest_follows
        | apply State.judgeBanks_follows | apply State.ite_follows
    | split | apply State.mk_follows

theorem State.selectImage_follows {σ s : State} (hσ : σ.follows s) : σ.follows (State.selectImage s) := by
  unfold State.selectImage
  dsimp only
  repeat' first
    | with_reducible first
        | assumption | apply State.put_follows | apply State.bootEnd_follows | apply State.ite_follows
    | split | apply State.mk_follows

theorem execBootDone_follows {σ s : State} (hσ : σ.follows s) : σ.followedBy (execBootDone s) := by
  unfold execBootDone
  repeat' first
    | with_reducible first
        | assumption | apply State.next_follows | apply State.bootEnd_follows | apply State.selectImage_follows
        | apply State.ite_follows
    | split

theorem State.bistClear_follows {σ s : State} (h : σ.follows s) : σ.follows (State.bistClear s) :=
  State.memFilter_follows h _ rfl rfl rfl rfl

theorem State.loadAll_follows {σ s : State} (hσ : σ.follows s) : σ.follows (State.loadAll s) := by
  unfold State.loadAll
  repeat' first
    | with_reducible first
        | assumption | apply State.loadEngine_follows | intro _ | (apply State.foldl_follows; intro _ _ _)
    | split | apply State.mk_follows

theorem State.debugHold_follows {σ s : State} (hσ : σ.follows s) : σ.follows (State.debugHold s) := by
  unfold State.debugHold
  repeat' first
    | with_reducible first
        | assumption | apply State.put_follows | apply State.setCtx_follows | apply State.src_follows | intro _
        | (apply State.foldl_follows; intro _ _ _)
    | split | apply State.mk_follows

theorem State.startEngines_follows {σ s : State} (hσ : σ.follows s) : σ.follows (State.startEngines s) := by
  unfold State.startEngines
  repeat' first
    | with_reducible first
        | assumption | apply State.startCtx_follows | apply State.debugHold_follows | apply State.ite_follows
    | split

theorem execSelftestDone_follows {σ s0 : State} (found : Option (Fin 7)) (arg : Word) (pods : BitVec 12) (ms :
    Nat) (hσ : σ.follows s0) : σ.followedBy (execSelftestDone found arg pods ms s0) := by
  unfold execSelftestDone
  dsimp only
  repeat' first
    | with_reducible first
        | assumption | apply State.next_follows | apply State.put_follows | apply State.changeMode_follows
        | apply State.enterSafeStop_follows | apply State.deliverRef_follows
        | apply State.selftestFailed_follows | apply State.bistClear_follows | apply State.loadAll_follows
        | apply State.startEngines_follows | apply State.ite_follows
    | split | apply State.mk_follows

theorem State.orderlyDone_follows {σ s : State} (hσ : σ.follows s) : σ.follows (State.orderlyDone s) := by
  unfold State.orderlyDone
  repeat' first
    | with_reducible first
        | assumption | apply State.put_follows | apply State.finishR_follows | apply State.kOpen_follows
        | apply State.enterStandby_follows | apply State.applying_follows | intro _
        | (apply State.foldl_follows; intro _ _ _)
    | split | apply State.mk_follows

theorem execOrderlyStopDone_follows {σ s : State} (hσ : σ.follows s) : σ.followedBy (execOrderlyStopDone s) := by
  unfold execOrderlyStopDone
  repeat' first
    | with_reducible first
        | assumption | apply State.next_follows | apply State.orderlyDone_follows | apply State.ite_follows
    | split

theorem execBeq_follows {σ s : State} (e : CtxId) (d : VReg) (a : VReg) (off : BitVec 16) (hσ : σ.follows s) :
    σ.followedBy (execBeq e d a off s) := by
  unfold execBeq
  repeat' first
    | with_reducible first
        | assumption | apply State.next_follows | apply State.branch_follows | apply State.ite_follows
    | split

theorem execBne_follows {σ s : State} (e : CtxId) (d : VReg) (a : VReg) (off : BitVec 16) (hσ : σ.follows s) :
    σ.followedBy (execBne e d a off s) := by
  unfold execBne
  repeat' first
    | with_reducible first
        | assumption | apply State.next_follows | apply State.branch_follows | apply State.ite_follows
    | split

theorem execBlt_follows {σ s : State} (e : CtxId) (d : VReg) (a : VReg) (off : BitVec 16) (hσ : σ.follows s) :
    σ.followedBy (execBlt e d a off s) := by
  unfold execBlt
  repeat' first
    | with_reducible first
        | assumption | apply State.next_follows | apply State.branch_follows | apply State.ite_follows
    | split

theorem execBge_follows {σ s : State} (e : CtxId) (d : VReg) (a : VReg) (off : BitVec 16) (hσ : σ.follows s) :
    σ.followedBy (execBge e d a off s) := by
  unfold execBge
  repeat' first
    | with_reducible first
        | assumption | apply State.next_follows | apply State.branch_follows | apply State.ite_follows
    | split

theorem execBltu_follows {σ s : State} (e : CtxId) (d : VReg) (a : VReg) (off : BitVec 16) (hσ : σ.follows s) :
    σ.followedBy (execBltu e d a off s) := by
  unfold execBltu
  repeat' first
    | with_reducible first
        | assumption | apply State.next_follows | apply State.branch_follows | apply State.ite_follows
    | split

theorem execBgeu_follows {σ s : State} (e : CtxId) (d : VReg) (a : VReg) (off : BitVec 16) (hσ : σ.follows s) :
    σ.followedBy (execBgeu e d a off s) := by
  unfold execBgeu
  repeat' first
    | with_reducible first
        | assumption | apply State.next_follows | apply State.branch_follows | apply State.ite_follows
    | split

theorem execJl_follows {σ s : State} (e : CtxId) (d : VReg) (target : BitVec 16) (hσ : σ.follows s) :
    σ.followedBy (execJl e d target s) := by
  unfold execJl
  repeat' first
    | with_reducible first
        | assumption | apply State.next_follows | apply State.issue_follows | apply State.jump_follows | intro _
    | split | apply State.mk_follows

theorem State.copyDone_follows {σ s : State} (cmd : Option Nat) (hσ : σ.follows s) : σ.follows (State.copyDone s
    cmd) := by
  unfold State.copyDone
  dsimp only
  repeat' first
    | with_reducible first
        | assumption | apply State.setReg_follows | apply State.src_follows | apply State.respond_follows
        | apply State.ite_follows
    | split

theorem State.refusePersist_follows {σ s : State} (q : WReq) (hσ : σ.follows s) : σ.follows (State.refusePersist
    s q) := by
  unfold State.refusePersist
  dsimp only
  repeat' first
    | with_reducible first
        | assumption | apply State.finish_follows | apply State.ite_follows
    | split | apply State.mk_follows

theorem State.wordAfter_follows {σ s : State} (q : WReq) (hσ : σ.follows s) : σ.follows (State.wordAfter s q) := by
  unfold State.wordAfter
  repeat' first
    | with_reducible first
        | assumption | apply State.saveDone_follows | apply State.copyDone_follows | apply State.ite_follows
    | split

theorem State.wordDone_follows {σ s : State} (hot : Bool) (hσ : σ.follows s) : σ.follows (State.wordDone s hot) := by
  unfold State.wordDone
  dsimp only
  repeat' first
    | with_reducible first
        | assumption | apply State.setReg_follows | apply State.countWrite_follows
        | apply State.refuseWord_follows | apply State.storeNext_follows | apply State.slotRefused_follows
        | apply State.deferredReset_follows | apply State.refusePersist_follows | apply State.wordAfter_follows
        | apply State.ite_follows
    | split | apply State.mk_follows

theorem execPersistWordDone_follows {σ s : State} (hot : Bool) (hσ : σ.follows s) : σ.followedBy
    (execPersistWordDone hot s) := by
  unfold execPersistWordDone
  repeat' first
    | with_reducible first
        | assumption | apply State.next_follows | apply State.wordDone_follows | apply State.ite_follows
    | split

theorem execEnergySaveDone_follows {σ s : State} (hot : Bool) (hσ : σ.follows s) : σ.followedBy
    (execEnergySaveDone hot s) := by
  unfold execEnergySaveDone
  repeat' first
    | with_reducible first
        | assumption | apply State.next_follows | apply State.wordDone_follows | apply State.ite_follows
    | split

theorem State.countErase_follows {σ s : State} (b : Bool) (hσ : σ.follows s) : σ.follows (State.countErase s b) := by
  unfold State.countErase
  repeat' first
    | with_reducible first
        | assumption | apply State.put_follows | apply State.ite_follows
    | split

theorem State.eraseBank_follows {σ s : State} (b : Nat) (h : σ.follows s) : σ.follows (State.eraseBank s b) :=
  State.memFilter_follows h _ rfl rfl rfl rfl

theorem execEraseDone_follows {σ s : State} (hσ : σ.follows s) : σ.followedBy (execEraseDone s) := by
  unfold execEraseDone
  dsimp only
  repeat' first
    | with_reducible first
        | assumption | apply State.next_follows | apply State.finishR_follows | apply State.judgeBanks_follows
        | apply State.countErase_follows | apply State.eraseBank_follows | apply State.ite_follows
    | split | apply State.mk_follows

theorem State.activate_follows {σ s : State} (hσ : σ.follows s) : σ.follows (State.activate s) := by
  unfold State.activate
  dsimp only
  repeat' first
    | with_reducible first
        | assumption | apply State.put_follows | apply State.judgeBanks_follows | apply State.bootEnd_follows
        | apply State.ite_follows
    | split | apply State.mk_follows

theorem execProgrammingDone_follows {σ s : State} (hσ : σ.follows s) : σ.followedBy (execProgrammingDone s) := by
  unfold execProgrammingDone
  dsimp only
  repeat' first
    | with_reducible first
        | assumption | apply State.next_follows | apply State.setMw_follows | apply State.finish_follows
        | apply State.judgeBanks_follows | apply State.activate_follows | apply State.ite_follows
    | split | apply State.mk_follows

theorem State.linkToConfigure_follows {σ s : State} (n : Link) (hσ : σ.follows s) : σ.follows
    (State.linkToConfigure s n) := by
  unfold State.linkToConfigure
  repeat' first
    | with_reducible first
        | assumption | apply State.put_follows | apply State.setLnk_follows | apply State.emit_follows
        | apply State.storeCfg_follows | apply State.ite_follows
    | split

theorem State.enterConfigure_follows {σ s : State} (hσ : σ.follows s) : σ.follows (State.enterConfigure s) := by
  unfold State.enterConfigure
  repeat' first
    | with_reducible first
        | assumption | apply State.settle_follows | apply State.changeMode_follows
        | apply State.linkToConfigure_follows | intro _ | (apply State.foldl_follows; intro _ _ _)
    | split | apply State.mk_follows

theorem State.setMode_follows {σ s : State} (m : Nat) (h : σ.follows s) : σ.follows (State.setMode s m).2.1 := by
  have soft : σ.follows { s with softReset := true } := State.upd_follows h rfl rfl rfl rfl
  unfold State.setMode
  dsimp only
  repeat' split
  all_goals with_reducible first
    | assumption
    | exact State.startSeqs_follows (State.enterStandby_follows h)
    | exact State.enterConfigure_follows h
    | exact State.pchEnter_follows (State.changeMode_follows _ h)
    | exact State.changeMode_follows _ h
    | exact State.enterStandby_follows h
    | exact State.foldl_follows (fun _ k t => State.stopStage_follows k t) h

theorem State.modeRequest_follows {σ s : State} (m : Nat) (h : σ.follows s) : σ.follows (State.modeRequest s m) := by
  have k := State.setMode_follows m h
  unfold State.modeRequest
  generalize State.setMode s m = x at k
  obtain ⟨r, t, fly⟩ := x
  dsimp only at k ⊢
  split
  · split
    · exact State.put_follows _ _ k
    · exact State.orderlyDone_follows (State.put_follows _ _ k)
  · exact State.put_follows _ _ k

end Sys2Proof.Machine
end

