-- ==== Sys2Proof/Laws/FollowsRegs.lean ====
section
/-! SUPPORT. What every operation respects (`State.follows`): register reads and writes, links, comparators and group commits. -/

namespace Sys2Proof.Machine

theorem State.latch_follows {σ s : State} (a : Nat) (w : Word) (hσ : σ.follows s) : σ.follows (State.latch s a
    w) := by
  unfold State.latch
  repeat' first
    | with_reducible first
        | assumption
    | split | apply State.mk_follows

theorem State.touch_follows {σ s : State} (a : Nat) (hσ : σ.follows s) : σ.follows (State.touch s a) := by
  unfold State.touch
  repeat' first
    | with_reducible first
        | assumption | apply State.setCtx_follows | apply State.fresh_follows
        | apply State.latchQuantities_follows | apply State.fillReadBuffer_follows
        | apply State.avgLatch_follows | apply State.latch_follows | apply State.ite_follows
    | split

theorem State.extReplay_follows {σ s : State} (a : Nat) (hσ : σ.follows s) : σ.follows (State.extReplay s a) := by
  unfold State.extReplay
  repeat' first
    | with_reducible first
        | assumption | apply State.bump_follows | apply State.raise_follows | apply State.ite_follows
    | split

theorem State.parityOf_follows {σ s : State} (a : Nat) (p : Par) (h : σ.follows s) : σ.follows (s.parityOf a
    p).2 := by
  cases p
  · exact h
  · unfold State.parityOf
    dsimp only
    split
    · exact State.prsEvt_follows _ (State.bump_follows _ h)
    · split
      · exact h
      · exact State.extReplay_follows _ h
  · unfold State.parityOf
    dsimp only
    split
    · exact h
    · split
      · exact h
      · exact State.report_follows _ _ _ (State.extReplay_follows _ h)

theorem State.readWord_follows {σ s : State} (a : Nat) (p : Par) (hσ : σ.follows s) : σ.follows (State.readWord
    s a p).2.2 := by
  unfold State.readWord
  dsimp only
  repeat' first
    | with_reducible first
        | assumption | apply State.touch_follows | apply State.parityOf_follows | apply State.ite_follows
    | split

theorem State.readOut_follows {σ s : State} (a : Nat) (hσ : σ.follows s) : σ.follows (State.readOut s a) := by
  unfold State.readOut
  repeat' first
    | with_reducible first
        | assumption | apply State.emit_follows | apply State.readWord_follows | apply State.ite_follows
    | split

theorem execEtimeRead_follows {σ s : State} (r : Fin 15) (hσ : σ.follows s) : σ.followedBy (execEtimeRead r s) := by
  unfold execEtimeRead
  repeat' first
    | with_reducible first
        | assumption | apply State.next_follows | apply State.readOut_follows | apply State.ite_follows
    | split

theorem execSfReadClear_follows {σ s : State} (e : CtxId) (hσ : σ.follows s) : σ.followedBy (execSfReadClear e
    s) := by
  unfold execSfReadClear
  repeat' first
    | with_reducible first
        | assumption | apply State.next_follows | apply State.readOut_follows | apply State.ite_follows
    | split

theorem execAdcAvgRead_follows {σ s : State} (e : Fin 64) (hσ : σ.follows s) : σ.followedBy (execAdcAvgRead e s) := by
  unfold execAdcAvgRead
  repeat' first
    | with_reducible first
        | assumption | apply State.next_follows | apply State.readOut_follows | apply State.ite_follows
    | split

theorem execMtrVrms0Read_follows {σ s : State} (m : Fin 4) (hσ : σ.follows s) : σ.followedBy (execMtrVrms0Read m
    s) := by
  unfold execMtrVrms0Read
  repeat' first
    | with_reducible first
        | assumption | apply State.next_follows | apply State.readOut_follows | apply State.ite_follows
    | split

theorem execMtrLseqRead_follows {σ s : State} (m : Fin 4) (hσ : σ.follows s) : σ.followedBy (execMtrLseqRead m
    s) := by
  unfold execMtrLseqRead
  repeat' first
    | with_reducible first
        | assumption | apply State.next_follows | apply State.readOut_follows | apply State.ite_follows
    | split

theorem execRtcRead_follows {σ s : State} (hσ : σ.follows s) : σ.followedBy (execRtcRead s) := by
  unfold execRtcRead
  repeat' first
    | with_reducible first
        | assumption | apply State.next_follows | apply State.readOut_follows | apply State.ite_follows
    | split

theorem State.setHolder_follows {σ s : State} (k : Nat) (p : Nat) (hσ : σ.follows s) : σ.follows
    (State.setHolder s k p) := by
  unfold State.setHolder
  repeat' first
    | with_reducible first
        | assumption | apply State.put_follows | apply State.ite_follows
    | split

theorem State.asWritten_follows {σ s : State} (ws : List AW) (hσ : σ.follows s) : σ.follows (State.asWritten s
    ws) := by
  unfold State.asWritten
  repeat' first
    | with_reducible first
        | assumption | apply State.mergeReg_follows | intro _ | (apply State.foldl_follows; intro _ _ _)
    | split | apply State.mk_follows

theorem State.sendWord_follows {σ s : State} (n : Link) (start : Nat) (data : List Byte) (hσ : σ.follows s) :
    σ.follows (State.sendWord s n start data) := by
  unfold State.sendWord
  repeat' first
    | with_reducible first
        | assumption | apply State.emit_follows | apply State.ite_follows
    | split

theorem State.sendEdge_follows {σ s : State} (n : Link) (e : Edge) (typ : Nat) (stamp : Nat) (hσ : σ.follows s)
    : σ.follows (State.sendEdge s n e typ stamp) := by
  unfold State.sendEdge
  repeat' first
    | with_reducible first
        | assumption | apply State.setLnk_follows | apply State.sendWord_follows | apply State.ite_follows
    | split

theorem execEdgeCommand_follows {σ s : State} (n : Link) (hσ : σ.follows s) : σ.followedBy (execEdgeCommand n s) := by
  unfold execEdgeCommand
  dsimp only
  repeat' first
    | with_reducible first
        | assumption | apply State.next_follows | apply State.toInstant_follows | apply State.sendEdge_follows
        | apply State.ite_follows
    | split | apply State.mk_follows

theorem State.sendImm_follows {σ s : State} (n : Link) (k : Stage) (x : Imm) (hσ : σ.follows s) : σ.follows
    (State.sendImm s n k x) := by
  unfold State.sendImm
  dsimp only
  repeat' first
    | with_reducible first
        | assumption | apply State.report_follows | apply State.stgEvt_follows | apply State.sendEdge_follows
        | apply State.ite_follows
    | split | apply State.mk_follows

theorem execImmediateOff_follows {σ s : State} (n : Link) (hσ : σ.follows s) : σ.followedBy (execImmediateOff n
    s) := by
  unfold execImmediateOff
  repeat' first
    | with_reducible first
        | assumption | apply State.next_follows | apply State.sendImm_follows | apply State.ite_follows
    | split

theorem execSyncWord_follows {σ s : State} (n : Link) (t : Nat) (hσ : σ.follows s) : σ.followedBy (execSyncWord
    n t s) := by
  unfold execSyncWord
  repeat' first
    | with_reducible first
        | assumption | apply State.next_follows | apply State.toInstant_follows | apply State.sendWord_follows
        | apply State.ite_follows
    | split

theorem State.queueCfg_follows {σ s : State} (n : Link) (w : CfgWord) (hσ : σ.follows s) : σ.follows
    (State.queueCfg s n w) := by
  unfold State.queueCfg
  repeat' first
    | with_reducible first
        | assumption | apply State.setLnk_follows | apply State.ite_follows
    | split

theorem State.podWrite_follows {σ s : State} (n : Link) (i : Nat) (a : Nat) (v : Word) (m : Word) (cmd : Option
    Nat) (restoring : Bool) (hσ : σ.follows s) : σ.follows (State.podWrite s n i a v m cmd restoring) := by
  unfold State.podWrite
  repeat' first
    | with_reducible first
        | assumption | apply State.mergeReg_follows | apply State.queueCfg_follows | apply State.ite_follows
    | split

theorem execConfigurationWord_follows {σ s : State} (n : Link) (hσ : σ.follows s) : σ.followedBy
    (execConfigurationWord n s) := by
  unfold execConfigurationWord
  repeat' first
    | with_reducible first
        | assumption | apply State.next_follows | apply State.setLnk_follows | apply State.sendWord_follows
        | apply State.ite_follows
    | split

theorem State.linkEvt_follows {σ s : State} (n : Link) (b : Nat) (hσ : σ.follows s) : σ.follows (State.linkEvt s
    n b) := by
  unfold State.linkEvt
  repeat' first
    | with_reducible first
        | assumption | apply State.src_follows | apply State.ite_follows
    | split

theorem State.upWord_follows {σ s : State} (n : Link) (data : List Byte) (crc : Byte) (t : State) (hxt :
    σ.follows t) (hσ : σ.follows s) : σ.followedBy (State.upWord s n data crc t) := by
  unfold State.upWord
  repeat' first
    | with_reducible first
        | assumption | apply State.next_follows | apply State.bump_follows | apply State.heard_follows
        | apply State.ite_follows
    | split

theorem State.seqFail_follows {σ s : State} (n : Link) (hσ : σ.follows s) : σ.follows (State.seqFail s n) := by
  unfold State.seqFail
  repeat' first
    | with_reducible first
        | assumption | apply State.settle_follows | apply State.partLink_follows
        | apply State.seqsFailed_follows | apply State.ite_follows
    | split

theorem State.linkEn_follows {σ s : State} (n : Link) (hσ : σ.follows s) : σ.follows (State.linkEn s n) := by
  unfold State.linkEn
  dsimp only
  repeat' first
    | with_reducible first
        | assumption | apply State.put_follows | apply State.setLnk_follows | apply State.closeEpisode_follows
        | apply State.ite_follows
    | split | apply State.mk_follows

theorem execIdWord_follows {σ s : State} (u : Upward) (rev : Byte) (tpod : Byte) (fitted : Byte) (cap : Byte)
    (typ : BitVec 16) (hσ : σ.follows s) : σ.followedBy (execIdWord u rev tpod fitted cap typ s) := by
  unfold execIdWord
  repeat' first
    | with_reducible first
        | assumption | apply State.next_follows | apply State.setReg_follows | apply State.put_follows
        | apply State.setLnk_follows | apply State.emit_follows | apply State.upWord_follows
        | apply State.seqFail_follows | apply State.ite_follows
    | split

theorem execEchoResponse_follows {σ s : State} (n : Link) (rt : Nat) (hσ : σ.follows s) : σ.followedBy
    (execEchoResponse n rt s) := by
  unfold execEchoResponse
  repeat' first
    | with_reducible first
        | assumption | apply State.next_follows | apply State.put_follows | apply State.setLnk_follows
        | apply State.heard_follows | apply State.seqFail_follows | apply State.ite_follows
    | split

theorem execEnableTimeout_follows {σ s : State} (n : Link) (hσ : σ.follows s) : σ.followedBy (execEnableTimeout
    n s) := by
  unfold execEnableTimeout
  repeat' first
    | with_reducible first
        | assumption | apply State.next_follows | apply State.seqFail_follows | apply State.ite_follows
    | split

theorem State.sendEnable_follows {σ s : State} (n : Link) (hσ : σ.follows s) : σ.follows (State.sendEnable s n) := by
  unfold State.sendEnable
  repeat' first
    | with_reducible first
        | assumption | apply State.setLnk_follows | apply State.emit_follows | apply State.sendWord_follows
        | apply State.ite_follows
    | split

theorem execConfigurationAck_follows {σ s : State} (u : Upward) (tag : Byte) (hσ : σ.follows s) : σ.followedBy
    (execConfigurationAck u tag s) := by
  unfold execConfigurationAck
  dsimp only
  repeat' first
    | with_reducible first
        | assumption | apply State.next_follows | apply State.mergeReg_follows | apply State.setLnk_follows
        | apply State.settle_follows | apply State.upWord_follows | apply State.sendEnable_follows
        | apply State.ite_follows
    | split

theorem State.tripMask_follows {σ s : State} (n : Link) (m : Byte) (hσ : σ.follows s) : σ.follows
    (State.tripMask s n m) := by
  unfold State.tripMask
  repeat' first
    | with_reducible first
        | assumption | apply State.put_follows | apply State.setLnk_follows | apply State.ite_follows
    | split

theorem State.monitor_follows {σ s : State} (n : Link) (i : Nat) (v : Byte) (hσ : σ.follows s) : σ.follows
    (State.monitor s n i v) := by
  unfold State.monitor
  repeat' first
    | with_reducible first
        | assumption | apply State.put_follows | apply State.tripMask_follows | apply State.ite_follows
    | split

theorem execStatusWord_follows {σ s : State} (u : Upward) (states : Byte) (flags : Byte) (idx : Byte) (val :
    Byte) (hσ : σ.follows s) : σ.followedBy (execStatusWord u states flags idx val s) := by
  unfold execStatusWord
  repeat' first
    | with_reducible first
        | assumption | apply State.next_follows | apply State.put_follows | apply State.putB_follows
        | apply State.upWord_follows | apply State.linkEn_follows | apply State.monitor_follows
        | apply State.ite_follows
    | split

theorem execLinkSilence_follows {σ s : State} (n : Link) (hσ : σ.follows s) : σ.followedBy (execLinkSilence n s) := by
  unfold execLinkSilence
  repeat' first
    | with_reducible first
        | assumption | apply State.next_follows | apply State.heard_follows | apply State.report_follows
        | apply State.linkEvt_follows | apply State.ite_follows
    | split

theorem execUpstreamWordDiscarded_follows {σ s : State} (n : Link) (hσ : σ.follows s) : σ.followedBy
    (execUpstreamWordDiscarded n s) := by
  unfold execUpstreamWordDiscarded
  repeat' first
    | with_reducible first
        | assumption | apply State.next_follows | apply State.bump_follows | apply State.heard_follows
        | apply State.ite_follows
    | split

theorem execRxLock_follows {σ s : State} (n : Link) (hσ : σ.follows s) : σ.followedBy (execRxLock n s) := by
  unfold execRxLock
  repeat' first
    | with_reducible first
        | assumption | apply State.next_follows | apply State.put_follows | apply State.heard_follows
        | apply State.ite_follows
    | split

theorem execRxLoss_follows {σ s : State} (n : Link) (hσ : σ.follows s) : σ.followedBy (execRxLoss n s) := by
  unfold execRxLoss
  repeat' first
    | with_reducible first
        | assumption | apply State.next_follows | apply State.put_follows | apply State.heard_follows
        | apply State.ite_follows
    | split

theorem execTripPair_follows {σ s : State} (n : Link) (hσ : σ.follows s) : σ.followedBy (execTripPair n s) := by
  unfold execTripPair
  repeat' first
    | with_reducible first
        | assumption | apply State.next_follows | apply State.setLnk_follows | apply State.heard_follows
        | apply State.report_follows | apply State.linkEvt_follows | apply State.ite_follows
    | split

theorem State.tripWord_follows {σ s : State} (n : Link) (bit : Nat) (sw : Fin 8) (hσ : σ.follows s) : σ.follows
    (State.tripWord s n bit sw) := by
  unfold State.tripWord
  repeat' first
    | with_reducible first
        | assumption | apply State.setReg_follows | apply State.set1_follows | apply State.setLnk_follows
        | apply State.report_follows | apply State.ite_follows
    | split

theorem execDidtTrip_follows {σ s : State} (u : Upward) (sw : Fin 8) (hσ : σ.follows s) : σ.followedBy
    (execDidtTrip u sw s) := by
  unfold execDidtTrip
  repeat' first
    | with_reducible first
        | assumption | apply State.next_follows | apply State.upWord_follows | apply State.tripWord_follows
        | apply State.ite_follows
    | split

theorem execDesaturationTrip_follows {σ s : State} (u : Upward) (sw : Fin 8) (hσ : σ.follows s) : σ.followedBy
    (execDesaturationTrip u sw s) := by
  unfold execDesaturationTrip
  repeat' first
    | with_reducible first
        | assumption | apply State.next_follows | apply State.upWord_follows | apply State.tripWord_follows
        | apply State.ite_follows
    | split

theorem State.podFault_follows {σ s : State} (n : Link) (typ : Byte) (arg : Byte) (hσ : σ.follows s) : σ.follows
    (State.podFault s n typ arg) := by
  unfold State.podFault
  repeat' first
    | with_reducible first
        | assumption | apply State.report_follows | apply State.linkEvt_follows | apply State.ite_follows
    | split

theorem execGateSupplyFault_follows {σ s : State} (u : Upward) (idx : Byte) (val : Byte) (hσ : σ.follows s) :
    σ.followedBy (execGateSupplyFault u idx val s) := by
  unfold execGateSupplyFault
  repeat' first
    | with_reducible first
        | assumption | apply State.next_follows | apply State.upWord_follows | apply State.podFault_follows
        | apply State.ite_follows
    | split

theorem execOvertempShutdown_follows {σ s : State} (u : Upward) (temp : Byte) (hσ : σ.follows s) : σ.followedBy
    (execOvertempShutdown u temp s) := by
  unfold execOvertempShutdown
  repeat' first
    | with_reducible first
        | assumption | apply State.next_follows | apply State.upWord_follows | apply State.podFault_follows
        | apply State.ite_follows
    | split

theorem execOvertempWarning_follows {σ s : State} (u : Upward) (temp : Byte) (hσ : σ.follows s) : σ.followedBy
    (execOvertempWarning u temp s) := by
  unfold execOvertempWarning
  repeat' first
    | with_reducible first
        | assumption | apply State.next_follows | apply State.report_follows | apply State.linkEvt_follows
        | apply State.upWord_follows | apply State.ite_follows
    | split

theorem execDownstreamWordDiscarded_follows {σ s : State} (u : Upward) (count : Byte) (hσ : σ.follows s) :
    σ.followedBy (execDownstreamWordDiscarded u count s) := by
  unfold execDownstreamWordDiscarded
  repeat' first
    | with_reducible first
        | assumption | apply State.next_follows | apply State.upWord_follows | apply State.podFault_follows
        | apply State.ite_follows
    | split

theorem execLateTimedCommand_follows {σ s : State} (u : Upward) (sw : Byte) (seq : Byte) (hσ : σ.follows s) :
    σ.followedBy (execLateTimedCommand u sw seq s) := by
  unfold execLateTimedCommand
  repeat' first
    | with_reducible first
        | assumption | apply State.next_follows | apply State.upWord_follows | apply State.podFault_follows
        | apply State.ite_follows
    | split

theorem execPodInterlockDrop_follows {σ s : State} (u : Upward) (sw : Byte) (seq : Byte) (hσ : σ.follows s) :
    σ.followedBy (execPodInterlockDrop u sw seq s) := by
  unfold execPodInterlockDrop
  repeat' first
    | with_reducible first
        | assumption | apply State.next_follows | apply State.upWord_follows | apply State.podFault_follows
        | apply State.ite_follows
    | split

theorem execEdgeQueueFull_follows {σ s : State} (u : Upward) (sw : Byte) (seq : Byte) (hσ : σ.follows s) :
    σ.followedBy (execEdgeQueueFull u sw seq s) := by
  unfold execEdgeQueueFull
  repeat' first
    | with_reducible first
        | assumption | apply State.next_follows | apply State.upWord_follows | apply State.podFault_follows
        | apply State.ite_follows
    | split

theorem State.dvUpdate_follows {σ s : State} (n : Link) (i : Fin 8) (pol : Bool) (b : Nat) (t : Nat) (hσ :
    σ.follows s) : σ.follows (State.dvUpdate s n i pol b t) := by
  unfold State.dvUpdate
  repeat' first
    | with_reducible first
        | assumption | apply State.put_follows | apply State.setLnk_follows | apply State.ite_follows
    | split

theorem State.dtUpdate_follows {σ s : State} (n : Link) (sw : Nat) (b : Nat) (t2 : Nat) (hσ : σ.follows s) :
    σ.follows (State.dtUpdate s n sw b t2) := by
  unfold State.dtUpdate
  repeat' first
    | with_reducible first
        | assumption | apply State.put_follows | apply State.setLnk_follows | apply State.ite_follows
    | split

theorem execCrossingWord_follows {σ s : State} (u : Upward) (i : Fin 8) (pol : Bool) (seq : BitVec 4) (t1 :
    BitVec 16) (t2 : BitVec 16) (hσ : σ.follows s) : σ.followedBy (execCrossingWord u i pol seq t1 t2 s) := by
  unfold execCrossingWord
  dsimp only
  repeat' first
    | with_reducible first
        | assumption | apply State.next_follows | apply State.bump_follows | apply State.upWord_follows
        | apply State.dvUpdate_follows | apply State.dtUpdate_follows | apply State.ite_follows
    | split

theorem execLinkToDis_follows {σ s : State} (n : Link) (hσ : σ.follows s) : σ.followedBy (execLinkToDis n s) := by
  unfold execLinkToDis
  repeat' first
    | with_reducible first
        | assumption | apply State.next_follows | apply State.put_follows | apply State.setLnk_follows
        | apply State.emit_follows | apply State.ite_follows
    | split

theorem State.thrWrite_follows {σ s : State} (c : Fin 24) (hσ : σ.follows s) : σ.follows (State.thrWrite s c) := by
  unfold State.thrWrite
  repeat' first
    | with_reducible first
        | assumption
    | split | apply State.mk_follows

theorem State.noteComm_follows {σ s : State} (k : Stage) (c : Nat) (hσ : σ.follows s) : σ.follows
    (State.noteComm s k c) := by
  unfold State.noteComm
  repeat' first
    | with_reducible first
        | assumption | apply State.setStg_follows | apply State.ite_follows
    | split

theorem State.truncate_follows {σ s : State} (k : Stage) (sw : Nat) (hσ : σ.follows s) : σ.follows
    (State.truncate s k sw) := by
  unfold State.truncate
  dsimp only
  repeat' first
    | with_reducible first
        | assumption | apply State.bump_follows | apply State.setStg_follows | apply State.ite_follows
    | split | apply State.mk_follows

theorem State.limitDecision_follows {σ s : State} (k : Stage) (t : Nat) (hσ : σ.follows s) : σ.follows
    (State.limitDecision s k t) := by
  unfold State.limitDecision
  try dsimp only
  repeat' first
    | with_reducible first
        | assumption | intro _ | apply State.stgEvt_follows | apply State.limitNote_follows
        | apply State.truncate_follows | (apply State.foldl_follows; intro _ _ _)
        | (refine State.pair_follows ?_ (by assumption)) | (refine State.triple_follows ?_ (by assumption))
        | apply State.ite_follows
    | split | dsimp only | apply State.mk_follows

theorem State.overshoot_follows {σ s : State} (k : Stage) (t : Nat) (hσ : σ.follows s) : σ.follows
    (State.overshoot s k t) := by
  unfold State.overshoot
  try dsimp only
  repeat' first
    | with_reducible first
        | assumption | intro _ | apply State.stgEvt_follows | apply State.truncate_follows
        | (apply State.foldl_follows; intro _ _ _) | (refine State.pair_follows ?_ (by assumption))
        | (refine State.triple_follows ?_ (by assumption)) | apply State.ite_follows
    | split | dsimp only | apply State.mk_follows

theorem State.watched_follows {σ s : State} (k : Stage) (c : Nat) (t : Nat) (hσ : σ.follows s) : σ.follows
    (State.watched s k c t) := by
  unfold State.watched
  repeat' first
    | with_reducible first
        | assumption | apply State.noteComm_follows | apply State.limitDecision_follows
        | apply State.overshoot_follows | apply State.ite_follows
    | split

theorem State.cmpTrip_follows {σ s : State} (c : Fin 24) (t : Nat) (side : Nat) (hσ : σ.follows s) : σ.follows
    (State.cmpTrip s c t side) := by
  unfold State.cmpTrip
  try dsimp only
  repeat' first
    | with_reducible first
        | assumption | intro _ | apply State.put_follows | apply State.set1_follows | apply State.bump_follows
        | apply State.src_follows | apply State.partAll_follows | apply State.report_follows
        | apply State.watched_follows | (apply State.foldl_follows; intro _ _ _)
        | (refine State.pair_follows ?_ (by assumption)) | (refine State.triple_follows ?_ (by assumption))
        | apply State.ite_follows
    | split | dsimp only | apply State.mk_follows

theorem execComparatorDecision_follows {σ s0 : State} (c : Fin 24) (t : Nat) (lvl : Nat) (hσ : σ.follows s0) :
    σ.followedBy (execComparatorDecision c t lvl s0) := by
  unfold execComparatorDecision
  dsimp only
  repeat' first
    | with_reducible first
        | assumption | apply State.next_follows | apply State.put_follows | apply State.putB_follows
        | apply State.toInstant_follows | apply State.cmpTrip_follows | apply State.ite_follows
    | split | apply State.mk_follows

theorem execComparatorArmed_follows {σ s : State} (c : Fin 24) (hσ : σ.follows s) : σ.followedBy
    (execComparatorArmed c s) := by
  unfold execComparatorArmed
  repeat' first
    | with_reducible first
        | assumption | apply State.next_follows | apply State.put_follows | apply State.toInstant_follows
        | apply State.ite_follows
    | split

theorem State.cmpPower_follows {σ s : State} (c : Fin 24) (on : Bool) (hσ : σ.follows s) : σ.follows
    (State.cmpPower s c on) := by
  unfold State.cmpPower
  dsimp only
  repeat' first
    | with_reducible first
        | assumption | apply State.put_follows | apply State.ite_follows
    | split | apply State.mk_follows

theorem State.plain_follows {σ s : State} (cmd : Option Nat) (a : Nat) (v : Word) (hσ : σ.follows s) : σ.follows
    (State.plain s cmd a v) := by
  unfold State.plain
  dsimp only
  repeat' first
    | with_reducible first
        | assumption | apply State.setReg_follows | apply State.applyWord_follows | apply State.takeOpen_follows
        | apply State.ite_follows
    | split | apply State.mk_follows

theorem State.writeMem_follows {σ s : State} (a : Nat) (v : Word) (hσ : σ.follows s) : σ.follows (State.writeMem
    s a v).2 := by
  unfold State.writeMem
  repeat' first
    | with_reducible first
        | assumption | apply State.setMw_follows | apply State.ite_follows
    | split

theorem State.writeSys_follows {σ s : State} (cmd : Option Nat) (a : Nat) (v : Word) (hσ : σ.follows s) :
    σ.follows (State.writeSys s cmd a v).2 := by
  unfold State.writeSys
  repeat' first
    | with_reducible first
        | assumption | apply State.modeRequest_follows | apply State.plain_follows
    | split | apply State.mk_follows

theorem State.writeFlt_follows {σ s : State} (cmd : Option Nat) (a : Nat) (v : Word) (hσ : σ.follows s) :
    σ.follows (State.writeFlt s cmd a v).2 := by
  unfold State.writeFlt
  repeat' first
    | with_reducible first
        | assumption | apply State.fltCclr_follows | apply State.autoEn_follows | apply State.plain_follows
        | apply State.ite_follows
    | split

theorem State.ecfgWrite_follows {σ s : State} (cmd : Option Nat) (e : Fin 64) (v : Word) (hσ : σ.follows s) :
    σ.follows (State.ecfgWrite s cmd e v) := by
  unfold State.ecfgWrite
  try dsimp only
  repeat' first
    | with_reducible first
        | assumption | intro _ | apply State.setEnt_follows | apply State.plausClear_follows
        | apply State.plain_follows | (apply State.foldl_follows; intro _ _ _)
        | (refine State.pair_follows ?_ (by assumption)) | (refine State.triple_follows ?_ (by assumption))
        | apply State.ite_follows
    | split | dsimp only | apply State.mk_follows

theorem State.cmpCfgWrite_follows {σ s0 : State} (cmd : Option Nat) (c : Fin 24) (v : Word) (hσ : σ.follows s0)
    : σ.follows (State.cmpCfgWrite s0 cmd c v).2 := by
  unfold State.cmpCfgWrite
  dsimp only
  repeat' first
    | with_reducible first
        | assumption | apply State.freshN_follows | apply State.cmpPower_follows | apply State.plain_follows
        | apply State.ite_follows
    | split | apply State.mk_follows

theorem State.cmpStatWrite_follows {σ s : State} (cmd : Option Nat) (c : Fin 24) (v : Word) (hσ : σ.follows s) :
    σ.follows (State.cmpStatWrite s cmd c v) := by
  unfold State.cmpStatWrite
  repeat' first
    | with_reducible first
        | assumption | apply State.put_follows | apply State.plain_follows | apply State.ite_follows
    | split

theorem State.adcCtlWrite_follows {σ s : State} (v : Word) (hσ : σ.follows s) : σ.follows (State.adcCtlWrite s
    v).2 := by
  unfold State.adcCtlWrite
  dsimp only
  repeat' first
    | with_reducible first
        | assumption | apply State.adcRestart_follows | apply State.adcCal_follows | apply State.ite_follows
    | split

theorem State.plstWrite_follows {σ s : State} (cmd : Option Nat) (e : Fin 64) (v : Word) (hσ : σ.follows s) :
    σ.follows (State.plstWrite s cmd e v) := by
  unfold State.plstWrite
  repeat' first
    | with_reducible first
        | assumption | apply State.mmClear_follows | apply State.plain_follows | apply State.ite_follows
    | split

theorem State.writeAdc_follows {σ s : State} (cmd : Option Nat) (a : Nat) (v : Word) (hσ : σ.follows s) :
    σ.follows (State.writeAdc s cmd a v).2 := by
  unfold State.writeAdc
  repeat' first
    | with_reducible first
        | assumption | apply State.scanWrite_follows | apply State.thrWrite_follows | apply State.plain_follows
        | apply State.ecfgWrite_follows | apply State.cmpCfgWrite_follows | apply State.cmpStatWrite_follows
        | apply State.adcCtlWrite_follows | apply State.plstWrite_follows | apply State.ite_follows
    | split

theorem State.runWrite_follows {σ s : State} (k : Stage) (on : Bool) (hσ : σ.follows s) : σ.follows
    (State.runWrite s k on).2 := by
  unfold State.runWrite
  dsimp only
  repeat' first
    | with_reducible first
        | assumption | apply State.startStage_follows | apply State.stopStage_follows | apply State.ite_follows
    | split

theorem State.stgCtlWrite_follows {σ s : State} (k : Stage) (v : Word) (hσ : σ.follows s) : σ.follows
    (State.stgCtlWrite s k v).2 := by
  unfold State.stgCtlWrite
  dsimp only
  repeat' first
    | with_reducible first
        | assumption | apply State.tbWrite_follows | apply State.stgClr_follows | apply State.runWrite_follows
        | apply State.ite_follows
    | split

theorem State.tblCtlWrite_follows {σ s : State} (cmd : Option Nat) (k : Stage) (v : Word) (hσ : σ.follows s) :
    σ.follows (State.tblCtlWrite s cmd k v).2 := by
  unfold State.tblCtlWrite
  dsimp only
  repeat' first
    | with_reducible first
        | assumption | apply State.setReg_follows | apply State.tblClear_follows | apply State.plain_follows
        | apply State.ite_follows
    | split

theorem State.writeStg_follows {σ s : State} (cmd : Option Nat) (a : Nat) (v : Word) (hσ : σ.follows s) :
    σ.follows (State.writeStg s cmd a v).2 := by
  unfold State.writeStg
  repeat' first
    | with_reducible first
        | assumption | apply State.plain_follows | apply State.stgCtlWrite_follows
        | apply State.tblCtlWrite_follows | apply State.ite_follows
    | split

theorem State.aloopWrite_follows {σ s : State} (cmd : Option Nat) (n : Link) (v : Word) (hσ : σ.follows s) :
    σ.follows (State.aloopWrite s cmd n v) := by
  unfold State.aloopWrite
  try dsimp only
  repeat' first
    | with_reducible first
        | assumption | intro _ | apply State.loopInit_follows | apply State.plain_follows
        | (apply State.foldl_follows; intro _ _ _) | (refine State.pair_follows ?_ (by assumption))
        | (refine State.triple_follows ?_ (by assumption)) | apply State.ite_follows
    | split | dsimp only | apply State.mk_follows

theorem State.glCtlWrite_follows {σ s : State} (cmd : Option Nat) (n : Link) (v : Word) (hσ : σ.follows s) :
    σ.follows (State.glCtlWrite s cmd n v).2 := by
  unfold State.glCtlWrite
  repeat' first
    | with_reducible first
        | assumption | apply State.startSeq_follows | apply State.plain_follows | apply State.ite_follows
    | split

theorem State.writeGl_follows {σ s : State} (cmd : Option Nat) (a : Nat) (v : Word) (hσ : σ.follows s) :
    σ.follows (State.writeGl s cmd a v).2 := by
  unfold State.writeGl
  dsimp only
  repeat' first
    | with_reducible first
        | assumption | apply State.mergeReg_follows | apply State.podWrite_follows | apply State.plain_follows
        | apply State.aloopWrite_follows | apply State.glCtlWrite_follows | apply State.ite_follows
    | split

theorem State.lthCtlChan_follows {σ : State} (c : Nat) (k : Stage) (v : Word) {x : Nat × State} (h : σ.follows x.2) :
    σ.follows (State.lthCtlChan c k v x).2 := by
  obtain ⟨r, s⟩ := x
  dsimp only at h
  have h1 : σ.follows (if natBit v.toNat c then s.startCtx (ctxOf k) else s) := by
    split
    · exact State.startCtx_follows _ h
    · exact h
  have h2 : σ.follows (if natBit v.toNat (4 + c) then
      (if natBit v.toNat c then s.startCtx (ctxOf k) else s).stopCtx (ctxOf k)
      else (rOk, if natBit v.toNat c then s.startCtx (ctxOf k) else s)).2 := by
    split
    · exact State.stopCtx_follows _ h1
    · exact h1
  unfold State.lthCtlChan
  dsimp only
  generalize (if natBit v.toNat (4 + c) then
      (if natBit v.toNat c then s.startCtx (ctxOf k) else s).stopCtx (ctxOf k)
      else (rOk, if natBit v.toNat c then s.startCtx (ctxOf k) else s)) = y at h2
  obtain ⟨q, t⟩ := y
  dsimp only at h2 ⊢
  repeat' split
  · exact h
  · exact h
  · exact State.clearStats_follows _ h2
  · exact h2

theorem State.lthCtlWrite_follows {σ s : State} (n : Fin 6) (v : Word) (h : σ.follows s) :
    σ.follows (State.lthCtlWrite s n v).2 := by
  unfold State.lthCtlWrite
  dsimp only
  split
  · exact h
  · exact State.lthCtlChan_follows _ _ _ (State.lthCtlChan_follows _ _ _ h)

theorem State.hsCtlWrite_follows {σ s : State} (v : Word) (hσ : σ.follows s) : σ.follows (State.hsCtlWrite s
    v).2 := by
  unfold State.hsCtlWrite
  dsimp only
  repeat' first
    | with_reducible first
        | assumption | apply State.setReg_follows | apply State.startCtx_follows | apply State.stopCtx_follows
        | apply State.ite_follows
    | split

theorem State.lthLoopWrite_follows {σ s : State} (cmd : Option Nat) (k : Stage) (v : Word) (hσ : σ.follows s) :
    σ.follows (State.lthLoopWrite s cmd k v).2 := by
  unfold State.lthLoopWrite
  dsimp only
  repeat' first
    | with_reducible first
        | assumption | apply State.plain_follows | apply State.ite_follows
    | split

theorem State.writeLth_follows {σ s : State} (cmd : Option Nat) (a : Nat) (v : Word) (hσ : σ.follows s) :
    σ.follows (State.writeLth s cmd a v).2 := by
  unfold State.writeLth
  repeat' first
    | with_reducible first
        | assumption | apply State.hsTimerSet_follows | apply State.plain_follows
        | apply State.lthCtlWrite_follows | apply State.hsCtlWrite_follows | apply State.lthLoopWrite_follows
        | apply State.ite_follows
    | split

theorem State.gridTclr_follows {σ s : State} (g : Fin 4) (hσ : σ.follows s) : σ.follows (State.gridTclr s g).2 := by
  unfold State.gridTclr
  repeat' first
    | with_reducible first
        | assumption | apply State.setReg_follows | apply State.put_follows | apply State.ite_follows
    | split

theorem State.gridCtlWrite_follows {σ s : State} (cmd : Option Nat) (g : Fin 4) (v : Word) (hσ : σ.follows s) :
    σ.follows (State.gridCtlWrite s cmd g v).2 := by
  unfold State.gridCtlWrite
  dsimp only
  repeat' first
    | with_reducible first
        | assumption | apply State.gridSwitch_follows | apply State.plain_follows | apply State.gridTclr_follows
        | apply State.ite_follows
    | split

theorem State.islTclr_follows {σ s : State} (g : Fin 4) (hσ : σ.follows s) : σ.follows (State.islTclr s g).2 := by
  unfold State.islTclr
  repeat' first
    | with_reducible first
        | assumption | apply State.setReg_follows | apply State.put_follows | apply State.ite_follows
    | split

theorem State.islCtlWrite_follows {σ s : State} (cmd : Option Nat) (g : Fin 4) (v : Word) (hσ : σ.follows s) :
    σ.follows (State.islCtlWrite s cmd g v).2 := by
  unfold State.islCtlWrite
  dsimp only
  repeat' first
    | with_reducible first
        | assumption | apply State.rcRestart_follows | apply State.islSwitch_follows | apply State.plain_follows
        | apply State.islTclr_follows | apply State.ite_follows
    | split

theorem State.kOpenWrite_follows {σ s : State} (hσ : σ.follows s) : σ.follows (State.kOpenWrite s).2 := by
  unfold State.kOpenWrite
  repeat' first
    | with_reducible first
        | assumption | apply State.kOpen_follows | apply State.ite_follows
    | split

theorem State.kctlWrite_follows {σ s : State} (v : Word) (hσ : σ.follows s) : σ.follows (State.kctlWrite s v).2 := by
  unfold State.kctlWrite
  dsimp only
  repeat' first
    | with_reducible first
        | assumption | apply State.kClose_follows | apply State.kOpenWrite_follows | apply State.ite_follows
    | split

theorem State.writeGrd_follows {σ s : State} (cmd : Option Nat) (a : Nat) (v : Word) (hσ : σ.follows s) :
    σ.follows (State.writeGrd s cmd a v).2 := by
  unfold State.writeGrd
  repeat' first
    | with_reducible first
        | assumption | apply State.kcfgPol_follows | apply State.plain_follows
        | apply State.gridCtlWrite_follows | apply State.islCtlWrite_follows | apply State.kctlWrite_follows
        | apply State.ite_follows
    | split

theorem State.mtrCtlWrite_follows {σ s : State} (cmd : Option Nat) (m : Fin 4) (v : Word) (hσ : σ.follows s) :
    σ.follows (State.mtrCtlWrite s cmd m v).2 := by
  unfold State.mtrCtlWrite
  dsimp only
  repeat' first
    | with_reducible first
        | assumption | apply State.meterDiscard_follows | apply State.meterSwitch_follows
        | apply State.plain_follows | apply State.ite_follows
    | split

theorem State.writeMtr_follows {σ s : State} (cmd : Option Nat) (a : Nat) (v : Word) (hσ : σ.follows s) :
    σ.follows (State.writeMtr s cmd a v).2 := by
  unfold State.writeMtr
  dsimp only
  repeat' first
    | with_reducible first
        | assumption | apply State.saveNow_follows | apply State.plain_follows | apply State.mtrCtlWrite_follows
        | apply State.ite_follows
    | split

theorem State.writeSaf_follows {σ s : State} (cmd : Option Nat) (a : Nat) (v : Word) (hσ : σ.follows s) :
    σ.follows (State.writeSaf s cmd a v).2 := by
  unfold State.writeSaf
  repeat' first
    | with_reducible first
        | assumption | apply State.safUpdate_follows | apply State.safClr_follows
        | apply State.pairEnable_follows | apply State.tgEnable_follows | apply State.plain_follows
        | apply State.ite_follows
    | split

theorem State.sendGratuitous_follows {σ s : State} (i : Nat) (hσ : σ.follows s) : σ.follows
    (State.sendGratuitous s i) := by
  unfold State.sendGratuitous
  repeat' first
    | with_reducible first
        | assumption | apply State.emit_follows | apply State.ite_follows
    | split

theorem State.nctlWrite_follows {σ s : State} (cmd : Option Nat) (i : Fin 2) (v : Word) (hσ : σ.follows s) :
    σ.follows (State.nctlWrite s cmd i v) := by
  unfold State.nctlWrite
  dsimp only
  repeat' first
    | with_reducible first
        | assumption | apply State.takeId_follows | apply State.plain_follows
        | apply State.sendGratuitous_follows | apply State.ite_follows
    | split | apply State.mk_follows

theorem State.mdioWrite_follows {σ s : State} (cmd : Option Nat) (v : Word) (hσ : σ.follows s) : σ.follows
    (State.mdioWrite s cmd v).2 := by
  unfold State.mdioWrite
  repeat' first
    | with_reducible first
        | assumption | apply State.set1_follows | apply State.emit_follows | apply State.plain_follows
        | apply State.ite_follows
    | split

theorem State.gpioWrite_follows {σ s : State} (cmd : Option Nat) (v : Word) (hσ : σ.follows s) : σ.follows
    (State.gpioWrite s cmd v).2 := by
  unfold State.gpioWrite
  dsimp only
  repeat' first
    | with_reducible first
        | assumption | apply State.plain_follows | apply State.ite_follows
    | split

theorem State.pcfgWrite_follows {σ s : State} (cmd : Option Nat) (v : Word) (hσ : σ.follows s) : σ.follows
    (State.pcfgWrite s cmd v) := by
  unfold State.pcfgWrite
  dsimp only
  repeat' first
    | with_reducible first
        | assumption | apply State.put_follows | apply State.peerLost_follows | apply State.plain_follows
        | apply State.ite_follows
    | split | apply State.mk_follows

theorem State.writePrt_follows {σ s : State} (cmd : Option Nat) (a : Nat) (v : Word) (hσ : σ.follows s) :
    σ.follows (State.writePrt s cmd a v).2 := by
  unfold State.writePrt
  repeat' first
    | with_reducible first
        | assumption | apply State.plain_follows | apply State.nctlWrite_follows | apply State.mdioWrite_follows
        | apply State.gpioWrite_follows | apply State.pcfgWrite_follows | apply State.ite_follows
    | split

theorem State.resumeCtx_follows {σ s : State} (e : CtxId) (hσ : σ.follows s) : σ.follows (State.resumeCtx s e) := by
  unfold State.resumeCtx
  repeat' first
    | with_reducible first
        | assumption | apply State.setCtx_follows | apply State.waitReturn_follows | apply State.latch_follows
        | apply State.ite_follows
    | split

theorem State.debugHalt_follows {σ s : State} (v : Word) (hσ : σ.follows s) : σ.follows (State.debugHalt s v) := by
  unfold State.debugHalt
  repeat' first
    | with_reducible first
        | assumption | apply State.haltEngine_follows | intro _ | (apply State.foldl_follows; intro _ _ _)
    | split | apply State.mk_follows

theorem State.debugRun_follows {σ s : State} (v : Word) (hσ : σ.follows s) : σ.follows (State.debugRun s v) := by
  unfold State.debugRun
  repeat' first
    | with_reducible first
        | assumption | apply State.resumeCtx_follows | intro _ | (apply State.foldl_follows; intro _ _ _)
    | split | apply State.mk_follows

theorem State.writeDbg_follows {σ s : State} (cmd : Option Nat) (a : Nat) (v : Word) (hσ : σ.follows s) :
    σ.follows (State.writeDbg s cmd a v).2 := by
  unfold State.writeDbg
  repeat' first
    | with_reducible first
        | assumption | apply State.setCtx_follows | apply State.plain_follows | apply State.debugHalt_follows
        | apply State.debugRun_follows | apply State.ite_follows
    | split

theorem State.writeWord_follows {σ s : State} (cmd : Option Nat) (a : Nat) (v : Word) (hσ : σ.follows s) :
    σ.follows (State.writeWord s cmd a v).2 := by
  unfold State.writeWord
  repeat' first
    | with_reducible first
        | assumption | apply State.plain_follows | apply State.writeMem_follows | apply State.writeSys_follows
        | apply State.writeFlt_follows | apply State.writeAdc_follows | apply State.writeStg_follows
        | apply State.writeGl_follows | apply State.writeLth_follows | apply State.writeGrd_follows
        | apply State.writeMtr_follows | apply State.writeSaf_follows | apply State.writePrt_follows
        | apply State.writeDbg_follows | apply State.ite_follows
    | split

theorem State.writeAll_follows {σ s : State} (cmd : Option Nat) (i : Nat) (l : List AW) (h : σ.follows s) :
    σ.follows (s.writeAll cmd i l).2.2 := by
  induction l generalizing s i with
  | nil => exact h
  | cons w t ih =>
    have k := State.writeWord_follows cmd w.addr w.val h
    unfold State.writeAll
    generalize State.writeWord s cmd w.addr w.val = x at k
    obtain ⟨r, u⟩ := x
    dsimp only at k ⊢
    split
    · exact h
    · exact ih _ k

theorem State.write_follows {σ s : State} (port : Nat) (cmd : Option Nat) (ws : List AW) (hσ : σ.follows s) :
    σ.follows (State.write s port cmd ws).2.2 := by
  unfold State.write
  dsimp only
  repeat' first
    | with_reducible first
        | assumption | apply State.mtrBlockEvt_follows | apply State.writeAll_follows | apply State.ite_follows
    | split

theorem State.writeOut_follows {σ s : State} (port : Nat) (a : Nat) (v : Word) (hσ : σ.follows s) : σ.follows
    (State.writeOut s port a v) := by
  unfold State.writeOut
  repeat' first
    | with_reducible first
        | assumption | apply State.bump_follows | apply State.emit_follows | apply State.write_follows
        | apply State.ite_follows
    | split

theorem State.stageWords_follows {σ s : State} (k : Stage) (id : Nat) (ws : List AW) (hσ : σ.follows s) :
    σ.follows (State.stageWords s k id ws) := by
  unfold State.stageWords
  repeat' first
    | with_reducible first
        | assumption | apply State.setMw_follows | intro _ | (apply State.foldl_follows; intro _ _ _)
    | split | apply State.mk_follows

theorem State.startGroup_follows {σ s : State} (c : Cmd) (hσ : σ.follows s) : σ.follows (State.startGroup s c) := by
  unfold State.startGroup
  dsimp only
  repeat' first
    | with_reducible first
        | assumption | apply State.finish_follows | apply State.finishR_follows | apply State.ite_follows
    | split | apply State.mk_follows

theorem State.alignStaged_follows {σ s : State} (id : Nat) (tc : Nat) (hσ : σ.follows s) : σ.follows
    (State.alignStaged s id tc) := by
  unfold State.alignStaged
  dsimp only
  repeat' first
    | with_reducible first
        | assumption | apply State.ite_follows
    | split | apply State.mk_follows

theorem State.applying_follows {σ s : State} (id : Nat) (saved : List (Nat × Nat × AW)) (tracks : List Track)
    (hσ : σ.follows s) : σ.follows (State.applying s id saved tracks) := by
  unfold State.applying
  repeat' first
    | with_reducible first
        | assumption | apply State.settle_follows
    | split | apply State.mk_follows

theorem State.commitGroup_follows {σ s0 : State} (c : Cmd) (t : Nat) (hσ : σ.follows s0) : σ.follows
    (State.commitGroup s0 c t) := by
  unfold State.commitGroup
  repeat' first
    | with_reducible first
        | assumption | apply State.finish_follows | apply State.toInstant_follows | apply State.writeAll_follows
        | apply State.stageWords_follows | apply State.alignStaged_follows | apply State.applying_follows
        | intro _ | (apply State.foldl_follows; intro _ _ _)
    | split | apply State.mk_follows

theorem State.commitDue_follows {σ s : State} (c : Cmd) (hσ : σ.follows s) : σ.follows (State.commitDue s c) := by
  unfold State.commitDue
  repeat' first
    | with_reducible first
        | assumption | apply State.commitGroup_follows | apply State.ite_follows
    | split

theorem execGroupCommit_follows {σ s : State} (i : Fin 4) (hσ : σ.follows s) : σ.followedBy (execGroupCommit i
    s) := by
  unfold execGroupCommit
  repeat' first
    | with_reducible first
        | assumption | apply State.next_follows | apply State.commitDue_follows | apply State.ite_follows
    | split

theorem State.failPart_follows {σ s : State} (id : Nat) (a : Nat) (cause : Nat) (hσ : σ.follows s) : σ.follows
    (State.failPart s id a cause) := by
  unfold State.failPart
  dsimp only
  repeat' first
    | with_reducible first
        | assumption | apply State.applying_follows | apply State.ite_follows
    | split | apply State.mk_follows

theorem State.cfgFail_follows {σ s : State} (n : Link) (w : CfgWord) (cause : Nat) (hσ : σ.follows s) :
    σ.follows (State.cfgFail s n w cause) := by
  unfold State.cfgFail
  repeat' first
    | with_reducible first
        | assumption | apply State.setLnk_follows | apply State.settle_follows | apply State.report_follows
        | apply State.failPart_follows | apply State.ite_follows
    | split

theorem execConfigurationNak_follows {σ s : State} (u : Upward) (tag : Byte) (reason : Byte) (hσ : σ.follows s)
    : σ.followedBy (execConfigurationNak u tag reason s) := by
  unfold execConfigurationNak
  repeat' first
    | with_reducible first
        | assumption | apply State.next_follows | apply State.linkEvt_follows | apply State.upWord_follows
        | apply State.seqFail_follows | apply State.cfgFail_follows | apply State.ite_follows
    | split

theorem execConfigurationAckTimeout_follows {σ s : State} (n : Link) (hσ : σ.follows s) : σ.followedBy
    (execConfigurationAckTimeout n s) := by
  unfold execConfigurationAckTimeout
  repeat' first
    | with_reducible first
        | assumption | apply State.next_follows | apply State.seqFail_follows | apply State.cfgFail_follows
        | apply State.ite_follows
    | split

theorem State.revertWord_follows {σ s : State} (c : Cmd) (w : AW) (hσ : σ.follows s) : σ.follows
    (State.revertWord s c w) := by
  unfold State.revertWord
  repeat' first
    | with_reducible first
        | assumption | apply State.mergeReg_follows | apply State.report_follows | apply State.podWrite_follows
        | apply State.writeWord_follows | apply State.ite_follows
    | split

theorem State.rollGroup_follows {σ s0 : State} (c : Cmd) (t : Nat) (hσ : σ.follows s0) : σ.follows
    (State.rollGroup s0 c t) := by
  unfold State.rollGroup
  repeat' first
    | with_reducible first
        | assumption | apply State.setLnk_follows | apply State.settle_follows | apply State.toInstant_follows
        | apply State.alignStaged_follows | apply State.revertWord_follows | intro _
        | (apply State.foldl_follows; intro _ _ _)
    | split | apply State.mk_follows

theorem State.rollDue_follows {σ s : State} (c : Cmd) (hσ : σ.follows s) : σ.follows (State.rollDue s c) := by
  unfold State.rollDue
  repeat' first
    | with_reducible first
        | assumption | apply State.rollGroup_follows | apply State.ite_follows
    | split

theorem execGroupRollback_follows {σ s : State} (i : Fin 4) (hσ : σ.follows s) : σ.followedBy (execGroupRollback
    i s) := by
  unfold execGroupRollback
  repeat' first
    | with_reducible first
        | assumption | apply State.next_follows | apply State.rollDue_follows | apply State.ite_follows
    | split

theorem State.groupReload_follows {σ s : State} (k : Stage) (r : Nat) (id : Nat) (hσ : σ.follows s) : σ.follows
    (State.groupReload s k r id) := by
  unfold State.groupReload
  dsimp only
  repeat' first
    | with_reducible first
        | assumption | apply State.commitGroup_follows | apply State.rollGroup_follows | apply State.ite_follows
    | split | apply State.mk_follows

theorem execReloadInstant_follows {σ s : State} (k : Stage) (hσ : σ.follows s) : σ.followedBy (execReloadInstant
    k s) := by
  unfold execReloadInstant
  try dsimp only
  repeat' first
    | with_reducible first
        | assumption | intro _ | apply State.next_follows | apply State.toInstant_follows
        | apply State.reload_follows | apply State.groupReload_follows
        | (apply State.foldl_follows; intro _ _ _) | (refine State.pair_follows ?_ (by assumption))
        | (refine State.triple_follows ?_ (by assumption)) | apply State.ite_follows
    | split | dsimp only | apply State.mk_follows

end Sys2Proof.Machine
end

