-- ==== Sys2Proof/Laws/FollowsCommands.lean ====
section
/-! SUPPORT. What every operation respects (`State.follows`): commands and the remaining instructions. -/

namespace Sys2Proof.Machine

theorem State.answer_follows {σ s : State} (c : Cmd) (r : Nat) (hσ : σ.follows s) : σ.follows (State.answer s c
    r) := by
  unfold State.answer
  repeat' first
    | with_reducible first
        | assumption | apply State.finishR_follows | apply State.ite_follows
    | split

theorem State.answerData_follows {σ s : State} (c : Cmd) (word : Nat) (data : List Byte) (hσ : σ.follows s) :
    σ.follows (State.answerData s c word data) := by
  unfold State.answerData
  repeat' first
    | with_reducible first
        | assumption | apply State.finish_follows | apply State.ite_follows
    | split

theorem State.runNop_follows {σ s : State} (c : Cmd) (hσ : σ.follows s) : σ.follows (State.runNop s c) := by
  unfold State.runNop
  repeat' first
    | with_reducible first
        | assumption | apply State.answer_follows | apply State.ite_follows
    | split

theorem State.runPing_follows {σ s : State} (c : Cmd) (hσ : σ.follows s) : σ.follows (State.runPing s c) := by
  unfold State.runPing
  repeat' first
    | with_reducible first
        | assumption | apply State.answer_follows | apply State.answerData_follows | apply State.ite_follows
    | split

theorem State.readWords_follows {σ s : State} (a : Nat) (p : List Par) (bad i n : Nat) (acc : List Word) (h :
    σ.follows s) :
    σ.follows (s.readWords a p bad i n acc).2.2.2 := by
  induction n generalizing s a i acc with
  | zero => exact h
  | succ n ih =>
    have k := State.readWord_follows a (parAt p bad i) h
    unfold State.readWords
    generalize State.readWord s a (parAt p bad i) = x at k
    obtain ⟨r, w, t⟩ := x
    dsimp only at k ⊢
    split
    · exact k
    · exact ih _ _ _ k

theorem State.runRead_follows {σ s : State} (c : Cmd) (p : List Par) (bad : Nat) (h : σ.follows s) :
    σ.follows (State.runRead s c p bad) := by
  unfold State.runRead
  dsimp only
  split
  · exact State.answer_follows _ _ h
  · split
    · exact State.finish_follows _ _ _ _ _ _ h
    · rename_i n _ _
      have k := State.readWords_follows (bytesAt c.pl 0 4) p bad 0 (byteAt c.pl 4) [] h
      generalize State.readWords s (bytesAt c.pl 0 4) p bad 0 (byteAt c.pl 4) [] = x at k
      obtain ⟨r, i, ws, t⟩ := x
      dsimp only at k ⊢
      split
      · exact State.finish_follows _ _ _ _ _ _ k
      · exact State.answerData_follows _ _ _ k

theorem State.runWriteCmd_follows {σ s : State} (c : Cmd) (hσ : σ.follows s) : σ.follows (State.runWriteCmd s c) := by
  unfold State.runWriteCmd
  repeat' first
    | with_reducible first
        | assumption | apply State.finish_follows | apply State.write_follows | apply State.applying_follows
        | apply State.answer_follows | apply State.ite_follows
    | split

theorem State.runPersist_follows {σ s : State} (c : Cmd) (hσ : σ.follows s) : σ.follows (State.runPersist s c) := by
  unfold State.runPersist
  dsimp only
  repeat' first
    | with_reducible first
        | assumption | apply State.setReg_follows | apply State.finish_follows | apply State.refuseWord_follows
        | apply State.storeNext_follows | apply State.answer_follows | apply State.ite_follows
    | split | apply State.mk_follows

theorem State.runErase_follows {σ s : State} (c : Cmd) (hσ : σ.follows s) : σ.follows (State.runErase s c) := by
  unfold State.runErase
  dsimp only
  repeat' first
    | with_reducible first
        | assumption | apply State.answer_follows | apply State.ite_follows
    | split | apply State.mk_follows

theorem State.runBankWrite_follows {σ s : State} (c : Cmd) (hσ : σ.follows s) : σ.follows (State.runBankWrite s
    c) := by
  unfold State.runBankWrite
  dsimp only
  repeat' first
    | with_reducible first
        | assumption | apply State.answer_follows | apply State.ite_follows
    | split | apply State.mk_follows

theorem State.runCheck_follows {σ s : State} (c : Cmd) (hσ : σ.follows s) : σ.follows (State.runCheck s c) := by
  unfold State.runCheck
  dsimp only
  repeat' first
    | with_reducible first
        | assumption | apply State.answer_follows | apply State.ite_follows
    | split | apply State.mk_follows

theorem State.runLoad_follows {σ s : State} (c : Cmd) (hσ : σ.follows s) : σ.follows (State.runLoad s c) := by
  unfold State.runLoad
  repeat' first
    | with_reducible first
        | assumption | apply State.finish_follows | apply State.loadEngine_follows | apply State.answer_follows
        | apply State.ite_follows
    | split

theorem State.runProgram_follows {σ s : State} (c : Cmd) (hσ : σ.follows s) : σ.follows (State.runProgram s c) := by
  unfold State.runProgram
  repeat' first
    | with_reducible first
        | assumption | apply State.answer_follows | apply State.runErase_follows
        | apply State.runBankWrite_follows | apply State.runCheck_follows | apply State.runLoad_follows
        | apply State.ite_follows
    | split

theorem State.refuseStage_follows {σ s : State} (c : Cmd) (ks : List Stage) (k : Stage) (r : Nat) (hσ :
    σ.follows s) : σ.follows (State.refuseStage s c ks k r) := by
  unfold State.refuseStage
  repeat' first
    | with_reducible first
        | assumption | apply State.finish_follows | apply State.ite_follows
    | split

theorem State.runStart_follows {σ s : State} (c : Cmd) (hσ : σ.follows s) : σ.follows (State.runStart s c) := by
  unfold State.runStart
  repeat' first
    | with_reducible first
        | assumption | apply State.startStage_follows | apply State.answer_follows
        | apply State.refuseStage_follows | intro _ | (apply State.foldl_follows; intro _ _ _)
    | split | apply State.mk_follows

theorem State.runStop_follows {σ s : State} (c : Cmd) (hσ : σ.follows s) : σ.follows (State.runStop s c) := by
  unfold State.runStop
  repeat' first
    | with_reducible first
        | assumption | apply State.stopStage_follows | apply State.answer_follows
        | apply State.refuseStage_follows | intro _ | (apply State.foldl_follows; intro _ _ _)
    | split | apply State.mk_follows

theorem State.runMode_follows {σ s : State} (c : Cmd) (hσ : σ.follows s) : σ.follows (State.runMode s c) := by
  unfold State.runMode
  dsimp only
  repeat' first
    | with_reducible first
        | assumption | apply State.orderlyDone_follows | apply State.setMode_follows
        | apply State.answer_follows | apply State.ite_follows
    | split | apply State.mk_follows

theorem State.runSetpoint_follows {σ s : State} (c : Cmd) (hσ : σ.follows s) : σ.follows (State.runSetpoint s c) := by
  unfold State.runSetpoint
  repeat' first
    | with_reducible first
        | assumption | apply State.finish_follows | apply State.stageWords_follows
        | apply State.applying_follows | apply State.answer_follows | apply State.ite_follows
    | split

theorem State.dropWords_follows {σ s : State} (ids : List Nat) (hσ : σ.follows s) : σ.follows (State.dropWords s
    ids) := by
  unfold State.dropWords
  dsimp only
  repeat' first
    | with_reducible first
        | assumption | apply State.setLnk_follows | apply State.ite_follows
    | split | apply State.mk_follows

theorem State.endTaken_follows {σ s : State} (port : Nat) (k : Stage) (hσ : σ.follows s) : σ.follows
    (State.endTaken s port k) := by
  unfold State.endTaken
  try dsimp only
  repeat' first
    | with_reducible first
        | assumption | intro _ | apply State.finishR_follows | apply State.applying_follows
        | apply State.dropWords_follows | (apply State.foldl_follows; intro _ _ _)
        | (refine State.pair_follows ?_ (by assumption)) | (refine State.triple_follows ?_ (by assumption))
        | apply State.ite_follows
    | split | dsimp only | apply State.mk_follows

theorem State.runClaim_follows {σ s : State} (c : Cmd) (hσ : σ.follows s) : σ.follows (State.runClaim s c) := by
  unfold State.runClaim
  repeat' first
    | with_reducible first
        | assumption | apply State.finish_follows | apply State.setHolder_follows | apply State.answer_follows
        | apply State.endTaken_follows | intro _ | (apply State.foldl_follows; intro _ _ _)
    | split | apply State.mk_follows

theorem State.runRelease_follows {σ s : State} (c : Cmd) (hσ : σ.follows s) : σ.follows (State.runRelease s c) := by
  unfold State.runRelease
  repeat' first
    | with_reducible first
        | assumption | apply State.finish_follows | apply State.setHolder_follows | apply State.answer_follows
        | intro _ | (apply State.foldl_follows; intro _ _ _)
    | split | apply State.mk_follows

theorem State.journalReads_follows {σ s : State} (p : List Par) (bad i : Nat) (l : List Nat) (h : σ.follows s) :
    σ.follows (s.journalReads p bad i l).2.2 := by
  induction l generalizing s i with
  | nil => exact h
  | cons a t ih =>
    have k := State.parityOf_follows a (parAt p bad i) h
    unfold State.journalReads
    generalize State.parityOf s a (parAt p bad i) = x at k
    obtain ⟨r, u⟩ := x
    dsimp only at k ⊢
    split
    · exact k
    · exact ih _ k

theorem State.runJournal_follows {σ s : State} (c : Cmd) (p : List Par) (bad : Nat) (hσ : σ.follows s) :
    σ.follows (State.runJournal s c p bad) := by
  unfold State.runJournal
  repeat' first
    | with_reducible first
        | assumption | apply State.src_follows | apply State.finish_follows | apply State.answer_follows
        | apply State.answerData_follows | apply State.journalReads_follows | apply State.ite_follows
    | split

theorem State.runFaultClear_follows {σ s : State} (c : Cmd) (hσ : σ.follows s) : σ.follows (State.runFaultClear
    s c) := by
  unfold State.runFaultClear
  repeat' first
    | with_reducible first
        | assumption | apply State.faultClear_follows | apply State.answer_follows | apply State.ite_follows
    | split

theorem State.runResume_follows {σ s : State} (c : Cmd) (hσ : σ.follows s) : σ.follows (State.runResume s c) := by
  unfold State.runResume
  repeat' first
    | with_reducible first
        | assumption | apply State.resumeFault_follows | apply State.answer_follows | apply State.ite_follows
    | split

theorem State.runSafetyAck_follows {σ s : State} (c : Cmd) (hσ : σ.follows s) : σ.follows (State.runSafetyAck s
    c) := by
  unfold State.runSafetyAck
  repeat' first
    | with_reducible first
        | assumption | apply State.answer_follows
    | split | apply State.mk_follows

theorem State.runLatch_follows {σ s : State} (c : Cmd) (hσ : σ.follows s) : σ.follows (State.runLatch s c) := by
  unfold State.runLatch
  dsimp only
  repeat' first
    | with_reducible first
        | assumption | apply State.answer_follows | apply State.ite_follows
    | split | apply State.mk_follows

theorem State.runEventMask_follows {σ s : State} (c : Cmd) (hσ : σ.follows s) : σ.follows (State.runEventMask s
    c) := by
  unfold State.runEventMask
  try dsimp only
  repeat' first
    | with_reducible first
        | assumption | intro _ | apply State.setReg_follows | apply State.answer_follows
        | (apply State.foldl_follows; intro _ _ _) | (refine State.pair_follows ?_ (by assumption))
        | (refine State.triple_follows ?_ (by assumption)) | apply State.ite_follows
    | split | dsimp only | apply State.mk_follows

theorem State.runCmd_follows {σ s : State} (c : Cmd) (p : List Par) (bad : Nat) (hσ : σ.follows s) : σ.follows
    (State.runCmd s c p bad) := by
  unfold State.runCmd
  repeat' first
    | with_reducible first
        | assumption | apply State.startGroup_follows | apply State.answer_follows | apply State.runNop_follows
        | apply State.runPing_follows | apply State.runRead_follows | apply State.runWriteCmd_follows
        | apply State.runPersist_follows | apply State.runProgram_follows | apply State.runStart_follows
        | apply State.runStop_follows | apply State.runMode_follows | apply State.runSetpoint_follows
        | apply State.runClaim_follows | apply State.runRelease_follows | apply State.runJournal_follows
        | apply State.runFaultClear_follows | apply State.runResume_follows | apply State.runSafetyAck_follows
        | apply State.runLatch_follows | apply State.runEventMask_follows | apply State.ite_follows
    | split

theorem execAdd_follows {σ s : State} (e : CtxId) (d : VReg) (a : VReg) (b : VReg) (hσ : σ.follows s) :
    σ.followedBy (execAdd e d a b s) := by
  unfold execAdd
  repeat' first
    | with_reducible first
        | assumption | apply State.next_follows | apply State.regOp0_follows | apply State.ite_follows
    | split

theorem execSub_follows {σ s : State} (e : CtxId) (d : VReg) (a : VReg) (b : VReg) (hσ : σ.follows s) :
    σ.followedBy (execSub e d a b s) := by
  unfold execSub
  repeat' first
    | with_reducible first
        | assumption | apply State.next_follows | apply State.regOp0_follows | apply State.ite_follows
    | split

theorem execAdds_follows {σ s : State} (e : CtxId) (d : VReg) (a : VReg) (b : VReg) (hσ : σ.follows s) :
    σ.followedBy (execAdds e d a b s) := by
  unfold execAdds
  repeat' first
    | with_reducible first
        | assumption | apply State.next_follows | apply State.regOp_follows | apply State.ite_follows
    | split

theorem execSubs_follows {σ s : State} (e : CtxId) (d : VReg) (a : VReg) (b : VReg) (hσ : σ.follows s) :
    σ.followedBy (execSubs e d a b s) := by
  unfold execSubs
  repeat' first
    | with_reducible first
        | assumption | apply State.next_follows | apply State.regOp_follows | apply State.ite_follows
    | split

theorem execAnd_follows {σ s : State} (e : CtxId) (d : VReg) (a : VReg) (b : VReg) (hσ : σ.follows s) :
    σ.followedBy (execAnd e d a b s) := by
  unfold execAnd
  repeat' first
    | with_reducible first
        | assumption | apply State.next_follows | apply State.regOp0_follows | apply State.ite_follows
    | split

theorem execOr_follows {σ s : State} (e : CtxId) (d : VReg) (a : VReg) (b : VReg) (hσ : σ.follows s) :
    σ.followedBy (execOr e d a b s) := by
  unfold execOr
  repeat' first
    | with_reducible first
        | assumption | apply State.next_follows | apply State.regOp0_follows | apply State.ite_follows
    | split

theorem execXor_follows {σ s : State} (e : CtxId) (d : VReg) (a : VReg) (b : VReg) (hσ : σ.follows s) :
    σ.followedBy (execXor e d a b s) := by
  unfold execXor
  repeat' first
    | with_reducible first
        | assumption | apply State.next_follows | apply State.regOp0_follows | apply State.ite_follows
    | split

theorem execAndn_follows {σ s : State} (e : CtxId) (d : VReg) (a : VReg) (b : VReg) (hσ : σ.follows s) :
    σ.followedBy (execAndn e d a b s) := by
  unfold execAndn
  repeat' first
    | with_reducible first
        | assumption | apply State.next_follows | apply State.regOp0_follows | apply State.ite_follows
    | split

theorem execShl_follows {σ s : State} (e : CtxId) (d : VReg) (a : VReg) (b : VReg) (hσ : σ.follows s) :
    σ.followedBy (execShl e d a b s) := by
  unfold execShl
  repeat' first
    | with_reducible first
        | assumption | apply State.next_follows | apply State.regOp0_follows | apply State.ite_follows
    | split

theorem execShr_follows {σ s : State} (e : CtxId) (d : VReg) (a : VReg) (b : VReg) (hσ : σ.follows s) :
    σ.followedBy (execShr e d a b s) := by
  unfold execShr
  repeat' first
    | with_reducible first
        | assumption | apply State.next_follows | apply State.regOp0_follows | apply State.ite_follows
    | split

theorem execSar_follows {σ s : State} (e : CtxId) (d : VReg) (a : VReg) (b : VReg) (hσ : σ.follows s) :
    σ.followedBy (execSar e d a b s) := by
  unfold execSar
  repeat' first
    | with_reducible first
        | assumption | apply State.next_follows | apply State.regOp0_follows | apply State.ite_follows
    | split

theorem execShli_follows {σ s : State} (e : CtxId) (d : VReg) (a : VReg) (lit : BitVec 5) (hσ : σ.follows s) :
    σ.followedBy (execShli e d a lit s) := by
  unfold execShli
  repeat' first
    | with_reducible first
        | assumption | apply State.next_follows | apply State.regOp0_follows | apply State.ite_follows
    | split

theorem execShri_follows {σ s : State} (e : CtxId) (d : VReg) (a : VReg) (lit : BitVec 5) (hσ : σ.follows s) :
    σ.followedBy (execShri e d a lit s) := by
  unfold execShri
  repeat' first
    | with_reducible first
        | assumption | apply State.next_follows | apply State.regOp0_follows | apply State.ite_follows
    | split

theorem execSari_follows {σ s : State} (e : CtxId) (d : VReg) (a : VReg) (lit : BitVec 5) (hσ : σ.follows s) :
    σ.followedBy (execSari e d a lit s) := by
  unfold execSari
  repeat' first
    | with_reducible first
        | assumption | apply State.next_follows | apply State.regOp0_follows | apply State.ite_follows
    | split

theorem execMul_follows {σ s : State} (e : CtxId) (d : VReg) (a : VReg) (b : VReg) (hσ : σ.follows s) :
    σ.followedBy (execMul e d a b s) := by
  unfold execMul
  repeat' first
    | with_reducible first
        | assumption | apply State.next_follows | apply State.regOp_follows | apply State.ite_follows
    | split

theorem execMulh_follows {σ s : State} (e : CtxId) (d : VReg) (a : VReg) (b : VReg) (hσ : σ.follows s) :
    σ.followedBy (execMulh e d a b s) := by
  unfold execMulh
  repeat' first
    | with_reducible first
        | assumption | apply State.next_follows | apply State.regOp0_follows | apply State.ite_follows
    | split

theorem execDiv_follows {σ s : State} (e : CtxId) (d : VReg) (a : VReg) (b : VReg) (hσ : σ.follows s) :
    σ.followedBy (execDiv e d a b s) := by
  unfold execDiv
  repeat' first
    | with_reducible first
        | assumption | apply State.next_follows | apply State.regOp_follows | apply State.ite_follows
    | split

theorem execClt_follows {σ s : State} (e : CtxId) (d : VReg) (a : VReg) (b : VReg) (hσ : σ.follows s) :
    σ.followedBy (execClt e d a b s) := by
  unfold execClt
  repeat' first
    | with_reducible first
        | assumption | apply State.next_follows | apply State.regOp0_follows | apply State.ite_follows
    | split

theorem execCltu_follows {σ s : State} (e : CtxId) (d : VReg) (a : VReg) (b : VReg) (hσ : σ.follows s) :
    σ.followedBy (execCltu e d a b s) := by
  unfold execCltu
  repeat' first
    | with_reducible first
        | assumption | apply State.next_follows | apply State.regOp0_follows | apply State.ite_follows
    | split

theorem execCeq_follows {σ s : State} (e : CtxId) (d : VReg) (a : VReg) (b : VReg) (hσ : σ.follows s) :
    σ.followedBy (execCeq e d a b s) := by
  unfold execCeq
  repeat' first
    | with_reducible first
        | assumption | apply State.next_follows | apply State.regOp0_follows | apply State.ite_follows
    | split

theorem execMin_follows {σ s : State} (e : CtxId) (d : VReg) (a : VReg) (b : VReg) (hσ : σ.follows s) :
    σ.followedBy (execMin e d a b s) := by
  unfold execMin
  repeat' first
    | with_reducible first
        | assumption | apply State.next_follows | apply State.regOp0_follows | apply State.ite_follows
    | split

theorem execMax_follows {σ s : State} (e : CtxId) (d : VReg) (a : VReg) (b : VReg) (hσ : σ.follows s) :
    σ.followedBy (execMax e d a b s) := by
  unfold execMax
  repeat' first
    | with_reducible first
        | assumption | apply State.next_follows | apply State.regOp0_follows | apply State.ite_follows
    | split

theorem execJlr_follows {σ s : State} (e : CtxId) (d : VReg) (a : VReg) (hσ : σ.follows s) : σ.followedBy
    (execJlr e d a s) := by
  unfold execJlr
  repeat' first
    | with_reducible first
        | assumption | apply State.next_follows | apply State.issue_follows | apply State.jump_follows | intro _
    | split | apply State.mk_follows

theorem execSfrd_follows {σ s : State} (e : CtxId) (d : VReg) (hσ : σ.follows s) : σ.followedBy (execSfrd e d s) := by
  unfold execSfrd
  repeat' first
    | with_reducible first
        | assumption | apply State.next_follows | apply State.regOp0_follows | apply State.ite_follows
    | split

theorem execPadd_follows {σ s : State} (e : CtxId) (d : VReg) (a : VReg) (b : VReg) (hσ : σ.follows s) :
    σ.followedBy (execPadd e d a b s) := by
  unfold execPadd
  repeat' first
    | with_reducible first
        | assumption | apply State.next_follows | apply State.regOp_follows | apply State.ite_follows
    | split

theorem execPsub_follows {σ s : State} (e : CtxId) (d : VReg) (a : VReg) (b : VReg) (hσ : σ.follows s) :
    σ.followedBy (execPsub e d a b s) := by
  unfold execPsub
  repeat' first
    | with_reducible first
        | assumption | apply State.next_follows | apply State.regOp_follows | apply State.ite_follows
    | split

theorem execPneg_follows {σ s : State} (e : CtxId) (d : VReg) (a : VReg) (hσ : σ.follows s) : σ.followedBy
    (execPneg e d a s) := by
  unfold execPneg
  repeat' first
    | with_reducible first
        | assumption | apply State.next_follows | apply State.regOp_follows | apply State.ite_follows
    | split

theorem execPabs_follows {σ s : State} (e : CtxId) (d : VReg) (a : VReg) (hσ : σ.follows s) : σ.followedBy
    (execPabs e d a s) := by
  unfold execPabs
  repeat' first
    | with_reducible first
        | assumption | apply State.next_follows | apply State.regOp_follows | apply State.ite_follows
    | split

theorem execPmul_follows {σ s : State} (e : CtxId) (d : VReg) (a : VReg) (b : VReg) (hσ : σ.follows s) :
    σ.followedBy (execPmul e d a b s) := by
  unfold execPmul
  repeat' first
    | with_reducible first
        | assumption | apply State.next_follows | apply State.regOp_follows | apply State.ite_follows
    | split

theorem execPshl_follows {σ s : State} (e : CtxId) (d : VReg) (a : VReg) (lit : BitVec 5) (hσ : σ.follows s) :
    σ.followedBy (execPshl e d a lit s) := by
  unfold execPshl
  repeat' first
    | with_reducible first
        | assumption | apply State.next_follows | apply State.regOp_follows | apply State.ite_follows
    | split

theorem execPshr_follows {σ s : State} (e : CtxId) (d : VReg) (a : VReg) (lit : BitVec 5) (hσ : σ.follows s) :
    σ.followedBy (execPshr e d a lit s) := by
  unfold execPshr
  repeat' first
    | with_reducible first
        | assumption | apply State.next_follows | apply State.regOp0_follows | apply State.ite_follows
    | split

theorem execPdiv_follows {σ s : State} (e : CtxId) (d : VReg) (a : VReg) (b : VReg) (hσ : σ.follows s) :
    σ.followedBy (execPdiv e d a b s) := by
  unfold execPdiv
  repeat' first
    | with_reducible first
        | assumption | apply State.next_follows | apply State.regOp_follows | apply State.ite_follows
    | split

theorem execItop_follows {σ s : State} (e : CtxId) (d : VReg) (a : VReg) (lit : BitVec 5) (hσ : σ.follows s) :
    σ.followedBy (execItop e d a lit s) := by
  unfold execItop
  repeat' first
    | with_reducible first
        | assumption | apply State.next_follows | apply State.issueIf_follows | apply State.done_follows
        | intro _
    | split | apply State.mk_follows

theorem execPtoi_follows {σ s : State} (e : CtxId) (d : VReg) (a : VReg) (lit : BitVec 5) (hσ : σ.follows s) :
    σ.followedBy (execPtoi e d a lit s) := by
  unfold execPtoi
  repeat' first
    | with_reducible first
        | assumption | apply State.next_follows | apply State.issueIf_follows | apply State.done_follows
        | intro _
    | split | apply State.mk_follows

theorem execPli_follows {σ s : State} (e : CtxId) (d : VReg) (imm : BitVec 16) (hσ : σ.follows s) : σ.followedBy
    (execPli e d imm s) := by
  unfold execPli
  repeat' first
    | with_reducible first
        | assumption | apply State.next_follows | apply State.regOp0_follows | apply State.ite_follows
    | split

theorem execPaddi_follows {σ s : State} (e : CtxId) (d : VReg) (a : VReg) (imm : BitVec 16) (hσ : σ.follows s) :
    σ.followedBy (execPaddi e d a imm s) := by
  unfold execPaddi
  repeat' first
    | with_reducible first
        | assumption | apply State.next_follows | apply State.regOp_follows | apply State.ite_follows
    | split

theorem execAddi_follows {σ s : State} (e : CtxId) (d : VReg) (a : VReg) (imm : BitVec 16) (hσ : σ.follows s) :
    σ.followedBy (execAddi e d a imm s) := by
  unfold execAddi
  repeat' first
    | with_reducible first
        | assumption | apply State.next_follows | apply State.regOp0_follows | apply State.ite_follows
    | split

theorem execClti_follows {σ s : State} (e : CtxId) (d : VReg) (a : VReg) (imm : BitVec 16) (hσ : σ.follows s) :
    σ.followedBy (execClti e d a imm s) := by
  unfold execClti
  repeat' first
    | with_reducible first
        | assumption | apply State.next_follows | apply State.regOp0_follows | apply State.ite_follows
    | split

theorem execAndi_follows {σ s : State} (e : CtxId) (d : VReg) (a : VReg) (imm : BitVec 16) (hσ : σ.follows s) :
    σ.followedBy (execAndi e d a imm s) := by
  unfold execAndi
  repeat' first
    | with_reducible first
        | assumption | apply State.next_follows | apply State.regOp0_follows | apply State.ite_follows
    | split

theorem execOri_follows {σ s : State} (e : CtxId) (d : VReg) (a : VReg) (imm : BitVec 16) (hσ : σ.follows s) :
    σ.followedBy (execOri e d a imm s) := by
  unfold execOri
  repeat' first
    | with_reducible first
        | assumption | apply State.next_follows | apply State.regOp0_follows | apply State.ite_follows
    | split

theorem execXori_follows {σ s : State} (e : CtxId) (d : VReg) (a : VReg) (imm : BitVec 16) (hσ : σ.follows s) :
    σ.followedBy (execXori e d a imm s) := by
  unfold execXori
  repeat' first
    | with_reducible first
        | assumption | apply State.next_follows | apply State.regOp0_follows | apply State.ite_follows
    | split

theorem execLhi_follows {σ s : State} (e : CtxId) (d : VReg) (imm : BitVec 16) (hσ : σ.follows s) : σ.followedBy
    (execLhi e d imm s) := by
  unfold execLhi
  repeat' first
    | with_reducible first
        | assumption | apply State.next_follows | apply State.regOp0_follows | apply State.ite_follows
    | split

theorem execLd_follows {σ s : State} (e : CtxId) (d : VReg) (a : VReg) (imm : BitVec 16) (p : Par) (hσ :
    σ.follows s) : σ.followedBy (execLd e d a imm p s) := by
  unfold execLd
  repeat' first
    | with_reducible first
        | assumption | apply State.next_follows | apply State.engineFault_follows | apply State.watch_follows
        | apply State.issue_follows | apply State.done_follows | apply State.parityRead_follows | intro _
    | split | apply State.mk_follows

theorem execSt_follows {σ s : State} (e : CtxId) (d : VReg) (a : VReg) (imm : BitVec 16) (hσ : σ.follows s) :
    σ.followedBy (execSt e d a imm s) := by
  unfold execSt
  repeat' first
    | with_reducible first
        | assumption | apply State.next_follows | apply State.setCtx_follows | apply State.engineFault_follows
        | apply State.watch_follows | apply State.issue_follows | apply State.storeWord_follows | intro _
    | split | apply State.mk_follows

theorem execPi_follows {σ s : State} (e : CtxId) (d : VReg) (a : VReg) (blk : BitVec 16) (rp : Fin 6) (bad :
    Option (Fin 5)) (hσ : σ.follows s) : σ.followedBy (execPi e d a blk rp bad s) := by
  unfold execPi
  repeat' first
    | with_reducible first
        | assumption | apply State.next_follows | apply State.engineFault_follows | apply State.watch_follows
        | apply State.issue_follows | apply State.done_follows | apply State.parityBlock_follows
        | apply State.storeWord_follows | intro _
    | split | apply State.mk_follows

theorem execLim_follows {σ s : State} (e : CtxId) (d : VReg) (a : VReg) (b : VReg) (hσ : σ.follows s) :
    σ.followedBy (execLim e d a b s) := by
  unfold execLim
  repeat' first
    | with_reducible first
        | assumption | apply State.next_follows | apply State.issueIf_follows | apply State.done_follows
        | intro _
    | split | apply State.mk_follows

theorem execLims_follows {σ s : State} (e : CtxId) (d : VReg) (a : VReg) (b : VReg) (hσ : σ.follows s) :
    σ.followedBy (execLims e d a b s) := by
  unfold execLims
  repeat' first
    | with_reducible first
        | assumption | apply State.next_follows | apply State.regOp0_follows | apply State.ite_follows
    | split

theorem execRamp_follows {σ s : State} (e : CtxId) (d : VReg) (a : VReg) (blk : BitVec 16) (rp : Fin 3) (bad :
    Option (Fin 2)) (hσ : σ.follows s) : σ.followedBy (execRamp e d a blk rp bad s) := by
  unfold execRamp
  repeat' first
    | with_reducible first
        | assumption | apply State.next_follows | apply State.engineFault_follows | apply State.watch_follows
        | apply State.issue_follows | apply State.done_follows | apply State.parityBlock_follows
        | apply State.storeWord_follows | intro _
    | split | apply State.mk_follows

theorem State.planSlot_follows {σ s : State} (e : CtxId) (d : VReg) (a : VReg) (sw : BitVec 7) (p : BitVec 2)
    (frac : Bool) (hσ : σ.follows s) : σ.follows (State.planSlot s e d a sw p frac) := by
  unfold State.planSlot
  repeat' first
    | with_reducible first
        | assumption | apply State.setCtx_follows | apply State.setStg_follows | apply State.engineFault_follows
        | apply State.issue_follows | intro _
    | split | apply State.mk_follows

theorem execPlant_follows {σ s : State} (e : CtxId) (d : VReg) (a : VReg) (sw : BitVec 7) (p : BitVec 2) (hσ :
    σ.follows s) : σ.followedBy (execPlant e d a sw p s) := by
  unfold execPlant
  repeat' first
    | with_reducible first
        | assumption | apply State.next_follows | apply State.planSlot_follows | apply State.ite_follows
    | split

theorem execPlanf_follows {σ s : State} (e : CtxId) (d : VReg) (a : VReg) (sw : BitVec 7) (p : BitVec 2) (hσ :
    σ.follows s) : σ.followedBy (execPlanf e d a sw p s) := by
  unfold execPlanf
  repeat' first
    | with_reducible first
        | assumption | apply State.next_follows | apply State.planSlot_follows | apply State.ite_follows
    | split

theorem execPlanc_follows {σ s : State} (e : CtxId) (sw : BitVec 7) (hσ : σ.follows s) : σ.followedBy (execPlanc
    e sw s) := by
  unfold execPlanc
  repeat' first
    | with_reducible first
        | assumption | apply State.next_follows | apply State.setCtx_follows | apply State.setStg_follows
        | apply State.engineFault_follows | apply State.issue_follows | intro _
    | split | apply State.mk_follows

theorem State.noteMargin_follows {σ s : State} (k : Stage) (late : Bool) (hσ : σ.follows s) : σ.follows
    (State.noteMargin s k late) := by
  unfold State.noteMargin
  repeat' first
    | with_reducible first
        | assumption | apply State.put_follows | apply State.ite_follows
    | split

theorem State.commitPlan_follows {σ s : State} (k : Stage) (hσ : σ.follows s) : σ.follows (State.commitPlan s k) := by
  unfold State.commitPlan
  repeat' first
    | with_reducible first
        | assumption | apply State.bump_follows | apply State.setStg_follows | apply State.noteMargin_follows
        | apply State.ite_follows
    | split

theorem execCommit_follows {σ s : State} (e : CtxId) (d : VReg) (hσ : σ.follows s) : σ.followedBy (execCommit e
    d s) := by
  unfold execCommit
  repeat' first
    | with_reducible first
        | assumption | apply State.next_follows | apply State.engineFault_follows | apply State.issue_follows
        | apply State.done_follows | apply State.commitPlan_follows | intro _
    | split | apply State.mk_follows

theorem State.tryStart_follows {σ s : State} (id : Nat) (p : List Par) (bad : Nat) (hσ : σ.follows s) :
    σ.follows (State.tryStart s id p bad) := by
  unfold State.tryStart
  repeat' first
    | with_reducible first
        | assumption | apply State.runCmd_follows | apply State.ite_follows
    | split

theorem execCommandStart_follows {σ s : State} (p : List Par) (bad : Fin 63) (hσ : σ.follows s) : σ.followedBy
    (execCommandStart p bad s) := by
  unfold execCommandStart
  repeat' first
    | with_reducible first
        | assumption | apply State.next_follows | apply State.runCmd_follows | apply State.ite_follows
    | split

theorem State.enqueue_follows {σ s : State} (c : Cmd) (hσ : σ.follows s) : σ.follows (State.enqueue s c) := by
  unfold State.enqueue
  dsimp only
  repeat' first
    | with_reducible first
        | assumption | apply State.put_follows | apply State.setMw_follows | apply State.src_follows
        | apply State.jOpen_follows | apply State.ite_follows
    | split | apply State.mk_follows

theorem State.accept_follows {σ s : State} (p : Nat) (src : List Byte) (b : List Byte) (desc : Option Nat) (par
    : List Par) (bad : Nat) (hσ : σ.follows s) : σ.follows (State.accept s p src b desc par bad) := by
  unfold State.accept
  repeat' first
    | with_reducible first
        | assumption | apply State.src_follows | apply State.tryStart_follows | apply State.enqueue_follows
        | apply State.ite_follows
    | split

theorem State.turnAway_follows {σ s : State} (p : Nat) (src : List Byte) (b : List Byte) (r : Nat) (hσ :
    σ.follows s) : σ.follows (State.turnAway s p src b r) := by
  unfold State.turnAway
  repeat' first
    | with_reducible first
        | assumption | apply State.bump_follows | apply State.src_follows | apply State.deliver_follows
        | apply State.ite_follows
    | split

theorem State.entryRead_follows {σ s : State} (a : Nat) (p : Par) (h : σ.follows s) : σ.follows (s.entryRead a
    p).2 := by
  cases p
  · exact h
  · exact State.extReplay_follows _ h
  · exact State.report_follows _ _ _ (State.extReplay_follows _ h)

theorem State.resend_follows {σ s : State} (p : Nat) (src : List Byte) (b : List Byte) (par : Par) (hσ :
    σ.follows s) : σ.follows (State.resend s p src b par) := by
  unfold State.resend
  repeat' first
    | with_reducible first
        | assumption | apply State.src_follows | apply State.deliver_follows | apply State.turnAway_follows
        | apply State.entryRead_follows | apply State.ite_follows
    | split

theorem State.submit_follows {σ s : State} (p : Nat) (src : List Byte) (b : List Byte) (par : List Par) (bad :
    Nat) (hσ : σ.follows s) : σ.follows (State.submit s p src b par bad) := by
  unfold State.submit
  repeat' first
    | with_reducible first
        | assumption | apply State.src_follows | apply State.accept_follows | apply State.turnAway_follows
        | apply State.resend_follows | apply State.ite_follows
    | split

theorem State.command_follows {σ s : State} (p : Fin 4) (op : Nat) (fence : Bool) (nseq : Bool) (pl : List Byte)
    (par : List Par) (bad : Nat) (hσ : σ.follows s) : σ.followedBy (State.command s p op fence nseq pl par bad) :=
    by
  unfold State.command
  repeat' first
    | with_reducible first
        | assumption | apply State.next_follows | apply State.src_follows | apply State.submit_follows
        | apply State.ite_follows
    | split

theorem execNop_follows {σ s : State} (p : Fin 4) (fence : Bool) (nseq : Bool) (pl : List Byte) (hσ : σ.follows
    s) : σ.followedBy (execNop p fence nseq pl s) := by
  unfold execNop
  repeat' first
    | with_reducible first
        | assumption | apply State.next_follows | apply State.command_follows | apply State.ite_follows
    | split

theorem execPing_follows {σ s : State} (p : Fin 4) (fence : Bool) (nseq : Bool) (pl : List Byte) (hσ : σ.follows
    s) : σ.followedBy (execPing p fence nseq pl s) := by
  unfold execPing
  repeat' first
    | with_reducible first
        | assumption | apply State.next_follows | apply State.command_follows | apply State.ite_follows
    | split

theorem execRead_follows {σ s : State} (p : Fin 4) (fence : Bool) (nseq : Bool) (pl : List Byte) (par : List
    Par) (bad : Fin 63) (hσ : σ.follows s) : σ.followedBy (execRead p fence nseq pl par bad s) := by
  unfold execRead
  repeat' first
    | with_reducible first
        | assumption | apply State.next_follows | apply State.command_follows | apply State.ite_follows
    | split

theorem execWrite_follows {σ s : State} (p : Fin 4) (fence : Bool) (pl : List Byte) (hσ : σ.follows s) :
    σ.followedBy (execWrite p fence pl s) := by
  unfold execWrite
  repeat' first
    | with_reducible first
        | assumption | apply State.next_follows | apply State.command_follows | apply State.ite_follows
    | split

theorem execWriteGroup_follows {σ s : State} (p : Fin 4) (fence : Bool) (pl : List Byte) (hσ : σ.follows s) :
    σ.followedBy (execWriteGroup p fence pl s) := by
  unfold execWriteGroup
  repeat' first
    | with_reducible first
        | assumption | apply State.next_follows | apply State.command_follows | apply State.ite_follows
    | split

theorem execPersistWrite_follows {σ s : State} (p : Fin 4) (fence : Bool) (pl : List Byte) (hσ : σ.follows s) :
    σ.followedBy (execPersistWrite p fence pl s) := by
  unfold execPersistWrite
  repeat' first
    | with_reducible first
        | assumption | apply State.next_follows | apply State.command_follows | apply State.ite_follows
    | split

theorem execEraseInactiveBank_follows {σ s : State} (p : Fin 4) (fence : Bool) (pl : List Byte) (hσ : σ.follows
    s) : σ.followedBy (execEraseInactiveBank p fence pl s) := by
  unfold execEraseInactiveBank
  repeat' first
    | with_reducible first
        | assumption | apply State.next_follows | apply State.command_follows | apply State.ite_follows
    | split

theorem execWriteBank_follows {σ s : State} (p : Fin 4) (fence : Bool) (pl : List Byte) (hσ : σ.follows s) :
    σ.followedBy (execWriteBank p fence pl s) := by
  unfold execWriteBank
  repeat' first
    | with_reducible first
        | assumption | apply State.next_follows | apply State.command_follows | apply State.ite_follows
    | split

theorem execCheckBank_follows {σ s : State} (p : Fin 4) (fence : Bool) (pl : List Byte) (hσ : σ.follows s) :
    σ.followedBy (execCheckBank p fence pl s) := by
  unfold execCheckBank
  repeat' first
    | with_reducible first
        | assumption | apply State.next_follows | apply State.command_follows | apply State.ite_follows
    | split

theorem execLoadEngine_follows {σ s : State} (p : Fin 4) (fence : Bool) (pl : List Byte) (hσ : σ.follows s) :
    σ.followedBy (execLoadEngine p fence pl s) := by
  unfold execLoadEngine
  repeat' first
    | with_reducible first
        | assumption | apply State.next_follows | apply State.command_follows | apply State.ite_follows
    | split

theorem execStartStage_follows {σ s : State} (p : Fin 4) (fence : Bool) (pl : List Byte) (hσ : σ.follows s) :
    σ.followedBy (execStartStage p fence pl s) := by
  unfold execStartStage
  repeat' first
    | with_reducible first
        | assumption | apply State.next_follows | apply State.command_follows | apply State.ite_follows
    | split

theorem execStopStage_follows {σ s : State} (p : Fin 4) (fence : Bool) (pl : List Byte) (hσ : σ.follows s) :
    σ.followedBy (execStopStage p fence pl s) := by
  unfold execStopStage
  repeat' first
    | with_reducible first
        | assumption | apply State.next_follows | apply State.command_follows | apply State.ite_follows
    | split

theorem execSetMode_follows {σ s : State} (p : Fin 4) (fence : Bool) (pl : List Byte) (hσ : σ.follows s) :
    σ.followedBy (execSetMode p fence pl s) := by
  unfold execSetMode
  repeat' first
    | with_reducible first
        | assumption | apply State.next_follows | apply State.command_follows | apply State.ite_follows
    | split

theorem execSetpoint_follows {σ s : State} (p : Fin 4) (fence : Bool) (pl : List Byte) (hσ : σ.follows s) :
    σ.followedBy (execSetpoint p fence pl s) := by
  unfold execSetpoint
  repeat' first
    | with_reducible first
        | assumption | apply State.next_follows | apply State.command_follows | apply State.ite_follows
    | split

theorem execSetpointGroup_follows {σ s : State} (p : Fin 4) (fence : Bool) (pl : List Byte) (hσ : σ.follows s) :
    σ.followedBy (execSetpointGroup p fence pl s) := by
  unfold execSetpointGroup
  repeat' first
    | with_reducible first
        | assumption | apply State.next_follows | apply State.command_follows | apply State.ite_follows
    | split

theorem execClaimAuthority_follows {σ s : State} (p : Fin 4) (fence : Bool) (pl : List Byte) (hσ : σ.follows s)
    : σ.followedBy (execClaimAuthority p fence pl s) := by
  unfold execClaimAuthority
  repeat' first
    | with_reducible first
        | assumption | apply State.next_follows | apply State.command_follows | apply State.ite_follows
    | split

theorem execReleaseAuthority_follows {σ s : State} (p : Fin 4) (fence : Bool) (pl : List Byte) (hσ : σ.follows
    s) : σ.followedBy (execReleaseAuthority p fence pl s) := by
  unfold execReleaseAuthority
  repeat' first
    | with_reducible first
        | assumption | apply State.next_follows | apply State.command_follows | apply State.ite_follows
    | split

theorem execJournalRead_follows {σ s : State} (p : Fin 4) (fence : Bool) (nseq : Bool) (q : JournalAsk) (hσ :
    σ.follows s) : σ.followedBy (execJournalRead p fence nseq q s) := by
  unfold execJournalRead
  repeat' first
    | with_reducible first
        | assumption | apply State.next_follows | apply State.command_follows | apply State.ite_follows
    | split

theorem execFaultClear_follows {σ s : State} (p : Fin 4) (fence : Bool) (pl : List Byte) (hσ : σ.follows s) :
    σ.followedBy (execFaultClear p fence pl s) := by
  unfold execFaultClear
  repeat' first
    | with_reducible first
        | assumption | apply State.next_follows | apply State.command_follows | apply State.ite_follows
    | split

theorem execResume_follows {σ s : State} (p : Fin 4) (fence : Bool) (pl : List Byte) (hσ : σ.follows s) :
    σ.followedBy (execResume p fence pl s) := by
  unfold execResume
  repeat' first
    | with_reducible first
        | assumption | apply State.next_follows | apply State.command_follows | apply State.ite_follows
    | split

theorem execSafetyAck_follows {σ s : State} (p : Fin 4) (fence : Bool) (pl : List Byte) (hσ : σ.follows s) :
    σ.followedBy (execSafetyAck p fence pl s) := by
  unfold execSafetyAck
  repeat' first
    | with_reducible first
        | assumption | apply State.next_follows | apply State.command_follows | apply State.ite_follows
    | split

theorem execLatchMeter_follows {σ s : State} (p : Fin 4) (fence : Bool) (pl : List Byte) (hσ : σ.follows s) :
    σ.followedBy (execLatchMeter p fence pl s) := by
  unfold execLatchMeter
  repeat' first
    | with_reducible first
        | assumption | apply State.next_follows | apply State.command_follows | apply State.ite_follows
    | split

theorem execEventMask_follows {σ s : State} (p : Fin 4) (fence : Bool) (pl : List Byte) (hσ : σ.follows s) :
    σ.followedBy (execEventMask p fence pl s) := by
  unfold execEventMask
  repeat' first
    | with_reducible first
        | assumption | apply State.next_follows | apply State.command_follows | apply State.ite_follows
    | split

end Sys2Proof.Machine
end

