-- ==== Sys2Proof/Laws/FollowsPorts.lean ====
section
/-! SUPPORT. What every operation respects (`State.follows`): system instructions, the debug port, the ports, direct register writes and the idle step. -/

namespace Sys2Proof.Machine

theorem State.sysRead_follows {σ s : State} (e : CtxId) (a : Nat) (p : Par) (hσ : σ.follows s) : σ.follows
    (State.sysRead s e a p).2 := by
  unfold State.sysRead
  repeat' first
    | with_reducible first
        | assumption | apply State.fresh_follows | apply State.report_follows | apply State.replayOf_follows
        | apply State.touch_follows | apply State.readWord_follows | apply State.ite_follows
    | split

theorem execSysRd_follows {σ s : State} (e : CtxId) (d : VReg) (a : VReg) (p : Par) (hσ : σ.follows s) :
    σ.followedBy (execSysRd e d a p s) := by
  unfold execSysRd
  repeat' first
    | with_reducible first
        | assumption | apply State.next_follows | apply State.issueIf_follows | apply State.done_follows
        | apply State.sysRead_follows | intro _
    | split | apply State.mk_follows

theorem execSysMrd_follows {σ s : State} (e : CtxId) (d : VReg) (a : VReg) (p : Par) (hσ : σ.follows s) :
    σ.followedBy (execSysMrd e d a p s) := by
  unfold execSysMrd
  try dsimp only
  repeat' first
    | with_reducible first
        | assumption | intro _ | apply State.next_follows | apply State.replayOf_follows
        | apply State.parityFail_follows | apply State.issueIf_follows | apply State.done_follows
        | (refine State.pair_follows ?_ (by assumption)) | (refine State.triple_follows ?_ (by assumption))
        | apply State.ite_follows
    | split | dsimp only | apply State.mk_follows

theorem execSysWr_follows {σ s : State} (e : CtxId) (d : VReg) (a : VReg) (b : VReg) (hσ : σ.follows s) :
    σ.followedBy (execSysWr e d a b s) := by
  unfold execSysWr
  try dsimp only
  repeat' first
    | with_reducible first
        | assumption | intro _ | apply State.next_follows | apply State.setMw_follows
        | apply State.issueIf_follows | apply State.done_follows
        | (refine State.pair_follows ?_ (by assumption)) | (refine State.triple_follows ?_ (by assumption))
        | apply State.ite_follows
    | split | dsimp only | apply State.mk_follows

theorem State.submitDesc_follows {σ s : State} (w : Nat) (par : List Par) (bad : Nat) (hσ : σ.follows s) :
    σ.follows (State.submitDesc s w par bad).2 := by
  unfold State.submitDesc
  dsimp only
  repeat' first
    | with_reducible first
        | assumption | apply State.bump_follows | apply State.setMw_follows | apply State.accept_follows
        | apply State.ite_follows
    | split

theorem execSysCmd_follows {σ s : State} (e : CtxId) (d : VReg) (a : VReg) (rp : Fin 67) (lost : Option (Fin
    66)) (par : List Par) (bad : Fin 63) (hσ : σ.follows s) : σ.followedBy (execSysCmd e d a rp lost par bad s) :=
    by
  unfold execSysCmd
  try dsimp only
  repeat' first
    | with_reducible first
        | assumption | intro _ | apply State.next_follows | apply State.issueIf_follows
        | apply State.done_follows | apply State.parityBlock_follows | apply State.submitDesc_follows
        | (refine State.pair_follows ?_ (by assumption)) | (refine State.triple_follows ?_ (by assumption))
        | apply State.ite_follows
    | split | dsimp only | apply State.mk_follows

theorem execBrk_follows {σ s : State} (e : CtxId) (code : BitVec 16) (hσ : σ.follows s) : σ.followedBy (execBrk
    e code s) := by
  unfold execBrk
  try dsimp only
  repeat' first
    | with_reducible first
        | assumption | intro _ | apply State.next_follows | apply State.put_follows | apply State.setCtx_follows
        | apply State.trigger_follows | apply State.issue_follows
        | (refine State.pair_follows ?_ (by assumption)) | (refine State.triple_follows ?_ (by assumption))
        | apply State.ite_follows
    | split | dsimp only | apply State.mk_follows

theorem State.direct_follows {σ s : State} (p : Fin 6) (a : Nat) (v : Word) (hσ : σ.follows s) : σ.followedBy
    (State.direct s p a v) := by
  unfold State.direct
  repeat' first
    | with_reducible first
        | assumption | apply State.next_follows | apply State.writeOut_follows | apply State.ite_follows
    | split

theorem execStartContext_follows {σ s : State} (p : Fin 6) (k : Stage) (hσ : σ.follows s) : σ.followedBy
    (execStartContext p k s) := by
  unfold execStartContext
  repeat' first
    | with_reducible first
        | assumption | apply State.next_follows | apply State.direct_follows | apply State.ite_follows
    | split

theorem execStopContext_follows {σ s : State} (p : Fin 6) (k : Stage) (hσ : σ.follows s) : σ.followedBy
    (execStopContext p k s) := by
  unfold execStopContext
  repeat' first
    | with_reducible first
        | assumption | apply State.next_follows | apply State.direct_follows | apply State.ite_follows
    | split

theorem execClearContextStats_follows {σ s : State} (p : Fin 6) (k : Stage) (hσ : σ.follows s) : σ.followedBy
    (execClearContextStats p k s) := by
  unfold execClearContextStats
  repeat' first
    | with_reducible first
        | assumption | apply State.next_follows | apply State.direct_follows | apply State.ite_follows
    | split

theorem execHsStart_follows {σ s : State} (p : Fin 6) (hσ : σ.follows s) : σ.followedBy (execHsStart p s) := by
  unfold execHsStart
  repeat' first
    | with_reducible first
        | assumption | apply State.next_follows | apply State.direct_follows | apply State.ite_follows
    | split

theorem execHsStop_follows {σ s : State} (p : Fin 6) (hσ : σ.follows s) : σ.followedBy (execHsStop p s) := by
  unfold execHsStop
  repeat' first
    | with_reducible first
        | assumption | apply State.next_follows | apply State.direct_follows | apply State.ite_follows
    | split

theorem execHsClearRunmax_follows {σ s : State} (p : Fin 6) (hσ : σ.follows s) : σ.followedBy (execHsClearRunmax
    p s) := by
  unfold execHsClearRunmax
  repeat' first
    | with_reducible first
        | assumption | apply State.next_follows | apply State.direct_follows | apply State.ite_follows
    | split

theorem execHsTimerWrite_follows {σ s : State} (p : Fin 6) (i : Fin 2) (v : Word) (hσ : σ.follows s) :
    σ.followedBy (execHsTimerWrite p i v s) := by
  unfold execHsTimerWrite
  repeat' first
    | with_reducible first
        | assumption | apply State.next_follows | apply State.direct_follows | apply State.ite_follows
    | split

theorem execAdcRestart_follows {σ s : State} (p : Fin 6) (mask : BitVec 4) (hσ : σ.follows s) : σ.followedBy
    (execAdcRestart p mask s) := by
  unfold execAdcRestart
  repeat' first
    | with_reducible first
        | assumption | apply State.next_follows | apply State.direct_follows | apply State.ite_follows
    | split

theorem execAdcCalibrate_follows {σ s : State} (p : Fin 6) (hσ : σ.follows s) : σ.followedBy (execAdcCalibrate p
    s) := by
  unfold execAdcCalibrate
  repeat' first
    | with_reducible first
        | assumption | apply State.next_follows | apply State.direct_follows | apply State.ite_follows
    | split

theorem execAdcScanWrite_follows {σ s : State} (p : Fin 6) (a : Fin 4) (mask : BitVec 16) (hσ : σ.follows s) :
    σ.followedBy (execAdcScanWrite p a mask s) := by
  unfold execAdcScanWrite
  repeat' first
    | with_reducible first
        | assumption | apply State.next_follows | apply State.direct_follows | apply State.ite_follows
    | split

theorem execMmClr_follows {σ s : State} (p : Fin 6) (e : Fin 64) (hσ : σ.follows s) : σ.followedBy (execMmClr p
    e s) := by
  unfold execMmClr
  repeat' first
    | with_reducible first
        | assumption | apply State.next_follows | apply State.direct_follows | apply State.ite_follows
    | split

theorem execComparatorEnable_follows {σ s : State} (p : Fin 6) (c : Fin 24) (hσ : σ.follows s) : σ.followedBy
    (execComparatorEnable p c s) := by
  unfold execComparatorEnable
  repeat' first
    | with_reducible first
        | assumption | apply State.next_follows | apply State.direct_follows | apply State.ite_follows
    | split

theorem execCmpTripClear_follows {σ s : State} (p : Fin 6) (c : Fin 24) (hσ : σ.follows s) : σ.followedBy
    (execCmpTripClear p c s) := by
  unfold execCmpTripClear
  repeat' first
    | with_reducible first
        | assumption | apply State.next_follows | apply State.direct_follows | apply State.ite_follows
    | split

theorem execStgRunSet_follows {σ s : State} (p : Fin 6) (k : Stage) (hσ : σ.follows s) : σ.followedBy
    (execStgRunSet p k s) := by
  unfold execStgRunSet
  repeat' first
    | with_reducible first
        | assumption | apply State.next_follows | apply State.direct_follows | apply State.ite_follows
    | split

theorem execStgRunClear_follows {σ s : State} (p : Fin 6) (k : Stage) (hσ : σ.follows s) : σ.followedBy
    (execStgRunClear p k s) := by
  unfold execStgRunClear
  repeat' first
    | with_reducible first
        | assumption | apply State.next_follows | apply State.direct_follows | apply State.ite_follows
    | split

theorem execStgTbWrite_follows {σ s : State} (p : Fin 6) (k : Stage) (on : Bool) (hσ : σ.follows s) :
    σ.followedBy (execStgTbWrite p k on s) := by
  unfold execStgTbWrite
  repeat' first
    | with_reducible first
        | assumption | apply State.next_follows | apply State.direct_follows | apply State.ite_follows
    | split

theorem execStgClr_follows {σ s : State} (p : Fin 6) (k : Stage) (hσ : σ.follows s) : σ.followedBy (execStgClr p
    k s) := by
  unfold execStgClr
  repeat' first
    | with_reducible first
        | assumption | apply State.next_follows | apply State.direct_follows | apply State.ite_follows
    | split

theorem execTableClearBand_follows {σ s : State} (p : Fin 6) (k : Stage) (bands : BitVec 4) (hσ : σ.follows s) :
    σ.followedBy (execTableClearBand p k bands s) := by
  unfold execTableClearBand
  repeat' first
    | with_reducible first
        | assumption | apply State.next_follows | apply State.direct_follows | apply State.ite_follows
    | split

theorem execTableStatClear_follows {σ s : State} (p : Fin 6) (k : Stage) (hσ : σ.follows s) : σ.followedBy
    (execTableStatClear p k s) := by
  unfold execTableStatClear
  repeat' first
    | with_reducible first
        | assumption | apply State.next_follows | apply State.direct_follows | apply State.ite_follows
    | split

theorem execEnseqRequest_follows {σ s : State} (p : Fin 6) (n : Link) (hσ : σ.follows s) : σ.followedBy
    (execEnseqRequest p n s) := by
  unfold execEnseqRequest
  repeat' first
    | with_reducible first
        | assumption | apply State.next_follows | apply State.direct_follows | apply State.ite_follows
    | split

theorem execGrdTclr_follows {σ s : State} (p : Fin 6) (g : Fin 4) (hσ : σ.follows s) : σ.followedBy (execGrdTclr
    p g s) := by
  unfold execGrdTclr
  repeat' first
    | with_reducible first
        | assumption | apply State.next_follows | apply State.direct_follows | apply State.ite_follows
    | split

theorem execGrdEnable_follows {σ s : State} (p : Fin 6) (g : Fin 4) (hσ : σ.follows s) : σ.followedBy
    (execGrdEnable p g s) := by
  unfold execGrdEnable
  repeat' first
    | with_reducible first
        | assumption | apply State.next_follows | apply State.direct_follows | apply State.ite_follows
    | split

theorem execIslTclr_follows {σ s : State} (p : Fin 6) (g : Fin 4) (hσ : σ.follows s) : σ.followedBy (execIslTclr
    p g s) := by
  unfold execIslTclr
  repeat' first
    | with_reducible first
        | assumption | apply State.next_follows | apply State.direct_follows | apply State.ite_follows
    | split

theorem execRcStart_follows {σ s : State} (p : Fin 6) (g : Fin 4) (hσ : σ.follows s) : σ.followedBy (execRcStart
    p g s) := by
  unfold execRcStart
  repeat' first
    | with_reducible first
        | assumption | apply State.next_follows | apply State.direct_follows | apply State.ite_follows
    | split

theorem execContactorClose_follows {σ s : State} (p : Fin 6) (hσ : σ.follows s) : σ.followedBy
    (execContactorClose p s) := by
  unfold execContactorClose
  repeat' first
    | with_reducible first
        | assumption | apply State.next_follows | apply State.direct_follows | apply State.ite_follows
    | split

theorem execContactorOpen_follows {σ s : State} (p : Fin 6) (hσ : σ.follows s) : σ.followedBy (execContactorOpen
    p s) := by
  unfold execContactorOpen
  repeat' first
    | with_reducible first
        | assumption | apply State.next_follows | apply State.direct_follows | apply State.ite_follows
    | split

theorem execEnergySaveNow_follows {σ s : State} (p : Fin 6) (hσ : σ.follows s) : σ.followedBy (execEnergySaveNow
    p s) := by
  unfold execEnergySaveNow
  repeat' first
    | with_reducible first
        | assumption | apply State.next_follows | apply State.direct_follows | apply State.ite_follows
    | split

theorem execMeterDiscard_follows {σ s : State} (p : Fin 6) (m : Fin 4) (hσ : σ.follows s) : σ.followedBy
    (execMeterDiscard p m s) := by
  unfold execMeterDiscard
  repeat' first
    | with_reducible first
        | assumption | apply State.next_follows | apply State.direct_follows | apply State.ite_follows
    | split

theorem execMeterEnable_follows {σ s : State} (p : Fin 6) (m : Fin 4) (hσ : σ.follows s) : σ.followedBy
    (execMeterEnable p m s) := by
  unfold execMeterEnable
  repeat' first
    | with_reducible first
        | assumption | apply State.next_follows | apply State.direct_follows | apply State.ite_follows
    | split

theorem execSafClr_follows {σ s : State} (p : Fin 6) (hσ : σ.follows s) : σ.followedBy (execSafClr p s) := by
  unfold execSafClr
  repeat' first
    | with_reducible first
        | assumption | apply State.next_follows | apply State.direct_follows | apply State.ite_follows
    | split

theorem execFltCclr_follows {σ s : State} (p : Fin 6) (hσ : σ.follows s) : σ.followedBy (execFltCclr p s) := by
  unfold execFltCclr
  repeat' first
    | with_reducible first
        | assumption | apply State.next_follows | apply State.direct_follows | apply State.ite_follows
    | split

theorem execAutoEnWrite_follows {σ s : State} (p : Fin 6) (on : Bool) (hσ : σ.follows s) : σ.followedBy
    (execAutoEnWrite p on s) := by
  unfold execAutoEnWrite
  repeat' first
    | with_reducible first
        | assumption | apply State.next_follows | apply State.direct_follows | apply State.ite_follows
    | split

theorem execSysModereqWrite_follows {σ s : State} (p : Fin 6) (target : BitVec 4) (hσ : σ.follows s) :
    σ.followedBy (execSysModereqWrite p target s) := by
  unfold execSysModereqWrite
  repeat' first
    | with_reducible first
        | assumption | apply State.next_follows | apply State.direct_follows | apply State.ite_follows
    | split

theorem execNetEnable_follows {σ s : State} (p : Fin 6) (i : Fin 2) (hσ : σ.follows s) : σ.followedBy
    (execNetEnable p i s) := by
  unfold execNetEnable
  repeat' first
    | with_reducible first
        | assumption | apply State.next_follows | apply State.direct_follows | apply State.ite_follows
    | split

theorem execMdioStart_follows {σ s : State} (p : Fin 6) (reg : BitVec 5) (phy : BitVec 5) (wr : Bool) (data :
    BitVec 16) (hσ : σ.follows s) : σ.followedBy (execMdioStart p reg phy wr data s) := by
  unfold execMdioStart
  repeat' first
    | with_reducible first
        | assumption | apply State.next_follows | apply State.direct_follows | apply State.ite_follows
    | split

theorem execRtcSet_follows {σ s : State} (p : Fin 6) (sec : Word) (hσ : σ.follows s) : σ.followedBy (execRtcSet
    p sec s) := by
  unfold execRtcSet
  repeat' first
    | with_reducible first
        | assumption | apply State.next_follows | apply State.direct_follows | apply State.ite_follows
    | split

theorem execRtcSetDone_follows {σ s : State} (hσ : σ.follows s) : σ.followedBy (execRtcSetDone s) := by
  unfold execRtcSetDone
  dsimp only
  repeat' first
    | with_reducible first
        | assumption | apply State.next_follows | apply State.setReg_follows | apply State.put_follows
        | apply State.ite_follows
    | split | apply State.mk_follows

theorem nextOr_follows {σ s : State} {r : Res} (h : σ.follows s) (k : σ.followedBy r) : σ.follows (nextOr s r) := by
  cases r
  · exact k _ rfl
  · exact h
  · exact h

theorem issueFj_follows {σ s : State} (i : Instr) (h : σ.follows s) : σ.follows (issueFj s i) := by
  cases i
  case add => exact nextOr_follows h (execAdd_follows _ _ _ _ h)
  case sub => exact nextOr_follows h (execSub_follows _ _ _ _ h)
  case adds => exact nextOr_follows h (execAdds_follows _ _ _ _ h)
  case subs => exact nextOr_follows h (execSubs_follows _ _ _ _ h)
  case and => exact nextOr_follows h (execAnd_follows _ _ _ _ h)
  case or => exact nextOr_follows h (execOr_follows _ _ _ _ h)
  case xor => exact nextOr_follows h (execXor_follows _ _ _ _ h)
  case andn => exact nextOr_follows h (execAndn_follows _ _ _ _ h)
  case shl => exact nextOr_follows h (execShl_follows _ _ _ _ h)
  case shr => exact nextOr_follows h (execShr_follows _ _ _ _ h)
  case sar => exact nextOr_follows h (execSar_follows _ _ _ _ h)
  case shli => exact nextOr_follows h (execShli_follows _ _ _ _ h)
  case shri => exact nextOr_follows h (execShri_follows _ _ _ _ h)
  case sari => exact nextOr_follows h (execSari_follows _ _ _ _ h)
  case mul => exact nextOr_follows h (execMul_follows _ _ _ _ h)
  case mulh => exact nextOr_follows h (execMulh_follows _ _ _ _ h)
  case div => exact nextOr_follows h (execDiv_follows _ _ _ _ h)
  case clt => exact nextOr_follows h (execClt_follows _ _ _ _ h)
  case cltu => exact nextOr_follows h (execCltu_follows _ _ _ _ h)
  case ceq => exact nextOr_follows h (execCeq_follows _ _ _ _ h)
  case min => exact nextOr_follows h (execMin_follows _ _ _ _ h)
  case max => exact nextOr_follows h (execMax_follows _ _ _ _ h)
  case jlr => exact nextOr_follows h (execJlr_follows _ _ _ h)
  case sfrd => exact nextOr_follows h (execSfrd_follows _ _ h)
  case padd => exact nextOr_follows h (execPadd_follows _ _ _ _ h)
  case psub => exact nextOr_follows h (execPsub_follows _ _ _ _ h)
  case pneg => exact nextOr_follows h (execPneg_follows _ _ _ h)
  case pabs => exact nextOr_follows h (execPabs_follows _ _ _ h)
  case pmul => exact nextOr_follows h (execPmul_follows _ _ _ _ h)
  case pshl => exact nextOr_follows h (execPshl_follows _ _ _ _ h)
  case pshr => exact nextOr_follows h (execPshr_follows _ _ _ _ h)
  case pdiv => exact nextOr_follows h (execPdiv_follows _ _ _ _ h)
  case itop => exact nextOr_follows h (execItop_follows _ _ _ _ h)
  case ptoi => exact nextOr_follows h (execPtoi_follows _ _ _ _ h)
  case pmac => exact nextOr_follows h (execPmac_follows _ _ _ _ h)
  case pmsb => exact nextOr_follows h (execPmsb_follows _ _ _ _ h)
  case accld => exact nextOr_follows h (execAccld_follows _ _ _ h)
  case accadd => exact nextOr_follows h (execAccadd_follows _ _ _ h)
  case accrd => exact nextOr_follows h (execAccrd_follows _ _ _ h)
  case accclr => exact nextOr_follows h (execAccclr_follows _ _ h)
  case acclo => exact nextOr_follows h (execAcclo_follows _ _ _ h)
  case acchi => exact nextOr_follows h (execAcchi_follows _ _ _ h)
  case accset => exact nextOr_follows h (execAccset_follows _ _ _ _ h)
  case pli => exact nextOr_follows h (execPli_follows _ _ _ h)
  case paddi => exact nextOr_follows h (execPaddi_follows _ _ _ _ h)
  case addi => exact nextOr_follows h (execAddi_follows _ _ _ _ h)
  case clti => exact nextOr_follows h (execClti_follows _ _ _ _ h)
  case andi => exact nextOr_follows h (execAndi_follows _ _ _ _ h)
  case ori => exact nextOr_follows h (execOri_follows _ _ _ _ h)
  case xori => exact nextOr_follows h (execXori_follows _ _ _ _ h)
  case lhi => exact nextOr_follows h (execLhi_follows _ _ _ h)
  case beq => exact nextOr_follows h (execBeq_follows _ _ _ _ h)
  case bne => exact nextOr_follows h (execBne_follows _ _ _ _ h)
  case blt => exact nextOr_follows h (execBlt_follows _ _ _ _ h)
  case bge => exact nextOr_follows h (execBge_follows _ _ _ _ h)
  case bltu => exact nextOr_follows h (execBltu_follows _ _ _ _ h)
  case bgeu => exact nextOr_follows h (execBgeu_follows _ _ _ _ h)
  case jl => exact nextOr_follows h (execJl_follows _ _ _ h)
  case ld => exact nextOr_follows h (execLd_follows _ _ _ _ _ h)
  case st => exact nextOr_follows h (execSt_follows _ _ _ _ h)
  case clarke => exact nextOr_follows h (execClarke_follows _ _ _ _ h)
  case clarke2 => exact nextOr_follows h (execClarke2_follows _ _ _ h)
  case park => exact nextOr_follows h (execPark_follows _ _ _ _ h)
  case ipark => exact nextOr_follows h (execIpark_follows _ _ _ _ h)
  case sincos => exact nextOr_follows h (execSincos_follows _ _ _ h)
  case pi => exact nextOr_follows h (execPi_follows _ _ _ _ _ _ h)
  case lim => exact nextOr_follows h (execLim_follows _ _ _ _ h)
  case lims => exact nextOr_follows h (execLims_follows _ _ _ _ h)
  case ramp => exact nextOr_follows h (execRamp_follows _ _ _ _ _ _ h)
  case tbl => exact nextOr_follows h (execTbl_follows _ _ _ _ _ _ _ h)
  case tblu => exact nextOr_follows h (execTblu_follows _ _ _ _ _ _ _ h)
  case avg => exact nextOr_follows h (execAvg_follows _ _ _ _ h)
  case smp => exact nextOr_follows h (execSmp_follows _ _ _ _ h)
  case grid => exact nextOr_follows h (execGrid_follows _ _ _ _ h)
  case mtr => exact nextOr_follows h (execMtr_follows _ _ _ _ h)
  case plant => exact nextOr_follows h (execPlant_follows _ _ _ _ _ h)
  case planf => exact nextOr_follows h (execPlanf_follows _ _ _ _ _ h)
  case planc => exact nextOr_follows h (execPlanc_follows _ _ h)
  case commit => exact nextOr_follows h (execCommit_follows _ _ h)
  case wait => exact nextOr_follows h (execWait_follows _ _ h)
  case evt => exact nextOr_follows h (execEvt_follows _ _ h)
  case sfclr => exact nextOr_follows h (execSfclr_follows _ _ _ h)
  case sysRd => exact nextOr_follows h (execSysRd_follows _ _ _ _ h)
  case sysMrd => exact nextOr_follows h (execSysMrd_follows _ _ _ _ h)
  case sysWr => exact nextOr_follows h (execSysWr_follows _ _ _ _ h)
  case sysCmd => exact nextOr_follows h (execSysCmd_follows _ _ _ _ _ _ _ h)
  case brk => exact nextOr_follows h (execBrk_follows _ _ h)
  all_goals exact h

theorem State.issueFetched_follows {σ s : State} (e : CtxId) (p : Par) (h : σ.follows s) :
    σ.follows (State.issueFetched s e p) := by
  unfold State.issueFetched
  generalize decodeFj e (s.mw (imemAddr e s.ctx[e].pc)) p = x
  cases x
  · exact State.issue_follows _ _ (fun t k => State.engineFault_follows _ _ k) h
  · exact issueFj_follows _ h

theorem execIllegalOpcode_follows {σ s : State} (e : CtxId) (w : Word) (hσ : σ.follows s) : σ.followedBy
    (execIllegalOpcode e w s) := by
  unfold execIllegalOpcode
  repeat' first
    | with_reducible first
        | assumption | apply State.next_follows | apply State.engineFault_follows | apply State.issue_follows
        | intro _
    | split | apply State.mk_follows

theorem State.endStep_follows {σ s : State} (e : CtxId) (before : CtxSt) (sleeps : Bool) (hσ : σ.follows s) :
    σ.follows (State.endStep s e before sleeps) := by
  unfold State.endStep
  repeat' first
    | with_reducible first
        | assumption | apply State.put_follows | apply State.putB_follows | apply State.setCtx_follows
        | apply State.src_follows | apply State.ite_follows
    | split

theorem State.stepWait_follows {σ s : State} (e : CtxId) (hσ : σ.follows s) : σ.follows (State.stepWait s e) := by
  unfold State.stepWait
  repeat' first
    | with_reducible first
        | assumption | apply State.setCtx_follows | apply State.waitReturn_follows
        | apply State.hsDispatch_follows | apply State.latch_follows | apply State.ite_follows
    | split

theorem State.stepFetched_follows {σ s : State} (e : CtxId) (p : StepPar) (hσ : σ.follows s) : σ.follows
    (State.stepFetched s e p) := by
  unfold State.stepFetched
  repeat' first
    | with_reducible first
        | assumption | apply State.fetch_follows | apply State.repairFetch_follows
        | apply State.issueFetched_follows | intro _
    | split | apply State.mk_follows

theorem State.debugStep_follows {σ s : State} (e : CtxId) (p : StepPar) (hσ : σ.follows s) : σ.follows
    (State.debugStep s e p) := by
  unfold State.debugStep
  repeat' first
    | with_reducible first
        | assumption | apply State.setCtx_follows | apply State.endStep_follows | apply State.stepWait_follows
        | apply State.stepFetched_follows | apply State.ite_follows
    | split

theorem State.devarWrite_follows {σ s : State} (a : Nat) (v : Word) (p : StepPar) (hσ : σ.follows s) : σ.follows
    (State.devarWrite s a v p).2 := by
  unfold State.devarWrite
  dsimp only
  repeat' first
    | with_reducible first
        | assumption | apply State.bump_follows | apply State.write_follows | apply State.debugStep_follows
        | apply State.ite_follows
    | split

theorem State.devarAnswer_follows {σ s : State} (r : Nat) (tag : BitVec 4) (data : List Byte) (hσ : σ.follows s)
    : σ.follows (State.devarAnswer s r tag data) := by
  unfold State.devarAnswer
  repeat' first
    | with_reducible first
        | assumption | apply State.emit_follows | apply State.ite_follows
    | split

theorem State.devarPacket_follows {σ s : State} (tag : BitVec 4) (isRead : Bool) (f : State → Nat × Word ×
    State) (hf : ∀ t, σ.follows t → σ.follows (f t).2.2) (hσ : σ.follows s) : σ.followedBy (State.devarPacket s tag
    isRead f) := by
  unfold State.devarPacket
  repeat' first
    | with_reducible first
        | assumption | exact hf _ hσ | apply hf | apply State.next_follows | apply State.devarAnswer_follows
        | apply State.ite_follows
    | split

theorem execDevarRead_follows {σ s : State} (a : Word) (tag : BitVec 4) (p : Par) (hσ : σ.follows s) :
    σ.followedBy (execDevarRead a tag p s) := by
  unfold execDevarRead
  repeat' first
    | with_reducible first
        | assumption | apply State.next_follows | apply State.readWord_follows | apply State.devarPacket_follows
        | intro _
    | split | apply State.mk_follows

theorem execDevarWrite_follows {σ s : State} (a : Word) (v : Word) (tag : BitVec 4) (p : StepPar) (hσ :
    σ.follows s) : σ.followedBy (execDevarWrite a v tag p s) := by
  unfold execDevarWrite
  repeat' first
    | with_reducible first
        | assumption | apply State.next_follows | apply State.devarWrite_follows
        | apply State.devarPacket_follows | intro _
    | split | apply State.mk_follows

theorem execUnlock_follows {σ s : State} (key : Word) (tag : BitVec 4) (hσ : σ.follows s) : σ.followedBy
    (execUnlock key tag s) := by
  unfold execUnlock
  repeat' first
    | with_reducible first
        | assumption | apply State.next_follows | apply State.put_follows | apply State.putB_follows
        | apply State.bump_follows | apply State.src_follows | apply State.devarPacket_follows | intro _
    | split | apply State.mk_follows

theorem execLock_follows {σ s : State} (tag : BitVec 4) (hσ : σ.follows s) : σ.followedBy (execLock tag s) := by
  unfold execLock
  repeat' first
    | with_reducible first
        | assumption | apply State.next_follows | apply State.put_follows | apply State.src_follows
        | apply State.devarPacket_follows | intro _
    | split | apply State.mk_follows

theorem execDevarBadPacket_follows {σ s : State} (crc : Bool) (op : BitVec 4) (tag : BitVec 4) (hσ : σ.follows
    s) : σ.followedBy (execDevarBadPacket crc op tag s) := by
  unfold execDevarBadPacket
  repeat' first
    | with_reducible first
        | assumption | apply State.next_follows | apply State.bump_follows | apply State.devarPacket_follows
        | intro _
    | split | apply State.mk_follows

theorem execDevarIdleAbandon_follows {σ s : State} (hσ : σ.follows s) : σ.followedBy (execDevarIdleAbandon s) := by
  unfold execDevarIdleAbandon
  repeat' first
    | with_reducible first
        | assumption | apply State.next_follows | apply State.ite_follows
    | split

theorem execUnlockLockoutEnd_follows {σ s : State} (hσ : σ.follows s) : σ.followedBy (execUnlockLockoutEnd s) := by
  unfold execUnlockLockoutEnd
  repeat' first
    | with_reducible first
        | assumption | apply State.next_follows | apply State.put_follows | apply State.ite_follows
    | split

theorem State.dbgCtl_follows {σ s : State} (v : Word) (p : StepPar) (hσ : σ.follows s) : σ.followedBy
    (State.dbgCtl s v p) := by
  unfold State.dbgCtl
  repeat' first
    | with_reducible first
        | assumption | apply State.next_follows | apply State.emit_follows | apply State.devarWrite_follows
        | apply State.ite_follows
    | split

theorem execDebugHalt_follows {σ s : State} (m : Fin 7) (all : Bool) (hσ : σ.follows s) : σ.followedBy
    (execDebugHalt m all s) := by
  unfold execDebugHalt
  repeat' first
    | with_reducible first
        | assumption | apply State.next_follows | apply State.dbgCtl_follows | apply State.ite_follows
    | split

theorem execDebugRun_follows {σ s : State} (m : Fin 7) (all : Bool) (hσ : σ.follows s) : σ.followedBy
    (execDebugRun m all s) := by
  unfold execDebugRun
  repeat' first
    | with_reducible first
        | assumption | apply State.next_follows | apply State.dbgCtl_follows | apply State.ite_follows
    | split

theorem execDebugStep_follows {σ s : State} (e : CtxId) (p : StepPar) (hσ : σ.follows s) : σ.followedBy
    (execDebugStep e p s) := by
  unfold execDebugStep
  repeat' first
    | with_reducible first
        | assumption | apply State.next_follows | apply State.dbgCtl_follows | apply State.ite_follows
    | split

theorem execRegisterWrite_follows {σ s : State} (p : Fin 6) (a : Word) (v : Word) (hσ : σ.follows s) :
    σ.followedBy (execRegisterWrite p a v s) := by
  unfold execRegisterWrite
  repeat' first
    | with_reducible first
        | assumption | apply State.next_follows | apply State.direct_follows | apply State.dbgCtl_follows
        | apply State.ite_follows
    | split

theorem execBreakpointHalt_follows {σ s : State} (e : CtxId) (hσ : σ.follows s) : σ.followedBy
    (execBreakpointHalt e s) := by
  unfold execBreakpointHalt
  repeat' first
    | with_reducible first
        | assumption | apply State.next_follows | apply State.haltEngine_follows | apply State.ite_follows
    | split

theorem State.prtEvt_follows {σ s : State} (b : Nat) (hσ : σ.follows s) : σ.follows (State.prtEvt s b) := by
  unfold State.prtEvt
  repeat' first
    | with_reducible first
        | assumption | apply State.src_follows | apply State.ite_follows
    | split

theorem State.shiftOut_follows {σ s : State} (h : Fin 2) (n : Nat) (b : List Byte) (hσ : σ.follows s) :
    σ.follows (State.shiftOut s h n b) := by
  unfold State.shiftOut
  repeat' first
    | with_reducible first
        | assumption | apply State.emit_follows | apply State.ite_follows
    | split

theorem execHostWriteFrame_follows {σ s : State} (h : Fin 2) (b : List Byte) (par : List Par) (bad : Fin 63) (hσ
    : σ.follows s) : σ.followedBy (execHostWriteFrame h b par bad s) := by
  unfold execHostWriteFrame
  repeat' first
    | with_reducible first
        | assumption | apply State.next_follows | apply State.submit_follows | apply State.shiftOut_follows
        | apply State.ite_follows
    | split

theorem execHostReadResponse_follows {σ s : State} (h : Fin 2) (n : Nat) (hσ : σ.follows s) : σ.followedBy
    (execHostReadResponse h n s) := by
  unfold execHostReadResponse
  dsimp only
  repeat' first
    | with_reducible first
        | assumption | apply State.next_follows | apply State.shiftOut_follows | apply State.ite_follows
    | split | apply State.mk_follows

theorem execHostBadInstruction_follows {σ s : State} (x : Clocked) (hσ : σ.follows s) : σ.followedBy
    (execHostBadInstruction x s) := by
  unfold execHostBadInstruction
  repeat' first
    | with_reducible first
        | assumption | apply State.next_follows | apply State.bump_follows | apply State.prtEvt_follows
        | apply State.shiftOut_follows | apply State.ite_follows
    | split

theorem State.ipDrop_follows {σ s : State} (i : Fin 2) (hσ : σ.follows s) : σ.follows (State.ipDrop s i) := by
  unfold State.ipDrop
  repeat' first
    | with_reducible first
        | assumption | apply State.bump_follows | apply State.prtEvt_follows | apply State.ite_follows
    | split

theorem State.netHeard_follows {σ s : State} (i : Fin 2) (hσ : σ.follows s) : σ.follows (State.netHeard s i) := by
  unfold State.netHeard
  repeat' first
    | with_reducible first
        | assumption
    | split | apply State.mk_follows

theorem State.safetyFrame_follows {σ s : State} (i : Fin 2) (src : List Byte) (b : List Byte) (hσ : σ.follows s)
    : σ.follows (State.safetyFrame s i src b) := by
  unfold State.safetyFrame
  repeat' first
    | with_reducible first
        | assumption | apply State.src_follows | apply State.tgCopy_follows | apply State.ipDrop_follows
        | apply State.ite_follows
    | split

theorem State.arpReply_follows {σ s : State} (i : Fin 2) (sha : List Byte) (spa : List Byte) (tag : List Byte)
    (hσ : σ.follows s) : σ.follows (State.arpReply s i sha spa tag) := by
  unfold State.arpReply
  repeat' first
    | with_reducible first
        | assumption | apply State.emit_follows | apply State.ite_follows
    | split

theorem State.frameBody_follows {σ s : State} (i : Fin 2) (dst : List Byte) (sa : List Byte) (tag : List Byte)
    (typ : Nat) (d : List Byte) (par : List Par) (bad : Nat) (hσ : σ.follows s) : σ.follows (State.frameBody s i dst
    sa tag typ d par bad) := by
  unfold State.frameBody
  repeat' first
    | with_reducible first
        | assumption | apply State.submit_follows | apply State.ipDrop_follows | apply State.safetyFrame_follows
        | apply State.arpReply_follows | apply State.ite_follows
    | split

theorem State.rxFrame_follows {σ s : State} (i : Fin 2) (x : RxFrame) (hσ : σ.follows s) : σ.follows
    (State.rxFrame s i x) := by
  unfold State.rxFrame
  repeat' first
    | with_reducible first
        | assumption | apply State.prtEvt_follows | apply State.frameBody_follows | apply State.ite_follows
    | split

theorem State.rxTake_follows {σ s : State} (i : Fin 2) (hσ : σ.follows s) : σ.follows (State.rxTake s i) := by
  unfold State.rxTake
  repeat' first
    | with_reducible first
        | assumption | apply State.rxFrame_follows | intro _ | (apply State.foldl_follows; intro _ _ _)
    | split | apply State.mk_follows

theorem State.rxNext_follows {σ s : State} (i : Fin 2) (hσ : σ.follows s) : σ.follows (State.rxNext s i) := by
  unfold State.rxNext
  repeat' first
    | with_reducible first
        | assumption | apply State.netHeard_follows | apply State.rxTake_follows | apply State.ite_follows
    | split

theorem State.rxArrive_follows {σ s : State} (i : Fin 2) (x : RxFrame) (hσ : σ.follows s) : σ.follows
    (State.rxArrive s i x) := by
  unfold State.rxArrive
  repeat' first
    | with_reducible first
        | assumption | apply State.bump_follows | apply State.prtEvt_follows
    | split | apply State.mk_follows

theorem execEthernetFrame_follows {σ s : State} (i : Fin 2) (b : List Byte) (hold : Bool) (par : List Par) (bad
    : Fin 63) (hσ : σ.follows s) : σ.followedBy (execEthernetFrame i b hold par bad s) := by
  unfold execEthernetFrame
  repeat' first
    | with_reducible first
        | assumption | apply State.next_follows | apply State.netHeard_follows | apply State.rxTake_follows
        | apply State.rxArrive_follows | apply State.ite_follows
    | split

theorem execCommandDatagram_follows {σ s : State} (i : Fin 2) (src : List Byte) (b : List Byte) (par : List Par)
    (bad : Fin 63) (hσ : σ.follows s) : σ.followedBy (execCommandDatagram i src b par bad s) := by
  unfold execCommandDatagram
  repeat' first
    | with_reducible first
        | assumption | apply State.next_follows | apply State.src_follows | apply State.submit_follows
        | apply State.rxNext_follows | apply State.ite_follows
    | split

theorem execSafetyTelegramCopy_follows {σ s : State} (net : Fin 2) (src : List Byte) (b : List Byte) (hσ :
    σ.follows s) : σ.followedBy (execSafetyTelegramCopy net src b s) := by
  unfold execSafetyTelegramCopy
  repeat' first
    | with_reducible first
        | assumption | apply State.next_follows | apply State.src_follows | apply State.safetyFrame_follows
        | apply State.rxNext_follows | apply State.ite_follows
    | split

theorem execArpRequest_follows {σ s : State} (i : Fin 2) (sha : List Byte) (spa : List Byte) (tpa : List Byte)
    (hσ : σ.follows s) : σ.followedBy (execArpRequest i sha spa tpa s) := by
  unfold execArpRequest
  repeat' first
    | with_reducible first
        | assumption | apply State.next_follows | apply State.arpReply_follows | apply State.rxNext_follows
        | apply State.ite_follows
    | split

theorem execNotification_follows {σ s : State} (i : Fin 2) (hσ : σ.follows s) : σ.followedBy (execNotification i
    s) := by
  unfold execNotification
  try dsimp only
  repeat' first
    | with_reducible first
        | assumption | intro _ | apply State.next_follows | apply State.setReg_follows
        | apply State.emit_follows | apply State.src_follows | (apply State.foldl_follows; intro _ _ _)
        | (refine State.pair_follows ?_ (by assumption)) | (refine State.triple_follows ?_ (by assumption))
        | apply State.ite_follows
    | split | dsimp only | apply State.mk_follows

theorem execMdioDone_follows {σ s : State} (data : BitVec 16) (hσ : σ.follows s) : σ.followedBy (execMdioDone
    data s) := by
  unfold execMdioDone
  repeat' first
    | with_reducible first
        | assumption | apply State.next_follows | apply State.put_follows | apply State.prtEvt_follows
        | apply State.ite_follows
    | split

theorem State.sendTrip_follows {σ s : State} (hσ : σ.follows s) : σ.follows (State.sendTrip s) := by
  unfold State.sendTrip
  repeat' first
    | with_reducible first
        | assumption | apply State.emit_follows
    | split | apply State.mk_follows

theorem execPeerStatusWord_follows {σ s : State} (pos : Fin 8) (_flags : BitVec 2) (hσ : σ.follows s) :
    σ.followedBy (execPeerStatusWord pos _flags s) := by
  unfold execPeerStatusWord
  repeat' first
    | with_reducible first
        | assumption | apply State.next_follows | apply State.sendTrip_follows | apply State.ite_follows
    | split

theorem execCarrierPhaseWord_follows {σ s0 : State} (late : BitVec 16) (own : BitVec 16) (data : Word) (t : Nat)
    (hσ : σ.follows s0) : σ.followedBy (execCarrierPhaseWord late own data t s0) := by
  unfold execCarrierPhaseWord
  repeat' first
    | with_reducible first
        | assumption | apply State.next_follows | apply State.emit_follows | apply State.toInstant_follows
        | apply State.syncEvent_follows | apply State.ite_follows
    | split

theorem execInjectionParityWord_follows {σ s0 : State} (g : Fin 4) (x : ParityWord) (hσ : σ.follows s0) :
    σ.followedBy (execInjectionParityWord g x s0) := by
  unfold execInjectionParityWord
  repeat' first
    | with_reducible first
        | assumption | apply State.next_follows | apply State.emit_follows | apply State.toInstant_follows
        | apply State.peerParity_follows | apply State.ite_follows
    | split

theorem State.ringUp_follows {σ s : State} (h : Nat) (hσ : σ.follows s) : σ.follows (State.ringUp s h) := by
  unfold State.ringUp
  dsimp only
  repeat' first
    | with_reducible first
        | assumption | apply State.put_follows | apply State.prtEvt_follows | apply State.ite_follows
    | split | apply State.mk_follows

theorem execRingTrip_follows {σ s : State} (acc : BitVec 16) (t : BitVec 16) (hσ : σ.follows s) : σ.followedBy
    (execRingTrip acc t s) := by
  unfold execRingTrip
  repeat' first
    | with_reducible first
        | assumption | apply State.next_follows | apply State.emit_follows | apply State.ringUp_follows
        | apply State.ite_follows
    | split

theorem execRingResult_follows {σ s : State} (h : BitVec 16) (n : Byte) (hσ : σ.follows s) : σ.followedBy
    (execRingResult h n s) := by
  unfold execRingResult
  repeat' first
    | with_reducible first
        | assumption | apply State.next_follows | apply State.emit_follows | apply State.ringUp_follows
        | apply State.ite_follows
    | split

theorem execPartingRelay_follows {σ s : State} (origin : Fin 8) (hσ : σ.follows s) : σ.followedBy
    (execPartingRelay origin s) := by
  unfold execPartingRelay
  repeat' first
    | with_reducible first
        | assumption | apply State.next_follows | apply State.put_follows | apply State.emit_follows
        | apply State.collect_follows | apply State.partAll_follows | apply State.prtEvt_follows
        | apply State.ite_follows
    | split

theorem execRingLost_follows {σ s : State} (hσ : σ.follows s) : σ.followedBy (execRingLost s) := by
  unfold execRingLost
  repeat' first
    | with_reducible first
        | assumption | apply State.next_follows | apply State.put_follows | apply State.peerLost_follows
        | apply State.prtEvt_follows
    | split | apply State.mk_follows

theorem execRingRetry_follows {σ s : State} (hσ : σ.follows s) : σ.followedBy (execRingRetry s) := by
  unfold execRingRetry
  repeat' first
    | with_reducible first
        | assumption | apply State.next_follows | apply State.sendTrip_follows | apply State.ite_follows
    | split

theorem State.rtcTick_follows {σ s : State} (hσ : σ.follows s) : σ.follows (State.rtcTick s) := by
  unfold State.rtcTick
  repeat' first
    | with_reducible first
        | assumption | apply State.setReg_follows | apply State.put_follows | apply State.ite_follows
    | split

theorem State.recovTick_follows {σ s : State} (hσ : σ.follows s) : σ.follows (State.recovTick s) := by
  unfold State.recovTick
  repeat' first
    | with_reducible first
        | assumption | apply State.recoveryEnd_follows
    | split | apply State.mk_follows

theorem State.peerStatus_follows {σ s : State} (hσ : σ.follows s) : σ.follows (State.peerStatus s) := by
  unfold State.peerStatus
  repeat' first
    | with_reducible first
        | assumption | apply State.emit_follows | apply State.ite_follows
    | split

theorem State.idle_follows {σ s : State} (hσ : σ.follows s) : σ.follows (State.idle s) := by
  unfold State.idle
  dsimp only
  repeat' first
    | with_reducible first
        | assumption | apply State.syncoCycle_follows | apply State.rcTick_follows | apply State.rtcTick_follows
        | apply State.recovTick_follows | apply State.peerStatus_follows | apply State.ite_follows
    | split | apply State.mk_follows

end Sys2Proof.Machine
end

