-- ==== Sys2Proof/Laws/Frames.lean ====
section
/-! SUPPORT. Command frames: a frame that the model builds passes the frame check, and on an open port with room its command
enters the queue and starts. -/

namespace Sys2Proof.Machine

theorem leNat_leBytes (n v : Nat) : leNat (leBytes v n) = v % 256 ^ n := by
  induction n generalizing v with
  | zero => simp [leBytes, leNat, Nat.mod_one]
  | succ n ih =>
    simp only [leBytes, leNat, ih, BitVec.toNat_ofNat]
    rw [show 256 ^ (n + 1) = 256 * 256 ^ n from Nat.pow_succ', Nat.mod_mul]

@[simp] theorem leBytes_length (v n : Nat) : (leBytes v n).length = n := by
  induction n generalizing v with
  | zero => rfl
  | succ n ih => simp [leBytes, ih]

/-- The bytes of a frame before its CRC. -/
theorem frame_eq (seq op flags : Nat) (pl : List Byte) :
    frame seq op flags pl = (leBytes seq 2 ++ [BitVec.ofNat 8 op, BitVec.ofNat 8 flags] ++ leBytes pl.length 2 ++ [1, 0] ++ pl) ++
      wordBytes (crc32 (leBytes seq 2 ++ [BitVec.ofNat 8 op, BitVec.ofNat 8 flags] ++ leBytes pl.length 2 ++ [1, 0] ++ pl)) := rfl

theorem frame_seq (seq op flags : Nat) (pl : List Byte) : bytesAt (frame seq op flags pl) 0 2 = seq % 65536 := by
  rw [show (65536 : Nat) = 256 ^ 2 from rfl, ← leNat_leBytes]
  simp [frame, bytesAt, leBytes]

theorem frame_len (seq op flags : Nat) (pl : List Byte) : bytesAt (frame seq op flags pl) 4 2 = pl.length % 65536 := by
  rw [show (65536 : Nat) = 256 ^ 2 from rfl, ← leNat_leBytes]
  simp [frame, bytesAt, leBytes]

theorem frame_op (seq op flags : Nat) (pl : List Byte) : byteAt (frame seq op flags pl) 2 = op % 256 := by
  simp [frame, byteAt, leBytes]

theorem frame_flags (seq op flags : Nat) (pl : List Byte) : byteAt (frame seq op flags pl) 3 = flags % 256 := by
  simp [frame, byteAt, leBytes]

theorem frame_payload (seq op flags : Nat) (pl : List Byte) :
    ((frame seq op flags pl).drop 8).take pl.length = pl := by
  simp [frame, leBytes]

@[simp] theorem wordBytes_length (w : Word) : (wordBytes w).length = 4 := rfl

theorem leNat_wordBytes (w : Word) : leNat (wordBytes w) = w.toNat := by
  simp [wordBytes, leNat]; omega

theorem frame_length (seq op flags : Nat) (pl : List Byte) : (frame seq op flags pl).length = 12 + pl.length := by
  simp [frame_eq]; omega

theorem frame_crc (seq op flags : Nat) (pl : List Byte) :
    crc32 ((frame seq op flags pl).take (8 + pl.length)) = BitVec.ofNat 32 (bytesAt (frame seq op flags pl) (8 + pl.length) 4) := by
  have h : (leBytes seq 2 ++ [BitVec.ofNat 8 op, BitVec.ofNat 8 flags] ++ leBytes pl.length 2 ++ [1, 0] ++ pl).length
      = 8 + pl.length := by simp; omega
  rw [frame_eq, bytesAt, ← h, List.take_left, List.drop_left, List.take_of_length_le (by simp), leNat_wordBytes]
  simp

/-- A frame of a known opcode, with nseq on the reading ones only, passes the frame check (R361, R362). -/
theorem frameBad_frame (seq op : Nat) (fence nseq : Bool) (pl : List Byte) (ho : op ∈ knownOps)
    (hn : nseq = true → op ∈ [opNop, opPing, opRead, opJournal]) (hl : pl.length ≤ 256) :
    frameBad (frame seq op (2 * b2n fence + 4 * b2n nseq) pl) = false := by
  have h1 : pl.length % 65536 = pl.length := Nat.mod_eq_of_lt (by omega)
  have h2 : op % 256 = op := by revert ho; simp [knownOps]; omega
  have h6 : byteAt (frame seq op (2 * b2n fence + 4 * b2n nseq) pl) 6 = 1 := by simp [frame, byteAt, leBytes]
  have h7 : byteAt (frame seq op (2 * b2n fence + 4 * b2n nseq) pl) 7 = 0 := by simp [frame, byteAt, leBytes]
  have hf : Nat.land ((2 * b2n fence + 4 * b2n nseq) % 256) 0xF9 = 0 := by cases fence <;> cases nseq <;> rfl
  have hq : (natBit ((2 * b2n fence + 4 * b2n nseq) % 256) 2 && !([opNop, opPing, opRead, opJournal].contains op)) = false := by
    cases nseq
    · cases fence <;> rfl
    · have := hn rfl
      simp only [List.contains_iff_mem.mpr this]; simp
  unfold frameBad
  simp only [frame_len, frame_op, frame_flags, frame_length, h1, h2, h6, h7, hf, hq, frame_crc, List.contains_iff_mem.mpr ho]
  simp; omega

/-- The command that the row of an opcode makes of its payload. -/
theorem entered_fields (s : State) (p : Fin 4) (op : Nat) (fence nseq : Bool) (pl : List Byte) (ho : op ∈ knownOps)
    (hl : pl.length ≤ 256) : (s.entered p op fence nseq pl).id = s.nextId ∧ (s.entered p op fence nseq pl).port = p.val ∧
      (s.entered p op fence nseq pl).op = op ∧ (s.entered p op fence nseq pl).pl = pl ∧
      (s.entered p op fence nseq pl).fence = fence ∧ (s.entered p op fence nseq pl).nseq = nseq ∧
      (s.entered p op fence nseq pl).seq = s.nextSeq p ∧ (s.entered p op fence nseq pl).ph = .queued ∧
      (s.entered p op fence nseq pl).desc = none := by
  have h1 : pl.length % 65536 = pl.length := Nat.mod_eq_of_lt (by omega)
  have h2 : op % 256 = op := by revert ho; simp [knownOps]; omega
  have h3 : s.nextSeq p % 65536 = s.nextSeq p := by simp [State.nextSeq]
  have hf : natBit ((2 * b2n fence + 4 * b2n nseq) % 256) 1 = fence := by cases fence <;> cases nseq <;> rfl
  have hq : natBit ((2 * b2n fence + 4 * b2n nseq) % 256) 2 = nseq := by cases fence <;> cases nseq <;> rfl
  simp only [State.entered, State.newCmd, State.frameOf, frame_len, frame_op, frame_flags, frame_seq, h1, h2, h3, hf, hq,
    frame_payload, and_self]

/-- Storing bytes touches memory alone. -/
theorem setBytes_only_mem (s : State) (a : Nat) (bs : List Byte) : { s.setBytes a bs with mem := s.mem } = s := by
  induction bs generalizing s a with
  | nil => rfl
  | cons b t ih => exact congrArg (fun x : State => { x with mem := s.mem }) (ih (s.setMb a b) (a + 1))

/-- The commands in flight, the stores' work and the straps are those of `t`. -/
def State.same (s t : State) : Prop := s.cmds = t.cmds ∧ s.erasing = t.erasing ∧ s.pq = t.pq ∧ s.straps = t.straps

theorem setBytes_fields (s : State) (a : Nat) (bs : List Byte) : (s.setBytes a bs).same s := by
  have h := setBytes_only_mem s a bs
  exact ⟨congrArg (·.cmds) h, congrArg (·.erasing) h, congrArg (·.pq) h, congrArg (·.straps) h⟩

theorem State.same.setBytes {s t : State} (a : Nat) (bs : List Byte) (h : s.same t) : (s.setBytes a bs).same t :=
  ⟨(setBytes_fields s a bs).1.trans h.1, (setBytes_fields s a bs).2.1.trans h.2.1, (setBytes_fields s a bs).2.2.1.trans h.2.2.1,
    (setBytes_fields s a bs).2.2.2.trans h.2.2.2⟩
theorem State.same.setReg {s t : State} (a : Nat) (v : Word) (h : s.same t) : (s.setReg a v).same t := ⟨h.1, h.2.1, h.2.2.1, h.2.2.2⟩
theorem State.same.jOpen {s t : State} (c : Cmd) (h : s.same t) : (s.jOpen c).same t := by
  unfold State.jOpen
  exact (h.setBytes _ _).setReg _ _
theorem State.same.put {s t : State} (x : Fld) (v : Nat) (h : s.same t) : (s.put x v).same t := ⟨h.1, h.2.1, h.2.2.1, h.2.2.2⟩
theorem State.same.setMw {s t : State} (a : Nat) (w : Word) (h : s.same t) : (s.setMw a w).same t := ⟨h.1, h.2.1, h.2.2.1, h.2.2.2⟩

theorem enters_fields {s t : State} (c : Cmd) (n : Nat) (acc : Vector PortAcc 5) (h : t.same s) :
    { t with cmds := t.cmds ++ [c], nextId := n, ports := acc }.cmds = s.cmds ++ [c] ∧
    { t with cmds := t.cmds ++ [c], nextId := n, ports := acc }.erasing = s.erasing ∧
    { t with cmds := t.cmds ++ [c], nextId := n, ports := acc }.pq = s.pq ∧
    { t with cmds := t.cmds ++ [c], nextId := n, ports := acc }.straps = s.straps :=
  ⟨congrArg (· ++ [c]) h.1, h.2.1, h.2.2.1, h.2.2.2⟩

/-- What a command's entry leaves: it is the last of those in flight, the stores' work is as before. -/
theorem enqueue_fields (s : State) (c : Cmd) : (s.enqueue c).cmds = s.cmds ++ [c] ∧ (s.enqueue c).erasing = s.erasing ∧
    (s.enqueue c).pq = s.pq ∧ (s.enqueue c).straps = s.straps := by
  have h0 : s.same s := ⟨rfl, rfl, rfl, rfl⟩
  unfold State.enqueue
  apply enters_fields
  cases c.desc <;> cases c.nseq <;> simp only [Bool.false_eq_true, if_false, if_true]
  · exact ((h0.put _ _).put _ _).jOpen c
  · exact h0
  · exact (((h0.put _ _).put _ _).jOpen c).setMw _ _
  · exact h0.setMw _ _

theorem f_lt (s : State) (x : Fld) : s.f x < 2 ^ x.wd := Nat.mod_lt _ (Nat.two_pow_pos _)

/-- On an open port with room and nothing in flight a row's frame is accepted and its command runs at once (R361 to R363,
R367). -/
theorem command_free (s : State) (p : Fin 4) (op : Nat) (fence nseq : Bool) (pl : List Byte) (par : List Par) (bad : Nat)
    (ho : op ∈ knownOps) (hn : nseq = true → op ∈ [opNop, opPing, opRead, opJournal]) (h : s.portFree p pl.length) :
    s.command p op fence nseq pl par bad =
      .next ((s.enqueue (s.entered p op fence nseq pl)).runCmd (s.entered p op fence nseq pl) par bad) := by
  obtain ⟨hl, hc, hq, hn256, hm, hd, he, hp⟩ := h
  obtain ⟨e1, e2, e3, e4, e5, e6, e7, e8, e9⟩ := entered_fields s p op fence nseq pl ho hn256
  obtain ⟨a1, a2, a3, a4⟩ := enqueue_fields s (s.entered p op fence nseq pl)
  have hseq : bytesAt (s.frameOf p op fence nseq pl) 0 2 = s.nextSeq p := by
    simp [State.frameOf, frame_seq, State.nextSeq]
  have hne : s.nextSeq p ≠ s.f (F.CMD_PORTSTAT_last_seq p) := by
    have : s.f (F.CMD_PORTSTAT_last_seq p) < 2 ^ 16 := f_lt s _
    unfold State.nextSeq; omega
  have hb : frameBad (s.frameOf p op fence nseq pl) = false := frameBad_frame _ _ _ _ _ ho hn hn256
  have hr : (s.enqueue (s.entered p op fence nseq pl)).ready (s.entered p op fence nseq pl) = true := by
    simp only [State.ready, State.groupsFree, State.singleOn, State.storesFree, State.loadAhead, a1, a2, a3, hc, he, hp]
    simp [e1, e8, Cmd.groupOn]
  unfold State.command State.submit State.accept State.tryStart State.cmd?
  simp only [hl, if_true, hb, hseq, Bool.false_eq_true, if_false]
  rw [if_neg (by simp [hne]), if_neg (by simp), if_neg (by simp [hq])]
  have : s.newCmd p (if p.val < 2 then [] else s.ports[p.val].src) (s.frameOf p op fence nseq pl) none =
    s.entered p op fence nseq pl := rfl
  simp only [this, a1, hc, List.nil_append, List.find?_cons, e1, beq_self_eq_true, hr, if_true]

/-- A command's entry writes no register but its port's status and the journal's index (R363, R377). -/
theorem enqueue_reg (s : State) (c : Cmd) {a : Nat} (h1 : home a ≠ home (A.CMD_PORTSTAT c.port)) (h2 : home a ≠ home A.UHL_NEXT) :
    (s.enqueue c).reg a = s.reg a := by
  have hb (t : State) (x : Nat) (l : List Byte) : (t.setBytes x l).reg a = t.reg a := by
    have := congrArg (fun u : State => u.reg a) (setBytes_only_mem t x l)
    exact this
  have hj (t : State) : (t.jOpen c).reg a = t.reg a := by
    unfold State.jOpen
    rw [State.reg_setReg_ne _ _ h2, hb]
  have hp (t : State) : ((t.put (F.CMD_PORTSTAT_last_seq c.port) c.seq).put (F.CMD_PORTSTAT_valid c.port) 1).reg a = t.reg a := by
    rw [State.reg_put_ne _ _ h1, State.reg_put_ne _ _ h1]
  have hd (t : State) (d : Option Nat) (w : Word) : (match d with | some x => t.setMw x w | none => t).reg a = t.reg a := by
    cases d <;> rfl
  unfold State.enqueue
  show (match c.desc with | some x => State.setMw _ x _ | none => _).reg a = _
  rw [hd]
  cases c.nseq
  · simp only [Bool.false_eq_true, if_false]; rw [hj, hp]
  · rfl

/-- Mode and download boot are as before the entry. -/
theorem enqueue_mode (s : State) (p : Fin 4) (op : Nat) (fence nseq : Bool) (pl : List Byte) (ho : op ∈ knownOps)
    (hl : pl.length ≤ 256) : (s.enqueue (s.entered p op fence nseq pl)).mode = s.mode := by
  have hp := (entered_fields s p op fence nseq pl ho hl).2.1
  have : (s.enqueue (s.entered p op fence nseq pl)).reg A.SYS_MODE = s.reg A.SYS_MODE := by
    refine enqueue_reg s _ ?_ (by decide)
    rw [hp]
    exact (by decide : ∀ q : Fin 4, home A.SYS_MODE ≠ home (A.CMD_PORTSTAT q)) p
  unfold State.mode State.f
  show getBits ((s.enqueue (s.entered p op fence nseq pl)).reg A.SYS_MODE) _ _ = _
  rw [this]; rfl

/-- The mode and the boot of an open port permit every command (R356, R398). -/
theorem enqueue_opAllowed (s : State) (p : Fin 4) (op : Nat) (fence nseq : Bool) (pl : List Byte) (ho : op ∈ knownOps)
    (h : s.portFree p pl.length) :
    (s.enqueue (s.entered p op fence nseq pl)).opAllowed (s.entered p op fence nseq pl) = true := by
  obtain ⟨_, _, _, hl, hm, hd, _, _⟩ := h
  have h1 := enqueue_mode s p op fence nseq pl ho hl
  have h2 := (enqueue_fields s (s.entered p op fence nseq pl)).2.2.2
  have h3 : (s.enqueue (s.entered p op fence nseq pl)).downloads = false := by
    unfold State.downloads at hd ⊢
    rw [h1, h2]; exact hd
  simp only [State.opAllowed, h1, h3, hm, if_false, Bool.false_eq_true]

end Sys2Proof.Machine
end

