-- ==== Sys2Proof/Tests/Slice0.lean ====
section
/-! SUPPORT. Our own tests: the checks of WellFormed, words of Fjodjalek from the spec's encodings, single steps with values of the
spec, and for every statement a state and operands that meet its hypotheses, clause by clause. -/

namespace Sys2Proof.Tests
set_option Elab.async false
open Sys2Proof Sys2Proof.Machine

/-! ### Small states -/

/-- The state after reset in mode `m`, with GATE_EN high and EDGE time running. -/
def inMode (m : Nat) : State :=
  { State.reset.put F.SYS_MODE_mode m with gateEn := true, cyc := 1000, etime := 10000000, eRun := true, everLock := true }

/-- Every stage held by partner port 0. -/
def held (s : State) : State := (List.range 12).foldl (fun (s : State) k => s.setHolder k 0) s

/-- Context `e` in state `st` at address `pc`. -/
def ctxAt (s : State) (e : CtxId) (st : CtxSt) (pc : Nat) : State := s.setCtx e { s.ctx[e] with st := st, pc := pc }

/-- Every context in RUN at its last instruction address. -/
def running : State :=
  (List.finRange 13).foldl (fun (s : State) (e : CtxId) => ctxAt s e .run (pcLimit e - 1)) (inMode mStandby)

/-- Context `e` of `running` with `x` in V1 and `y` in V2. -/
def with2 (e : CtxId) (x y : Word) : State := running.setCtx e ((running.ctx[e].wr 1 x).wr 2 y)

/-- The state that an outcome goes on with. -/
def after (r : Res) : State := match r with
  | .next t => t
  | _ => State.reset

/-- A debug session is open. -/
def session (s : State) : State := (s.put F.DBG_STAT_unlocked 1).put F.DBG_STAT_port_en 1

/-- Stage `k` switches. -/
def switches (s : State) (k : Stage) : State := s.put (F.STG_STAT_st k) stSwitching

/-! ### WellFormed refuses an ill-formed term for each of its checks -/

theorem test_wf_lit28 : WellFormed (.itop 0 1 2 29) = false ∧ WellFormed (.ptoi 0 1 2 29) = false ∧ WellFormed (.itop 0 1 2 28) = true := by
  decide
theorem test_wf_pairs : WellFormed (.clarke 0 3 2 4) = false ∧ WellFormed (.clarke 0 0 2 4) = false ∧ WellFormed (.clarke2 0 2 3) = false ∧
    WellFormed (.park 0 2 5 4) = false ∧ WellFormed (.ipark 0 1 4 4) = false ∧ WellFormed (.sincos 0 0 4) = false ∧
    WellFormed (.lim 0 1 2 0) = false ∧ WellFormed (.clarke 0 30 0 31) = true := by decide
theorem test_wf_tables : WellFormed (.tbl 0 1 2 3 1 0 none) = false ∧ WellFormed (.tbl 12 1 2 3 12 0 none) = false ∧
    WellFormed (.tblu 12 1 2 3 0 0 none) = false ∧ WellFormed (.tblu 3 1 2 3 16 0 none) = false ∧
    WellFormed (.tbl 12 1 2 3 11 0 none) = true := by decide
theorem test_wf_quantities : WellFormed (.grid 0 1 0 11) = false ∧ WellFormed (.mtr 0 1 0 11) = false ∧ WellFormed (.grid 0 1 0 10) = true := by
  decide
theorem test_wf_plans : WellFormed (.plant 0 1 2 96 0) = false ∧ WellFormed (.planf 12 1 2 95 0) = false ∧ WellFormed (.planc 0 127) = false ∧
    WellFormed (.commit 12 1) = false ∧ WellFormed (.plant 11 1 2 95 3) = true := by decide
theorem test_wf_waits : WellFormed (.wait 12 1) = false ∧ WellFormed (.evt 12 0) = false ∧ WellFormed (.sfclr 0 256 false) = false ∧
    WellFormed (.wait 12 0) = true := by decide
theorem test_wf_system : WellFormed (.sysRd 0 1 2 .clean) = false ∧ WellFormed (.sysMrd 11 1 2 .clean) = false ∧
    WellFormed (.sysWr 3 1 2 3) = false ∧ WellFormed (.sysCmd 3 1 2 0 none [] 0) = false ∧ WellFormed (.sysWr 12 1 2 3) = true := by decide
theorem test_wf_payloads : WellFormed (.nop 0 false false (List.replicate 257 0)) = false ∧
    WellFormed (.writeBank 0 false (List.replicate 256 0)) = false ∧ WellFormed (.nop 0 false false (List.replicate 256 0)) = true ∧
    WellFormed (.writeBank 0 false (List.replicate 255 0)) = true := by decide +kernel
theorem test_wf_payload_rows : ∀ i ∈ [Instr.ping 0 false false (List.replicate 257 0), .read 0 false false (List.replicate 257 0) [] 0,
    .write 0 false (List.replicate 257 0), .writeGroup 0 false (List.replicate 257 0), .persistWrite 0 false (List.replicate 257 0),
    .eraseInactiveBank 0 false (List.replicate 256 0), .checkBank 0 false (List.replicate 256 0), .loadEngine 0 false (List.replicate 256 0),
    .startStage 0 false (List.replicate 257 0), .stopStage 0 false (List.replicate 257 0), .setMode 0 false (List.replicate 257 0),
    .setpoint 0 false (List.replicate 257 0), .setpointGroup 0 false (List.replicate 257 0), .claimAuthority 0 false (List.replicate 257 0),
    .releaseAuthority 0 false (List.replicate 257 0), .journalRead 0 false false ⟨List.replicate 257 0, [], 0⟩, .faultClear 0 false (List.replicate 257 0),
    .resume 0 false (List.replicate 257 0), .safetyAck 0 false (List.replicate 257 0), .latchMeter 0 false (List.replicate 257 0),
    .eventMask 0 false (List.replicate 257 0)], WellFormed i = false := by decide +kernel
theorem test_wf_ports : WellFormed (.arpRequest 0 [1, 2, 3, 4, 5] [1, 2, 3, 4] [1, 2, 3, 4]) = false ∧
    WellFormed (.arpRequest 0 [1, 2, 3, 4, 5, 6] [1, 2, 3] [1, 2, 3, 4]) = false ∧
    WellFormed (.devarBadPacket false 1 0) = false ∧ WellFormed (.devarBadPacket false 5 0) = true := by decide +kernel


/-! ### Words of Fjodjalek, written out from R84 to R131 -/

theorem test_word_integer (e : CtxId) : decodeFj e 0x04000000 .clean = some (.add e 0 0 0) ∧
    decodeFj e 0x04221820 .clean = some (.sub e 1 2 3) ∧
    decodeFj e 0x04E8017F .clean = some (.shli e 7 8 31) ∧
    decodeFj e 0x04853240 .clean = some (.div e 4 5 6) ∧
    decodeFj e 0x052003E0 .clean = some (.sfrd e 9) := by
  revert e; decide +kernel

theorem test_word_per_unit (e : CtxId) : decodeFj e 0x08642880 .clean = some (.pmul e 3 4 5) ∧
    decodeFj e 0x0864011C .clean = some (.itop e 3 4 28) := by
  revert e; decide +kernel

theorem test_word_accumulator (e : CtxId) : decodeFj e 0x0C042801 .clean = some (.pmac e 1 4 5) ∧
    decodeFj e 0x0CC00083 .clean = some (.accrd e 6 3) ∧
    decodeFj e 0x0C011102 .clean = some (.accset e 2 1 2) := by
  revert e; decide +kernel

theorem test_word_immediate (e : CtxId) : decodeFj e 0x20400C00 .clean = some (.pli e 2 0x0C00) ∧
    decodeFj e 0x2822FFFF .clean = some (.addi e 1 2 0xFFFF) ∧
    decodeFj e 0x3C608000 .clean = some (.lhi e 3 0x8000) := by
  revert e; decide +kernel

theorem test_word_branch (e : CtxId) : decodeFj e 0x48E0FFFD .clean = some (.blt e 7 0 0xFFFD) ∧
    decodeFj e 0x54220004 .clean = some (.bgeu e 1 2 4) ∧
    decodeFj e 0x1FE00100 .clean = some (.jl e 31 0x0100) := by
  revert e; decide +kernel

theorem test_word_memory (e : CtxId) : decodeFj e 0x1065000C .clean = some (.ld e 3 5 12 .clean) ∧
    decodeFj e 0x1465000C .clean = some (.st e 3 5 12) := by
  revert e; decide +kernel

theorem test_word_transform (e : CtxId) : decodeFj e 0x80443000 .clean = some (.clarke e 2 4 6) ∧
    decodeFj e 0x80440020 .clean = some (.clarke2 e 2 4) ∧
    decodeFj e 0x84443800 .clean = some (.park e 2 4 7) ∧
    decodeFj e 0x88443800 .clean = some (.ipark e 2 4 7) ∧
    decodeFj e 0x8FC10000 .clean = some (.sincos e 30 1) := by
  revert e; decide +kernel

theorem test_word_loop (e : CtxId) : decodeFj e 0x90410010 .clean = some (.pi e 2 1 16 0 none) ∧
    decodeFj e 0x94222000 .clean = some (.lim e 1 2 4) ∧
    decodeFj e 0x94221820 .clean = some (.lims e 1 2 3) ∧
    decodeFj e 0x9841FFFF .clean = some (.ramp e 2 1 0xFFFF 0 none) := by
  revert e; decide +kernel

theorem test_word_device (e : CtxId) : decodeFj e 0xB02000FF .clean = some (.avg e 1 63 3) ∧
    decodeFj e 0xB4200045 .clean = some (.smp e 1 5 true) ∧
    decodeFj e 0xB820002B .clean = some (.grid e 1 3 10) ∧
    decodeFj e 0xBC200026 .clean = some (.mtr e 1 2 9) := by
  revert e; decide +kernel

theorem test_word_table : decodeFj 3 0xA0221800 .clean = some (.tbl 3 1 2 3 0 0 none) ∧
    decodeFj 3 0xA422180F .clean = some (.tblu 3 1 2 3 15 0 none) := by decide +kernel

theorem test_word_plan : decodeFj 3 0xC0220108 .clean = some (.plant 3 1 2 8 1) ∧
    decodeFj 3 0xC022075F .clean = some (.planf 3 1 2 95 3) ∧
    decodeFj 3 0xC000085F .clean = some (.planc 3 95) ∧ decodeFj 3 0xC0000C5F .clean = none ∧
    decodeFj 3 0xC4600000 .clean = some (.commit 3 3) := by decide +kernel

theorem test_word_control : decodeFj 3 0xD0200000 .clean = some (.wait 3 1) ∧
    decodeFj 3 0xD4001234 .clean = some (.evt 3 0x1234) ∧ decodeFj 3 0xD80000FF .clean = some (.sfclr 3 0xFF false) ∧
    decodeFj 12 0xF8000007 .clean = some (.brk 12 7) := by decide +kernel

theorem test_word_system : decodeFj 12 0xF0220000 .clean = some (.sysRd 12 1 2 .clean) ∧
    decodeFj 12 0xF0220020 .clean = some (.sysMrd 12 1 2 .clean) ∧
    decodeFj 12 0xF0221840 .clean = some (.sysWr 12 1 2 3) ∧
    decodeFj 12 0xF0220080 .clean = some (.sysCmd 12 1 2 0 none [] 0) ∧
    decodeFj 12 0xF0220060 .clean = none := by decide +kernel

theorem test_word_reserved (e : CtxId) : decodeFj e 0 .clean = none ∧ decodeFj e 0xFFFFFFFF .clean = none ∧
    decodeFj e 0x04221801 .clean = none := by revert e; decide +kernel

/-! ### Single steps on values of the spec -/

theorem test_add_wraps : (after (execAdd 0 3 1 2 (with2 0 0xFFFFFFFF 2))).ctx[(0 : CtxId)].rd 3 = 1 := by decide +kernel
theorem test_add_source_is_destination : (after (execAdd 0 1 1 1 (with2 0 21 0))).ctx[(0 : CtxId)].rd 1 = 42 := by decide +kernel
theorem test_div_min_by_minus_one : (after (execDiv 0 3 1 2 (with2 0 0x80000000 0xFFFFFFFF))).ctx[(0 : CtxId)].rd 3 = 0x7FFFFFFF ∧
    (after (execDiv 0 3 1 2 (with2 0 0x80000000 0xFFFFFFFF))).ctx[(0 : CtxId)].sf = 0x40 := by decide +kernel
/-- 1.0 ÷ 0.1 gives 10.0, which saturates (R95). -/
theorem test_pdiv_saturates : (after (execPdiv 0 3 1 2 (with2 0 0x10000000 0x0199999A))).ctx[(0 : CtxId)].rd 3 = 0x7FFFFFFF ∧
    (after (execPdiv 0 3 1 2 (with2 0 0x10000000 0x0199999A))).ctx[(0 : CtxId)].sf = 0x02 := by decide +kernel
/-- −2.5 LSB rounds to −2 LSB and +2.5 LSB to +3 LSB (R96). -/
theorem test_pshr_rounds : (after (execPshr 0 3 1 1 (with2 0 0xFFFFFFFB 0))).ctx[(0 : CtxId)].rd 3 = 0xFFFFFFFE ∧
    (after (execPshr 0 3 1 1 (with2 0 5 0))).ctx[(0 : CtxId)].rd 3 = 3 := by decide +kernel
/-- 1.0 pu in an accumulator is 0x0010_0000_0000 (R97). -/
theorem test_accld_unit : (after (execAccld 0 1 1 (with2 0 0x10000000 0))).ctx[(0 : CtxId)].rdAcc 1 = 0x1000000000 := by decide +kernel
theorem test_pli_example : (after (execPli 0 2 0x0C00 running)).ctx[(0 : CtxId)].rd 2 = 0x0C000000 := by decide +kernel
theorem test_v0_reads_zero : (after (execAddi 0 0 0 5 running)).ctx[(0 : CtxId)].rd 0 = 0 := by decide +kernel
theorem test_clarke2_alpha : (after (execClarke2 0 2 2 (running.setCtx 0 (running.ctx[(0 : CtxId)].wr 2 77)))).ctx[(0 : CtxId)].rd 2 = 77 := by
  decide +kernel
/-- A write lands in the register and answers OK. -/
theorem test_timer_write : (after (execHsTimerWrite 0 1 0x80000005 (inMode mStandby))).reg (A.LTH_HS_TMR 1) = 0x80000005 := by decide +kernel
theorem test_nop_answers : (after (execNop 0 false false [] (inMode mStandby))).host[(0 : Fin 2)].length = 1 := by decide +kernel
theorem test_unlock_wrong_key : (after (execUnlock 5 3 ((inMode mStandby).put F.DBG_STAT_port_en 1))).fb F.DBG_STAT_lockout = true := by
  decide +kernel


/-! ### States for the statements on engines -/

/-- A command waits at the front; SYNC_OUT shows REF ÷ div. -/
def queuedTwo : State := { State.reset with pending := [.rtTick, .ringRetry] }
def squareWave : State :=
  { (State.reset.put F.CLK_SYNCO_CFG_src 13).put F.CLK_SYNCO_DIV_div 4 with eRun := true, etime := 96, synco := ⟨13, some 0, 64, 128, 0⟩ }

/-- Context `e` of `running` with its V1 and V2 and its next address. -/
def at3 (e : CtxId) (x y : Word) (pc : Nat) : State :=
  let s := with2 e x y
  s.setCtx e { s.ctx[e] with pc := pc }

/-- Lathe context 3 with a window of 100 words, loop 0 closed on words 10 to 13. -/
def windowed : State :=
  ((((running.put (F.LTH_DWIN_base 1 1) 50).put (F.LTH_DWIN_size 1 1) 100).put (F.LTH_CREG_base 1 1 0) 10).put (F.LTH_CREG_len 1 1 0) 4).put
    (F.LTH_LOOP_en 1 1) 1
def closed0 : State := windowed.setCtx 3 { windowed.ctx[(3 : CtxId)] with openF := 0 }

/-- Stage 5 switches and may learn; its context has `x` in V1 and `y` in V2. -/
def learning (x y : Word) : State := (switches (with2 5 x y) 5).put (F.STG_TBLCTL_learn 5) 1

/-- Stage 11 owns switch 95; its context has `x` in V1 and `y` in V2. -/
def planning (x y : Word) : State := (with2 11 x y).setReg (A.STG_MAP 11 2) 0x80000000

/-- Stage 11 in a period of 8000 taps that began at tap 10 000 000, `before` taps before the end of its guard window. -/
def period11 : State :=
  let s := switches (running.put F.SYS_MODE_mode mRun) 11
  s.setStg 11 { s.stg[(11 : Stage)] with ts := 10000000, tn := 16000, starting := none }
def guard11 : State := { period11 with etime := 10016000 - 10240 - 500 }
def reload11 : State :=
  let s := (period11.setStg 11 { period11.stg[(11 : Stage)] with latched := true }).put (F.STG_PER_NEXT_per 11) 16000
  { s with etime := s.stg[(11 : Stage)].next - leadTaps }

/-- Lathe context `e` of `running` with a stop request, or its event latched. -/
def asked (e : CtxId) : State := running.setCtx e { running.ctx[e] with stopReq := true }
def latched (e : CtxId) (d : VReg) (st : CtxSt) : State :=
  running.setCtx e { running.ctx[e] with latch := true, waitD := d, st := st, events := 7, due := 5 }

/-- The Headstock in WAIT, or running, with EV127 pending and enabled. -/
def evReady (st : CtxSt) : State := ((ctxAt running hs st 5).setReg (A.LTH_HS_EVEN 3) 0x80000000).setReg (A.LTH_HS_EVPEND 3) 0x80000000
def inHandler : State := { running.put F.LTH_HS_STAT_in_handler 1 with hsLim := 1 }
def timersOn : State := { running with hsTmr := #v[true, true] }

/-- Software breakpoints of the engine of context `e` are on in an open session. -/
def swBreak (e : CtxId) : State := session (running.put (F.DBG_ECFG_sw_en (engineOf e)) 1)

/-- Engine 6 runs an image at 0x440000; every scrubber is on. -/
def scrubbed : State :=
  { (List.range 7).foldl (fun (s : State) m => s.put (F.LTH_SCRUB_en m) 1) running with imgOf := running.imgOf.set (6 : Fin 7) (some 0x440000) }
def unscrubbed : State := running.put (F.LTH_SCRUB_en 5) 0

theorem test_synco_boundary : squareWave.idle.synco.start = some 128 ∧ squareWave.syncoLevel = false ∧ squareWave.idle.syncoLevel = true := by
  decide +kernel
theorem test_synco_disable : (squareWave.put F.CLK_SYNCO_CFG_src 0).idle.synco = SyncO.init := by decide +kernel
theorem test_synco_pulse : ((State.reset.put F.CLK_SYNCO_CFG_src 3).syncoStage 2 640).synco = ⟨3, some 640, 320, 8000, 0⟩ := by
  decide +kernel
theorem meets_StepRunsFrontCommand :
    queuedTwo.pending = [Instr.rtTick, Instr.ringRetry] := by decide +kernel
theorem meets_IdleStepIsOneRefCycle :
    squareWave.pending = [] ∧
    running.pending = [] := by decide +kernel
theorem meets_StepKeepsCanonical : queuedTwo.canonical ∧ ∃ t, step queuedTwo = .next t :=
  ⟨by unfold State.canonical; decide +kernel, _, rfl⟩
theorem meets_DecodeReadsEncoding :
    (WellFormed (Instr.shli (3 : CtxId) (7 : VReg) (8 : VReg) (31 : BitVec 5)) = true ∧
    engineFj (Instr.shli (3 : CtxId) (7 : VReg) (8 : VReg) (31 : BitVec 5)) = some (3 : CtxId)) := by decide +kernel
theorem meets_ReservedEncodingsFault_1 :
    (running.canIssue 3 ∧
    (¬402653184 / 2 ^ 26 ∈ [0x01, 0x02, 0x03, 0x04, 0x05, 0x07, 0x08, 0x09, 0x0A, 0x0B, 0x0C, 0x0D, 0x0E, 0x0F, 0x10, 0x11, 0x12, 0x13,
      0x14, 0x15, 0x20, 0x21, 0x22, 0x23, 0x24, 0x25, 0x26, 0x28, 0x29, 0x2C, 0x2D, 0x2E, 0x2F, 0x30, 0x31, 0x34, 0x35, 0x36, 0x3C, 0x3E]) ∧
    (¬(1 : BitVec 6) ∈ [(0 : BitVec 6)]) ∧ ((1 : BitVec 5) != (0 : BitVec 5)) = true ∧ ((1 : VReg) != (0 : VReg)) = true ∧
    ((1 : BitVec 5) != (0 : VReg)) = true ∧ ((31 : VReg) != (0 : VReg)) = true ∧ ((31 : VReg) != (0 : VReg) || decide (2 ^ 8 ≤ 1)) = true ∧
    ((31 : VReg) != (0 : VReg) || decide (2 ^ 7 ≤ 1)) = true ∧ ((1 : VReg) != (0 : VReg) || (31 : VReg) != (0 : VReg)) = true ∧
    ((1 : VReg) != (0 : VReg) || (31 : VReg) != (0 : VReg) || decide (2 ^ 8 ≤ 1)) = true) ∧
    ((BitVec.toNat (1 : VReg) % 2 = 1 ∨ (1 : VReg) = (0 : VReg)) ∧ BitVec.toNat (31 : VReg) % 2 = 1 ∧ (12 ≤ 3 ∨ 96 ≤ 96) ∧ 3 < 12) ∧
    (running.canIssue 12 ∧ 12 ≤ 12) ∧
    (4 : VReg) ≠ (0 : VReg) ∧
    ((¬(63 : BitVec 6) ∈ [(0 : BitVec 6), (1 : BitVec 6), (2 : BitVec 6), (3 : BitVec 6), (4 : BitVec 6), (5 : BitVec 6), (6 : BitVec 6),
      (7 : BitVec 6), (8 : BitVec 6), (9 : BitVec 6), (10 : BitVec 6), (11 : BitVec 6), (12 : BitVec 6), (13 : BitVec 6), (16 : BitVec 6),
      (17 : BitVec 6), (18 : BitVec 6), (20 : BitVec 6), (21 : BitVec 6), (22 : BitVec 6), (23 : BitVec 6), (24 : BitVec 6), (30 : BitVec
      6), (31 : BitVec 6)]) ∧
    (¬(63 : BitVec 6) ∈ [(0 : BitVec 6), (1 : BitVec 6), (2 : BitVec 6), (3 : BitVec 6), (4 : BitVec 6), (5 : BitVec 6), (6 : BitVec 6), (7
      : BitVec 6), (8 : BitVec 6), (9 : BitVec 6)]) ∧
    (¬(63 : BitVec 6) ∈ [(0 : BitVec 6), (1 : BitVec 6), (2 : BitVec 6), (3 : BitVec 6), (4 : BitVec 6), (5 : BitVec 6), (6 : BitVec 6), (7
      : BitVec 6), (8 : BitVec 6)]) ∧
    (¬(63 : BitVec 6) ∈ [(0 : BitVec 6), (1 : BitVec 6)]) ∧
    (¬(63 : BitVec 6) ∈ [(0 : BitVec 6), (1 : BitVec 6), (2 : BitVec 6), (4 : BitVec 6)]) ∧
    (decide (2 ^ 12 ≤ 2176 ∨ 2176 / 2 ^ 7 % 2 = 1 ∨ 2176 / 2 ^ 10 % 4 = 3) || decide (2176 / 2 ^ 10 % 4 = 2) && ((1 : VReg) != (0 : VReg)
      || (1 : VReg) != (0 : VReg) || decide (2176 / 2 ^ 8 % 4 ≠ 0))) = true) ∧
    decide (4 ≤ 31) = true :=
  ⟨by unfold State.canIssue; decide +kernel,
    by decide +kernel,
    by unfold State.canIssue; decide +kernel,
    by decide +kernel,
    by decide +kernel,
    by decide +kernel⟩
theorem meets_ReservedEncodingsFault_2 :
    (((31 : BitVec 5) != (0 : BitVec 5)) = true ∧ ((31 : BitVec 5) != (0 : BitVec 5) || (1 : VReg) != (0 : VReg)) = true ∧
    ((31 : BitVec 5) != (0 : BitVec 5) || (1 : VReg) != (0 : VReg) || (1 : VReg) != (0 : VReg)) = true) := by decide +kernel
theorem meets_EngineFaultEffect :
    (7 < 8 ∧ running.ctx[(12 : CtxId)].pc < pcLimit 12 ∧ running.cmds = []) ∧
    (0 < 8 ∧ running.ctx[(3 : CtxId)].pc < pcLimit 3 ∧ (12 : Fin 13) ≠ (3 : CtxId)) := by decide +kernel
theorem meets_IntegerResults :
    (with2 3 2147483648 4294967295).canIssue 3 := by unfold State.canIssue; decide +kernel
theorem meets_DivisionResults :
    ((with2 3 5 0).canIssue 3 ∧ (with2 3 5 0).ctx[(3 : CtxId)].rd (2 : VReg) = (0 : Word) ∧
    BitVec.toNat ((with2 3 5 0).ctx[(3 : CtxId)].rd (1 : VReg)) < pcLimit 3) ∧
    ((with2 3 2147483648 4294967295).canIssue 3 ∧ (with2 3 2147483648 4294967295).ctx[(3 : CtxId)].rd (2 : VReg) ≠ (0 : Word) ∧
    pcLimit 3 ≤ BitVec.toNat ((with2 3 2147483648 4294967295).ctx[(3 : CtxId)].rd (1 : VReg))) := by unfold State.canIssue; decide +kernel
theorem meets_PerUnitResults :
    ((with2 3 2147483648 4294967295).canIssue 3 ∧ 28 ≤ 28) ∧
    ((with2 12 4294967291 5).canIssue 12 ∧ 28 < 29) := by unfold State.canIssue; decide +kernel
theorem meets_AccumulatorResults :
    (with2 3 2147483648 2147483648).canIssue 3 := by unfold State.canIssue; decide +kernel
theorem meets_ImmediateResults :
    (with2 3 2147483647 2147483648).canIssue 3 := by unfold State.canIssue; decide +kernel
theorem meets_BranchesAndJumps :
    (running.canIssue 3 ∧ decide (running.ctx[(3 : CtxId)].rd (1 : BitVec 5) = running.ctx[(3 : CtxId)].rd (1 : BitVec 5)) = true ∧
    (¬((0 : Int) ≤ (↑running.ctx[(3 : CtxId)].pc : Int) + (1 : Int) + BitVec.toInt (1 : BitVec 16) ∧
      (↑running.ctx[(3 : CtxId)].pc : Int) + (1 : Int) + BitVec.toInt (1 : BitVec 16) < (↑(pcLimit 3) : Int))) ∧
    (decide (running.ctx[(3 : CtxId)].rd (1 : BitVec 5) ≠ running.ctx[(3 : CtxId)].rd (1 : BitVec 5)) = false ∨ (0 : Int) ≤
      (↑running.ctx[(3 : CtxId)].pc : Int) + (1 : Int) + BitVec.toInt (1 : BitVec 16) ∧
      (↑running.ctx[(3 : CtxId)].pc : Int) + (1 : Int) + BitVec.toInt (1 : BitVec 16) < (↑(pcLimit 3) : Int)) ∧
    (decide (BitVec.toInt (running.ctx[(3 : CtxId)].rd (1 : BitVec 5)) < BitVec.toInt (running.ctx[(3 : CtxId)].rd (1 : BitVec 5))) = false
      ∨ (0 : Int) ≤ (↑running.ctx[(3 : CtxId)].pc : Int) + (1 : Int) + BitVec.toInt (1 : BitVec 16) ∧
      (↑running.ctx[(3 : CtxId)].pc : Int) + (1 : Int) + BitVec.toInt (1 : BitVec 16) < (↑(pcLimit 3) : Int)) ∧
    decide (BitVec.toInt (running.ctx[(3 : CtxId)].rd (1 : BitVec 5)) ≤ BitVec.toInt (running.ctx[(3 : CtxId)].rd (1 : BitVec 5))) = true ∧
    (decide (BitVec.toNat (running.ctx[(3 : CtxId)].rd (1 : BitVec 5)) < BitVec.toNat (running.ctx[(3 : CtxId)].rd (1 : BitVec 5))) = false
      ∨ (0 : Int) ≤ (↑running.ctx[(3 : CtxId)].pc : Int) + (1 : Int) + BitVec.toInt (1 : BitVec 16) ∧
      (↑running.ctx[(3 : CtxId)].pc : Int) + (1 : Int) + BitVec.toInt (1 : BitVec 16) < (↑(pcLimit 3) : Int))) ∧
    (decide (BitVec.toNat (running.ctx[(3 : CtxId)].rd (1 : BitVec 5)) ≤ BitVec.toNat (running.ctx[(3 : CtxId)].rd (1 : BitVec 5))) = true ∧
    1 < pcLimit 3 ∧ BitVec.toNat (running.ctx[(3 : CtxId)].rd (1 : BitVec 5)) < pcLimit 3) ∧
    ((at3 3 4 5 0).canIssue 3 ∧
    (decide ((at3 3 4 5 0).ctx[(3 : CtxId)].rd (1 : VReg) = (at3 3 4 5 0).ctx[(3 : CtxId)].rd (2 : VReg)) = false ∨ (0 : Int) ≤ (↑(at3 3 4
      5 0).ctx[(3 : CtxId)].pc : Int) + (1 : Int) + BitVec.toInt (65534 : BitVec 16) ∧
      (↑(at3 3 4 5 0).ctx[(3 : CtxId)].pc : Int) + (1 : Int) + BitVec.toInt (65534 : BitVec 16) < (↑(pcLimit 3) : Int)) ∧
    decide ((at3 3 4 5 0).ctx[(3 : CtxId)].rd (1 : VReg) ≠ (at3 3 4 5 0).ctx[(3 : CtxId)].rd (2 : VReg)) = true ∧
    (¬((0 : Int) ≤ (↑(at3 3 4 5 0).ctx[(3 : CtxId)].pc : Int) + (1 : Int) + BitVec.toInt (65534 : BitVec 16) ∧
      (↑(at3 3 4 5 0).ctx[(3 : CtxId)].pc : Int) + (1 : Int) + BitVec.toInt (65534 : BitVec 16) < (↑(pcLimit 3) : Int))) ∧
    decide (BitVec.toInt ((at3 3 4 5 0).ctx[(3 : CtxId)].rd (1 : VReg)) < BitVec.toInt ((at3 3 4 5 0).ctx[(3 : CtxId)].rd (2 : VReg))) = true ∧
    (decide (BitVec.toInt ((at3 3 4 5 0).ctx[(3 : CtxId)].rd (2 : VReg)) ≤ BitVec.toInt ((at3 3 4 5 0).ctx[(3 : CtxId)].rd (1 : VReg))) =
      false ∨ (0 : Int) ≤ (↑(at3 3 4 5 0).ctx[(3 : CtxId)].pc : Int) + (1 : Int) + BitVec.toInt (65534 : BitVec 16) ∧
      (↑(at3 3 4 5 0).ctx[(3 : CtxId)].pc : Int) + (1 : Int) + BitVec.toInt (65534 : BitVec 16) < (↑(pcLimit 3) : Int)) ∧
    decide (BitVec.toNat ((at3 3 4 5 0).ctx[(3 : CtxId)].rd (1 : VReg)) < BitVec.toNat ((at3 3 4 5 0).ctx[(3 : CtxId)].rd (2 : VReg))) = true) ∧
    ((decide (BitVec.toNat ((at3 3 4 5 0).ctx[(3 : CtxId)].rd (2 : VReg)) ≤ BitVec.toNat ((at3 3 4 5 0).ctx[(3 : CtxId)].rd (1 : VReg))) =
      false ∨ (0 : Int) ≤ (↑(at3 3 4 5 0).ctx[(3 : CtxId)].pc : Int) + (1 : Int) + BitVec.toInt (65534 : BitVec 16) ∧
      (↑(at3 3 4 5 0).ctx[(3 : CtxId)].pc : Int) + (1 : Int) + BitVec.toInt (65534 : BitVec 16) < (↑(pcLimit 3) : Int)) ∧
    pcLimit 3 ≤ 16384) ∧
    ((at3 3 16384 5 16383).canIssue 3 ∧ pcLimit 3 ≤ BitVec.toNat ((at3 3 16384 5 16383).ctx[(3 : CtxId)].rd (1 : VReg))) :=
  ⟨by unfold State.canIssue; decide +kernel,
    by decide +kernel,
    by unfold State.canIssue; decide +kernel,
    by decide +kernel,
    by unfold State.canIssue; decide +kernel⟩
theorem meets_LoadsAndStores :
    (windowed.canIssue 3 ∧ windowed.window 3 (effOff (windowed.ctx[(3 : CtxId)].rd (1 : BitVec 5)) (99 : BitVec 16)) = some 149 ∧
    windowed.wpHit 3 [149] [] = none ∧ windowed.wpHit 3 [] [149] = none ∧
    windowed.cregClosed 3 (effOff (windowed.ctx[(3 : CtxId)].rd (1 : BitVec 5)) (99 : BitVec 16)) = false) ∧
    windowed.window 3 (effOff (windowed.ctx[(3 : CtxId)].rd (1 : BitVec 5)) (100 : BitVec 16)) = none ∧
    (closed0.canIssue 3 ∧ closed0.window 3 (effOff (closed0.ctx[(3 : CtxId)].rd (1 : BitVec 5)) (13 : BitVec 16)) = some 63 ∧
    closed0.wpHit 3 [] [63] = none ∧ closed0.cregClosed 3 (effOff (closed0.ctx[(3 : CtxId)].rd (1 : BitVec 5)) (13 : BitVec 16)) = true) :=
  ⟨by unfold State.canIssue; decide +kernel,
    by decide +kernel,
    by unfold State.canIssue; decide +kernel⟩
theorem meets_TransformResults :
    ((with2 3 2147483647 2147483648).canIssue 3 ∧ BitVec.toNat (30 : VReg) % 2 = 0 ∧ (30 : VReg) ≠ (0 : VReg) ∧
    BitVec.toNat (0 : VReg) % 2 = 0) := by unfold State.canIssue; decide +kernel
theorem meets_SincosAndClarkeBounds :
    ((with2 3 536870912 0).canIssue 3 ∧ BitVec.toNat (30 : VReg) % 2 = 0 ∧ (30 : VReg) ≠ (0 : VReg) ∧
    (sinTrue (1 : BitVec 32)).natAbs ≤ 2 ^ 28 ∧ (sinTrue ((1 : BitVec 32) + (1073741824 : Word))).natAbs ≤ 2 ^ 28 ∧
    Int.natAbs (17179869183 : Int) < 2 ^ 34 ∧ (0 : Int) ≤ (17179869183 : Int)) ∧
    ((-17179869183 : Int).natAbs < 2 ^ 34 ∧ (-17179869183 : Int) ≤ (0 : Int)) :=
  ⟨by unfold State.canIssue; decide +kernel,
    by decide +kernel⟩
theorem meets_PiStep :
    (running.canIssue 12 ∧ running.window 12 (16379) = some 16379 ∧ running.window 12 (16379 + 4) = some (16379 + 4) ∧
    running.cregClosed 12 (16379 + 4) = false ∧ running.wpHit 12 [16379, 16379 + 1, 16379 + 2, 16379 + 3, 16379 + 4] [16379 + 4] = none) ∧
    (running.window 12 (16380) = none ∨ running.window 12 (16380 + 4) = none) :=
  ⟨by unfold State.canIssue; decide +kernel,
    by decide +kernel⟩
theorem meets_LimitAndRamp :
    ((with2 12 5 4294967280).canIssue 12 ∧ BitVec.toNat (2 : VReg) % 2 = 0 ∧ (2 : VReg) ≠ (0 : VReg) ∧
    (with2 12 5 4294967280).window 12 (16381) = some 16381 ∧ (with2 12 5 4294967280).window 12 (16381 + 2) = some (16381 + 2) ∧
    (with2 12 5 4294967280).cregClosed 12 (16381 + 1) = false ∧ (with2 12 5 4294967280).cregClosed 12 (16381 + 2) = false ∧
    (with2 12 5 4294967280).wpHit 12 [16381, 16381 + 1] [16381 + 1, 16381 + 2] = none) ∧
    (running.canIssue 12 ∧ (running.window 12 (16382) = none ∨ running.window 12 (16382 + 2) = none)) :=
  ⟨by unfold State.canIssue; decide +kernel,
    by unfold State.canIssue; decide +kernel⟩
theorem meets_TableInstructions :
    ((with2 3 305419896 99).canIssue 3 ∧ tblStage 3 (0 : BitVec 5) = some 3 ∧ stageOf 3 = some (3 : Stage) ∧ 0 < 16 ∧
    (with2 3 305419896 99).mayLearn (3 : Stage) = false) ∧
    ((with2 12 305419896 99).canIssue 12 ∧ tblStage 12 (12 : BitVec 5) = none ∧ (12 ≤ 12 ∨ 16 ≤ 12)) ∧
    ((learning 4294967295 2147483647).canIssue 5 ∧ stageOf 5 = some (5 : Stage) ∧
    (learning 4294967295 2147483647).mayLearn (5 : Stage) = true) :=
  ⟨by unfold State.canIssue; decide +kernel,
    by unfold State.canIssue; decide +kernel,
    by unfold State.canIssue; decide +kernel⟩
theorem meets_DeviceReads :
    (running.canIssue 3 ∧ 10 < 11) ∧
    (running.canIssue 12 ∧ 11 ≤ 11) := by unfold State.canIssue; decide +kernel
theorem meets_PlanInstructions :
    ((planning 268435456 4294967295).canIssue 11 ∧ stageOf 11 = some (11 : Stage) ∧ 95 < 96) ∧
    ((planning 5 7).canIssue 11 ∧ 94 < 96) := by unfold State.canIssue; decide +kernel
theorem meets_CommitBeforeGuard :
    (running.canIssue 11 ∧ stageOf 11 = some (11 : Stage) ∧ running.inGuard (11 : Stage) = false) ∧
    (guard11.canIssue 11 ∧ guard11.inWindow (11 : Stage) = true) ∧
    (reload11.canIssue 11 ∧ reload11.inWindow (11 : Stage) = false ∧ reload11.tbRuns (11 : Stage) = true ∧
    reload11.stg[(11 : Stage)].latched = true ∧ reload11.etime = reload11.stg[(11 : Stage)].next - leadTaps) :=
  ⟨by unfold State.canIssue; decide +kernel,
    by unfold State.canIssue; decide +kernel,
    by unfold State.canIssue; decide +kernel⟩
theorem meets_WaitingAndDispatch_1 :
    ((asked (4 : CtxId)).ctx[ctxOf (4 : Stage)].st = CtxSt.run ∧ (asked (4 : CtxId)).bpStop (ctxOf (4 : Stage)) = none ∧
    (asked (4 : CtxId)).ctx[ctxOf (4 : Stage)].pc < pcLimit (ctxOf (4 : Stage)) ∧
    (asked (4 : CtxId)).ctx[ctxOf (4 : Stage)].stopReq = true ∧ (asked (4 : CtxId)).ctx[hs].st = CtxSt.run ∧
    (asked (4 : CtxId)).bpStop hs = none ∧ (asked (4 : CtxId)).ctx[hs].pc < pcLimit hs ∧ (asked (4 : CtxId)).ctx[hs].stopReq = false ∧
    (asked (4 : CtxId)).hsPick = none ∧ (asked (4 : CtxId)).ctx[ctxOf (4 : Stage)].st ≠ CtxSt.wait) ∧
    ((asked (12 : CtxId)).ctx[ctxOf (11 : Fin 12)].st = CtxSt.run ∧ (asked (12 : CtxId)).bpStop (ctxOf (11 : Fin 12)) = none ∧
    (asked (12 : CtxId)).ctx[ctxOf (11 : Fin 12)].pc < pcLimit (ctxOf (11 : Fin 12)) ∧
    (asked (12 : CtxId)).ctx[ctxOf (11 : Fin 12)].stopReq = false ∧ (asked (12 : CtxId)).ctx[ctxOf (11 : Fin 12)].latch = false ∧
    (asked (12 : CtxId)).ctx[hs].st = CtxSt.run ∧ (asked (12 : CtxId)).bpStop hs = none ∧ (asked (12 : CtxId)).ctx[hs].pc < pcLimit hs ∧
    (asked (12 : CtxId)).ctx[hs].stopReq = true) ∧
    ((latched (4 : CtxId) (5 : VReg) CtxSt.run).ctx[ctxOf (4 : Stage)].st = CtxSt.run ∧
    (latched (4 : CtxId) (5 : VReg) CtxSt.run).bpStop (ctxOf (4 : Stage)) = none ∧
    (latched (4 : CtxId) (5 : VReg) CtxSt.run).ctx[ctxOf (4 : Stage)].pc < pcLimit (ctxOf (4 : Stage)) ∧
    (latched (4 : CtxId) (5 : VReg) CtxSt.run).ctx[ctxOf (4 : Stage)].stopReq = false ∧
    (latched (4 : CtxId) (5 : VReg) CtxSt.run).ctx[ctxOf (4 : Stage)].latch = true) ∧
    ((latched (4 : CtxId) (5 : VReg) CtxSt.wait).ctx[ctxOf (4 : Stage)].st = CtxSt.wait ∧
    (latched (4 : CtxId) (5 : VReg) CtxSt.wait).ctx[ctxOf (4 : Stage)].latch = true) ∧
    ((evReady CtxSt.wait).ctx[hs].st = CtxSt.wait ∧ (evReady CtxSt.wait).hsPick = some 127) ∧
    ((evReady CtxSt.run).canIssue hs ∧ (evReady CtxSt.run).ctx[hs].stopReq = false ∧ (evReady CtxSt.run).hsPick = some 127) ∧
    (inHandler.fb F.LTH_HS_STAT_in_handler = true ∧ inHandler.hsLim ≠ 0 ∧ inHandler.ctx[hs].st = CtxSt.run) :=
  ⟨by decide +kernel,
    by decide +kernel,
    by decide +kernel,
    by decide +kernel,
    by decide +kernel,
    by unfold State.canIssue; decide +kernel,
    by decide +kernel⟩
theorem meets_WaitingAndDispatch_2 :
    timersOn.hsTmr[(1 : Fin 2)] = true := by decide +kernel
theorem meets_EventFlagAndBreak :
    (running.canIssue 11 ∧ 11 < 12 ∧ 255 < 256 ∧
    (running.fb (F.DBG_ECFG_sw_en (↑(engineOf 11) : Nat)) && running.fb F.DBG_STAT_unlocked) = false) ∧
    (running.canIssue 12 ∧ 256 ≤ 256) ∧
    ((swBreak (3 : CtxId)).ctx[(3 : CtxId)].st = CtxSt.run ∧ (swBreak (3 : CtxId)).bpStop 3 = none ∧
    (swBreak (3 : CtxId)).ctx[(3 : CtxId)].pc < pcLimit 3 ∧
    ((swBreak (3 : CtxId)).fb (F.DBG_ECFG_sw_en (↑(engineOf 3) : Nat)) && (swBreak (3 : CtxId)).fb F.DBG_STAT_unlocked) = true) :=
  ⟨by unfold State.canIssue; decide +kernel,
    by unfold State.canIssue; decide +kernel,
    by decide +kernel⟩
theorem meets_SystemInstructions :
    ((with2 12 2686972 305419896).canIssue hs ∧
    (BitVec.toNat ((with2 12 2686972 305419896).ctx[hs].rd (1 : VReg)) % 4 ≠ 0 ∨ mapped (BitVec.toNat ((with2 12 2686972
      305419896).ctx[hs].rd (1 : VReg))) = false ∨ 917504 ≤ BitVec.toNat ((with2 12 2686972 305419896).ctx[hs].rd (1 : VReg))) ∧
    BitVec.toNat ((with2 12 2686972 305419896).ctx[hs].rd (1 : VReg)) % 4 = 0 ∧
    1048576 ≤ BitVec.toNat ((with2 12 2686972 305419896).ctx[hs].rd (1 : VReg)) ∧
    BitVec.toNat ((with2 12 2686972 305419896).ctx[hs].rd (1 : VReg)) < 4194304 ∧
    mapped (BitVec.toNat ((with2 12 2686972 305419896).ctx[hs].rd (1 : VReg))) = true ∧
    2621440 ≤ BitVec.toNat ((with2 12 2686972 305419896).ctx[hs].rd (1 : VReg)) ∧
    BitVec.toNat ((with2 12 2686972 305419896).ctx[hs].rd (1 : VReg)) < 2686976 ∧
    (with2 12 2686972 305419896).descFits (BitVec.toNat ((with2 12 2686972 305419896).ctx[hs].rd (1 : VReg))) = false) ∧
    ((with2 12 2686976 5).canIssue hs ∧
    (BitVec.toNat ((with2 12 2686976 5).ctx[hs].rd (1 : VReg)) % 4 ≠ 0 ∨ BitVec.toNat ((with2 12 2686976 5).ctx[hs].rd (1 : VReg)) <
      1048576 ∨ mapped (BitVec.toNat ((with2 12 2686976 5).ctx[hs].rd (1 : VReg))) = false) ∧
    (¬(BitVec.toNat ((with2 12 2686976 5).ctx[hs].rd (1 : VReg)) % 4 = 0 ∧
      2621440 ≤ BitVec.toNat ((with2 12 2686976 5).ctx[hs].rd (1 : VReg)) ∧ BitVec.toNat ((with2 12 2686976 5).ctx[hs].rd (1 : VReg)) < 2686976))) ∧
    ((with2 12 131076 5).canIssue hs ∧ BitVec.toNat ((with2 12 131076 5).ctx[hs].rd (1 : VReg)) % 4 = 0 ∧
    BitVec.toNat ((with2 12 131076 5).ctx[hs].rd (1 : VReg)) < 196608 ∧
    mapped (BitVec.toNat ((with2 12 131076 5).ctx[hs].rd (1 : VReg))) = true ∧
    BitVec.toNat ((with2 12 131076 5).ctx[hs].rd (1 : VReg)) ≠ A.CLK_ETIME_LO ∧
    BitVec.toNat ((with2 12 131076 5).ctx[hs].rd (1 : VReg)) ≠ A.CLK_SYNCI_TS_LO ∧
    BitVec.toNat ((with2 12 131076 5).ctx[hs].rd (1 : VReg)) ≠ A.FLT_FIRST_TS_LO ∧
    BitVec.toNat ((with2 12 131076 5).ctx[hs].rd (1 : VReg)) ≠ A.SYS_RTC_SEC) ∧
    ((with2 12 4718588 5).canIssue hs ∧ BitVec.toNat ((with2 12 4718588 5).ctx[hs].rd (1 : VReg)) % 4 = 0 ∧
    4194304 ≤ BitVec.toNat ((with2 12 4718588 5).ctx[hs].rd (1 : VReg)) ∧
    mapped (BitVec.toNat ((with2 12 4718588 5).ctx[hs].rd (1 : VReg))) = true) ∧
    ((with2 12 16382 5).canIssue hs ∧ (with2 12 16382 5).descFits (BitVec.toNat ((with2 12 16382 5).ctx[hs].rd (1 : VReg))) = true ∧
    (with2 12 16382 5).descOf (BitVec.toNat ((with2 12 16382 5).ctx[hs].rd (1 : VReg))) = (0, 0, 0) ∧ (with2 12 16382 5).cmds = [] ∧
    (with2 12 16382 5).full 4 = false ∧ (with2 12 16382 5).mode ≠ mHoldup ∧ (with2 12 16382 5).downloads = false) :=
  ⟨by unfold State.canIssue; decide +kernel,
    by unfold State.canIssue; decide +kernel,
    by unfold State.canIssue; decide +kernel,
    by unfold State.canIssue; decide +kernel,
    by unfold State.canIssue; decide +kernel⟩
theorem meets_InstructionParity :
    (running.canIssue 3 ∧ running.scrubOn (6 : Fin 7) = true ∧ Repair.repaired ≠ Repair.failed) ∧
    unscrubbed.scrubOn (5 : Fin 7) = false :=
  ⟨by unfold State.canIssue; decide +kernel,
    by decide +kernel⟩

/-! ### States for the statements on register writes -/

/-- The device in STANDBY with every stage held by port 0; port 4 is the Headstock's. -/
def owned : State := held (inMode mStandby)
def inRun : State := held (inMode mRun)

/-- ADC 3 converts entries 0, 1, 11, 14 and 15, and stands before entry 11. -/
def sampling : State :=
  let s := (inRun.put (F.ADC_SCAN_mask 3) 0xC803).put ⟨A.ADC_STAT, 7, 1⟩ 1
  { s with adcLast := s.adcLast.set 3 1, calDone := true, scanPend := s.scanPend.set 2 (some (0x8001, 320)) }
def calibrating : State := { owned with calRun := true }

/-- SELFTEST has passed and comparator 23 is off, or shows a trip. -/
def cmpOff : State := owned.put F.SYS_STEST_pass 1

/-- In RUN, stage 11 held by port 0, its context running; its timebase on; switching. -/
def ready11 : State := ctxAt inRun (ctxOf 11) .run 0
def tb11 : State := (ready11.put (F.STG_CTL_tb 11) 1).put (F.STG_STAT_st 11) stReady
def onLate : State := let s := (switches ready11 11).put (F.STG_CTL_run 11) 1; s.setStg 11 { s.stg[(11 : Stage)] with runLate := true, starting := none }
def on11 : State := switches ((ready11.put (F.STG_CTL_tb 11) 1).put (F.STG_CTL_run 11) 1) 11

/-- Grid interface 3 with a valid configuration; the contactor follows interface 3. -/
def grid3 (m : Nat) : State :=
  ((((((((((inMode m).put (F.GRD_SRC_va 3) 0).put (F.GRD_SRC_vb 3) 1).put (F.GRD_SRC_vc 3) 2).put (F.GRD_NOM_f_nom 3) 50000).put
    (F.ADC_SCAN_mask 0) 7).put (F.GRD_RTQ_q_in 3) 1).put (F.GRD_RTQ_q_trip 3) 1).put F.ISL_KCFG_en 1).put F.ISL_KCFG_g 3).put (flgBit 3 2) 1
def kready : State := (grid3 mSync).put (F.ISL_STAT_rc_done 3) 1
def kclosed : State := (grid3 mSync).put F.ISL_KSTAT_st 2
def linkUp : State := owned.put (F.GL_CTL_en 11) 1

/-- Metering point 3 with six scanned external entries. -/
def metered : State :=
  ((((((((inMode mStandby).put (F.MTR_SRC_V_va 3) 0).put (F.MTR_SRC_V_vb 3) 1).put (F.MTR_SRC_V_vc 3) 2).put (F.MTR_SRC_I_ia 3) 3).put
    (F.MTR_SRC_I_ib 3) 4).put (F.MTR_SRC_I_ic 3) 5).put (F.MTR_NOM_f_nom 3) 50000).put (F.ADC_SCAN_mask 0) 0x3F
def retired : State := { (inMode mStandby).put F.MTR_SAVESTAT_retired 0xFFFF with saveLast := some (0, 5) }
def rtcSetting : State := { owned with rtcPend := some 55 }

theorem meets_RegisterWrites :
    State.reset.mode = mReset ∧
    (owned.mode ≠ mReset ∧ owned.accessCode 5 ≠ rOk) ∧
    (owned.accessCode 1 = rOk ∧ (owned.judge 1 [⟨(BitVec.ofNat 32 (A.STG_CTL 11)).toNat, (0 : Word)⟩]).1 ≠ rOk) ∧
    owned.letsWrite 0 ((BitVec.ofNat 32 (A.LTH_HS_TMR 1)).toNat) ((5 : Word)) ∧
    ((rowAt (A.LTH_HS_EVEN 3)).w1c = 0 ∧ (rowAt (A.LTH_HS_EVEN 3)).rs = 0 ∧ (rowAt (A.LTH_HS_EVEN 3)).rw ≠ 0 ∧ A.LTH_HS_EVEN 3 < 1048576 ∧
    owned.boundaryFor (some 3) (A.LTH_HS_EVEN 3) = none ∧ regStage (A.LTH_HS_EVEN 3) = none ∧ home 5 ≠ home (A.LTH_HS_EVEN 3)) ∧
    inRun.letsWrite 0 ((BitVec.ofNat 32 A.ADC_CTL).toNat) (bit 8) :=
  ⟨by decide +kernel,
    by decide +kernel,
    by decide +kernel,
    by unfold State.letsWrite; decide +kernel,
    by decide +kernel,
    by unfold State.letsWrite; decide +kernel⟩
theorem meets_EngineControlWrites_1 :
    (owned.letsWrite 0 (A.LTH_CTL (kn 11)) (bit (kc 11)) ∧
    (owned.ctx[ctxOf (11 : Fin 12)].st = CtxSt.idle ∨ owned.ctx[ctxOf (11 : Fin 12)].st = CtxSt.fault) ∧
    owned.letsWrite 0 (A.LTH_CTL (kn 11)) (bit (4 + kc 11)) ∧ owned.switching (11 : Fin 12) = false ∧
    owned.letsWrite 0 (A.LTH_CTL (kn 11)) (bit (8 + kc 11))) ∧
    (owned.letsWrite 0 (A.LTH_HS_CTL) (bit 0) ∧ (owned.ctx[hs].st = CtxSt.idle ∨ owned.ctx[hs].st = CtxSt.fault) ∧
    owned.letsWrite 0 (A.LTH_HS_CTL) (bit 1) ∧ owned.anySwitching = false ∧ owned.letsWrite 0 (A.LTH_HS_CTL) (bit 2)) ∧
    owned.letsWrite 0 (A.LTH_HS_TMR 1) ((1 : BitVec 32)) ∧
    ((ctxAt owned (ctxOf (11 : Stage)) CtxSt.wait 3).mode ≠ mReset ∧ (ctxAt owned (ctxOf (11 : Stage)) CtxSt.wait 3).accessCode 0 = rOk ∧
    ((ctxAt owned (ctxOf (11 : Stage)) CtxSt.wait 3).judge 0 [⟨A.LTH_CTL (kn 11), bit (4 + kc 11)⟩]).1 = rOk ∧
    (ctxAt owned (ctxOf (11 : Stage)) CtxSt.wait 3).switching (11 : Fin 12) = false) ∧
    ((ctxAt (ctxAt owned (ctxOf (11 : Stage)) CtxSt.run 3) hs CtxSt.run 4).mode ≠ mReset ∧
    (ctxAt (ctxAt owned (ctxOf (11 : Stage)) CtxSt.run 3) hs CtxSt.run 4).accessCode 0 = rOk ∧
    ((ctxAt (ctxAt owned (ctxOf (11 : Stage)) CtxSt.run 3) hs CtxSt.run 4).judge 0 [⟨A.LTH_CTL (kn 11), bit (4 + kc 11)⟩]).1 = rOk ∧
    (ctxAt (ctxAt owned (ctxOf (11 : Stage)) CtxSt.run 3) hs CtxSt.run 4).switching (11 : Fin 12) = false ∧
    ((ctxAt (ctxAt owned (ctxOf (11 : Stage)) CtxSt.run 3) hs CtxSt.run 4).judge 0 [⟨A.LTH_HS_CTL, bit 1⟩]).1 = rOk ∧
    (ctxAt (ctxAt owned (ctxOf (11 : Stage)) CtxSt.run 3) hs CtxSt.run 4).anySwitching = false) ∧
    ((ctxAt (ctxAt owned (ctxOf (11 : Stage)) CtxSt.fault 3) hs CtxSt.wait 4).mode ≠ mReset ∧
    (ctxAt (ctxAt owned (ctxOf (11 : Stage)) CtxSt.fault 3) hs CtxSt.wait 4).accessCode 0 = rOk ∧
    ((ctxAt (ctxAt owned (ctxOf (11 : Stage)) CtxSt.fault 3) hs CtxSt.wait 4).judge 0 [⟨A.LTH_HS_CTL, bit 1⟩]).1 = rOk ∧
    (ctxAt (ctxAt owned (ctxOf (11 : Stage)) CtxSt.fault 3) hs CtxSt.wait 4).anySwitching = false) :=
  ⟨by unfold State.letsWrite; decide +kernel,
    by unfold State.letsWrite; decide +kernel,
    by unfold State.letsWrite; decide +kernel,
    by decide +kernel,
    by decide +kernel,
    by decide +kernel⟩
theorem meets_EngineControlWrites_2 :
    (on11.letsWrite 0 (A.LTH_CTL (kn 11)) (bit (4 + kc 11)) ∧ on11.switching (11 : Fin 12) = true ∧
    on11.letsWrite 0 (A.LTH_HS_CTL) (bit 1) ∧ on11.anySwitching = true) := by unfold State.letsWrite; decide +kernel
theorem meets_AcquisitionControlWrites :
    (sampling.letsWrite 0 (A.ADC_CTL) (BitVec.zeroExtend 32 (15 : BitVec 4)) ∧
    sampling.letsWrite 0 (A.ADC_SCAN 3) (BitVec.zeroExtend 32 (49155 : BitVec 16)) ∧ (sampling.scanWrite (3 : Fin 4) (49155)).1 = rOk ∧
    sampling.letsWrite 0 (A.ADC_PLST 63) (bit 8)) ∧
    sampling.letsWrite 0 (A.CMP_STAT 23) (bit 2) ∧
    (calibrating.letsWrite 0 (A.ADC_CTL) (BitVec.zeroExtend 32 (1 : BitVec 4)) ∧ calibrating.letsWrite 0 (A.ADC_CTL) (bit 8) ∧
    (calibrating.mode = mConfigure ∨ calibrating.mode = mStandby) ∧
    calibrating.letsWrite 0 (A.ADC_SCAN 3) (BitVec.zeroExtend 32 (49155 : BitVec 16)) ∧ (calibrating.scanWrite (3 : Fin 4) (49155)).1 = rOk) ∧
    (cmpOff.letsWrite 0 (A.CMP_CFG 23) (cmpOff.reg (A.CMP_CFG 23) ||| bit 0) ∧ cmpOff.fb F.SYS_STEST_pass = true ∧
    cmpOff.cmpPow[(23 : Fin 24)] = false) :=
  ⟨by unfold State.letsWrite; decide +kernel,
    by unfold State.letsWrite; decide +kernel,
    by unfold State.letsWrite; decide +kernel,
    by unfold State.letsWrite; decide +kernel⟩
theorem meets_StageControlWrites_1 :
    (ready11.letsWrite 0 (A.STG_CTL 11) (ready11.reg (A.STG_CTL 11) ||| bit 1) ∧
    natBit (BitVec.toNat (ready11.reg (A.STG_CTL 11))) 4 = false ∧ ready11.fb (F.STG_CTL_run 11) = false ∧
    isSwitchMode ready11.mode = true ∧ ready11.halted = false ∧ ready11.startCheck (11 : Fin 12) = rOk ∧
    ready11.letsWrite 0 (A.STG_CTL 11) (ready11.reg (A.STG_CTL 11) &&& ~~~bit 0 ||| BitVec.ofNat 32 1) ∧
    ready11.fb (F.STG_CTL_tb 11) = false) ∧
    (ready11.switching (11 : Fin 12) = false ∧ ready11.leaderStopped (11 : Fin 12) = false ∧ ready11.scanArgs (11 : Fin 12) = true ∧
    ready11.letsWrite 0 (A.STG_CTL 11) (ready11.reg (A.STG_CTL 11) ||| bit 4) ∧
    ready11.letsWrite 0 (A.STG_TBLCTL 11) (ready11.reg (A.STG_TBLCTL 11) ||| BitVec.zeroExtend 32 (15 : BitVec 4) <<< 8) ∧
    getBits (ready11.reg (A.STG_TBLCTL 11)) 8 4 = 0) ∧
    ready11.letsWrite 0 (A.STG_TBLCTL 11) (ready11.reg (A.STG_TBLCTL 11) ||| bit 12) ∧
    (tb11.letsWrite 0 (A.STG_CTL 11) (tb11.reg (A.STG_CTL 11) ||| bit 1) ∧ natBit (BitVec.toNat (tb11.reg (A.STG_CTL 11))) 4 = false ∧
    tb11.fb (F.STG_CTL_run 11) = false ∧ isSwitchMode tb11.mode = true ∧ tb11.halted = false ∧ tb11.startCheck (11 : Fin 12) = rOk ∧
    tb11.letsWrite 0 (A.STG_CTL 11) (tb11.reg (A.STG_CTL 11) &&& ~~~bit 0 ||| BitVec.ofNat 32 0) ∧ tb11.fb (F.STG_CTL_tb 11) = true) ∧
    (tb11.switching (11 : Fin 12) = false ∧ tb11.followed (11 : Fin 12) = false ∧ tb11.staged = [] ∧ tb11.cmds = []) :=
  ⟨by unfold State.letsWrite; decide +kernel,
    by unfold State.letsWrite; decide +kernel,
    by unfold State.letsWrite; decide +kernel,
    by unfold State.letsWrite; decide +kernel,
    by decide +kernel⟩
theorem meets_StageControlWrites_2 :
    (on11.letsWrite 0 (A.STG_CTL 11) (on11.reg (A.STG_CTL 11) &&& ~~~bit 1) ∧ natBit (BitVec.toNat (on11.reg (A.STG_CTL 11))) 4 = false ∧
    on11.fb (F.STG_CTL_run 11) = true) ∧
    (onLate.letsWrite 0 (A.STG_CTL 11) (onLate.reg (A.STG_CTL 11) &&& ~~~bit 1) ∧
    natBit (BitVec.toNat (onLate.reg (A.STG_CTL 11))) 4 = false ∧ onLate.fb (F.STG_CTL_run 11) = true) := by unfold State.letsWrite; decide +kernel
theorem meets_GridControlWrites_1 :
    (linkUp.letsWrite 0 (A.GL_CTL 11) (linkUp.reg (A.GL_CTL 11) ||| bit 1) ∧ (linkUp.mode = mConfigure ∨ linkUp.mode = mStandby) ∧
    linkUp.fb (F.GL_CTL_en 11) = true ∧ linkUp.lnkSt (11 : Fin 12) ≠ lSeq ∧ linkUp.gateEn = true ∧ linkUp.safForce = false ∧
    linkUp.trips (11 : Fin 12) = false ∧ linkUp.letsWrite 0 (A.GRD_CTL 3) (linkUp.reg (A.GRD_CTL 3) ||| bit 3)) ∧
    (isSwitchMode linkUp.mode = false ∧ linkUp.letsWrite 0 (A.ISL_CTL 3) (linkUp.reg (A.ISL_CTL 3) ||| bit 3) ∧
    linkUp.letsWrite 0 (A.ISL_CTL 3) (linkUp.reg (A.ISL_CTL 3) ||| bit 4) ∧ natBit (BitVec.toNat (linkUp.reg (A.ISL_CTL 3))) 3 = false ∧
    linkUp.letsWrite 0 (A.ISL_KCTL) (bit 0)) ∧
    (linkUp.fb F.ISL_KCFG_en = false ∨ linkUp.mode ≠ mSync ∨ linkUp.fb (flgBit (↑linkUp.kg : Nat) 2) = false ∨ linkUp.fb
      (F.ISL_STAT_rc_done (↑linkUp.kg : Nat)) = false ∨ linkUp.f F.ISL_KSTAT_st ≠ 0) ∧
    ((grid3 3).letsWrite 0 (A.GRD_CTL 3) ((grid3 3).reg (A.GRD_CTL 3) ||| bit 0) ∧
    natBit (BitVec.toNat ((grid3 3).reg (A.GRD_CTL 3))) 3 = false ∧ (grid3 3).fb (F.GRD_CTL_en 3) = false) ∧
    (kready.letsWrite 0 (A.ISL_KCTL) (bit 0) ∧ kready.fb F.ISL_KCFG_en = true ∧ kready.mode = mSync ∧
    kready.fb (flgBit (↑kready.kg : Nat) 2) = true ∧ kready.fb (F.ISL_STAT_rc_done (↑kready.kg : Nat)) = true ∧ kready.f F.ISL_KSTAT_st = 0) :=
  ⟨by unfold State.letsWrite; decide +kernel,
    by unfold State.letsWrite; decide +kernel,
    by decide +kernel,
    by unfold State.letsWrite; decide +kernel,
    by unfold State.letsWrite; decide +kernel⟩
theorem meets_GridControlWrites_2 :
    (kclosed.letsWrite 0 (A.ISL_KCTL) (bit 1) ∧ kclosed.anySwitching = false ∧ kclosed.f F.ISL_KSTAT_st = 2) ∧
    ((switches kclosed (11 : Stage)).letsWrite 0 (A.ISL_KCTL) (bit 1) ∧ (switches kclosed (11 : Stage)).anySwitching = true) := by unfold State.letsWrite; decide +kernel
theorem meets_UnitControlWrites_1 :
    (owned.letsWrite 0 (A.MTR_SAVE) (owned.reg A.MTR_SAVE ||| bit 16) ∧ owned.mode ≠ mHoldup ∧ owned.nextSlot = some 0 ∧
    owned.letsWrite 0 (A.MTR_CTL 3) (owned.reg (A.MTR_CTL 3) ||| bit 1) ∧ owned.fb (F.MTR_CTL_en 3) = false ∧
    natBit (BitVec.toNat (owned.reg (A.MTR_CTL 3))) 0 = false) ∧
    (owned.letsWrite 0 (A.SAF_CTL) (owned.reg A.SAF_CTL ||| bit 4) ∧ owned.letsWrite 0 (A.FLT_CTL) (owned.reg A.FLT_CTL ||| bit 4) ∧
    owned.letsWrite 0 (A.FLT_CTL) (BitVec.ofNat 32 (b2n false))) ∧
    (owned.letsWrite 0 (A.SYS_MODEREQ) (BitVec.zeroExtend 32 (3 : BitVec 4)) ∧ owned.mode = mStandby ∧ 3 = mConfigure ∧
    owned.letsWrite 0 (A.PRT_NCTL 1) (owned.reg (A.PRT_NCTL 1) ||| bit 0) ∧ owned.fb (F.PRT_NCTL_en 1) = false) ∧
    (owned.letsWrite 0 (A.PRT_MDIO) (BitVec.ofNat 32 (1 + 32 * 1 + 1024 * b2n true + 2048 + 65536 * 1)) ∧
    owned.fb F.PRT_MDIO_busy = false ∧ owned.letsWrite 0 (A.SYS_RTC_SEC) ((9 : Word))) ∧
    (metered.letsWrite 0 (A.MTR_CTL 3) (metered.reg (A.MTR_CTL 3) ||| bit 0) ∧ metered.fb (F.MTR_CTL_en 3) = false ∧
    natBit (BitVec.toNat (metered.reg (A.MTR_CTL 3))) 1 = false ∧
    metered.letsWrite 0 (A.SYS_MODEREQ) (BitVec.zeroExtend 32 (1 : BitVec 4)) ∧ (¬1 ∈ [0, 3, 4, 5, 6, 7])) :=
  ⟨by unfold State.letsWrite; decide +kernel,
    by unfold State.letsWrite; decide +kernel,
    by unfold State.letsWrite; decide +kernel,
    by unfold State.letsWrite; decide +kernel,
    by unfold State.letsWrite; decide +kernel⟩
theorem meets_UnitControlWrites_2 :
    (retired.letsWrite 0 (A.MTR_SAVE) (retired.reg A.MTR_SAVE ||| bit 16) ∧ retired.mode ≠ mHoldup ∧ retired.nextSlot = none) ∧
    (rtcSetting.letsWrite 0 (A.SYS_MODEREQ) (BitVec.zeroExtend 32 (7 : BitVec 4)) ∧ rtcSetting.mode = mStandby ∧ 7 = mRun ∧
    rtcSetting.rtcPend = some (55 : Word)) ∧
    ((inMode mConfigure).letsWrite 0 (A.SYS_MODEREQ) (BitVec.zeroExtend 32 (4 : BitVec 4)) ∧ (inMode mConfigure).mode = mConfigure ∧
    4 = mStandby) :=
  ⟨by unfold State.letsWrite; decide +kernel,
    by unfold State.letsWrite; decide +kernel,
    by unfold State.letsWrite; decide +kernel⟩

/-! ### States for the statements on acquisition, stages and links -/

/-- The next sample is entry 59, bound to stage 11, whose timebase runs; no unit takes the raw stream. -/
def sampleNext : State := (((sampling.put (F.ADC_ECFG_stg 59) 11).put (F.STG_STAT_st 11) stReady).put (F.ADC_ECFG_stg 58) 15)
def sampleDue : State := { sampleNext with adcDue := Vector.replicate 4 320 }
def calSelftest : State := { inMode mSelftest with calRun := true }
def unbound : State := sampleDue.put (F.ADC_ECFG_stg 59) 15

/-- Entry 59 stands one failure before each of its checks, entry 60 one before its own; entry 59 saw code 5 last. -/
def failing : State :=
  let s := ((sampling.put (F.ADC_ECFG_frz_en 59) 1).put (F.ADC_ECFG_rng_en 59) 1).put (F.ADC_ECFG_xchk_en 59) 1
  let s := s.put (F.ADC_RNG_lo 59) 6
  (s.setEnt 59 { s.ent[(59 : Fin 64)] with code := 5, seen := true, frz := 10000, rng := 300, xchk := 300 }).setEnt 61
    { s.ent[(61 : Fin 64)] with int := 15 }

/-- Stage 11 in RUN in a period of 8000 taps that began at tap 10 000 000, its timebase running. -/
def ticking : State :=
  let s := (inRun.put (F.STG_STAT_st 11) stReady).put (F.ADC_ECFG_stg 59) 11
  s.setStg 11 { s.stg[(11 : Stage)] with ts := 10000000, tn := 16000, t0 := 10000000, starting := none }
def stg11 (s : State) (f : Stg → Stg) : State := s.setStg 11 (f s.stg[(11 : Stage)])
def windowDue : State := stg11 ticking fun g => { g with winDue := true }

/-- Comparator 23 is powered since tap 320 with its high threshold at code 512, tripping stage 11 or a port. -/
def armed23 : State :=
  let s := (((inRun.put (F.CMP_CFG_hi_en 23) 1).put (F.CMP_THR_hi 23) 512).put (F.CMP_CFG_stg 23) 11)
  { (switches s 11) with cmpPow := s.cmpPow.set 23 true, cmpFrom := s.cmpFrom.set 23 320, cmpThr := s.cmpThr.set 23 [(0, 0x02000000)] }

/-- The instants of stage 11. -/
def starting11 : State := stg11 ticking fun g => { g with starting := some 10000000 }
def reloaded : State := stg11 ticking fun g => { g with latched := true }
/-- Stage 11 switches with the switches of link 11, the link in state `st`; its plan is `p`, its previous one `q`. -/
def latch11 (st : Nat) (p q : Plan) : State :=
  let s := (((ticking.put (F.STG_STAT_st 11) stSwitching).setReg (A.STG_MAP 11 2) 0xFF000000).setReg (A.STG_MASK 11 2) 0xFF000000).put
    (F.GL_STAT_st 11) st
  stg11 (s.put (F.STG_PER_per 11) 160000) fun g => { g with com := p, prevPlan := q }
def onePulse : Plan := [(380, 40000, 80000)]
def allAtOnce : Plan := (List.range 8).map fun i => (352 + 4 * i, 0, 80000)
def stops11 : State := stg11 (latch11 lEn onePulse []) fun g => { g with stopReq := true }
def hiccups11 : State := stg11 (latch11 lDis onePulse []) fun g => { g with hicArm := true }
/-- Switches 94 and 95 of stage 11 are a leg; a plan with one interval each, the latter to the period's end. -/
def legs11 : State := ((latch11 lEn [] []).put (F.STG_SWCFG_partner 95) 94).put (F.STG_SWCFG_partner 94) 95
def legPlan : Plan := [(380, 40000, 80000), (376, 90000, 159500)]
def missing : State := (stg11 ticking fun g => { g with srcAge := 16 }).put (F.STG_SYNC_src 11) 2
def hiccup (lim : Bool) : State :=
  (stg11 ticking fun g => { g with hicEnd := some 5, hicLim := lim }).put (F.STG_STAT_st 11) stHiccup

/-- Link 11 in state `st`; with configuration words; in the sequence at address `j`. -/
def linkIn (st : Nat) : State := (owned.put (F.GL_STAT_st 11) st).put (F.GL_CTL_en 11) 1
def lnk11 (s : State) (f : Lnk → Lnk) : State := s.setLnk 11 (f s.lnk[(11 : Link)])
def theSlot : Slotted := ⟨11, 11, 10000100, ⟨95, true, 10000900, 3, 1, 1, 0⟩, false⟩
def theImm : Imm := ⟨11, 11, 95, 10000900⟩
def theCfg : CfgWord := ⟨3, 7, 255, none, false, false, none⟩
def sentCfg : CfgWord := ⟨3, 7, 255, none, false, true, some (A.LTH_HS_EVEN 3, 1, 1)⟩
def slotted : State := { linkIn lEn with slots := [theSlot] }
def immWaits : State := { linkIn lEn with imms := [theImm] }
def immLate : State := { immWaits with slots := [theSlot] }
def seqSends : State :=
  let s := linkIn lSeq
  s.setLnk 11 { s.lnk[(11 : Link)] with seqAt := some 5, idOk := true, echoOk := true }
def cfgWaits (st : Nat) : State := lnk11 (linkIn st) fun l => { l with cfg := [theCfg] }
def cfgSent (st j : Nat) : State :=
  lnk11 (linkIn st) fun l =>
    { l with cfg := [sentCfg], seqAt := if st = lSeq then some j else none }
def seqEnd : State := lnk11 (linkIn lSeq) fun l => { l with seqAt := some 14 }
def paired : State := lnk11 (linkIn lEn) fun l => { l with pairs := 2 }

def theEdge : Kept := ⟨95, true, 15, 3⟩
/-- The latest on-edge of switch 95 is kept, its voltage loop on, `n` values to an update. -/
def crossing (n : Nat) : State :=
  ((lnk11 (linkIn lEn) fun l => { l with kept := [theEdge] }).put (F.GL_ALOOP_dv_en 11) 128).put (F.GL_ALOOP_navg 11) n

/-- Link 11 parted: GATE_EN low in STANDBY; held over to CONFIGURE. -/
def partedLow : State := { linkIn lPart with gateEn := false }
def heldOver : State := lnk11 ((inMode mConfigure).put (F.GL_STAT_st 11) lPart) fun l => { l with toDis := true }

theorem meets_SamplesAndChecks :
    (3 = 59 / 16 ∧ calSelftest.scanPend[(3 : Fin 4)] = none ∧
    (5 % 160 ≠ 0 ∨ 5 ≠ calSelftest.adcDue[(3 : Fin 4)] ∨ calSelftest.calRun = true ∨ calSelftest.calDone = false ∨ nextConv (calSelftest.f
      (F.ADC_SCAN_mask 3)) calSelftest.adcLast[(3 : Fin 4)] ≠ some (59 % 16)) ∧
    calSelftest.calRun = true ∧ calSelftest.mode = mSelftest ∧ (7 : BitVec 4) ≠ (15 : BitVec 4) ∧ calSelftest.refHeld = none) ∧
    (sampleDue.calDone = true ∧ sampleDue.calRun = false ∧ sampleDue.f (F.ADC_SCAN_mask 3) ≠ 0 ∧ sampleDue.scanPend[(3 : Fin 4)] = none ∧
    320 % 160 = 0 ∧ sampleDue.adcDue[(3 : Fin 4)] = 320 ∧
    nextConv (sampleDue.f (F.ADC_SCAN_mask 3)) sampleDue.adcLast[(3 : Fin 4)] = some (59 % 16) ∧ 59 % 16 < 12 ∧
    sampleDue.fb (F.ADC_ECFG_frz_en 59) = false ∧ sampleDue.fb (F.ADC_ECFG_rng_en 59) = false ∧
    sampleDue.fb (F.ADC_ECFG_xchk_en 59) = false ∧
    (∀ (i : Fin 4), sampleDue.fb (F.GRD_CTL_en i) = false ∧ sampleDue.fb (F.ISL_CTL_en i) = false ∧ sampleDue.fb (F.MTR_CTL_en i) = false)) ∧
    (false = false ∧ sampleDue.f (F.ADC_CAL_ofs_corr 3) = 0) ∧
    (unbound.calDone = true ∧ unbound.calRun = false ∧ unbound.f (F.ADC_SCAN_mask 3) ≠ 0 ∧ unbound.scanPend[(3 : Fin 4)] = none ∧
    unbound.adcDue[(3 : Fin 4)] = 320 ∧ nextConv (unbound.f (F.ADC_SCAN_mask 3)) unbound.adcLast[(3 : Fin 4)] = some (59 % 16) ∧
    unbound.fb (F.ADC_ECFG_frz_en 59) = false ∧ unbound.fb (F.ADC_ECFG_rng_en 59) = false ∧ unbound.fb (F.ADC_ECFG_xchk_en 59) = false ∧
    (∀ (i : Fin 4), unbound.fb (F.GRD_CTL_en i) = false ∧ unbound.fb (F.ISL_CTL_en i) = false ∧ unbound.fb (F.MTR_CTL_en i) = false)) ∧
    (failing.fb (F.ADC_ECFG_frz_en 59) = true ∧ failing.ent[(59 : Fin 64)].seen = true ∧ failing.ent[(59 : Fin 64)].code = 5 ∧
    failing.frzN 59 ≤ failing.ent[(59 : Fin 64)].frz + 1 ∧ failing.fb (F.ADC_ECFG_rng_en 59) = true ∧
    (5 < failing.f (F.ADC_RNG_lo 59) ∨ failing.f (F.ADC_RNG_hi 59) < 5) ∧ failing.rngN 59 ≤ failing.ent[(59 : Fin 64)].rng + 1 ∧
    failing.fb (F.ADC_ECFG_xchk_en 59) = true ∧ failing.xchkN 59 ≤ failing.ent[(59 : Fin 64)].xchk + 1 ∧ 1 < 2 ∧
    failing.internalBad (12 + 1) (5) (5) = true ∧ (∀ (x : Fin 64), x = 16 * 3 + 12 + 1 → failing.ent[x].int = 15)) ∧
    (calibrating.calRun = true ∧ (calibrating.mode ≠ mSelftest ∨ (9 : BitVec 4) = (15 : BitVec 4))) :=
  ⟨by decide +kernel,
    by decide +kernel,
    by decide +kernel,
    by decide +kernel,
    by decide +kernel,
    by decide +kernel⟩
theorem meets_WindowAndStageEvent :
    (windowDue.stg[(11 : Fin 12)].winDue = true ∧ windowDue.tbRuns (11 : Fin 12) = true ∧
    windowDue.nextWin (11 : Fin 12) = some ((10005760 : Int), 16000)) ∧
    ticking.stg[(11 : Fin 12)].winDue = false ∧
    ((ctxAt windowDue (ctxOf (11 : Stage)) CtxSt.run 0).stg[(11 : Fin 12)].winDue = true ∧
    ((ctxAt windowDue (ctxOf (11 : Stage)) CtxSt.run 0).ctx[ctxOf (11 : Fin 12)].st = CtxSt.run ∨ (ctxAt windowDue (ctxOf (11 : Stage))
      CtxSt.run 0).ctx[ctxOf (11 : Fin 12)].st = CtxSt.wait)) := by decide +kernel
theorem meets_ComparatorEvents :
    (armed23.cmpPow[(23 : Fin 24)] = true ∧ 16320 % 320 = 0 ∧ armed23.cmpFrom[(23 : Fin 24)] ≤ 16320 ∧
    (∀ (x : Nat × Bool), x ∈ armed23.cmpDec[(23 : Fin 24)] → x.1 < 16320) ∧ armed23.cmpFrom[(23 : Fin 24)] + 16000 ≤ 16320 ∧
    (armed23.fb (F.CMP_CFG_hi_en 23) = true ∧
      78125 * (2 * getBits (armed23.thrAt 23 16320) 16 10 + 1) < 80078126 ∨ armed23.fb (F.CMP_CFG_lo_en 23) = true ∧
      80078126 < 78125 * (2 * getBits (armed23.thrAt 23 16320) 0 10 + 1)) ∧
    armed23.f (F.CMP_CFG_stg 23) < 12 ∧ armed23.anySwitching = true) ∧
    (16000 % 320 = 0 ∧ armed23.cmpFrom[(23 : Fin 24)] ≤ 16000 ∧ (∀ (x : Nat × Bool), x ∈ armed23.cmpDec[(23 : Fin 24)] → x.1 < 16000) ∧
    (16000 < armed23.cmpFrom[(23 : Fin 24)] + 16000 ∨ ¬(armed23.fb (F.CMP_CFG_hi_en 23) = true ∧
      78125 * (2 * getBits (armed23.thrAt 23 16000) 16 10 + 1) < 80078126 ∨ armed23.fb (F.CMP_CFG_lo_en 23) = true ∧
      80078126 < 78125 * (2 * getBits (armed23.thrAt 23 16000) 0 10 + 1)))) ∧
    (16320 < armed23.cmpFrom[(23 : Fin 24)] + 16000 ∨ ¬(armed23.fb (F.CMP_CFG_hi_en 23) = true ∧
      78125 * (2 * getBits (armed23.thrAt 23 16320) 16 10 + 1) < 80078125 ∨ armed23.fb (F.CMP_CFG_lo_en 23) = true ∧
      80078125 < 78125 * (2 * getBits (armed23.thrAt 23 16320) 0 10 + 1))) ∧
    armed23.ticks (23 : Fin 24) 16321 = false :=
  ⟨by decide +kernel,
    by decide +kernel,
    by decide +kernel,
    by decide +kernel⟩
theorem meets_TimebaseInstants :
    (starting11.stg[(11 : Fin 12)].starting = some 10000000 ∧ (starting11.startAt (11 : Fin 12) 10000000).2.2.1 = false ∧
    starting11.f (F.STG_SYNC_src 11) = 0 ∧ starting11.staged = [] ∧ starting11.tbRuns (11 : Fin 12) = false) ∧
    (ticking.tbRuns (11 : Fin 12) = true ∧ ticking.stg[(11 : Fin 12)].latched = false ∧ ticking.f (F.STG_SYNC_src 11) = 0 ∧
    ticking.staged = [] ∧ ticking.cmds = [] ∧ ticking.stgSt (11 : Fin 12) = stReady) ∧
    (reloaded.tbRuns (11 : Fin 12) = true ∧ reloaded.stg[(11 : Fin 12)].latched = true ∧ reloaded.staged = []) ∧
    (missing.tbRuns (11 : Fin 12) = true ∧ 2 ≤ missing.f (F.STG_SYNC_src 11) ∧ missing.stg[(11 : Fin 12)].srcAge = 16) ∧
    ((hiccup true).stgSt (11 : Fin 12) = stHiccup ∧ (hiccup true).stg[(11 : Fin 12)].hicEnd = some 5) ∧
    ((hiccup false).stgSt (11 : Fin 12) = stHiccup ∧ (hiccup false).stg[(11 : Fin 12)].hicEnd = some 5) :=
  ⟨by decide +kernel,
    by decide +kernel,
    by decide +kernel,
    by decide +kernel,
    by decide +kernel,
    by decide +kernel⟩
theorem meets_PlanIsLatched_1 :
    ((latch11 lDis onePulse []).tbRuns (11 : Fin 12) = true ∧ (latch11 lDis onePulse []).stg[(11 : Fin 12)].latched = false ∧
    (latch11 lDis onePulse []).stgSt (11 : Fin 12) = stSwitching ∧ (latch11 lDis onePulse []).stg[(11 : Fin 12)].runLate = false ∧
    (latch11 lDis onePulse []).f (F.STG_SYNC_src 11) = 0 ∧
    (∀ (j : Stage), leaderOf j = (11 : Fin 12) → (latch11 lDis onePulse []).f (F.STG_SYNC_src j) ≠ 1) ∧
    (latch11 lDis onePulse []).staged = [] ∧ (latch11 lDis onePulse []).cmds = [] ∧
    (latch11 lDis onePulse []).linksEn (11 : Fin 12) = false ∧ (latch11 lEn onePulse []).fb (F.STG_TMIN_carry 11) = false) ∧
    ((latch11 lEn onePulse []).tbRuns (11 : Fin 12) = true ∧ (latch11 lEn onePulse []).stg[(11 : Fin 12)].latched = false ∧
    (latch11 lEn onePulse []).stgSt (11 : Fin 12) = stSwitching ∧ (latch11 lEn onePulse []).stg[(11 : Fin 12)].runLate = false ∧
    (latch11 lEn onePulse []).f (F.STG_SYNC_src 11) = 0 ∧
    (∀ (j : Stage), leaderOf j = (11 : Fin 12) → (latch11 lEn onePulse []).f (F.STG_SYNC_src j) ≠ 1) ∧
    (latch11 lEn onePulse []).staged = [] ∧ (latch11 lEn onePulse []).cmds = [] ∧ (latch11 lEn onePulse []).linksEn (11 : Fin 12) = true ∧
    ((((latch11 lEn onePulse []).toInstant ((latch11 lEn onePulse []).reloadAt (11 : Fin 12))).put (F.STG_PER_NEXT_per 11) ((latch11 lEn
      onePulse []).f (F.STG_PER_per 11))).reloadLoops ((latch11 lEn onePulse []).switchesOf (11 : Fin 12))).deliverable (11 : Fin 12)
      ((latch11 lEn onePulse []).stg[(11 : Fin 12)].next - leadTaps) (((((latch11 lEn onePulse []).toInstant ((latch11 lEn onePulse
      []).reloadAt (11 : Fin 12))).put (F.STG_PER_NEXT_per 11) ((latch11 lEn onePulse []).f (F.STG_PER_per 11))).reloadLoops ((latch11 lEn
      onePulse []).switchesOf (11 : Fin 12))).build (11 : Fin 12) (if ((latch11 lEn onePulse []).stg[(11 : Fin 12)].stopReq && !(latch11
      lEn onePulse []).stg[(11 : Fin 12)].stopLate || (latch11 lEn onePulse []).stg[(11 : Fin 12)].hicArm) = true then [] else (latch11 lEn
      onePulse []).stg[(11 : Fin 12)].com) ((latch11 lEn onePulse []).f (F.STG_PER_per 11))) = some (((latch11 lEn onePulse []).deliverable
      (11 : Stage) 10005760 ((latch11 lEn onePulse []).build (11 : Stage) onePulse 160000)).getD [])) ∧
    ((latch11 lEn allAtOnce onePulse).tbRuns (11 : Fin 12) = true ∧ (latch11 lEn allAtOnce onePulse).stg[(11 : Fin 12)].latched = false ∧
    (latch11 lEn allAtOnce onePulse).stgSt (11 : Fin 12) = stSwitching ∧
    (latch11 lEn allAtOnce onePulse).stg[(11 : Fin 12)].runLate = false ∧ (latch11 lEn allAtOnce onePulse).f (F.STG_SYNC_src 11) = 0 ∧
    (∀ (j : Stage), leaderOf j = (11 : Fin 12) → (latch11 lEn allAtOnce onePulse).f (F.STG_SYNC_src j) ≠ 1) ∧
    (latch11 lEn allAtOnce onePulse).staged = [] ∧ (latch11 lEn allAtOnce onePulse).cmds = [] ∧
    (latch11 lEn allAtOnce onePulse).linksEn (11 : Fin 12) = true ∧
    ((((latch11 lEn allAtOnce onePulse).toInstant ((latch11 lEn allAtOnce onePulse).reloadAt (11 : Fin 12))).put (F.STG_PER_NEXT_per 11)
      ((latch11 lEn allAtOnce onePulse).f (F.STG_PER_per 11))).reloadLoops ((latch11 lEn allAtOnce onePulse).switchesOf (11 : Fin
      12))).deliverable (11 : Fin 12) ((latch11 lEn allAtOnce onePulse).stg[(11 : Fin 12)].next - leadTaps) (((((latch11 lEn allAtOnce
      onePulse).toInstant ((latch11 lEn allAtOnce onePulse).reloadAt (11 : Fin 12))).put (F.STG_PER_NEXT_per 11) ((latch11 lEn allAtOnce
      onePulse).f (F.STG_PER_per 11))).reloadLoops ((latch11 lEn allAtOnce onePulse).switchesOf (11 : Fin 12))).build (11 : Fin 12) (if
      ((latch11 lEn allAtOnce onePulse).stg[(11 : Fin 12)].stopReq && !(latch11 lEn allAtOnce onePulse).stg[(11 : Fin 12)].stopLate ||
      (latch11 lEn allAtOnce onePulse).stg[(11 : Fin 12)].hicArm) = true then [] else (latch11 lEn allAtOnce onePulse).stg[(11 : Fin
      12)].com) ((latch11 lEn allAtOnce onePulse).f (F.STG_PER_per 11))) = none ∧
    ((((latch11 lEn allAtOnce onePulse).toInstant ((latch11 lEn allAtOnce onePulse).reloadAt (11 : Fin 12))).put (F.STG_PER_NEXT_per 11)
      ((latch11 lEn allAtOnce onePulse).f (F.STG_PER_per 11))).reloadLoops ((latch11 lEn allAtOnce onePulse).switchesOf (11 : Fin
      12))).deliverable (11 : Fin 12) ((latch11 lEn allAtOnce onePulse).stg[(11 : Fin 12)].next - leadTaps) (((((latch11 lEn allAtOnce
      onePulse).toInstant ((latch11 lEn allAtOnce onePulse).reloadAt (11 : Fin 12))).put (F.STG_PER_NEXT_per 11) ((latch11 lEn allAtOnce
      onePulse).f (F.STG_PER_per 11))).reloadLoops ((latch11 lEn allAtOnce onePulse).switchesOf (11 : Fin 12))).build (11 : Fin 12)
      (latch11 lEn allAtOnce onePulse).stg[(11 : Fin 12)].prevPlan ((latch11 lEn allAtOnce onePulse).f (F.STG_PER_per 11))) = some
      (((latch11 lEn onePulse []).deliverable (11 : Stage) 10005760 ((latch11 lEn onePulse []).build (11 : Stage) onePulse 160000)).getD [])) ∧
    ((latch11 lEn allAtOnce allAtOnce).tbRuns (11 : Fin 12) = true ∧ (latch11 lEn allAtOnce allAtOnce).stg[(11 : Fin 12)].latched = false ∧
    (latch11 lEn allAtOnce allAtOnce).stgSt (11 : Fin 12) = stSwitching ∧
    (latch11 lEn allAtOnce allAtOnce).stg[(11 : Fin 12)].runLate = false ∧ (latch11 lEn allAtOnce allAtOnce).f (F.STG_SYNC_src 11) = 0 ∧
    (∀ (j : Stage), leaderOf j = (11 : Fin 12) → (latch11 lEn allAtOnce allAtOnce).f (F.STG_SYNC_src j) ≠ 1) ∧
    (latch11 lEn allAtOnce allAtOnce).staged = [] ∧ (latch11 lEn allAtOnce allAtOnce).cmds = [] ∧
    (latch11 lEn allAtOnce allAtOnce).linksEn (11 : Fin 12) = true ∧
    ((((latch11 lEn allAtOnce allAtOnce).toInstant ((latch11 lEn allAtOnce allAtOnce).reloadAt (11 : Fin 12))).put (F.STG_PER_NEXT_per 11)
      ((latch11 lEn allAtOnce allAtOnce).f (F.STG_PER_per 11))).reloadLoops ((latch11 lEn allAtOnce allAtOnce).switchesOf (11 : Fin
      12))).deliverable (11 : Fin 12) ((latch11 lEn allAtOnce allAtOnce).stg[(11 : Fin 12)].next - leadTaps) (((((latch11 lEn allAtOnce
      allAtOnce).toInstant ((latch11 lEn allAtOnce allAtOnce).reloadAt (11 : Fin 12))).put (F.STG_PER_NEXT_per 11) ((latch11 lEn allAtOnce
      allAtOnce).f (F.STG_PER_per 11))).reloadLoops ((latch11 lEn allAtOnce allAtOnce).switchesOf (11 : Fin 12))).build (11 : Fin 12) (if
      ((latch11 lEn allAtOnce allAtOnce).stg[(11 : Fin 12)].stopReq && !(latch11 lEn allAtOnce allAtOnce).stg[(11 : Fin 12)].stopLate ||
      (latch11 lEn allAtOnce allAtOnce).stg[(11 : Fin 12)].hicArm) = true then [] else (latch11 lEn allAtOnce allAtOnce).stg[(11 : Fin
      12)].com) ((latch11 lEn allAtOnce allAtOnce).f (F.STG_PER_per 11))) = none ∧
    ((((latch11 lEn allAtOnce allAtOnce).toInstant ((latch11 lEn allAtOnce allAtOnce).reloadAt (11 : Fin 12))).put (F.STG_PER_NEXT_per 11)
      ((latch11 lEn allAtOnce allAtOnce).f (F.STG_PER_per 11))).reloadLoops ((latch11 lEn allAtOnce allAtOnce).switchesOf (11 : Fin
      12))).deliverable (11 : Fin 12) ((latch11 lEn allAtOnce allAtOnce).stg[(11 : Fin 12)].next - leadTaps) (((((latch11 lEn allAtOnce
      allAtOnce).toInstant ((latch11 lEn allAtOnce allAtOnce).reloadAt (11 : Fin 12))).put (F.STG_PER_NEXT_per 11) ((latch11 lEn allAtOnce
      allAtOnce).f (F.STG_PER_per 11))).reloadLoops ((latch11 lEn allAtOnce allAtOnce).switchesOf (11 : Fin 12))).build (11 : Fin 12)
      (latch11 lEn allAtOnce allAtOnce).stg[(11 : Fin 12)].prevPlan ((latch11 lEn allAtOnce allAtOnce).f (F.STG_PER_per 11))) = none) ∧
    (stops11.tbRuns (11 : Fin 12) = true ∧ stops11.stg[(11 : Fin 12)].latched = false ∧ stops11.stgSt (11 : Fin 12) = stSwitching ∧
    stops11.stg[(11 : Fin 12)].runLate = false ∧ stops11.f (F.STG_SYNC_src 11) = 0 ∧
    (∀ (j : Stage), leaderOf j = (11 : Fin 12) → stops11.f (F.STG_SYNC_src j) ≠ 1) ∧ stops11.staged = [] ∧ stops11.cmds = [] ∧
    stops11.linksEn (11 : Fin 12) = true ∧
    (((stops11.toInstant (stops11.reloadAt (11 : Fin 12))).put (F.STG_PER_NEXT_per 11) (stops11.f (F.STG_PER_per 11))).reloadLoops
      (stops11.switchesOf (11 : Fin 12))).deliverable (11 : Fin 12) (stops11.stg[(11 : Fin 12)].next - leadTaps) ((((stops11.toInstant
      (stops11.reloadAt (11 : Fin 12))).put (F.STG_PER_NEXT_per 11) (stops11.f (F.STG_PER_per 11))).reloadLoops (stops11.switchesOf (11 :
      Fin 12))).build (11 : Fin 12) (if (stops11.stg[(11 : Fin 12)].stopReq && !stops11.stg[(11 : Fin 12)].stopLate || stops11.stg[(11 :
      Fin 12)].hicArm) = true then [] else stops11.stg[(11 : Fin 12)].com) (stops11.f (F.STG_PER_per 11))) = some []) ∧
    (hiccups11.tbRuns (11 : Fin 12) = true ∧ hiccups11.stg[(11 : Fin 12)].latched = false ∧ hiccups11.stgSt (11 : Fin 12) = stSwitching ∧
    hiccups11.stg[(11 : Fin 12)].runLate = false ∧ hiccups11.f (F.STG_SYNC_src 11) = 0 ∧
    (∀ (j : Stage), leaderOf j = (11 : Fin 12) → hiccups11.f (F.STG_SYNC_src j) ≠ 1) ∧ hiccups11.staged = [] ∧ hiccups11.cmds = [] ∧
    hiccups11.linksEn (11 : Fin 12) = false) ∧
    (legs11.fb (F.STG_TMIN_carry 11) = false ∧
    (legs11.mkEdge (11 : Stage) 94 true (10106000 + legs11.deadTime (11 : Stage) 94) ∈ (legs11.build (11 : Fin 12) legPlan 160000).edges ∧
      ¬legs11.mkEdge (11 : Stage) 94 true (10106000 + legs11.deadTime (11 : Stage) 94) ∈ legs11.stg[(11 : Fin 12)].withheld ∧
      ((legs11.mkEdge (11 : Stage) 94 true (10106000 + legs11.deadTime (11 : Stage) 94)).on = true)) ∧
    (legs11.mkEdge (11 : Stage) 94 true (10106000 + legs11.deadTime (11 : Stage) 94) ∈ (legs11.build (11 : Fin 12) legPlan 160000).edges ∧
      ¬legs11.mkEdge (11 : Stage) 94 true (10106000 + legs11.deadTime (11 : Stage) 94) ∈ legs11.stg[(11 : Fin 12)].withheld ∧
      (legs11.mkEdge (11 : Stage) 95 true (10056000 + legs11.deadTime (11 : Stage) 95) ∈ (legs11.build (11 : Fin 12) legPlan 160000).edges
      ∧ ¬legs11.mkEdge (11 : Stage) 95 true (10056000 + legs11.deadTime (11 : Stage) 95) ∈ legs11.stg[(11 : Fin 12)].withheld ∧
      ((legs11.mkEdge (11 : Stage) 94 true (10106000 + legs11.deadTime (11 : Stage) 94)).on = true ∧
      ((legs11.mkEdge (11 : Stage) 95 true (10056000 + legs11.deadTime (11 : Stage) 95)).on = true ∧
      (legs11.legOf (legs11.mkEdge (11 : Stage) 94 true (10106000 + legs11.deadTime (11 : Stage) 94)).sw = some (legs11.mkEdge (11 : Stage)
      95 true (10056000 + legs11.deadTime (11 : Stage) 95)).sw)))))) ∧
    (legs11.mkEdge (11 : Stage) 95 false 10096000 ∈ (legs11.build (11 : Fin 12) legPlan 160000).edges ∧
      ¬legs11.mkEdge (11 : Stage) 95 false 10096000 ∈ legs11.stg[(11 : Fin 12)].withheld ∧
      ((legs11.mkEdge (11 : Stage) 95 false 10096000).on = false)) :=
  ⟨by decide +kernel,
    by decide +kernel,
    by decide +kernel,
    by decide +kernel,
    by decide +kernel,
    by decide +kernel,
    by decide +kernel,
    by decide +kernel⟩
theorem meets_PlanIsLatched_2 :
    legs11.mkEdge (11 : Stage) 94 false 10175500 ∈ (legs11.build (11 : Fin 12) legPlan 160000).withheld := by decide +kernel
theorem meets_LinkSends :
    (slotted.lnkSt (11 : Fin 12) = lEn ∧ (∀ (y : Imm), y ∈ slotted.imms → y.link ≠ 11) ∧ slotted.firstSlot (11 : Fin 12) = some theSlot ∧
    slotted.gapAt (11 : Fin 12) 10000100 = false) ∧
    (theImm.stage = 11 ∧ immWaits.lnkSt (11 : Fin 12) = lEn ∧ List.find? (fun y => y.link == 11) immWaits.imms = some theImm ∧
    (¬∃ y, y ∈ immWaits.slots ∧ y.link = 11 ∧ y.sent = false ∧ immWaits.arrives 0 (y.start + slotTaps) y.edge = false)) ∧
    (immLate.lnkSt (11 : Fin 12) = lEn ∧ List.find? (fun y => y.link == 11) immLate.imms = some theImm ∧
    (∃ y, y ∈ immLate.slots ∧ y.link = 11 ∧ y.sent = false ∧ immLate.arrives 0 (y.start + slotTaps) y.edge = false)) ∧
    (seqSends.lnkSt (11 : Fin 12) ≠ lEn ∧ seqSends.lnkSt (11 : Fin 12) ≠ lPart ∧ seqSends.gapAt (11 : Fin 12) 5 = true ∧
    seqSends.lnkSt (11 : Fin 12) = lSeq ∧ seqSends.lnk[(11 : Fin 12)].seqAt = some 5 ∧ 5 < 14 ∧ seqSends.lnk[(11 : Fin 12)].idOk = true ∧
    seqSends.lnk[(11 : Fin 12)].echoOk = true ∧ (∀ (w : CfgWord), w ∈ seqSends.lnk[(11 : Fin 12)].cfg → w.sent = false)) ∧
    (((cfgWaits lEn).lnkSt (11 : Fin 12) = lEn ∨ (cfgWaits lEn).lnkSt (11 : Fin 12) = lDis) ∧
    (cfgWaits lEn).gapAt (11 : Fin 12) (cfgWaits lEn).etime = true ∧
    List.find? (fun y => !y.sent) (cfgWaits lEn).lnk[(11 : Fin 12)].cfg = some theCfg) :=
  ⟨by decide +kernel,
    by decide +kernel,
    by decide +kernel,
    by decide +kernel,
    by decide +kernel⟩
theorem meets_LinkAnswers :
    ((linkIn lSeq).lnkSt (11 : Link) = lSeq ∧ (linkIn lSeq).mode ≠ mReset ∧
    BitVec.ofNat 8 (crc8 ([(1 : Byte), (200 : Byte), (255 : Byte), (0 : Byte)] ++ leBytes 65534 2)) = BitVec.ofNat 8 (crc8 ([(1 : Byte),
      (200 : Byte), (255 : Byte), (0 : Byte)] ++ leBytes (65534) 2)) ∧
    (linkIn lSeq).idGood (11 : Link) (1 : Byte) (200 : Byte) (255 : Byte) (0 : Byte) = true ∧ 3200 ≤ 7201 ∧ (7201 - 3200) / 2 ≤ 2000 ∧
    (linkIn lSeq).anySwitching = false ∧ (linkIn lSeq).resumed = false ∧ (linkIn lSeq).cmds = [] ∧
    (∀ (m : Link), (linkIn lSeq).lnk[m].cfg = [])) ∧
    (BitVec.ofNat 8 (crc8 ([(1 : Byte), (201 : Byte), (255 : Byte), (0 : Byte)] ++ leBytes 65534 2)) = BitVec.ofNat 8 (crc8 ([(1 : Byte),
      (201 : Byte), (255 : Byte), (0 : Byte)] ++ leBytes (65534) 2)) ∧
    (linkIn lSeq).idGood (11 : Link) (1 : Byte) (201 : Byte) (255 : Byte) (0 : Byte) = false ∧ (7202 < 3200 ∨ 2000 < (7202 - 3200) / 2)) ∧
    ((cfgSent lSeq 13).mode ≠ mReset ∧
    BitVec.ofNat 8 (crc8 [(6 : Byte), (255 : Byte), (0 : Byte)]) = BitVec.ofNat 8 (crc8 [(6 : Byte), (255 : Byte), (0 : Byte)]) ∧
    (cfgSent lSeq 13).lnkSt (11 : Fin 12) = lSeq ∧
    List.find? (fun x => x.sent && x.tag == 255) (cfgSent lSeq 13).lnk[(11 : Fin 12)].cfg = some sentCfg ∧
    (cfgSent lSeq 13).lnk[(11 : Fin 12)].seqAt = some 13) ∧
    ((cfgSent lSeq 12).mode ≠ mReset ∧ (cfgSent lSeq 12).lnkSt (11 : Fin 12) = lSeq ∧
    List.find? (fun x => x.sent && x.tag == 255) (cfgSent lSeq 12).lnk[(11 : Fin 12)].cfg = some sentCfg ∧
    (cfgSent lSeq 12).lnk[(11 : Fin 12)].seqAt = some 12) ∧
    ((cfgSent lEn 12).mode ≠ mReset ∧ (cfgSent lEn 12).lnkSt (11 : Fin 12) ≠ lSeq ∧ (cfgSent lEn 12).cmds = [] ∧
    List.find? (fun x => x.sent && x.tag == 255) (cfgSent lEn 12).lnk[(11 : Fin 12)].cfg = some sentCfg ∧
    sentCfg.reg = some (A.LTH_HS_EVEN 3, (1 : Word), (1 : Word)) ∧
    List.find? (fun x => x.sent) (cfgSent lEn 12).lnk[(11 : Fin 12)].cfg = some sentCfg ∧ sentCfg.restoring = false) ∧
    BitVec.ofNat 8 (crc8 [(7 : Byte), (255 : Byte), (2 : Byte)]) = BitVec.ofNat 8 (crc8 [(7 : Byte), (255 : Byte), (2 : Byte)]) :=
  ⟨by decide +kernel,
    by decide +kernel,
    by decide +kernel,
    by decide +kernel,
    by decide +kernel,
    by decide +kernel⟩
theorem meets_LinkReports_1 :
    (seqEnd.mode ≠ mReset ∧
    BitVec.ofNat 8 (crc8 [(255 : Byte), (1 : Byte), (3 : Byte), (9 : Byte)]) = BitVec.ofNat 8 (crc8 [(255 : Byte), (1 : Byte), (3 : Byte),
      (9 : Byte)]) ∧
    seqEnd.fb (F.GL_CTL_en 11) = true ∧
    (¬(seqEnd.lnkSt (11 : Fin 12) = lPart ∧ (seqEnd.gateEn = false ∧
      ¬(seqEnd.safForce = true ∨ seqEnd.mode ∈ [0, 1, 2, 9, 10, 11]) ∨ seqEnd.mode = mConfigure ∧ seqEnd.lnk[(11 : Fin 12)].toDis = true ∧
      seqEnd.gateEn = true ∧ seqEnd.safForce = false)))) ∧
    ((linkIn lEn).mode ≠ mReset ∧ (1 : BitVec 8) ≠ BitVec.ofNat 8 (crc8 [(255 : Byte), (1 : Byte), (3 : Byte), (9 : Byte)]) ∧
    (1 : BitVec 8) = BitVec.ofNat 8 (crc8 (BitVec.ofNat 8 (7 + 8 * b2n true + 16 * 1) :: leBytes (1) 2 ++ leBytes (1) 2)) ∧
    List.find? (fun x => x.sw == 8 * 11 + 7 && x.on == true && x.seq == 1) (linkIn lEn).lnk[(11 : Fin 12)].kept = none) ∧
    (BitVec.ofNat 8 (crc8 [(1 : Byte), (7 : Byte), (0 : Byte)]) = BitVec.ofNat 8 (crc8 [(1 : Byte), BitVec.ofNat 8 7, (0 : Byte)]) ∧
    (linkIn lEn).lnk[(11 : Fin 12)].pairs = 0) ∧
    (paired.mode ≠ mReset ∧ paired.lnk[(11 : Fin 12)].pairs ≠ 0) ∧
    BitVec.ofNat 8 (crc8 [(2 : Byte), (7 : Byte), (0 : Byte)]) = BitVec.ofNat 8 (crc8 [(2 : Byte), BitVec.ofNat 8 7, (0 : Byte)]) ∧
    BitVec.ofNat 8 (crc8 [(3 : Byte), (5 : Byte), (6 : Byte)]) = BitVec.ofNat 8 (crc8 [(3 : Byte), (5 : Byte), (6 : Byte)]) ∧
    BitVec.ofNat 8 (crc8 [(4 : Byte), (5 : Byte), (0 : Byte)]) = BitVec.ofNat 8 (crc8 [(4 : Byte), (5 : Byte), (0 : Byte)]) ∧
    BitVec.ofNat 8 (crc8 [(8 : Byte), (5 : Byte), (0 : Byte)]) = BitVec.ofNat 8 (crc8 [(8 : Byte), (5 : Byte), (0 : Byte)]) :=
  ⟨by decide +kernel,
    by decide +kernel,
    by decide +kernel,
    by decide +kernel,
    by decide +kernel,
    by decide +kernel,
    by decide +kernel,
    by decide +kernel⟩
theorem meets_LinkReports_2 :
    BitVec.ofNat 8 (crc8 [(9 : Byte), (5 : Byte), (6 : Byte)]) = BitVec.ofNat 8 (crc8 [(9 : Byte), (5 : Byte), (6 : Byte)]) ∧
    BitVec.ofNat 8 (crc8 [(10 : Byte), (5 : Byte), (6 : Byte)]) = BitVec.ofNat 8 (crc8 [(10 : Byte), (5 : Byte), (6 : Byte)]) ∧
    BitVec.ofNat 8 (crc8 [(11 : Byte), (5 : Byte), (6 : Byte)]) = BitVec.ofNat 8 (crc8 [(11 : Byte), (5 : Byte), (6 : Byte)]) ∧
    BitVec.ofNat 8 (crc8 [(5 : Byte), (5 : Byte), (0 : Byte)]) = BitVec.ofNat 8 (crc8 [(5 : Byte), (5 : Byte), (0 : Byte)]) ∧
    ((crossing 1).mode ≠ mReset ∧
    BitVec.ofNat 8 (crc8 (BitVec.ofNat 8 255 :: leBytes 3 2 ++ leBytes 65534 2)) = BitVec.ofNat 8 (crc8 (BitVec.ofNat 8 (7 + 8 * b2n true +
      16 * 15) :: leBytes (3) 2 ++ leBytes (65534) 2)) ∧
    List.find? (fun x => x.sw == 8 * 11 + 7 && x.on == true && x.seq == 15) (crossing 1).lnk[(11 : Fin 12)].kept = some theEdge ∧
    (crossing 1).dvOn (8 * 11 + 7) = true ∧ 3 < 65534 ∧ (65534 : BitVec 16) ≠ (65535 : BitVec 16) ∧ (crossing 1).legOf (8 * 11 + 7) = none) ∧
    ((crossing 2).mode ≠ mReset ∧
    List.find? (fun x => x.sw == 8 * 11 + 7 && x.on == true && x.seq == 15) (crossing 2).lnk[(11 : Fin 12)].kept = some theEdge ∧
    (crossing 2).dvOn (8 * 11 + 7) = true ∧ (crossing 2).legOf (8 * 11 + 7) = none) ∧
    (partedLow.lnkSt (11 : Fin 12) = lPart ∧
    (partedLow.gateEn = false ∧ ¬(partedLow.safForce = true ∨ partedLow.mode ∈ [0, 1, 2, 9, 10, 11]) ∨ partedLow.mode = mConfigure ∧
      partedLow.lnk[(11 : Fin 12)].toDis = true ∧ partedLow.gateEn = true ∧ partedLow.safForce = false)) :=
  ⟨by decide +kernel,
    by decide +kernel,
    by decide +kernel,
    by decide +kernel,
    by decide +kernel,
    by decide +kernel,
    by decide +kernel⟩

/-! ### States for the statements on events -/

/-- Acquisition of the reference in progress; in BOOT with an image selected. -/
def acquiring (ever : Bool) : State := { (inMode mConfigure).put F.CLK_STAT_acq 1 with everLock := ever, eRun := ever }
def acquiringBoot : State := { (inMode mBoot).put F.CLK_STAT_acq 1 with everLock := false, bootDone := true }
def locked : State := (inMode mStandby).put F.CLK_STAT_lock 1
def syncIn : State := ((inMode mRun).put F.CLK_SYNCI_CFG_en 1).put F.CLK_SYNCI_CFG_timeout 1
def released : State := { State.reset with regs := (State.reset.put F.SYS_RSTCAUSE_rtc_inv 0).regs }
def boot : State := { inMode mBoot with etime := 0 }
def selftest (ok : Nat) : State :=
  (List.range 4).foldl (fun (s : State) i => s.put ⟨A.ADC_STAT, 4 + i, 1⟩ (if i < ok then 1 else 0)) (inMode mSelftest)
def selfLoop : State := { selftest 4 with loopOk := true }
def stopping : State := (inMode mRun).put F.SYS_MODEREQ_pend 1
def finalSaving : State := { inMode mHoldup with finalSave := true, wq := [⟨0xB1000, 5, 2, none⟩] }

def finalSoft : State := { finalSaving with rbg := true, softReset := true }

/-- Grid interface 3 is on in mode `m` with rated values; `f` changes its tracker. -/
def tracked (m : Nat) (f : Grd → Grd) : State :=
  let s := (((inMode m).put (F.GRD_CTL_en 3) 1).put (F.GRD_FREQ_f 3) 500000)
  { s.setGrd 3 (f { s.grd[(3 : Fin 4)] with uLv := 2 ^ 28, uHv := 2 ^ 28, uPos := 2 ^ 28 }) with etime := 800000000 }
def locking : State := tracked mRun fun x => { x with inLock := some 0 }
def unlocking : State := (tracked mRun fun x => { x with outLock := some 0 }).put (flgBit 3 0) 1
def syncing : State := (tracked mSync fun x => { x with syncAt := some 0 }).put (flgBit 3 0) 1
def holding : State := locking.put (flgBit 3 1) 1
def declaring (hv : Bool) : State :=
  (tracked mRun fun x => { x with uLv := if hv then 2 ^ 28 else 0, uHv := if hv then 2 ^ 29 else 2 ^ 28, qLv := 4, qHv := 4 }).put
    (F.GRD_CTL_rt_en 3) 1
def declared : State := (tracked mRun id).put (rtBit 3 1) 1
def recovering (m : Nat) : State := (tracked m fun x => { x with recN := 4999 }).put (rtBit 3 2) 1
def lateTrip (hv : Bool) : State :=
  ((tracked mRide fun x => { x with uLv := if hv then 2 ^ 28 else 0, uHv := if hv then 2 ^ 29 else 2 ^ 28, qTrip := 49, qTripHv := 49 }).put
    (rtBit 3 (if hv then 1 else 0)) 1).put (F.GRD_CTL_trip_en 3) 1
def entryTrip : State :=
  (((tracked mRun id).put (F.GRD_CTL_rt_en 3) 1).put (F.GRD_CTL_trip_en 3) 1).put (F.ADC_PLST_frz_now ((tracked mRun id).f (F.GRD_SRC_va 3))) 1
def freqTrip (hi : Bool) : State :=
  let s := (tracked mRun id).put (F.GRD_CTL_trip_en 3) 1
  (s.put (F.GRD_FREQ_f 3) (if hi then 600000 else 400000)).setReg (if hi then A.GRD_OF 3 3 else A.GRD_UF 3 3) 0

/-- Islanding of interface 3 is on with injection; `f` changes the unit. -/
def islanding (m : Nat) (f : Isl → Isl) : State :=
  let s := (((tracked m id).put (F.ISL_CTL_en 3) 1).put (F.ISL_CTL_inj_en 3) 1).put (F.ISL_COH_mode 3) 1
  s.setIsl 3 (f s.isl[(3 : Fin 4)])
def passive (trip : Nat) : State := (islanding mRun fun x => { x with due := 32 }).put (F.ISL_CTL_trip_en 3) trip
def winOf (v i : Int) (ok : Bool) : Win := ⟨ok, ⟨v * 2 ^ 56, 0, 1000⟩, ⟨i * 2 ^ 56, 0, 1000⟩⟩
def window (v i : Int) (ok : Bool) (n q : Nat) : State :=
  islanding mRun fun x => { x with done := some (winOf v i ok), wins := List.replicate n Win.init, qz := q }
def hearing (c : Int) : State :=
  (islanding mRun fun x => { x with lDue := true, heard := ⟨c * 2 ^ 56, 0, 1000⟩ }).put (F.ISL_STAT_listen 3) 1
def reconnecting (n : Nat) : State := (islanding mStandby fun x => { x with recon := n }).put (flgBit 3 2) 1
def contactor (st fa fb : Nat) : State :=
  (((inMode mSync).put F.ISL_KSTAT_st st).put F.ISL_KSTAT_fba fa).put F.ISL_KSTAT_fbb fb
def contactorLate (st : Nat) : State := { contactor st 0 0 with etime := 400000000 }

/-- Precharge works; `f` sets its registers. -/
def precharging (n ok ov : Nat) (f : State → State) : State :=
  { f (((inMode mPrecharge).put F.SYS_PCH_CFG_en 1).put F.SYS_PCH_CFG_src_ent 63) with pchN := n, pchOk := ok, pchOv := ov }
def entryDead (s : State) : State := s.put (F.ADC_PLST_frz_now (s.f F.SYS_PCH_CFG_dc_ent)) 1
def overVolt (s : State) : State :=
  ((s.put F.SYS_PCH_VMEAS_v_max 0).put (F.ADC_RES_code (s.f F.SYS_PCH_CFG_dc_ent)) 0x3FFF).put F.SYS_PCH_THR_v_done 0xFFFF

/-- Metering point 3 is on, with two samples of its reference voltage. -/
def metering (v1 v2 : Int) (f : Mtr → Mtr) : State :=
  let s := ((inMode mRun).put (F.MTR_CTL_en 3) 1).put (F.MTR_CFG_nlat 3) 9
  let z (t : Nat) (x : Int) : MSmp := ⟨t, Vector.replicate 3 x, Vector.replicate 3 x⟩
  { (s.setMtr 3 (f { s.mtr[(3 : Fin 4)] with smp := [z 9000160 v2, z 9000000 v1], low := true, high := true })) with etime := 200000000000 }
def boundAll : State := (inMode mBoot).put (F.ADC_ECFG_stg 63) 11

/-- An image of no segments stands in bank `base`. -/
def withImage (s : State) (base : Nat) : State :=
  (List.range 7).foldl (fun (s : State) e => s.setMw (base + 0x10 + 4 * e) 0)
    ((((s.setMw base 0x4B396131).setMw (base + 4) 64).setMw (base + 8) 0).setMw (base + 0x3C) 7)
def eraseEnds : State := { inMode mStandby with erasing := some none }
def overlapping : State := { inMode mRun with pchOverlap := true }
def overlapped : State := { overlapping with etime := 8000000 * 65536 }
def atCheck (s : State) : State := ((s.put F.SYS_PCH_TIME_t_chk 1).put F.SYS_PCH_THR_v_done 5).put F.SYS_PCH_THR_dv_min 0
def flatCheck (s : State) : State := (atCheck s).put F.SYS_PCH_THR_dv_min 5
def doneOver (s : State) : State := (overVolt s).put F.SYS_PCH_THR_v_done 0
/-- The write unit's last word, worn out or not; a save's last word; a program word of two. -/
def lastReq : WReq := ⟨0xB0060, 5, 0, none⟩
def saveReq : WReq := ⟨0xB10FC, 5, 2, none⟩
def writing (worn : Nat) : State := { (inMode mStandby).put ⟨ctrAddr 0xB0060, 0, 20⟩ worn with wq := [lastReq] }
def negCross : State := metering 5 (-5) id
def posCross : State := metering (-5) 5 id
def cycleEnds (cyc : Nat) : State := (metering (-5) 5 fun x => { x with zc := some 8000000 }).put (F.MTR_STAT_cyc 3) cyc
def freeRuns (second : Bool) : State := (metering 5 5 fun x => { x with second := second }).put (F.MTR_STAT_free 3) 1
def savesOn (retired : Nat) : State := posCross.put F.MTR_SAVESTAT_retired retired
def doneNow : State := precharging 3 500 0 fun s => (s.put F.SYS_PCH_THR_v_done 0).put F.SYS_PCH_VMEAS_v_max 0xFFFF
def notDone (n : Nat) : State := precharging n 0 0 fun s => s.put F.SYS_PCH_THR_v_done 5
def notFlat : State := precharging 655350 0 0 fun s => (s.put F.SYS_PCH_THR_v_done 5).put F.SYS_PCH_THR_dv_min 0
def isl3 : State := islanding mRun id
def saveEnd : State := { (inMode mStandby).put F.MTR_SAVESTAT_busy 1 with wq := [saveReq] }
def progWord (a v : Nat) : PReq := ⟨a, BitVec.ofNat 32 v, some 1⟩
def programming : State := { inMode mStandby with pq := [progWord 0x440000 1, progWord 0x440004 2] }

/-- Pair 7 is on and tested; `f` changes both channels. -/
def pair7 (m : Nat) (f : Pair → Pair) : State :=
  let s := ((inMode m).put (F.SAF_PCFG_en 7) 1).put (F.SAF_PCFG_tp 7) 1
  { s with pairA := s.pairA.set 7 (f s.pairA[(7 : Fin 8)]), pairB := s.pairB.set 7 (f s.pairB[(7 : Fin 8)]) }
def leaving : State := pair7 mRun fun x => { x with st := 2, fa := true, fb := true, na := 2000, nb := 2000 }
def leavingReady : State := pair7 mStandby fun x => { x with st := 2, fa := true, fb := true, na := 2000, nb := 2000 }
def forced : State := { pair7 mRun id with safForce := true }
def filtering : State := pair7 mConfigure fun x => { x with na := 20000, nb := 20000 }
def disagreeing : State := pair7 mConfigure fun x => { x with fa := true, disc := 20000 }
def pulsing (ch : Fin 2) (bad : Bool) : State :=
  { pair7 mConfigure id with tp := (pair7 mConfigure id).tp.set ch ⟨false, 1, true, some 2⟩, tpBad := Vector.replicate 16 bad }
def halfPast : State := { pair7 mConfigure id with tp := #v[⟨true, 0, false, some 200000⟩, ⟨true, 0, false, none⟩] }
def dropping : State := { inMode mRun with soDrop := Vector.replicate 2 true }

/-- Both networks are on; telegrams are received or not. -/
def ports : State := ((((held (inMode mStandby)).put (F.PRT_NCTL_en 0) 1).put (F.PRT_NCTL_en 1) 1).takeId 0).takeId 1
def receiving : State := ports.put F.SAF_TGCTL_en 1
/-- A telegram with sequence number 1 and release bits `rel` that the shipped settings accept. -/
def telegram (rel : Nat) : List Byte :=
  let b : List Byte := leBytes (receiving.f F.SAF_TGID_rx_id) 2 ++ [1, 0, 1, 0, BitVec.ofNat 8 rel, BitVec.ofNat 8 (255 - rel)]
  b ++ wordBytes (crc32c (receiving.reg A.SAF_TGKEY) b)
def theCopy : TgCopy := ⟨0, telegram 0xF0, 1, []⟩
def waiting : State := { receiving with tgWait := [theCopy] }
def expired : State := receiving.put F.SAF_TGSTAT_wd_exp 1

/-- SAFE-STOP with nothing that blocks a recovery. -/
def safe : State := (((inMode mSafeStop).put F.CLK_STAT_ref_ok 1).put F.CLK_STAT_lock 1).put F.FLT_STAT_quiet 1
def lastMs : State := { safe with recovMs := 1 }
def onHold : State := (inMode mFaultHold).put F.FLT_STAT_hold 1
def oneSwitches : State := switches (inMode mRun) 11
def episode : State := (inMode mRun).openEpisode 0x2105 2 0
def later : State := { episode with cyc := episode.cyc + 1 }
def powered : State := { inMode mRun with rbg := true, aliveRun := true }
def softHeld : State := { inMode mHoldup with softReset := true }
def lostLock : State := oneSwitches.put F.CLK_STAT_lock 1
def syncEarly : State := { syncIn with synciLast := some 10 }
def railsBad : State := { State.reset with refLost := true, railBad := State.reset.railBad.set 4 true }
def calRuns : State := { selftest 3 with calRun := true }

/-- Of two class A or B reports in one CORE cycle the lower code is the first source (R331). -/
theorem test_same_cycle_reports :
    let s := ((inMode mRun).openEpisode 0x2000 2 0).joinEpisode 0x0100 1 7
    s.f F.FLT_FIRST_code = 0x0100 ∧ s.f F.FLT_OVF_last = 0x2000 ∧ s.fb F.FLT_OVF_ovf = true := by decide +kernel
theorem meets_PinsAndResets :
    (oneSwitches.anySwitching = true ∧ oneSwitches.mode ≠ mReset ∧ oneSwitches.resetN = true ∧ oneSwitches.rbg = false ∧
    oneSwitches.aliveRun = false ∧ Memory.wf oneSwitches.mem = true ∧ smWf regReset oneSwitches.regs = true ∧
    (¬(oneSwitches.mode = mHoldup ∧ oneSwitches.finalSave = true ∧ oneSwitches.saving = true)) ∧ oneSwitches.softReset = false ∧
    3 ≤ oneSwitches.mode ∧ oneSwitches.mode ≤ 10 ∧ oneSwitches.cmds = []) ∧
    (∀ (n : Link), oneSwitches.lnkSt n ≠ lSeq ∧ oneSwitches.lnk[n].cfg = []) ∧
    (partedLow.anySwitching = false ∧ partedLow.cmds = [] ∧ (∀ (n : Link), partedLow.lnkSt n ≠ lSeq ∧ partedLow.lnk[n].cfg = []) ∧
    partedLow.gateEn = false) ∧
    (Memory.wf State.reset.mem = true ∧ smWf regReset State.reset.regs = true ∧ (State.reset.mode < 3 ∨ 10 < State.reset.mode)) ∧
    (powered.rbg = true ∧ powered.aliveRun = true ∧ Memory.wf powered.mem = true ∧ smWf regReset powered.regs = true) ∧
    (Memory.wf finalSaving.mem = true ∧ smWf regReset finalSaving.regs = true ∧ finalSaving.mode = mHoldup ∧ finalSaving.finalSave = true ∧
    finalSaving.saving = true) ∧
    (Memory.wf finalSoft.mem = true ∧ smWf regReset finalSoft.regs = true ∧ finalSoft.mode = mHoldup ∧ finalSoft.finalSave = true ∧
    finalSoft.saving = true ∧ finalSoft.softReset = true) ∧
    (Memory.wf softHeld.mem = true ∧ smWf regReset softHeld.regs = true ∧ softHeld.softReset = true ∧
    (¬(softHeld.mode = mHoldup ∧ softHeld.finalSave = true ∧ softHeld.saving = true))) :=
  ⟨by decide +kernel,
    by decide +kernel,
    by decide +kernel,
    by decide +kernel,
    by decide +kernel,
    by decide +kernel,
    by decide +kernel,
    by decide +kernel⟩
theorem meets_HardwareResetLeaves :
    (Memory.wf ports.mem = true ∧ smWf regReset ports.regs = true ∧ false = false ∧ ports.pq = [] ∧ 3407872 ≤ 3473407 ∧ 3473407 < 3473408 ∧
    ports.wq = [] ∧ 720896 ≤ 778236 ∧ 778236 < 778240) := by decide +kernel
theorem meets_ClockEvents :
    ((acquiring true).fb F.CLK_STAT_acq = true ∧ (acquiring true).fb F.CLK_STAT_lock = false ∧ (acquiring true).cmds = [] ∧
    1 < (acquiring true).mode ∧ Memory.wf (acquiring true).mem = true ∧ smWf regReset (acquiring true).regs = true ∧
    (5 < 232000 ∨ 266000 < 5) ∧ (acquiring true).fb F.CLK_SYNCI_CFG_fall ≠ true) ∧
    ((acquiring false).fb F.CLK_STAT_acq = true ∧ (acquiring false).fb F.CLK_STAT_lock = false ∧ (acquiring false).cmds = []) ∧
    acquiringBoot.mode ≤ 1 ∧
    (locked.fb F.CLK_STAT_lock = true ∧ locked.anySwitchingAt = false ∧ locked.cmds = [] ∧
    (∀ (n : Link), locked.lnkSt n ≠ lSeq ∧ locked.lnk[n].cfg = []) ∧ 232000 ≤ 232000 ∧ 232000 ≤ 266000) ∧
    (lostLock.fb F.CLK_STAT_lock = true ∧ lostLock.anySwitching = true) ∧
    (syncIn.mode ≠ mReset ∧ syncIn.fb F.CLK_SYNCI_CFG_en = true ∧ syncIn.fb F.CLK_SYNCI_CFG_fall = false ∧ syncIn.synciLast = none ∧
    syncIn.f F.CLK_SYNCI_CFG_comp ≤ 2 ^ 53 - 1 ∧ 2 ^ 53 - 1 < 2 ^ 53 ∧ syncIn.fb F.CLK_SYNCI_CFG_timeout = true) ∧
    (syncEarly.mode ≠ mReset ∧ syncEarly.fb F.CLK_SYNCI_CFG_en = true ∧ syncEarly.fb F.CLK_SYNCI_CFG_fall = false ∧
    syncEarly.synciLast = some 10 ∧ 137 - 10 < 128 * syncEarly.f F.CLK_SYNCI_CFG_min_gap) :=
  ⟨by decide +kernel,
    by decide +kernel,
    by decide +kernel,
    by decide +kernel,
    by decide +kernel,
    by decide +kernel,
    by decide +kernel⟩
theorem meets_StartUp_1 :
    (released.cmds = [] ∧ released.mode = mReset ∧ (∀ (j : Fin 5), released.railBad[j] = false) ∧ released.refLost = false) ∧
    (railsBad.cmds = [] ∧ railsBad.railBad[(4 : Fin 5)] = true ∧ railsBad.refLost = true) ∧
    (boot.cmds = [] ∧ boot.mode = mBoot ∧ boot.bootDone = false ∧ boot.downloads = false) ∧
    ((withImage boot boot.activeBase).cmds = [] ∧ (withImage boot boot.activeBase).mode = mBoot ∧
    (withImage boot boot.activeBase).bootDone = false ∧ (withImage boot boot.activeBase).downloads = false) ∧
    ((withImage boot boot.inactiveBase).cmds = [] ∧ (withImage boot boot.inactiveBase).mode = mBoot ∧
    (withImage boot boot.inactiveBase).bootDone = false ∧ (withImage boot boot.inactiveBase).downloads = false) ∧
    ((selftest 4).cmds = [] ∧ (selftest 4).mode = mSelftest ∧ (selftest 4).refHeld = none ∧ (selftest 4).calRun = false ∧
    ((selftest 4).loopOk = false ∨ 6 ∈ [3, 4, 5] ∨ (6 : Fin 7) = (0 : Fin 7) ∧ 14 ≤ 9)) ∧
    (selfLoop.cmds = [] ∧ selfLoop.mode = mSelftest ∧ selfLoop.refHeld = none ∧ selfLoop.loopOk = true ∧
    (6 ∈ [1, 2, 6] ∨ (6 : Fin 7) = (0 : Fin 7) ∧ 7 < 14)) ∧
    (calRuns.cmds = [] ∧ calRuns.calRun = true) :=
  ⟨by decide +kernel,
    by decide +kernel,
    by decide +kernel,
    by decide +kernel,
    by decide +kernel,
    by decide +kernel,
    by decide +kernel,
    by decide +kernel⟩
theorem meets_StartUp_2 :
    (stopping.cmds = [] ∧ stopping.anySwitching = false ∧ stopping.fb F.SYS_MODEREQ_pend = true) ∧
    (oneSwitches.cmds = [] ∧ oneSwitches.anySwitching = true) := by decide +kernel
theorem meets_GridEvents_1 :
    (locking.fb (F.GRD_CTL_en 3) = true ∧ locking.fb (flgBit 3 1) = false ∧ locking.fb (flgBit 3 0) = false ∧ locking.inRange 3 = true ∧
    locking.grd[(3 : Fin 4)].inLock = some 0 ∧ 0 + 320000000 ≤ locking.etime ∧ locking.fb (F.GRD_CTL_trip_en 3) = false ∧
    locking.fb (F.GRD_CTL_rt_en 3) = false ∧ (∀ (h : Fin 4), locking.fb (F.GRD_CTL_en h) = decide (h = (3 : Fin 4))) ∧
    locking.mode ≠ mRide ∧ locking.cmds = [] ∧ locking.f (F.GRD_RTV_lv_in 3) ≤ locking.f (F.GRD_RTV_lv_out 3) ∧
    locking.f (F.GRD_RTH_hv_out 3) ≤ locking.f (F.GRD_RTH_hv_in 3) ∧ locking.fb (rtBit 3 2) = false) ∧
    (unlocking.fb (F.GRD_CTL_en 3) = true ∧ unlocking.fb (flgBit 3 1) = false ∧ unlocking.fb (flgBit 3 0) = true ∧
    (unlocking.inRange 3 = false ∨ unlocking.grd[(3 : Fin 4)].outLock = some 0 ∧ 0 + 40000000 ≤ unlocking.etime)) ∧
    (syncing.fb (F.GRD_CTL_en 3) = true ∧ syncing.syncCond (3 : Fin 4) = true ∧ syncing.fb (flgBit 3 2) = false ∧
    syncing.grd[(3 : Fin 4)].syncAt = some 0 ∧ 0 + 8000000 * syncing.f (F.GRD_SYNC0_t_q 3) ≤ syncing.etime) ∧
    (holding.fb (F.GRD_CTL_en 3) = true ∧ holding.fb (flgBit 3 1) = true) ∧
    ((∀ (g : Fin 4), (inMode mRun).fb (F.GRD_CTL_en g) = false) ∧ (inMode mRun).mode ≠ mRide) ∧
    ((∀ (g : Fin 4), (inMode mRide).fb (F.GRD_CTL_en g) = false) ∧ (inMode mRide).mode = mRide) ∧
    ((declaring false).fb (F.GRD_CTL_en 3) = true ∧ (declaring false).fb (F.GRD_CTL_trip_en 3) = false ∧ (declaring false).cmds = [] ∧
    (declaring false).f (F.GRD_RTV_lv_in 3) ≤ (declaring false).f (F.GRD_RTV_lv_out 3) ∧
    (declaring false).f (F.GRD_RTH_hv_out 3) ≤ (declaring false).f (F.GRD_RTH_hv_in 3) ∧
    (if false = true then aboveM (declaring false).grd[(3 : Fin 4)].uHv ((declaring false).f (F.GRD_RTH_hv_in 3)) = true else belowM
      (declaring false).grd[(3 : Fin 4)].uLv ((declaring false).f (F.GRD_RTV_lv_in 3)) = true) ∧
    (declaring false).fb (rtBit 3 (b2n false)) = false ∧
    (declaring false).f (F.GRD_RTQ_q_in 3) ≤ (if false = true then (declaring false).grd[(3 : Fin 4)].qHv else (declaring false).grd[(3 :
      Fin 4)].qLv) + 1 ∧
    (declaring false).mode ≠ mRide) ∧
    (declared.fb (F.GRD_CTL_en 3) = true ∧ declared.fb (F.GRD_CTL_trip_en 3) = false ∧ declared.cmds = [] ∧
    declared.f (F.GRD_RTV_lv_in 3) ≤ declared.f (F.GRD_RTV_lv_out 3) ∧ declared.f (F.GRD_RTH_hv_out 3) ≤ declared.f (F.GRD_RTH_hv_in 3) ∧
    declared.fb (rtBit 3 (b2n true)) = true) :=
  ⟨by decide +kernel,
    by decide +kernel,
    by decide +kernel,
    by decide +kernel,
    by decide +kernel,
    by decide +kernel,
    by decide +kernel,
    by decide +kernel⟩
theorem meets_GridEvents_2 :
    ((recovering mRide).fb (F.GRD_CTL_en 3) = true ∧ (recovering mRide).fb (F.GRD_CTL_trip_en 3) = false ∧ (recovering mRide).cmds = [] ∧
    (recovering mRide).f (F.GRD_RTV_lv_in 3) ≤ (recovering mRide).f (F.GRD_RTV_lv_out 3) ∧
    (recovering mRide).f (F.GRD_RTH_hv_out 3) ≤ (recovering mRide).f (F.GRD_RTH_hv_in 3) ∧ (recovering mRide).fb (rtBit 3 0) = false ∧
    (recovering mRide).fb (rtBit 3 1) = false ∧ (recovering mRide).fb (rtBit 3 2) = true ∧
    belowM (recovering mRide).grd[(3 : Fin 4)].uLv ((recovering mRide).f (F.GRD_RTV_lv_out 3)) = false ∧
    aboveM (recovering mRide).grd[(3 : Fin 4)].uHv ((recovering mRide).f (F.GRD_RTH_hv_out 3)) = false ∧
    50 * (recovering mRide).f (F.GRD_RTQ_t_rec 3) ≤ (recovering mRide).grd[(3 : Fin 4)].recN + 1) ∧
    ((recovering mStandby).fb (F.GRD_CTL_en 3) = true ∧ (recovering mStandby).fb (F.GRD_CTL_trip_en 3) = false ∧
    (recovering mStandby).cmds = [] ∧ (recovering mStandby).f (F.GRD_RTV_lv_in 3) ≤ (recovering mStandby).f (F.GRD_RTV_lv_out 3) ∧
    (recovering mStandby).f (F.GRD_RTH_hv_out 3) ≤ (recovering mStandby).f (F.GRD_RTH_hv_in 3) ∧
    (recovering mStandby).fb (rtBit 3 0) = false ∧ (recovering mStandby).fb (rtBit 3 1) = false ∧
    (recovering mStandby).fb (rtBit 3 2) = true ∧
    belowM (recovering mStandby).grd[(3 : Fin 4)].uLv ((recovering mStandby).f (F.GRD_RTV_lv_out 3)) = false ∧
    aboveM (recovering mStandby).grd[(3 : Fin 4)].uHv ((recovering mStandby).f (F.GRD_RTH_hv_out 3)) = false ∧
    50 * (recovering mStandby).f (F.GRD_RTQ_t_rec 3) ≤ (recovering mStandby).grd[(3 : Fin 4)].recN + 1) ∧
    ((lateTrip false).fb (F.GRD_CTL_en 3) = true ∧ (lateTrip false).cmds = [] ∧
    (∀ (n : Link), (lateTrip false).lnkSt n ≠ lSeq ∧ (lateTrip false).lnk[n].cfg = []) ∧ (lateTrip false).fb (rtBit 3 0) = true ∧
    belowM (lateTrip false).grd[(3 : Fin 4)].uLv ((lateTrip false).f (F.GRD_RTV_lv_out 3)) = true ∧
    belowCurve (lateTrip false).grd[(3 : Fin 4)].uLv ((lateTrip false).grd[(3 : Fin 4)].ep + 1) ((lateTrip false).lvCurve 3) = true ∧
    (lateTrip false).grd[(3 : Fin 4)].dTrip = false ∧ (lateTrip false).f (F.GRD_RTQ_q_trip 3) ≤ (lateTrip false).grd[(3 : Fin 4)].qTrip + 1) ∧
    ((lateTrip true).fb (F.GRD_CTL_en 3) = true ∧ (lateTrip true).cmds = [] ∧
    (∀ (n : Link), (lateTrip true).lnkSt n ≠ lSeq ∧ (lateTrip true).lnk[n].cfg = []) ∧ (lateTrip true).fb (rtBit 3 1) = true ∧
    aboveM (lateTrip true).grd[(3 : Fin 4)].uHv ((lateTrip true).f (F.GRD_RTH_hv_out 3)) = true ∧
    aboveCurve (lateTrip true).grd[(3 : Fin 4)].uHv ((lateTrip true).grd[(3 : Fin 4)].epHv + 1) ((lateTrip true).hvCurve 3) = true ∧
    (lateTrip true).grd[(3 : Fin 4)].dTripHv = false ∧
    (lateTrip true).f (F.GRD_RTQ_q_trip 3) ≤ (lateTrip true).grd[(3 : Fin 4)].qTripHv + 1 ∧ (lateTrip true).fb (rtBit 3 0) = false ∧
    (lateTrip true).grd[(3 : Fin 4)].uLv = 2 ^ 28 ∧ (lateTrip true).f (F.GRD_RTV_lv_in 3) ≤ 1000) ∧
    (entryTrip.fb (F.GRD_CTL_en 3) = true ∧ entryTrip.cmds = [] ∧ (∀ (n : Link), entryTrip.lnkSt n ≠ lSeq ∧ entryTrip.lnk[n].cfg = []) ∧
    entryTrip.fb (F.GRD_CTL_rt_en 3) = true ∧ entryTrip.fb (F.GRD_CTL_trip_en 3) = true ∧ entryTrip.entFail 3 = true ∧
    entryTrip.fb (rtBit 3 3) = false ∧ entryTrip.fb (rtBit 3 0) = false ∧ entryTrip.fb (rtBit 3 1) = false ∧
    entryTrip.grd[(3 : Fin 4)].uLv = 2 ^ 28 ∧ entryTrip.grd[(3 : Fin 4)].uHv = 2 ^ 28 ∧ entryTrip.f (F.GRD_RTV_lv_in 3) ≤ 1000 ∧
    1000 ≤ entryTrip.f (F.GRD_RTH_hv_in 3)) ∧
    ((freqTrip true).fb (F.GRD_CTL_en 3) = true ∧ (freqTrip true).cmds = [] ∧
    (∀ (n : Link), (freqTrip true).lnkSt n ≠ lSeq ∧ (freqTrip true).lnk[n].cfg = []) ∧ 7 = 4 * b2n true + 3 ∧
    (freqTrip true).freqActive 3 7 = true ∧ (freqTrip true).fb (flgBit 3 1) = false ∧
    (freqTrip true).grd[(3 : Fin 4)].fq[(7 : Fin 8)] + 1 = max 1 (freqTicks ((freqTrip true).freqWord 3 7)) ∧
    (∀ (y : Fin 8), y ≠ (7 : Fin 8) → (freqTrip true).freqActive 3 y = false) ∧ (freqTrip true).entFail 3 = false ∧
    (freqTrip true).fb (rtBit 3 0) = false ∧ (freqTrip true).fb (rtBit 3 1) = false ∧ (freqTrip true).grd[(3 : Fin 4)].uLv = 2 ^ 28 ∧
    (freqTrip true).grd[(3 : Fin 4)].uHv = 2 ^ 28) ∧
    ((freqTrip true).f (F.GRD_RTV_lv_in 3) ≤ 1000 ∧ 1000 ≤ (freqTrip true).f (F.GRD_RTH_hv_in 3)) :=
  ⟨by decide +kernel,
    by decide +kernel,
    by decide +kernel,
    by decide +kernel,
    by decide +kernel,
    by decide +kernel,
    by decide +kernel⟩
theorem meets_IslandAndContactor_1 :
    ((passive 0).fb (F.ISL_CTL_en 3) = true ∧ (passive 0).isl[(3 : Fin 4)].due = 2 ^ (2 + 3) ∧ (passive 0).cmds = [] ∧
    (∀ (n : Link), (passive 0).lnkSt n ≠ lSeq ∧ (passive 0).lnk[n].cfg = []) ∧ (passive 0).isl[(3 : Fin 4)].done = none ∧
    (passive 0).injMode (3 : Fin 4) = true ∧ (passive 0).listens (3 : Fin 4) = true ∧ (passive 0).fb (F.ISL_STAT_listen 3) = false ∧
    ((passive 0).isl[(3 : Fin 4)].listened = false ∨ (passive 0).isl[(3 : Fin 4)].relAt ≤ (passive 0).etime) ∧
    (passive 0).isl[(3 : Fin 4)].lDue = false ∧ (passive 0).isl[(3 : Fin 4)].recon + 1 < 1000 * (passive 0).f (F.ISL_RECON_t_rc 3) ∧
    (passive 0).mode ≠ mReset ∧ (1 : BitVec 10) ≠ (0 : BitVec 10)) ∧
    (1 : BitVec 10) ≠ (1023 : BitVec 10) ∧
    ((passive 1).fb (F.ISL_CTL_en 3) = true ∧ (passive 1).isl[(3 : Fin 4)].due = 2 ^ (2 + 3) ∧ (passive 1).cmds = [] ∧
    (∀ (n : Link), (passive 1).lnkSt n ≠ lSeq ∧ (passive 1).lnk[n].cfg = [])) ∧
    natBit isl3.isl[(3 : Fin 4)].due (2 + 3) = false ∧
    ((window (4 : Int) (4 : Int) true 0 0).isl[(3 : Fin 4)].done = some (winOf (4 : Int) (4 : Int) true) ∧
    (List.take ((window (4 : Int) (4 : Int) true 0 0).f (F.ISL_CORR_nwin 3)) (List.take 8 (winOf (4 : Int) (4 : Int) true :: (window (4 :
      Int) (4 : Int) true 0 0).isl[(3 : Fin 4)].wins))).length < (window (4 : Int) (4 : Int) true 0 0).f (F.ISL_CORR_nwin 3)) ∧
    ((window (4 : Int) (4 : Int) false 1 0).isl[(3 : Fin 4)].done = some (winOf (4 : Int) (4 : Int) false) ∧
    (List.take ((window (4 : Int) (4 : Int) false 1 0).f (F.ISL_CORR_nwin 3)) (List.take 8 (winOf (4 : Int) (4 : Int) false :: (window (4 :
      Int) (4 : Int) false 1 0).isl[(3 : Fin 4)].wins))).length = (window (4 : Int) (4 : Int) false 1 0).f (F.ISL_CORR_nwin 3) ∧
    ((List.take ((window (4 : Int) (4 : Int) false 1 0).f (F.ISL_CORR_nwin 3)) (List.take 8 (winOf (4 : Int) (4 : Int) false :: (window (4
      : Int) (4 : Int) false 1 0).isl[(3 : Fin 4)].wins))).any fun x => !x.ok) = true) ∧
    ((window (4 : Int) (0 : Int) true 1 0).isl[(3 : Fin 4)].done = some (winOf (4 : Int) (0 : Int) true) ∧
    (List.take ((window (4 : Int) (0 : Int) true 1 0).f (F.ISL_CORR_nwin 3)) (List.take 8 (winOf (4 : Int) (0 : Int) true :: (window (4 :
      Int) (0 : Int) true 1 0).isl[(3 : Fin 4)].wins))).length = (window (4 : Int) (0 : Int) true 1 0).f (F.ISL_CORR_nwin 3) ∧
    ((List.take ((window (4 : Int) (0 : Int) true 1 0).f (F.ISL_CORR_nwin 3)) (List.take 8 (winOf (4 : Int) (0 : Int) true :: (window (4 :
      Int) (0 : Int) true 1 0).isl[(3 : Fin 4)].wins))).any fun x => !x.ok) = false ∧
    (window (4 : Int) (0 : Int) true 1 0).lowCurrent 3 (joinAll (List.map (fun x => x.i) (List.take ((window (4 : Int) (0 : Int) true 1
      0).f (F.ISL_CORR_nwin 3)) (List.take 8 (winOf (4 : Int) (0 : Int) true :: (window (4 : Int) (0 : Int) true 1 0).isl[(3 : Fin
      4)].wins))))) = true) ∧
    ((window (0 : Int) (1000 : Int) true 1 0).isl[(3 : Fin 4)].done = some (winOf (0 : Int) (1000 : Int) true) ∧
    (List.take ((window (0 : Int) (1000 : Int) true 1 0).f (F.ISL_CORR_nwin 3)) (List.take 8 (winOf (0 : Int) (1000 : Int) true :: (window
      (0 : Int) (1000 : Int) true 1 0).isl[(3 : Fin 4)].wins))).length = (window (0 : Int) (1000 : Int) true 1 0).f (F.ISL_CORR_nwin 3) ∧
    ((List.take ((window (0 : Int) (1000 : Int) true 1 0).f (F.ISL_CORR_nwin 3)) (List.take 8 (winOf (0 : Int) (1000 : Int) true :: (window
      (0 : Int) (1000 : Int) true 1 0).isl[(3 : Fin 4)].wins))).any fun x => !x.ok) = false ∧
    (window (0 : Int) (1000 : Int) true 1 0).lowCurrent 3 (joinAll (List.map (fun x => x.i) (List.take ((window (0 : Int) (1000 : Int) true
      1 0).f (F.ISL_CORR_nwin 3)) (List.take 8 (winOf (0 : Int) (1000 : Int) true :: (window (0 : Int) (1000 : Int) true 1 0).isl[(3 : Fin
      4)].wins))))) = false ∧
    1000 * ((window (0 : Int) (1000 : Int) true 1 0).zRatio 3 (joinAll (List.map (fun x => x.v) (List.take ((window (0 : Int) (1000 : Int)
      true 1 0).f (F.ISL_CORR_nwin 3)) (List.take 8 (winOf (0 : Int) (1000 : Int) true :: (window (0 : Int) (1000 : Int) true 1 0).isl[(3 :
      Fin 4)].wins))))) (joinAll (List.map (fun x => x.i) (List.take ((window (0 : Int) (1000 : Int) true 1 0).f (F.ISL_CORR_nwin 3))
      (List.take 8 (winOf (0 : Int) (1000 : Int) true :: (window (0 : Int) (1000 : Int) true 1 0).isl[(3 : Fin 4)].wins)))))).1 < (window
      (0 : Int) (1000 : Int) true 1 0).f (F.ISL_CORR_z_thr 3) * ((window (0 : Int) (1000 : Int) true 1 0).zRatio 3 (joinAll (List.map (fun
      x => x.v) (List.take ((window (0 : Int) (1000 : Int) true 1 0).f (F.ISL_CORR_nwin 3)) (List.take 8 (winOf (0 : Int) (1000 : Int) true
      :: (window (0 : Int) (1000 : Int) true 1 0).isl[(3 : Fin 4)].wins))))) (joinAll (List.map (fun x => x.i) (List.take ((window (0 :
      Int) (1000 : Int) true 1 0).f (F.ISL_CORR_nwin 3)) (List.take 8 (winOf (0 : Int) (1000 : Int) true :: (window (0 : Int) (1000 : Int)
      true 1 0).isl[(3 : Fin 4)].wins)))))).2) :=
  ⟨by decide +kernel,
    by decide +kernel,
    by decide +kernel,
    by decide +kernel,
    by decide +kernel,
    by decide +kernel,
    by decide +kernel,
    by decide +kernel⟩
theorem meets_IslandAndContactor_2 :
    ((window (100000000 : Int) (1000 : Int) true 1 1).isl[(3 : Fin 4)].done = some (winOf (100000000 : Int) (1000 : Int) true) ∧
    (List.take ((window (100000000 : Int) (1000 : Int) true 1 1).f (F.ISL_CORR_nwin 3)) (List.take 8 (winOf (100000000 : Int) (1000 : Int)
      true :: (window (100000000 : Int) (1000 : Int) true 1 1).isl[(3 : Fin 4)].wins))).length = (window (100000000 : Int) (1000 : Int)
      true 1 1).f (F.ISL_CORR_nwin 3) ∧
    ((List.take ((window (100000000 : Int) (1000 : Int) true 1 1).f (F.ISL_CORR_nwin 3)) (List.take 8 (winOf (100000000 : Int) (1000 : Int)
      true :: (window (100000000 : Int) (1000 : Int) true 1 1).isl[(3 : Fin 4)].wins))).any fun x => !x.ok) = false ∧
    (window (100000000 : Int) (1000 : Int) true 1 1).lowCurrent 3 (joinAll (List.map (fun x => x.i) (List.take ((window (100000000 : Int)
      (1000 : Int) true 1 1).f (F.ISL_CORR_nwin 3)) (List.take 8 (winOf (100000000 : Int) (1000 : Int) true :: (window (100000000 : Int)
      (1000 : Int) true 1 1).isl[(3 : Fin 4)].wins))))) = false ∧
    (window (100000000 : Int) (1000 : Int) true 1 1).f (F.ISL_CORR_z_thr 3) * ((window (100000000 : Int) (1000 : Int) true 1 1).zRatio 3
      (joinAll (List.map (fun x => x.v) (List.take ((window (100000000 : Int) (1000 : Int) true 1 1).f (F.ISL_CORR_nwin 3)) (List.take 8
      (winOf (100000000 : Int) (1000 : Int) true :: (window (100000000 : Int) (1000 : Int) true 1 1).isl[(3 : Fin 4)].wins))))) (joinAll
      (List.map (fun x => x.i) (List.take ((window (100000000 : Int) (1000 : Int) true 1 1).f (F.ISL_CORR_nwin 3)) (List.take 8 (winOf
      (100000000 : Int) (1000 : Int) true :: (window (100000000 : Int) (1000 : Int) true 1 1).isl[(3 : Fin 4)].wins)))))).2 ≤ 1000 *
      ((window (100000000 : Int) (1000 : Int) true 1 1).zRatio 3 (joinAll (List.map (fun x => x.v) (List.take ((window (100000000 : Int)
      (1000 : Int) true 1 1).f (F.ISL_CORR_nwin 3)) (List.take 8 (winOf (100000000 : Int) (1000 : Int) true :: (window (100000000 : Int)
      (1000 : Int) true 1 1).isl[(3 : Fin 4)].wins))))) (joinAll (List.map (fun x => x.i) (List.take ((window (100000000 : Int) (1000 :
      Int) true 1 1).f (F.ISL_CORR_nwin 3)) (List.take 8 (winOf (100000000 : Int) (1000 : Int) true :: (window (100000000 : Int) (1000 :
      Int) true 1 1).isl[(3 : Fin 4)].wins)))))).1 ∧
    (window (100000000 : Int) (1000 : Int) true 1 1).isl[(3 : Fin 4)].qz + 1 < (window (100000000 : Int) (1000 : Int) true 1 1).f
      (F.ISL_CORR_q_z 3)) ∧
    ((window (100000000 : Int) (1000 : Int) true 1 2).isl[(3 : Fin 4)].done = some (winOf (100000000 : Int) (1000 : Int) true) ∧
    (List.take ((window (100000000 : Int) (1000 : Int) true 1 2).f (F.ISL_CORR_nwin 3)) (List.take 8 (winOf (100000000 : Int) (1000 : Int)
      true :: (window (100000000 : Int) (1000 : Int) true 1 2).isl[(3 : Fin 4)].wins))).length = (window (100000000 : Int) (1000 : Int)
      true 1 2).f (F.ISL_CORR_nwin 3) ∧
    ((List.take ((window (100000000 : Int) (1000 : Int) true 1 2).f (F.ISL_CORR_nwin 3)) (List.take 8 (winOf (100000000 : Int) (1000 : Int)
      true :: (window (100000000 : Int) (1000 : Int) true 1 2).isl[(3 : Fin 4)].wins))).any fun x => !x.ok) = false ∧
    (window (100000000 : Int) (1000 : Int) true 1 2).lowCurrent 3 (joinAll (List.map (fun x => x.i) (List.take ((window (100000000 : Int)
      (1000 : Int) true 1 2).f (F.ISL_CORR_nwin 3)) (List.take 8 (winOf (100000000 : Int) (1000 : Int) true :: (window (100000000 : Int)
      (1000 : Int) true 1 2).isl[(3 : Fin 4)].wins))))) = false ∧
    (window (100000000 : Int) (1000 : Int) true 1 2).f (F.ISL_CORR_z_thr 3) * ((window (100000000 : Int) (1000 : Int) true 1 2).zRatio 3
      (joinAll (List.map (fun x => x.v) (List.take ((window (100000000 : Int) (1000 : Int) true 1 2).f (F.ISL_CORR_nwin 3)) (List.take 8
      (winOf (100000000 : Int) (1000 : Int) true :: (window (100000000 : Int) (1000 : Int) true 1 2).isl[(3 : Fin 4)].wins))))) (joinAll
      (List.map (fun x => x.i) (List.take ((window (100000000 : Int) (1000 : Int) true 1 2).f (F.ISL_CORR_nwin 3)) (List.take 8 (winOf
      (100000000 : Int) (1000 : Int) true :: (window (100000000 : Int) (1000 : Int) true 1 2).isl[(3 : Fin 4)].wins)))))).2 ≤ 1000 *
      ((window (100000000 : Int) (1000 : Int) true 1 2).zRatio 3 (joinAll (List.map (fun x => x.v) (List.take ((window (100000000 : Int)
      (1000 : Int) true 1 2).f (F.ISL_CORR_nwin 3)) (List.take 8 (winOf (100000000 : Int) (1000 : Int) true :: (window (100000000 : Int)
      (1000 : Int) true 1 2).isl[(3 : Fin 4)].wins))))) (joinAll (List.map (fun x => x.i) (List.take ((window (100000000 : Int) (1000 :
      Int) true 1 2).f (F.ISL_CORR_nwin 3)) (List.take 8 (winOf (100000000 : Int) (1000 : Int) true :: (window (100000000 : Int) (1000 :
      Int) true 1 2).isl[(3 : Fin 4)].wins)))))).1 ∧
    (window (100000000 : Int) (1000 : Int) true 1 2).f (F.ISL_CORR_q_z 3) ≤ (window (100000000 : Int) (1000 : Int) true 1 2).isl[(3 : Fin 4)].qz + 1 ∧
    (window (100000000 : Int) (1000 : Int) true 1 2).fb (F.ISL_CTL_trip_en 3) = false ∧
    (window (100000000 : Int) (1000 : Int) true 1 2).isl[(3 : Fin 4)].due = 0) ∧
    ((hearing (1000 : Int)).fb (F.ISL_STAT_listen 3) = true ∧ (hearing (1000 : Int)).isl[(3 : Fin 4)].lDue = true) ∧
    ((reconnecting 60000).fb (flgBit 3 2) = true ∧ (reconnecting 60000).fb (F.ISL_STAT_rc_done 3) = false ∧
    1000 * (reconnecting 60000).f (F.ISL_RECON_t_rc 3) ≤ (reconnecting 60000).isl[(3 : Fin 4)].recon + 1) ∧
    ((contactor 1 1 0).mode ≠ mReset ∧ ((1023 : BitVec 10) = (0 : BitVec 10) ∨ (1023 : BitVec 10) = (1023 : BitVec 10)) ∧
    (contactor 1 1 0).f F.ISL_KSTAT_st = 1 ∧
    (((1023 : BitVec 10) != (0 : BitVec 10)) != (contactor 1 1 0).fb (if true = true then F.ISL_KCFG_fbb_pol else F.ISL_KCFG_fba_pol)) = true ∧
    (contactor 1 1 0).fb (if true = true then F.ISL_KSTAT_fba else F.ISL_KSTAT_fbb) = true ∧
    (contactor 1 1 0).etime < (contactor 1 1 0).kT0 + 400000000) ∧
    ((contactor 3 0 1).mode ≠ mReset ∧ ((0 : BitVec 10) = (0 : BitVec 10) ∨ (0 : BitVec 10) = (1023 : BitVec 10)) ∧
    (contactor 3 0 1).f F.ISL_KSTAT_st = 3 ∧
    (((0 : BitVec 10) != (0 : BitVec 10)) != (contactor 3 0 1).fb (if true = true then F.ISL_KCFG_fbb_pol else F.ISL_KCFG_fba_pol)) = false ∧
    (contactor 3 0 1).fb (if true = true then F.ISL_KSTAT_fba else F.ISL_KSTAT_fbb) = false) ∧
    ((contactor 2 1 1).mode ≠ mReset ∧ (contactor 2 1 1).f F.ISL_KSTAT_st = 2 ∧
    (((0 : BitVec 10) != (0 : BitVec 10)) != (contactor 2 1 1).fb (if false = true then F.ISL_KCFG_fbb_pol else F.ISL_KCFG_fba_pol)) = false) ∧
    ((contactor 4 1 1).mode ≠ mReset ∧ ((contactor 4 1 1).f F.ISL_KSTAT_st = 0 ∨ (contactor 4 1 1).f F.ISL_KSTAT_st = 4)) :=
  ⟨by decide +kernel,
    by decide +kernel,
    by decide +kernel,
    by decide +kernel,
    by decide +kernel,
    by decide +kernel,
    by decide +kernel,
    by decide +kernel⟩
theorem meets_IslandAndContactor_3 :
    ((contactorLate 1).mode ≠ mReset ∧ (contactorLate 1).kT0 + 400000000 ≤ (contactorLate 1).etime ∧ (contactorLate 1).f F.ISL_KSTAT_st = 1) ∧
    ((contactorLate 3).mode ≠ mReset ∧ (contactorLate 3).kT0 + 400000000 ≤ (contactorLate 3).etime ∧ (contactorLate 3).f F.ISL_KSTAT_st = 3) := by decide +kernel
theorem meets_PrechargeEvents_1 :
    (doneNow.cmds = [] ∧ doneNow.pchOn = true ∧
    (Instr.prechargeEvaluate = Instr.prechargeDone → doneNow.fb F.SYS_PCH_STAT_done = false ∧ doneNow.doneDue = true) ∧
    (Instr.prechargeEvaluate = Instr.prechargeTimeout → (doneNow.fb F.SYS_PCH_STAT_done = false ∧ doneNow.doneDue = false) ∧
      10 * doneNow.f F.SYS_PCH_TIME_t_max ≤ doneNow.pchN + 1) ∧
    (Instr.prechargeEvaluate = Instr.prechargeProgressCheck → doneNow.pchChk + 100 * max 1 (doneNow.f F.SYS_PCH_TIME_t_chk) ≤ doneNow.pchN + 1) ∧
    (¬(doneNow.fb F.SYS_PCH_STAT_done = false ∧ doneNow.doneDue = false) ∨ ¬10 * doneNow.f F.SYS_PCH_TIME_t_max ≤ doneNow.pchN + 1 ∧
      ¬(doneNow.pchChk + 100 * max 1 (doneNow.f F.SYS_PCH_TIME_t_chk) ≤ doneNow.pchN + 1 ∧ doneNow.pchFlat = true)) ∧
    doneNow.pchEntFail = false ∧
    (¬(↑(doneNow.f F.SYS_PCH_VMEAS_v_max) : Int) * (2 : Int) ^ 28 < doneNow.vDc * (1000 : Int) ∨ doneNow.pchOv = 0)) ∧
    ((Instr.prechargeDone = Instr.prechargeDone → doneNow.fb F.SYS_PCH_STAT_done = false ∧ doneNow.doneDue = true) ∧
    (Instr.prechargeDone = Instr.prechargeTimeout → (doneNow.fb F.SYS_PCH_STAT_done = false ∧ doneNow.doneDue = false) ∧
      10 * doneNow.f F.SYS_PCH_TIME_t_max ≤ doneNow.pchN + 1) ∧
    (Instr.prechargeDone = Instr.prechargeProgressCheck → doneNow.pchChk + 100 * max 1 (doneNow.f F.SYS_PCH_TIME_t_chk) ≤ doneNow.pchN + 1) ∧
    (¬((doneNow.fb F.SYS_PCH_STAT_done = false ∧ doneNow.doneDue = false) ∧ 10 * doneNow.f F.SYS_PCH_TIME_t_max ≤ doneNow.pchN + 1)) ∧
    (¬doneNow.pchChk + 100 * max 1 (doneNow.f F.SYS_PCH_TIME_t_chk) ≤ doneNow.pchN + 1) ∧
    (doneNow.pchOverlap = false ∨ doneNow.etime < doneNow.pchExit + 8000000 * doneNow.f F.SYS_PCH_CFG_overlap)) ∧
    ((notDone 3).cmds = [] ∧ ((notDone 3).fb F.SYS_PCH_STAT_done = true ∨ (notDone 3).doneDue = false)) ∧
    ((notDone 655350).cmds = [] ∧ (notDone 655350).pchOn = true ∧
    (Instr.prechargeEvaluate = Instr.prechargeDone → (notDone 655350).fb F.SYS_PCH_STAT_done = false ∧ (notDone 655350).doneDue = true) ∧
    (Instr.prechargeEvaluate = Instr.prechargeTimeout → ((notDone 655350).fb F.SYS_PCH_STAT_done = false ∧
      (notDone 655350).doneDue = false) ∧ 10 * (notDone 655350).f F.SYS_PCH_TIME_t_max ≤ (notDone 655350).pchN + 1) ∧
    (Instr.prechargeEvaluate = Instr.prechargeProgressCheck → (notDone 655350).pchChk + 100 * max 1 ((notDone 655350).f
      F.SYS_PCH_TIME_t_chk) ≤ (notDone 655350).pchN + 1) ∧
    (notDone 655350).fb F.SYS_PCH_STAT_done = false ∧ (notDone 655350).doneDue = false ∧
    10 * (notDone 655350).f F.SYS_PCH_TIME_t_max ≤ (notDone 655350).pchN + 1 ∧
    (Instr.prechargeTimeout = Instr.prechargeDone → (notDone 655350).fb F.SYS_PCH_STAT_done = false ∧ (notDone 655350).doneDue = true)) ∧
    ((Instr.prechargeTimeout = Instr.prechargeTimeout → ((notDone 655350).fb F.SYS_PCH_STAT_done = false ∧
      (notDone 655350).doneDue = false) ∧ 10 * (notDone 655350).f F.SYS_PCH_TIME_t_max ≤ (notDone 655350).pchN + 1) ∧
    (Instr.prechargeTimeout = Instr.prechargeProgressCheck → (notDone 655350).pchChk + 100 * max 1 ((notDone 655350).f
      F.SYS_PCH_TIME_t_chk) ≤ (notDone 655350).pchN + 1) ∧
    (Instr.prechargeProgressCheck = Instr.prechargeDone → (notDone 655350).fb F.SYS_PCH_STAT_done = false ∧ (notDone 655350).doneDue = true) ∧
    (Instr.prechargeProgressCheck = Instr.prechargeTimeout → ((notDone 655350).fb F.SYS_PCH_STAT_done = false ∧
      (notDone 655350).doneDue = false) ∧ 10 * (notDone 655350).f F.SYS_PCH_TIME_t_max ≤ (notDone 655350).pchN + 1) ∧
    (Instr.prechargeProgressCheck = Instr.prechargeProgressCheck → (notDone 655350).pchChk + 100 * max 1 ((notDone 655350).f
      F.SYS_PCH_TIME_t_chk) ≤ (notDone 655350).pchN + 1)) ∧
    ((precharging 3 0 0 entryDead).cmds = [] ∧ (precharging 3 0 0 entryDead).pchOn = true ∧
    (Instr.prechargeEvaluate = Instr.prechargeDone → (precharging 3 0 0 entryDead).fb F.SYS_PCH_STAT_done = false ∧
      (precharging 3 0 0 entryDead).doneDue = true) ∧
    (Instr.prechargeEvaluate = Instr.prechargeTimeout → ((precharging 3 0 0 entryDead).fb F.SYS_PCH_STAT_done = false ∧
      (precharging 3 0 0 entryDead).doneDue = false) ∧
      10 * (precharging 3 0 0 entryDead).f F.SYS_PCH_TIME_t_max ≤ (precharging 3 0 0 entryDead).pchN + 1) ∧
    (Instr.prechargeEvaluate = Instr.prechargeProgressCheck → (precharging 3 0 0 entryDead).pchChk + 100 * max 1 ((precharging 3 0 0
      entryDead).f F.SYS_PCH_TIME_t_chk) ≤ (precharging 3 0 0 entryDead).pchN + 1) ∧
    (¬((precharging 3 0 0 entryDead).fb F.SYS_PCH_STAT_done = false ∧
      (precharging 3 0 0 entryDead).doneDue = false) ∨ ¬10 * (precharging 3 0 0 entryDead).f F.SYS_PCH_TIME_t_max ≤ (precharging 3 0 0
      entryDead).pchN + 1 ∧
      ¬((precharging 3 0 0 entryDead).pchChk + 100 * max 1 ((precharging 3 0 0 entryDead).f F.SYS_PCH_TIME_t_chk) ≤ (precharging 3 0 0
      entryDead).pchN + 1 ∧ (precharging 3 0 0 entryDead).pchFlat = true)) ∧
    (precharging 3 0 0 entryDead).pchEntFail = true) ∧
    ((precharging 3 0 1 overVolt).cmds = [] ∧ (precharging 3 0 1 overVolt).pchOn = true ∧
    (Instr.prechargeEvaluate = Instr.prechargeDone → (precharging 3 0 1 overVolt).fb F.SYS_PCH_STAT_done = false ∧
      (precharging 3 0 1 overVolt).doneDue = true) ∧
    (Instr.prechargeEvaluate = Instr.prechargeTimeout → ((precharging 3 0 1 overVolt).fb F.SYS_PCH_STAT_done = false ∧
      (precharging 3 0 1 overVolt).doneDue = false) ∧
      10 * (precharging 3 0 1 overVolt).f F.SYS_PCH_TIME_t_max ≤ (precharging 3 0 1 overVolt).pchN + 1) ∧
    (Instr.prechargeEvaluate = Instr.prechargeProgressCheck → (precharging 3 0 1 overVolt).pchChk + 100 * max 1 ((precharging 3 0 1
      overVolt).f F.SYS_PCH_TIME_t_chk) ≤ (precharging 3 0 1 overVolt).pchN + 1) ∧
    (¬((precharging 3 0 1 overVolt).fb F.SYS_PCH_STAT_done = false ∧
      (precharging 3 0 1 overVolt).doneDue = false) ∨ ¬10 * (precharging 3 0 1 overVolt).f F.SYS_PCH_TIME_t_max ≤ (precharging 3 0 1
      overVolt).pchN + 1 ∧
      ¬((precharging 3 0 1 overVolt).pchChk + 100 * max 1 ((precharging 3 0 1 overVolt).f F.SYS_PCH_TIME_t_chk) ≤ (precharging 3 0 1
      overVolt).pchN + 1 ∧ (precharging 3 0 1 overVolt).pchFlat = true)) ∧
    (precharging 3 0 1 overVolt).pchEntFail = false ∧
    (↑((precharging 3 0 1 overVolt).f F.SYS_PCH_VMEAS_v_max) : Int) * (2 : Int) ^ 28 < (precharging 3 0 1 overVolt).vDc * (1000 : Int)) ∧
    1 ≤ (precharging 3 0 1 overVolt).pchOv :=
  ⟨by decide +kernel,
    by decide +kernel,
    by decide +kernel,
    by decide +kernel,
    by decide +kernel,
    by decide +kernel,
    by decide +kernel,
    by decide +kernel⟩
theorem meets_PrechargeEvents_2 :
    ((precharging 3 0 0 overVolt).cmds = [] ∧ (precharging 3 0 0 overVolt).pchOn = true ∧
    (Instr.prechargeEvaluate = Instr.prechargeDone → (precharging 3 0 0 overVolt).fb F.SYS_PCH_STAT_done = false ∧
      (precharging 3 0 0 overVolt).doneDue = true) ∧
    (Instr.prechargeEvaluate = Instr.prechargeTimeout → ((precharging 3 0 0 overVolt).fb F.SYS_PCH_STAT_done = false ∧
      (precharging 3 0 0 overVolt).doneDue = false) ∧
      10 * (precharging 3 0 0 overVolt).f F.SYS_PCH_TIME_t_max ≤ (precharging 3 0 0 overVolt).pchN + 1) ∧
    (Instr.prechargeEvaluate = Instr.prechargeProgressCheck → (precharging 3 0 0 overVolt).pchChk + 100 * max 1 ((precharging 3 0 0
      overVolt).f F.SYS_PCH_TIME_t_chk) ≤ (precharging 3 0 0 overVolt).pchN + 1) ∧
    (¬((precharging 3 0 0 overVolt).fb F.SYS_PCH_STAT_done = false ∧
      (precharging 3 0 0 overVolt).doneDue = false) ∨ ¬10 * (precharging 3 0 0 overVolt).f F.SYS_PCH_TIME_t_max ≤ (precharging 3 0 0
      overVolt).pchN + 1 ∧
      ¬((precharging 3 0 0 overVolt).pchChk + 100 * max 1 ((precharging 3 0 0 overVolt).f F.SYS_PCH_TIME_t_chk) ≤ (precharging 3 0 0
      overVolt).pchN + 1 ∧ (precharging 3 0 0 overVolt).pchFlat = true)) ∧
    (precharging 3 0 0 overVolt).pchEntFail = false ∧
    (¬(↑((precharging 3 0 0 overVolt).f F.SYS_PCH_VMEAS_v_max) : Int) * (2 : Int) ^ 28 < (precharging 3 0 0 overVolt).vDc * (1000 : Int) ∨
      (precharging 3 0 0 overVolt).pchOv = 0)) ∧
    ((precharging 99 0 0 atCheck).cmds = [] ∧ (precharging 99 0 0 atCheck).pchOn = true ∧
    (Instr.prechargeEvaluate = Instr.prechargeDone → (precharging 99 0 0 atCheck).fb F.SYS_PCH_STAT_done = false ∧
      (precharging 99 0 0 atCheck).doneDue = true) ∧
    (Instr.prechargeEvaluate = Instr.prechargeTimeout → ((precharging 99 0 0 atCheck).fb F.SYS_PCH_STAT_done = false ∧
      (precharging 99 0 0 atCheck).doneDue = false) ∧
      10 * (precharging 99 0 0 atCheck).f F.SYS_PCH_TIME_t_max ≤ (precharging 99 0 0 atCheck).pchN + 1) ∧
    (Instr.prechargeEvaluate = Instr.prechargeProgressCheck → (precharging 99 0 0 atCheck).pchChk + 100 * max 1 ((precharging 99 0 0
      atCheck).f F.SYS_PCH_TIME_t_chk) ≤ (precharging 99 0 0 atCheck).pchN + 1) ∧
    (¬((precharging 99 0 0 atCheck).fb F.SYS_PCH_STAT_done = false ∧
      (precharging 99 0 0 atCheck).doneDue = false) ∨ ¬10 * (precharging 99 0 0 atCheck).f F.SYS_PCH_TIME_t_max ≤ (precharging 99 0 0
      atCheck).pchN + 1 ∧
      ¬((precharging 99 0 0 atCheck).pchChk + 100 * max 1 ((precharging 99 0 0 atCheck).f F.SYS_PCH_TIME_t_chk) ≤ (precharging 99 0 0
      atCheck).pchN + 1 ∧ (precharging 99 0 0 atCheck).pchFlat = true)) ∧
    (precharging 99 0 0 atCheck).pchEntFail = false ∧
    (¬(↑((precharging 99 0 0 atCheck).f F.SYS_PCH_VMEAS_v_max) : Int) * (2 : Int) ^ 28 < (precharging 99 0 0 atCheck).vDc * (1000 : Int) ∨
      (precharging 99 0 0 atCheck).pchOv = 0)) ∧
    ((Instr.prechargeProgressCheck = Instr.prechargeDone → (precharging 99 0 0 atCheck).fb F.SYS_PCH_STAT_done = false ∧
      (precharging 99 0 0 atCheck).doneDue = true) ∧
    (Instr.prechargeProgressCheck = Instr.prechargeTimeout → ((precharging 99 0 0 atCheck).fb F.SYS_PCH_STAT_done = false ∧
      (precharging 99 0 0 atCheck).doneDue = false) ∧
      10 * (precharging 99 0 0 atCheck).f F.SYS_PCH_TIME_t_max ≤ (precharging 99 0 0 atCheck).pchN + 1) ∧
    (Instr.prechargeProgressCheck = Instr.prechargeProgressCheck → (precharging 99 0 0 atCheck).pchChk + 100 * max 1 ((precharging 99 0 0
      atCheck).f F.SYS_PCH_TIME_t_chk) ≤ (precharging 99 0 0 atCheck).pchN + 1)) ∧
    ((precharging 99 0 0 flatCheck).cmds = [] ∧ (precharging 99 0 0 flatCheck).pchOn = true ∧
    (Instr.prechargeEvaluate = Instr.prechargeDone → (precharging 99 0 0 flatCheck).fb F.SYS_PCH_STAT_done = false ∧
      (precharging 99 0 0 flatCheck).doneDue = true) ∧
    (Instr.prechargeEvaluate = Instr.prechargeTimeout → ((precharging 99 0 0 flatCheck).fb F.SYS_PCH_STAT_done = false ∧
      (precharging 99 0 0 flatCheck).doneDue = false) ∧
      10 * (precharging 99 0 0 flatCheck).f F.SYS_PCH_TIME_t_max ≤ (precharging 99 0 0 flatCheck).pchN + 1) ∧
    (Instr.prechargeEvaluate = Instr.prechargeProgressCheck → (precharging 99 0 0 flatCheck).pchChk + 100 * max 1 ((precharging 99 0 0
      flatCheck).f F.SYS_PCH_TIME_t_chk) ≤ (precharging 99 0 0 flatCheck).pchN + 1) ∧
    (precharging 99 0 0 flatCheck).fb F.SYS_PCH_STAT_done = false ∧ (precharging 99 0 0 flatCheck).doneDue = false ∧
    (¬10 * (precharging 99 0 0 flatCheck).f F.SYS_PCH_TIME_t_max ≤ (precharging 99 0 0 flatCheck).pchN + 1 ∧
      ((precharging 99 0 0 flatCheck).pchChk + 100 * max 1 ((precharging 99 0 0 flatCheck).f F.SYS_PCH_TIME_t_chk) ≤ (precharging 99 0 0
      flatCheck).pchN + 1 ∧ ((precharging 99 0 0 flatCheck).pchFlat = true)))) ∧
    ((Instr.prechargeProgressCheck = Instr.prechargeDone → (precharging 99 0 0 flatCheck).fb F.SYS_PCH_STAT_done = false ∧
      (precharging 99 0 0 flatCheck).doneDue = true) ∧
    (Instr.prechargeProgressCheck = Instr.prechargeTimeout → ((precharging 99 0 0 flatCheck).fb F.SYS_PCH_STAT_done = false ∧
      (precharging 99 0 0 flatCheck).doneDue = false) ∧
      10 * (precharging 99 0 0 flatCheck).f F.SYS_PCH_TIME_t_max ≤ (precharging 99 0 0 flatCheck).pchN + 1) ∧
    (Instr.prechargeProgressCheck = Instr.prechargeProgressCheck → (precharging 99 0 0 flatCheck).pchChk + 100 * max 1 ((precharging 99 0 0
      flatCheck).f F.SYS_PCH_TIME_t_chk) ≤ (precharging 99 0 0 flatCheck).pchN + 1)) ∧
    ((precharging 3 500 1 doneOver).cmds = [] ∧ (precharging 3 500 1 doneOver).pchOn = true ∧
    (Instr.prechargeDone = Instr.prechargeDone → (precharging 3 500 1 doneOver).fb F.SYS_PCH_STAT_done = false ∧
      (precharging 3 500 1 doneOver).doneDue = true) ∧
    (Instr.prechargeDone = Instr.prechargeTimeout → ((precharging 3 500 1 doneOver).fb F.SYS_PCH_STAT_done = false ∧
      (precharging 3 500 1 doneOver).doneDue = false) ∧
      10 * (precharging 3 500 1 doneOver).f F.SYS_PCH_TIME_t_max ≤ (precharging 3 500 1 doneOver).pchN + 1) ∧
    (Instr.prechargeDone = Instr.prechargeProgressCheck → (precharging 3 500 1 doneOver).pchChk + 100 * max 1 ((precharging 3 500 1
      doneOver).f F.SYS_PCH_TIME_t_chk) ≤ (precharging 3 500 1 doneOver).pchN + 1) ∧
    (¬((precharging 3 500 1 doneOver).fb F.SYS_PCH_STAT_done = false ∧
      (precharging 3 500 1 doneOver).doneDue = false) ∨ ¬10 * (precharging 3 500 1 doneOver).f F.SYS_PCH_TIME_t_max ≤ (precharging 3 500 1
      doneOver).pchN + 1 ∧
      ¬((precharging 3 500 1 doneOver).pchChk + 100 * max 1 ((precharging 3 500 1 doneOver).f F.SYS_PCH_TIME_t_chk) ≤ (precharging 3 500 1
      doneOver).pchN + 1 ∧ (precharging 3 500 1 doneOver).pchFlat = true)) ∧
    (precharging 3 500 1 doneOver).pchEntFail = false ∧
    (↑((precharging 3 500 1 doneOver).f F.SYS_PCH_VMEAS_v_max) : Int) * (2 : Int) ^ 28 < (precharging 3 500 1 doneOver).vDc * (1000 : Int)) ∧
    1 ≤ (precharging 3 500 1 doneOver).pchOv ∧
    (overlapped.cmds = [] ∧ overlapped.pchOverlap = true ∧
    overlapped.pchExit + 8000000 * overlapped.f F.SYS_PCH_CFG_overlap ≤ overlapped.etime) :=
  ⟨by decide +kernel,
    by decide +kernel,
    by decide +kernel,
    by decide +kernel,
    by decide +kernel,
    by decide +kernel,
    by decide +kernel,
    by decide +kernel⟩
theorem meets_MeteringAndReads :
    (negCross.fb (F.MTR_CTL_en 3) = true ∧ negCross.fb (F.MTR_CFG_pq_en 3) = false ∧ negCross.cmds = [] ∧
    negCross.crossing (3 : Fin 4) false = some 9000080 ∧ negCross.accepts (3 : Fin 4) false 9000080 = true ∧
    negCross.crossing (3 : Fin 4) true = none ∧ negCross.fb (F.MTR_STAT_free 3) = false ∧
    2 * nomTaps ≤ (negCross.etime - negCross.mtr[(3 : Fin 4)].pos) * negCross.f (F.MTR_NOM_f_nom 3) ∧ negCross.mode ≠ mReset ∧
    (∀ (p : Nat × Word), p ∈ negCross.mtr[(3 : Fin 4)].q → p.1 ∈ mtrQuantities 3)) ∧
    (posCross.fb (F.MTR_CTL_en 3) = true ∧ posCross.fb (F.MTR_CFG_pq_en 3) = false ∧ posCross.cmds = [] ∧
    posCross.crossing (3 : Fin 4) true = some 9000080 ∧ posCross.accepts (3 : Fin 4) true 9000080 = true) ∧
    ((cycleEnds 0).fb (F.MTR_CTL_en 3) = true ∧ (cycleEnds 0).fb (F.MTR_CFG_pq_en 3) = false ∧ (cycleEnds 0).cmds = [] ∧
    (cycleEnds 0).crossing (3 : Fin 4) true = some 9000080 ∧ (cycleEnds 0).accepts (3 : Fin 4) true 9000080 = true) ∧
    ((cycleEnds 9).fb (F.MTR_CTL_en 3) = true ∧ (cycleEnds 9).fb (F.MTR_CFG_pq_en 3) = false ∧ (cycleEnds 9).cmds = [] ∧
    (cycleEnds 9).crossing (3 : Fin 4) true = some 9000080 ∧ (cycleEnds 9).accepts (3 : Fin 4) true 9000080 = true) ∧
    ((freeRuns false).fb (F.MTR_CTL_en 3) = true ∧ (freeRuns false).fb (F.MTR_CFG_pq_en 3) = false ∧ (freeRuns false).cmds = [] ∧
    (freeRuns false).fb (F.MTR_STAT_free 3) = true ∧
    (freeRuns false).nomHalf (3 : Fin 4) ((freeRuns false).mtr[(3 : Fin 4)].fr + 1) ≤ (freeRuns false).etime) ∧
    ((freeRuns true).fb (F.MTR_CTL_en 3) = true ∧ (freeRuns true).fb (F.MTR_CFG_pq_en 3) = false ∧ (freeRuns true).cmds = [] ∧
    (freeRuns true).fb (F.MTR_STAT_free 3) = true ∧
    (freeRuns true).nomHalf (3 : Fin 4) ((freeRuns true).mtr[(3 : Fin 4)].fr + 1) ≤ (freeRuns true).etime) ∧
    (boundAll.mode ≠ mReset ∧
    A.STG_PSTART_LO 11 = [A.CLK_ETIME_LO, A.CLK_SYNCI_TS_LO, A.FLT_FIRST_TS_LO][14]?.getD (A.STG_PSTART_LO (14 - 3)) ∧
    A.STG_PSTART_LO 11 + 4 = A.STG_PSTART_LO 11 + 4 ∧ boundAll.boundTo 63 = some (11 : Stage) ∧
    (∀ (p : Nat × Word), p ∈ boundAll.mtr[(3 : Fin 4)].q → p.1 ∈ mtrQuantities 3)) :=
  ⟨by decide +kernel,
    by decide +kernel,
    by decide +kernel,
    by decide +kernel,
    by decide +kernel,
    by decide +kernel,
    by decide +kernel⟩
theorem meets_StoreCompletions :
    ((savesOn 0).saveWanted = true ∧ (savesOn 0).mode ≠ mHoldup ∧ (savesOn 0).fb F.MTR_SAVESTAT_busy = false ∧
    (savesOn 0).nextSlot = some 0) ∧
    ((savesOn 65535).saveWanted = true ∧ (savesOn 65535).mode ≠ mHoldup ∧ (savesOn 65535).fb F.MTR_SAVESTAT_busy = false ∧
    (savesOn 65535).nextSlot = none) ∧
    ((writing 999999).wq = [lastReq] ∧ (writing 999999).cmds = [] ∧ (writing 999999).resetAfterSave = none ∧ 720896 ≤ lastReq.addr ∧
    lastReq.addr < 745472 ∧ lastReq.addr % 4 = 0 ∧ (writing 999999).units lastReq.addr < 1000000 ∧ lastReq.kind = 0) ∧
    ((writing 1000000).wq = [lastReq] ∧ (writing 1000000).cmds = [] ∧ (writing 1000000).resetAfterSave = none ∧
    1000000 ≤ (writing 1000000).units lastReq.addr) ∧
    (saveEnd.wq = [saveReq] ∧ saveEnd.cmds = [] ∧ saveEnd.resetAfterSave = none ∧ 720896 ≤ saveReq.addr ∧ saveReq.addr < 745472 ∧
    saveReq.addr % 4 = 0 ∧ saveEnd.units saveReq.addr < 1000000 ∧ 0 < 16 ∧ saveReq.kind = 2 ∧ saveReq.addr = slotAddr 0 + 252) ∧
    eraseEnds.erasing = some none ∧
    (programming.pq = [progWord 4456448 1, progWord 4456452 2] ∧
    ([progWord 4456452 2].any fun r => r.cmd == (progWord 4456448 1).cmd) = true) :=
  ⟨by decide +kernel,
    by decide +kernel,
    by decide +kernel,
    by decide +kernel,
    by decide +kernel,
    by decide +kernel,
    by decide +kernel⟩
theorem meets_SafetyEvents_1 :
    (forced.mode ≠ mReset ∧ forced.cmds = [] ∧ forced.tgFx = [] ∧ forced.pairB = forced.pairA ∧ forced.lsB = forced.lsA ∧
    forced.safForce = true ∧ forced.mode ≠ mStandby ∧ (∀ (n : Link), forced.lnkSt n ≠ lSeq ∧ forced.lnk[n].cfg = []) ∧
    forced.discDue (7 : Fin 8) = false ∧ forced.pulseMay (1 : Fin 2) = false ∧ forced.testDue (1 : Fin 2) = false ∧ (5 < 1440 ∨ 1760 < 5) ∧
    16 ≤ 17) ∧
    (forced.soDrop[(1 : Fin 2)] = false ∧ forced.portLive (2 + 1) = false ∧ forced.tgWait = []) ∧
    (leaving.mode ≠ mReset ∧ leaving.cmds = [] ∧ leaving.tgFx = [] ∧ leaving.pairB = leaving.pairA ∧ leaving.lsB = leaving.lsA ∧
    leaving.safForce = false ∧ leaving.fb (F.SAF_PCFG_en 7) = true ∧ leaving.pairA[(7 : Fin 8)].st = 2 ∧
    leaving.pairNext 7 (leaving.pairFilter 7 leaving.pairA[(7 : Fin 8)] (0 : BitVec 8)[(7 : Fin 8)] (0 : BitVec 8)[(7 : Fin 8)]) ≠ 2 ∧
    (∀ (n : Link), leaving.lnkSt n ≠ lSeq ∧ leaving.lnk[n].cfg = [])) ∧
    (filtering.cmds = [] ∧ (∀ (n : Link), filtering.lnkSt n ≠ lSeq ∧ filtering.lnk[n].cfg = []) ∧
    filterDue (10 * filtering.f (F.SAF_PCFG_filt 7)) (if true = true then filtering.pairA[(7 : Fin 8)].fb else filtering.pairA[(7 : Fin
      8)].fa) (if true = true then filtering.pairA[(7 : Fin 8)].nb else filtering.pairA[(7 : Fin 8)].na) true = true) ∧
    (disagreeing.cmds = [] ∧ (∀ (n : Link), disagreeing.lnkSt n ≠ lSeq ∧ disagreeing.lnk[n].cfg = []) ∧
    disagreeing.discDue (7 : Fin 8) = true) ∧
    (filtering.tested 7 = true ∧ 3 ≤ filtering.mode ∧ filtering.pulseMay (0 : Fin 2) = true) ∧
    ((pulsing (1 : Fin 2) false).cmds = [] ∧
    (∀ (n : Link), (pulsing (1 : Fin 2) false).lnkSt n ≠ lSeq ∧ (pulsing (1 : Fin 2) false).lnk[n].cfg = []) ∧
    (pulsing (1 : Fin 2) false).testDue (1 : Fin 2) = true ∧
    (∀ (q : Fin 8), (pulsing (1 : Fin 2) false).tested q = true ↔ q = (7 : Fin 8)) ∧ natBit (0) 7 = false) ∧
    (natBit (128) 7 = true ∧ (pulsing (1 : Fin 2) false).tpBad[(15 : Fin 16)] = false) :=
  ⟨by decide +kernel,
    by decide +kernel,
    by decide +kernel,
    by decide +kernel,
    by decide +kernel,
    by decide +kernel,
    by decide +kernel,
    by decide +kernel⟩
theorem meets_SafetyEvents_2 :
    ((pulsing (1 : Fin 2) true).cmds = [] ∧
    (∀ (n : Link), (pulsing (1 : Fin 2) true).lnkSt n ≠ lSeq ∧ (pulsing (1 : Fin 2) true).lnk[n].cfg = []) ∧
    (pulsing (1 : Fin 2) true).testDue (1 : Fin 2) = true ∧ (∀ (q : Fin 8), (pulsing (1 : Fin 2) true).tested q = true ↔ q = (7 : Fin 8)) ∧
    natBit (255) 7 = true ∧ (pulsing (1 : Fin 2) true).tpBad[(15 : Fin 16)] = true ∧ (pulsing (1 : Fin 2) true).pairA[(7 : Fin 8)].st ≠ 3 ∧
    (pulsing (1 : Fin 2) true).tested 7 = true) ∧
    ((inMode mRun).mode ≠ mReset ∧ 15 < 16) ∧
    (1440 ≤ 1440 ∧ 1440 ≤ 1760) ∧
    dropping.soDrop[(1 : Fin 2)] = true ∧
    (receiving.portLive (2 + 1) = true ∧ receiving.rxq[(1 : Fin 2)] = [] ∧ receiving.fb F.SAF_TGCTL_en = true ∧
    receiving.tgValid (telegram 240) = true ∧ receiving.tgWait = [] ∧ receiving.fb F.SAF_TGSTAT_wd_exp = false ∧
    (¬TgFx.expired ∈ receiving.tgFx)) ∧
    (waiting.portLive (2 + 1) = true ∧ waiting.rxq[(1 : Fin 2)] = [] ∧ waiting.fb F.SAF_TGCTL_en = true ∧
    waiting.tgValid (telegram 240) = true ∧ waiting.tgWait = [theCopy] ∧ theCopy.seq = bytesAt (telegram 240) 4 2 ∧
    (↑theCopy.net : Nat) ≠ 1 ∧ List.take 8 theCopy.bytes = List.take 8 (telegram 240)) ∧
    (waiting.tgValid (telegram 241) = true ∧ theCopy.seq = bytesAt (telegram 241) 4 2 ∧
    List.take 8 theCopy.bytes ≠ List.take 8 (telegram 241)) ∧
    (ports.portLive (2 + 1) = true ∧ ports.rxq[(1 : Fin 2)] = [] ∧ ports.fb F.SAF_TGCTL_en = false) :=
  ⟨by decide +kernel,
    by decide +kernel,
    by decide +kernel,
    by decide +kernel,
    by decide +kernel,
    by decide +kernel,
    by decide +kernel,
    by decide +kernel⟩
theorem meets_SafetyEvents_3 :
    (expired.portLive (2 + 1) = true ∧ expired.rxq[(1 : Fin 2)] = [] ∧ expired.fb F.SAF_TGCTL_en = true ∧ expired.tgValid [] = false ∧
    expired.fb F.SAF_TGSTAT_wd_exp = true) := by decide +kernel
theorem meets_FaultEvents :
    ((inMode mRun).cmds = [] ∧ (inMode mRun).mode ≠ mReset ∧ (inMode mRun).clsOf (8453) = some Cls.BC ∧ (inMode mRun).mode ≠ mFaultHold ∧
    (inMode mRun).mode ≠ mSafeStop ∧ (inMode mRun).recovMs ≠ 1 ∧ (inMode mRun).fb F.FLT_STAT_open = false ∧ 8453 < 2 ^ 15 ∧
    (∀ (n : Link), (inMode mRun).lnkSt n ≠ lSeq ∧ (inMode mRun).lnk[n].cfg = []) ∧ 3 ≤ (inMode mRun).mode ∧ (inMode mRun).mode ≤ 8 ∧
    (inMode mRun).anySwitching = false ∧ 8453 < 2 ^ 16) ∧
    (onHold.cmds = [] ∧ onHold.mode = mFaultHold ∧ onHold.fb F.FLT_STAT_hold = true) ∧
    ((safe.put F.FLT_RECOV_LIM_lim 1).cmds = [] ∧ (safe.put F.FLT_RECOV_LIM_lim 1).clsOf (28160) = none ∧
    (safe.put F.FLT_RECOV_LIM_lim 1).mode = mSafeStop ∧ (safe.put F.FLT_RECOV_LIM_lim 1).fb F.FLT_STAT_quiet = true ∧
    (safe.put F.FLT_RECOV_LIM_lim 1).fltBlock = 0 ∧ (∀ (n : Link), (safe.put F.FLT_RECOV_LIM_lim 1).lnk[n].cfg = []) ∧
    (safe.put F.FLT_RECOV_LIM_lim 1).f F.FLT_RECOV_CNT_cnt < (safe.put F.FLT_RECOV_LIM_lim 1).f F.FLT_RECOV_LIM_lim) ∧
    ((safe.put F.FLT_RECOV_LIM_lim 0).cmds = [] ∧ (safe.put F.FLT_RECOV_LIM_lim 0).mode = mSafeStop ∧
    (safe.put F.FLT_RECOV_LIM_lim 0).fb F.FLT_STAT_quiet = true ∧ (safe.put F.FLT_RECOV_LIM_lim 0).fltBlock = 0 ∧
    (∀ (n : Link), (safe.put F.FLT_RECOV_LIM_lim 0).lnk[n].cfg = []) ∧
    (safe.put F.FLT_RECOV_LIM_lim 0).f F.FLT_RECOV_LIM_lim ≤ (safe.put F.FLT_RECOV_LIM_lim 0).f F.FLT_RECOV_CNT_cnt) ∧
    (lastMs.cmds = [] ∧ lastMs.recovMs = 1) ∧
    (oneSwitches.fb F.FLT_STAT_open = false ∧ oneSwitches.cmds = [] ∧
    (∀ (n : Link), oneSwitches.lnkSt n ≠ lSeq ∧ oneSwitches.lnk[n].cfg = []) ∧ oneSwitches.anySwitching = true ∧
    isSwitchMode oneSwitches.mode = true) ∧
    (8452 < 2 ^ 15 ∧ (2 = 1 ∨ 2 = 2) ∧ episode.overtakes 8452 = true) ∧
    ((1 = 1 ∨ 1 = 2) ∧ episode.overtakes 8453 = false) :=
  ⟨by decide +kernel,
    by decide +kernel,
    by decide +kernel,
    by decide +kernel,
    by decide +kernel,
    by decide +kernel,
    by decide +kernel,
    by decide +kernel⟩

/-! ### States for the statements on commands, ports and debugging -/

def portsIn (m : Nat) : State := ports.put F.SYS_MODE_mode m
def notLive : State := inMode mReset
/-- One host port's response quota is used up. -/
def noAnswer : Answer := ⟨false, []⟩
def okAnswer : Answer := ⟨true, []⟩
def quotaFull : State := { ports with host := #v[List.replicate 300 okAnswer, List.replicate 3 noAnswer] }
def enteredIn (s : State) (p : Fin 4) (op : Nat) (pl : List Byte) : State := s.enqueue (s.entered p op false false pl)
def pingIn : State := enteredIn ports 3 opPing [7]
def nopIn : State := enteredIn ports 0 opNop []
/-- The journal holds one entry, of a PING of port 0 or 3 with number 1. -/
def journaled (p : Nat) : State :=
  let s := (ports.enqueue (ports.entered ⟨p % 4, by omega⟩ opPing false false []))
  { s with cmds := [] }

/-- The set-point of data word `t` of stage 11 with the value 9. -/
def setp (t : Nat) : Setp := ⟨11, false, t, 0, 9, 0⟩
/-- Payloads: a clock register's word, a stage's word, a word of a register that is not writable, a set-point, a group, a
persistent word. -/
def plWord (a v : Nat) : List Byte := leBytes a 4 ++ wordBytes (BitVec.ofNat 32 v)
def plSetpoint : List Byte := [11, 0, 3, 0, 0, 0, 0, 0] ++ wordBytes 9
def plRefused : List Byte := [11, 0, 200, 0, 0, 0, 0, 0] ++ wordBytes 9
def plGroup (a v : Nat) : List Byte := [1, 0, 0, 0] ++ leBytes a 4 ++ [1, 0, 0, 0] ++ wordBytes (BitVec.ofNat 32 v)
def windowOf11 : State := ports.put (F.LTH_DWIN_size 5 1) 4
def windowTb : State := let s := windowOf11.put (F.STG_STAT_st 11) stReady; s.setStg 11 { s.stg[(11 : Stage)] with starting := none }
def portsTb : State := let s := ports.put (F.STG_STAT_st 11) stReady; s.setStg 11 { s.stg[(11 : Stage)] with starting := none }
def worn : State := ports.put ⟨ctrAddr 0xB0060, 0, 20⟩ 1000000
def groupCmd (a v : Nat) : Cmd := ports.entered 0 opWriteGroup false false (plGroup a v)
def armedCmd (a v : Nat) : Cmd := { groupCmd a v with ph := .armed }
/-- A group of the third case whose instant is not known yet. -/
def lateCmd : Cmd := { armedCmd (A.STG_PER 11) 160000 with gcase := 3, ta := 1000000000 }
def armedLate : State := { portsTb with cmds := [lateCmd] }
def failedCmd (l : List (Nat × Nat × AW)) : Cmd := { groupCmd A.CLK_SYNCI_CFG 5 with ph := .failed, res := 9, saved := l }
def keptWord : List (Nat × Nat × AW) := [(0, 0, ⟨A.CLK_SYNCI_CFG, 5⟩)]
def armed (s : State) (a v : Nat) : State := { s with cmds := [armedCmd a v] }
def failed (l : List (Nat × Nat × AW)) : State := { ports with cmds := [failedCmd l] }
def keptPeer : List (Nat × Nat × AW) := [(0, 0, ⟨A.PRT_PCFG, 0xFFFFFFFF⟩)]
def failedPeer : State := { ports.put F.PRT_PCFG_en 1 with cmds := [failedCmd keptPeer] }

/-- Stages 0 and 11 are held by port 0, their contexts run. -/
def readyRun : State := (ctxAt (ctxAt ports 0 .run 0) 11 .run 0).put F.SYS_MODE_mode mRun
def switching11 : State := switches (portsIn mRun) 11
def foreign : State := ports.setHolder 11 1
def stestPass : State := ports.put F.SYS_STEST_pass 1
def pchDone : State := ((portsIn mPrecharge).put F.SYS_PCH_STAT_done 1)
def noImage : State := portsIn mConfigure
def imaged : State := withImage ports ports.inactiveBase
def erased10k : State := (ports.put F.PRS_PSA_erases 10000).put F.PRS_PSB_erases 10000
def ctxRuns : State := ctxAt ports hs .run 0
def openIn (m : Nat) : State := (((portsIn m).put F.FLT_STAT_open 1).put F.CLK_STAT_ref_ok 1).put F.CLK_STAT_lock 1
def held2 (trip : Bool) : State :=
  { ((openIn mFaultHold).put F.FLT_STAT_hold 1).put F.FLT_STAT_cls_max 2 with holdMode := mRun, holdTrip := trip }
def meters : State := [0, 1, 2, 3].foldl (fun (s : State) m => s.put (F.MTR_CTL_en m) 1) ports

/-- An Ethernet frame for Net A: a UDP datagram to the own address with a PING, or an ARP request to all. -/
def withCrc (c : List Byte) : List Byte := c ++ wordBytes (crc32 c)
def udpPacket (pl : List Byte) : List Byte :=
  let ip : List Byte := [0x45, 0, 0, BitVec.ofNat 8 (28 + pl.length), 0, 0, 0, 0, 64, 17]
  let tail : List Byte := [10, 0, 0, 9] ++ ports.ipOf 1
  let sum := 65535 - onesSum (ip ++ [0, 0] ++ tail)
  ip ++ beBytes sum 2 ++ tail ++ [0x30, 0x39] ++ beBytes 49612 2 ++ beBytes (8 + pl.length) 2 ++ [0, 0] ++ pl ++ List.replicate 6 0
def udpFrame : List Byte := withCrc (ports.macOf 1 ++ [1, 2, 3, 4, 5, 6] ++ [8, 0] ++ udpPacket (frame 1 opPing 4 []))
def arpFrame : List Byte :=
  withCrc (List.replicate 6 0xFF ++ [1, 2, 3, 4, 5, 6] ++ [8, 6, 0, 1, 8, 0, 6, 4, 0, 1] ++ [1, 2, 3, 4, 5, 6] ++ [10, 0, 0, 9] ++
    List.replicate 6 0 ++ ports.ipOf 1 ++ List.replicate 18 0)
def notifying : State :=
  ({ (ports.put (F.PRT_NNOTE_en 1) 1) with ports := ports.ports.set 3 ⟨0, [1, 2, 3, 4, 5, 6, 10, 0, 0, 9, 0, 7]⟩ }).setReg (A.SYS_EVPND 3 3) 1
def mdio (wr : Nat) : State := (ports.put F.PRT_MDIO_busy 1).put F.PRT_MDIO_wr wr

def rxFull : State := { ports with rxq := ports.rxq.set 1 (List.replicate 4 ⟨[], [], 0⟩) }

/-- The peer link is on, with this device at position `pos` of eight; the ring is up. -/
def peer (pos : Nat) : State := ((ports.put F.PRT_PCFG_en 1).put F.PRT_PCFG_pos pos).put F.PRT_PCFG_n 8
def ringUp (pos : Nat) : State :=
  let s := ((((peer pos).put F.PRT_PSTAT_up 1).put (F.STG_SYNC_src 11) 3).put (F.STG_STAT_st 11) stReady)
  { s.setStg 11 { s.stg[(11 : Stage)] with starting := none } with etime := 10000000 }
def following (pos : Nat) : State := ((ringUp pos).put (F.ISL_CTL_en 3) 1).put (F.ISL_COH_mode 3) 2
def ringWaits : State := { peer 0 with ringWait := true }
def relaying (m : Nat) : State := ((peer 7).put F.PRT_PCFG_relay_en 1).put F.SYS_MODE_mode m

/-- The Devar port is on, locked; blocked; a session on running engines; the Headstock halted at an ADD; at a breakpoint. -/
def devarOn : State := (inMode mStandby).put F.DBG_STAT_port_en 1
def blocked : State := devarOn.put F.DBG_STAT_blocked 1
def sess : State := session running
def sessSw : State := switches sess 11
def haltedAdd (prev : CtxSt) : State :=
  let s := sess.setCtx hs { sess.ctx[hs] with st := .halt, prev := prev }
  (s.setMw (imemAddr hs s.ctx[hs].pc) (encodeFj (.add hs 3 1 2)))
def atBp : State := ((sess.put (F.DBG_BP_en 6 0) 1).put (F.DBG_BP_addr 6 0) 32767).put (F.DBG_BP_ctx 6 0) 1
def atBpSw : State := switches atBp 11

theorem meets_CommandStartsAtOnce_1 :
    ports.portFree 0 ((List.replicate 255 (7 : Byte)).length) ∧
    ports.portFree 0 (((0 : Byte) :: List.replicate 255 (7 : Byte)).length) ∧
    ports.portFree 0 (((1 : Byte) :: List.replicate 255 (7 : Byte)).length) ∧
    ports.portFree 0 (((2 : Byte) :: List.replicate 255 (7 : Byte)).length) ∧
    ports.portFree 0 (((3 : Byte) :: List.replicate 255 (7 : Byte)).length) :=
  ⟨by unfold State.portFree; decide +kernel,
    by unfold State.portFree; decide +kernel,
    by unfold State.portFree; decide +kernel,
    by unfold State.portFree; decide +kernel,
    by unfold State.portFree; decide +kernel⟩
theorem meets_CommandStartsAtOnce_2 :
    notLive.portLive 3 = false ∧
    (0 = 0 ∧ quotaFull.portLive 0 = true ∧ quotaFull.full 0 = true ∧ ([] : List Byte).length ≤ 256 ∧
    (List.filter (fun a => !a.accepted) quotaFull.host[(0 : Fin 2)]).length < 4 ∧ [(0 : Byte)].length ≤ 256 ∧ [(1 : Byte)].length ≤ 256 ∧
    [(2 : Byte)].length ≤ 256 ∧ [(3 : Byte)].length ≤ 256) :=
  ⟨by decide +kernel,
    by decide +kernel⟩
theorem meets_AcceptedAndCompleted :
    (opEventMask ∈ knownOps ∧ (List.replicate 256 (0 : Byte)).length ≤ 256 ∧
    (0 < jAddr (BitVec.toNat (ports.reg A.UHL_NEXT)) ∨ jAddr (BitVec.toNat (ports.reg A.UHL_NEXT)) + 32 ≤ 0)) ∧
    (pingIn.cmd? (pingIn.nextId - 1) = some (ports.entered (3 : Fin 4) opPing false false [(7 : Byte)]) ∧
    (ports.entered (3 : Fin 4) opPing false false [(7 : Byte)]).desc = none ∧
    (ports.entered (3 : Fin 4) opPing false false [(7 : Byte)]).port < 4 ∧
    ({ (ports.entered (3 : Fin 4) opPing false false [(7 : Byte)]) with res := 0 } : Cmd).copied = false ∧
    2 ≤ (ports.entered (3 : Fin 4) opPing false false [(7 : Byte)]).port ∧
    (ports.entered (3 : Fin 4) opPing false false [(7 : Byte)]).jidx = some 0) ∧
    (nopIn.cmd? (nopIn.nextId - 1) = some (ports.entered (0 : Fin 4) opNop false false []) ∧
    (ports.entered (0 : Fin 4) opNop false false []).desc = none ∧ (ports.entered (0 : Fin 4) opNop false false []).port < 4 ∧
    ({ (ports.entered (0 : Fin 4) opNop false false []) with res := 0 } : Cmd).copied = false ∧
    0 = (ports.entered (0 : Fin 4) opNop false false []).port) :=
  ⟨by decide +kernel,
    by decide +kernel,
    by decide +kernel⟩
theorem meets_ReadingCommands_1 :
    (ports.portFree 0 0 ∧ ([] : List Byte) = [] ∧ ([] : List Byte).length ≤ 252 ∧ ([] : List Byte).length ≠ 8 ∧
    List.find? ports.ready ports.cmds = none) ∧
    (ports.portFree 3 ([(7 : Byte)].length) ∧ [(7 : Byte)] ≠ [] ∧ [(7 : Byte)].length ≤ 252 ∧ [(7 : Byte)].length ≠ 8) ∧
    (ports.portFree 3 ((List.replicate 253 (7 : Byte)).length) ∧ 252 < (List.replicate 253 (7 : Byte)).length) ∧
    (ports.portFree 0 ((leBytes 2621440 4 ++ [(63 : Byte), (0 : Byte), (0 : Byte), (0 : Byte)]).length) ∧
    leBytes 2621440 4 ++ [(63 : Byte), (0 : Byte), (0 : Byte), (0 : Byte)] = leBytes 2621440 4 ++ [BitVec.ofNat 8 63, (0 : BitVec 8), (0 :
      BitVec 8), (0 : BitVec 8)] ∧
    1 ≤ 63 ∧ 63 ≤ 63 ∧ 2621440 < 2 ^ 32) ∧
    (∀ (i : Nat), i < 63 → 2621440 % 4 = 0 ∧ mapped (2621440 + 4 * i) = true ∧ 1048576 ≤ 2621440 + 4 * i ∧
      (2621440 + 4 * i < 3407872 ∨ 3538944 ≤ 2621440 + 4 * i)) :=
  ⟨by unfold State.portFree; decide +kernel,
    by unfold State.portFree; decide +kernel,
    by unfold State.portFree; decide +kernel,
    by unfold State.portFree; decide +kernel,
    by decide +kernel⟩
theorem meets_ReadingCommands_2 :
    (ports.portFree 3 ((leBytes 2621441 4 ++ [(63 : Byte), (0 : Byte), (0 : Byte), (0 : Byte)]).length) ∧
    leBytes 2621441 4 ++ [(63 : Byte), (0 : Byte), (0 : Byte), (0 : Byte)] = leBytes 2621441 4 ++ [BitVec.ofNat 8 63, (0 : BitVec 8), (0 :
      BitVec 8), (0 : BitVec 8)] ∧
    2621441 < 2 ^ 32 ∧ (2621441 % 4 ≠ 0 ∨ mapped 2621441 = false)) ∧
    (ports.portFree 3 ((leBytes A.CLK_SYNCI_CFG 4 ++ [(1 : Byte), (0 : Byte), (0 : Byte), (0 : Byte)]).length) ∧
    leBytes A.CLK_SYNCI_CFG 4 ++ [(1 : Byte), (0 : Byte), (0 : Byte), (0 : Byte)] = leBytes A.CLK_SYNCI_CFG 4 ++ [BitVec.ofNat 8 1, (0 :
      BitVec 8), (0 : BitVec 8), (0 : BitVec 8)] ∧
    1 ≤ 1 ∧ A.CLK_SYNCI_CFG < 2 ^ 32 ∧ 1 = 1 ∧ A.CLK_SYNCI_CFG % 4 = 0) ∧
    (mapped A.CLK_SYNCI_CFG = true ∧ 65536 ≤ A.CLK_SYNCI_CFG ∧ A.CLK_SYNCI_CFG < 393216) ∧
    ((journaled 0).portFree 3 ((leBytes 0 4 ++ [(1 : Byte), (0 : Byte), (255 : Byte), (0 : Byte)]).length) ∧ true = true ∧
    leBytes 0 4 ++ [(1 : Byte), (0 : Byte), (255 : Byte), (0 : Byte)] = leBytes 0 4 ++ [BitVec.ofNat 8 1, (0 : BitVec 8), (255 : BitVec 8),
      (0 : BitVec 8)] ∧
    1 ≤ 7 ∧ (journaled 0).jLow ≤ 0 ∧ 0 + 1 ≤ BitVec.toNat ((journaled 0).reg A.UHL_NEXT)) ∧
    (BitVec.toNat ((journaled 0).reg A.UHL_NEXT) ≤ 0 + 4096 ∧
    (∀ (i : Nat), i < BitVec.toNat ((journaled 0).reg A.UHL_NEXT) → (journaled 0).jLow ≤ i → BitVec.toNat ((journaled 0).reg A.UHL_NEXT) ≤
      i + 4096 → BitVec.toNat ((journaled 0).mw (jAddr i)) = i) ∧
    7 < 8 * 1 ∧ jAddr 0 + 28 = jAddr (0 + 7 / 8) + 4 * (7 % 8)) ∧
    (List.find? nopIn.ready nopIn.cmds = some (ports.entered (0 : Fin 4) opNop false false []) ∧
    (ports.entered (0 : Fin 4) opNop false false []).op = opNop ∧ (ports.entered (0 : Fin 4) opNop false false []).pl = [] ∧
    (ports.entered (0 : Fin 4) opNop false false []).desc = none ∧ (ports.entered (0 : Fin 4) opNop false false []).port < 4 ∧
    nopIn.downloads = false) :=
  ⟨by unfold State.portFree; decide +kernel,
    by unfold State.portFree; decide +kernel,
    by decide +kernel,
    by unfold State.portFree; decide +kernel,
    by decide +kernel,
    by decide +kernel⟩
theorem meets_WritingCommands_1 :
    (ports.portFree 0 ((plWord A.CLK_SYNCI_CFG 5).length) ∧ plWord A.CLK_SYNCI_CFG 5 = leBytes A.CLK_SYNCI_CFG 4 ++ wordBytes (5 : Word) ∧
    A.CLK_SYNCI_CFG < 2 ^ 32 ∧
    ((ports.queued (0 : Fin 4) opWrite true false (plWord A.CLK_SYNCI_CFG 5)).judge 0 [⟨A.CLK_SYNCI_CFG, (5 : Word)⟩]).1 = rOk ∧
    A.CLK_SYNCI_CFG / 65536 = 2 ∧ (rowAt A.CLK_SYNCI_CFG).w1c = 0) ∧
    ((rowAt A.CLK_SYNCI_CFG).rs = 0 ∧ (rowAt A.CLK_SYNCI_CFG).rw ≠ 0 ∧ ports.staged = [] ∧ (∀ (n : Link), ports.lnk[n].cfg = []) ∧
    (setpOf (plWord A.CLK_SYNCI_CFG 5) = none ∨ (plWord A.CLK_SYNCI_CFG 5).length ≠ if byteAt (plWord A.CLK_SYNCI_CFG 5) 1 = 1 then 16 else 12) ∧
    bankAddr A.CLK_SYNCI_CFG = none ∧
    (ports.queued (0 : Fin 4) opWriteGroup true false (plWord A.CLK_SYNCI_CFG 5)).cmdParts (ports.entered (0 : Fin 4) opWriteGroup true
      false (plWord A.CLK_SYNCI_CFG 5)) = none ∧
    (ports.queued (0 : Fin 4) opSetGroup true false (plWord A.CLK_SYNCI_CFG 5)).cmdParts (ports.entered (0 : Fin 4) opSetGroup true false
      (plWord A.CLK_SYNCI_CFG 5)) = none) ∧
    (ports.portFree 1 ((plWord (A.STG_CTL 11) 0).length) ∧ plWord (A.STG_CTL 11) 0 = leBytes (A.STG_CTL 11) 4 ++ wordBytes (0 : Word) ∧
    A.STG_CTL 11 < 2 ^ 32 ∧
    ((ports.queued (1 : Fin 4) opWrite true false (plWord (A.STG_CTL 11) 0)).judge 1 [⟨A.STG_CTL 11, (0 : Word)⟩]).1 ≠ rOk) ∧
    (portsTb.portFree 0 ((plWord (A.STG_PER 11) 160000).length) ∧
    plWord (A.STG_PER 11) 160000 = leBytes (A.STG_PER 11) 4 ++ wordBytes (160000 : Word) ∧ A.STG_PER 11 < 2 ^ 32 ∧
    ((portsTb.queued (0 : Fin 4) opWrite true false (plWord (A.STG_PER 11) 160000)).write 0 (some (portsTb.entered (0 : Fin 4) opWrite true
      false (plWord (A.STG_PER 11) 160000)).id) [⟨A.STG_PER 11, (160000 : Word)⟩]).1 = rOk ∧
    ((portsTb.queued (0 : Fin 4) opWrite true false (plWord (A.STG_PER 11) 160000)).write 0 (some (portsTb.entered (0 : Fin 4) opWrite true
      false (plWord (A.STG_PER 11) 160000)).id) [⟨A.STG_PER 11, (160000 : Word)⟩]).2.2.refers (portsTb.entered (0 : Fin 4) opWrite true
      false (plWord (A.STG_PER 11) 160000)).id = true ∧
    ((portsTb.queued (0 : Fin 4) opWrite true false (plWord (A.STG_PER 11) 160000)).write 0 (some (portsTb.entered (0 : Fin 4) opWrite true
      false (plWord (A.STG_PER 11) 160000)).id) [⟨A.STG_PER 11, (160000 : Word)⟩]).2.2.cmds = [portsTb.entered (0 : Fin 4) opWrite true
      false (plWord (A.STG_PER 11) 160000)]) ∧
    (ports.portFree 0 ([(1 : Byte)].length) ∧ ([(1 : Byte)].length % 4 ≠ 0 ∨ [(1 : Byte)].length < 8)) :=
  ⟨by unfold State.portFree; decide +kernel,
    by decide +kernel,
    by unfold State.portFree; decide +kernel,
    by unfold State.portFree; decide +kernel,
    by unfold State.portFree; decide +kernel⟩
theorem meets_WritingCommands_2 :
    (windowOf11.portFree 0 (plSetpoint.length) ∧ setpOf plSetpoint = some (setp 3) ∧
    (plSetpoint.length = if byteAt plSetpoint 1 = 1 then 16 else 12) ∧ windowOf11.setpCode 0 (setp 3) = rOk ∧
    windowOf11.tbRuns (setp 3).stage = false ∧ (setp 3).ramp = false) ∧
    (windowOf11.staged = [] ∧ (∀ (n : Link), windowOf11.lnk[n].cfg = [])) ∧
    (windowOf11.portFree 0 (plRefused.length) ∧ setpOf plRefused = some (setp 200) ∧
    (plRefused.length = if byteAt plRefused 1 = 1 then 16 else 12) ∧ windowOf11.setpCode 0 (setp 200) ≠ rOk) ∧
    (windowTb.portFree 0 (plSetpoint.length) ∧ windowTb.setpCode 0 (setp 3) = rOk ∧ windowTb.tbRuns (setp 3).stage = true) ∧
    (ports.portFree 0 ((plWord 720992 5).length) ∧ plWord 720992 5 = leBytes 720992 4 ++ wordBytes (5 : Word) ∧ 720992 < 2 ^ 32 ∧
    bankAddr 720992 = some 720992 ∧ ports.wq = [] ∧ ports.resetAfterSave = none) :=
  ⟨by unfold State.portFree; decide +kernel,
    by decide +kernel,
    by unfold State.portFree; decide +kernel,
    by unfold State.portFree; decide +kernel,
    by unfold State.portFree; decide +kernel⟩
theorem meets_WritingCommands_3 :
    ((if (ports.queued (0 : Fin 4) opPersist true false (plWord 720992 5)).mayWrite 0 720992 = true then (ports.queued (0 : Fin 4)
      opPersist true false (plWord 720992 5)).bankCode ((ports.queued (0 : Fin 4) opPersist true false (plWord 720992 5)).setReg 720992 (5
      : Word)) 720992 (5 : Word) else rAuthority) = rOk ∧
    ports.atLimit 720992 = false ∧ ports.reg 720992 ≠ (5 : Word) &&& BitVec.ofNat 32 (bankMask 720992)) ∧
    (ports.portFree 0 ((plWord 720896 5).length) ∧ plWord 720896 5 = leBytes 720896 4 ++ wordBytes (5 : Word) ∧ 720896 < 2 ^ 32 ∧
    bankAddr 720896 = some 720896 ∧
    (if (ports.queued (0 : Fin 4) opPersist true false (plWord 720896 5)).mayWrite 0 720896 = true then (ports.queued (0 : Fin 4) opPersist
      true false (plWord 720896 5)).bankCode ((ports.queued (0 : Fin 4) opPersist true false (plWord 720896 5)).setReg 720896 (5 : Word))
      720896 (5 : Word) else rAuthority) ≠ rOk) ∧
    (worn.portFree 0 ((plWord 720992 5).length) ∧ worn.wq = [] ∧ worn.resetAfterSave = none ∧
    (if (worn.queued (0 : Fin 4) opPersist true false (plWord 720992 5)).mayWrite 0 720992 = true then (worn.queued (0 : Fin 4) opPersist
      true false (plWord 720992 5)).bankCode ((worn.queued (0 : Fin 4) opPersist true false (plWord 720992 5)).setReg 720992 (5 : Word))
      720992 (5 : Word) else rAuthority) = rOk ∧
    (worn.atLimit 720992 = true ∨ worn.reg 720992 = (5 : Word) &&& BitVec.ofNat 32 (bankMask 720992))) ∧
    (ports.portFree 0 ((plGroup A.CLK_SYNCI_CFG 5).length) ∧
    ((ports.queued (0 : Fin 4) opWriteGroup true false (plGroup A.CLK_SYNCI_CFG 5)).cmdParts (ports.entered (0 : Fin 4) opWriteGroup true
      false (plGroup A.CLK_SYNCI_CFG 5))).isSome = true ∧
    (ports.queued (0 : Fin 4) opWriteGroup true false (plGroup A.CLK_SYNCI_CFG 5)).checkGroup (ports.entered (0 : Fin 4) opWriteGroup true
      false (plGroup A.CLK_SYNCI_CFG 5)) = none) ∧
    (ports.portFree 1 ((plGroup (A.STG_CTL 11) 5).length) ∧
    ((ports.queued (1 : Fin 4) opWriteGroup true false (plGroup (A.STG_CTL 11) 5)).cmdParts (ports.entered (1 : Fin 4) opWriteGroup true
      false (plGroup (A.STG_CTL 11) 5))).isSome = true ∧
    (ports.queued (1 : Fin 4) opWriteGroup true false (plGroup (A.STG_CTL 11) 5)).checkGroup (ports.entered (1 : Fin 4) opWriteGroup true
      false (plGroup (A.STG_CTL 11) 5)) = some (0, 2, 0)) :=
  ⟨by decide +kernel,
    by unfold State.portFree; decide +kernel,
    by unfold State.portFree; decide +kernel,
    by unfold State.portFree; decide +kernel,
    by unfold State.portFree; decide +kernel⟩
theorem meets_WritingCommands_4 :
    ((armed ports A.CLK_SYNCI_CFG 5).cmds = [armedCmd A.CLK_SYNCI_CFG 5] ∧ (armedCmd A.CLK_SYNCI_CFG 5).desc = none ∧
    (armedCmd A.CLK_SYNCI_CFG 5).op = opWriteGroup ∧ (armedCmd A.CLK_SYNCI_CFG 5).port < 4 ∧
    (armedCmd A.CLK_SYNCI_CFG 5).ph ≠ Phase.failed ∧ (armed ports A.CLK_SYNCI_CFG 5).groupAt (armedCmd A.CLK_SYNCI_CFG 5) = some 10000000 ∧
    (armedCmd A.CLK_SYNCI_CFG 5).ph = Phase.armed ∧
    ((armed ports A.CLK_SYNCI_CFG 5).toInstant 10000000).checkGroup (armedCmd A.CLK_SYNCI_CFG 5) = none ∧
    ((List.foldl (fun s ws => (s.writeAll (some (armedCmd A.CLK_SYNCI_CFG 5).id) 0 ws).2.2) ((armed ports A.CLK_SYNCI_CFG 5).toInstant
      10000000) ((((armed ports A.CLK_SYNCI_CFG 5).toInstant 10000000).cmdParts (armedCmd A.CLK_SYNCI_CFG 5)).getD [])).alignStaged
      (armedCmd A.CLK_SYNCI_CFG 5).id 10000000).cmds = [armedCmd A.CLK_SYNCI_CFG 5] ∧
    ((List.foldl (fun s ws => (s.writeAll (some (armedCmd A.CLK_SYNCI_CFG 5).id) 0 ws).2.2) ((armed ports A.CLK_SYNCI_CFG 5).toInstant
      10000000) ((((armed ports A.CLK_SYNCI_CFG 5).toInstant 10000000).cmdParts (armedCmd A.CLK_SYNCI_CFG 5)).getD [])).alignStaged
      (armedCmd A.CLK_SYNCI_CFG 5).id 10000000).host = (armed ports A.CLK_SYNCI_CFG 5).host ∧
    ((List.foldl (fun s ws => (s.writeAll (some (armedCmd A.CLK_SYNCI_CFG 5).id) 0 ws).2.2) ((armed ports A.CLK_SYNCI_CFG 5).toInstant
      10000000) ((((armed ports A.CLK_SYNCI_CFG 5).toInstant 10000000).cmdParts (armedCmd A.CLK_SYNCI_CFG 5)).getD [])).alignStaged
      (armedCmd A.CLK_SYNCI_CFG 5).id 10000000).refers (armedCmd A.CLK_SYNCI_CFG 5).id = false) ∧
    ((armed portsTb (A.STG_PER 11) 160000).cmds = [armedCmd (A.STG_PER 11) 160000] ∧ (armedCmd (A.STG_PER 11) 160000).desc = none ∧
    (armedCmd (A.STG_PER 11) 160000).op = opWriteGroup ∧ (armedCmd (A.STG_PER 11) 160000).port < 4 ∧
    (armed portsTb (A.STG_PER 11) 160000).groupAt (armedCmd (A.STG_PER 11) 160000) = some 10000000 ∧
    (armedCmd (A.STG_PER 11) 160000).ph = Phase.armed ∧
    ((armed portsTb (A.STG_PER 11) 160000).toInstant 10000000).checkGroup (armedCmd (A.STG_PER 11) 160000) = none ∧
    ((List.foldl (fun s ws => (s.writeAll (some (armedCmd (A.STG_PER 11) 160000).id) 0 ws).2.2) ((armed portsTb (A.STG_PER 11)
      160000).toInstant 10000000) ((((armed portsTb (A.STG_PER 11) 160000).toInstant 10000000).cmdParts (armedCmd (A.STG_PER 11)
      160000)).getD [])).alignStaged (armedCmd (A.STG_PER 11) 160000).id 10000000).cmds = [armedCmd (A.STG_PER 11) 160000] ∧
    ((List.foldl (fun s ws => (s.writeAll (some (armedCmd (A.STG_PER 11) 160000).id) 0 ws).2.2) ((armed portsTb (A.STG_PER 11)
      160000).toInstant 10000000) ((((armed portsTb (A.STG_PER 11) 160000).toInstant 10000000).cmdParts (armedCmd (A.STG_PER 11)
      160000)).getD [])).alignStaged (armedCmd (A.STG_PER 11) 160000).id 10000000).refers (armedCmd (A.STG_PER 11) 160000).id = true) ∧
    ((armed ports (A.STG_CTL 11) 291).cmds = [armedCmd (A.STG_CTL 11) 291] ∧ (armedCmd (A.STG_CTL 11) 291).desc = none ∧
    (armedCmd (A.STG_CTL 11) 291).op = opWriteGroup ∧ (armedCmd (A.STG_CTL 11) 291).port < 4 ∧
    (armed ports (A.STG_CTL 11) 291).groupAt (armedCmd (A.STG_CTL 11) 291) = some 10000000 ∧
    (armedCmd (A.STG_CTL 11) 291).ph = Phase.armed ∧
    ((armed ports (A.STG_CTL 11) 291).toInstant 10000000).checkGroup (armedCmd (A.STG_CTL 11) 291) = some (0, 3, 0)) ∧
    (windowOf11.portFree 0 (([(1 : Byte), (0 : Byte), (0 : Byte), (0 : Byte)] ++ plSetpoint ++ [(0 : Byte), (0 : Byte), (0 : Byte), (0 :
      Byte)]).length) ∧
    ((windowOf11.queued (0 : Fin 4) opSetGroup true false ([(1 : Byte), (0 : Byte), (0 : Byte), (0 : Byte)] ++ plSetpoint ++ [(0 : Byte),
      (0 : Byte), (0 : Byte), (0 : Byte)])).cmdParts (windowOf11.entered (0 : Fin 4) opSetGroup true false ([(1 : Byte), (0 : Byte), (0 :
      Byte), (0 : Byte)] ++ plSetpoint ++ [(0 : Byte), (0 : Byte), (0 : Byte), (0 : Byte)]))).isSome = true ∧
    (windowOf11.queued (0 : Fin 4) opSetGroup true false ([(1 : Byte), (0 : Byte), (0 : Byte), (0 : Byte)] ++ plSetpoint ++ [(0 : Byte), (0
      : Byte), (0 : Byte), (0 : Byte)])).checkGroup (windowOf11.entered (0 : Fin 4) opSetGroup true false ([(1 : Byte), (0 : Byte), (0 :
      Byte), (0 : Byte)] ++ plSetpoint ++ [(0 : Byte), (0 : Byte), (0 : Byte), (0 : Byte)])) = none) ∧
    (windowOf11.portFree 0 (([(1 : Byte), (0 : Byte), (0 : Byte), (0 : Byte)] ++ plRefused ++ [(0 : Byte), (0 : Byte), (0 : Byte), (0 :
      Byte)]).length) ∧
    ((windowOf11.queued (0 : Fin 4) opSetGroup true false ([(1 : Byte), (0 : Byte), (0 : Byte), (0 : Byte)] ++ plRefused ++ [(0 : Byte), (0
      : Byte), (0 : Byte), (0 : Byte)])).cmdParts (windowOf11.entered (0 : Fin 4) opSetGroup true false ([(1 : Byte), (0 : Byte), (0 :
      Byte), (0 : Byte)] ++ plRefused ++ [(0 : Byte), (0 : Byte), (0 : Byte), (0 : Byte)]))).isSome = true ∧
    (windowOf11.queued (0 : Fin 4) opSetGroup true false ([(1 : Byte), (0 : Byte), (0 : Byte), (0 : Byte)] ++ plRefused ++ [(0 : Byte), (0
      : Byte), (0 : Byte), (0 : Byte)])).checkGroup (windowOf11.entered (0 : Fin 4) opSetGroup true false ([(1 : Byte), (0 : Byte), (0 :
      Byte), (0 : Byte)] ++ plRefused ++ [(0 : Byte), (0 : Byte), (0 : Byte), (0 : Byte)])) = some (0, 5, 0)) ∧
    ((failed []).cmds = [failedCmd []] ∧ (failedCmd []).desc = none ∧ (failedCmd []).op = opWriteGroup ∧ (failedCmd []).port < 4 ∧
    (failedCmd []).ph ≠ Phase.armed ∧ (failed []).groupAt (failedCmd []) = some 10000000 ∧ (failedCmd []).ph = Phase.failed ∧
    (failed []).staged = [] ∧ (∀ (n : Link), (failed []).lnk[n].cfg = []) ∧ (failedCmd []).saved = []) :=
  ⟨by decide +kernel,
    by decide +kernel,
    by decide +kernel,
    by unfold State.portFree; decide +kernel,
    by unfold State.portFree; decide +kernel,
    by decide +kernel⟩
theorem meets_WritingCommands_5 :
    ((failed keptWord).cmds = [failedCmd keptWord] ∧ (failedCmd keptWord).desc = none ∧ (failedCmd keptWord).op = opWriteGroup ∧
    (failedCmd keptWord).port < 4 ∧ (failed keptWord).groupAt (failedCmd keptWord) = some 10000000 ∧
    (failedCmd keptWord).ph = Phase.failed ∧ (failed keptWord).staged = [] ∧ (∀ (n : Link), (failed keptWord).lnk[n].cfg = []) ∧
    (failedCmd keptWord).saved = [(0, 0, ⟨A.CLK_SYNCI_CFG, (5 : Word)⟩)]) ∧
    (armedLate.cmds = [lateCmd] ∧ lateCmd.desc = none ∧ lateCmd.op = opWriteGroup ∧ lateCmd.port < 4 ∧ armedLate.groupAt lateCmd = none) ∧
    (failedPeer.cmds = [failedCmd keptPeer] ∧ (failedCmd keptPeer).desc = none ∧ (failedCmd keptPeer).op = opWriteGroup ∧
    (failedCmd keptPeer).port < 4 ∧ failedPeer.groupAt (failedCmd keptPeer) = some 10000000 ∧ (failedCmd keptPeer).ph = Phase.failed ∧
    failedPeer.staged = [] ∧ (∀ (n : Link), failedPeer.lnk[n].cfg = []) ∧
    (failedCmd keptPeer).saved = [(0, 0, ⟨A.PRT_PCFG, (4294967295 : Word)⟩)] ∧ podAddr A.PRT_PCFG = none ∧ (rowAt A.PRT_PCFG).w1c = 0 ∧
    (rowAt A.PRT_PCFG).wo = 0 ∧ (failedPeer.toInstant 10000000).rsRefused ⟨A.PRT_PCFG, (4294967295 : Word)⟩ = true) :=
  ⟨by decide +kernel,
    by decide +kernel,
    by decide +kernel⟩
theorem meets_StageAndModeCommands_1 :
    (readyRun.portFree 0 ([(1 : Byte), (8 : Byte)].length) ∧ maskOf [(1 : Byte), (8 : Byte)] 2 = some [(0 : Stage), (11 : Stage)] ∧
    isSwitchMode readyRun.mode = true ∧ readyRun.halted = false ∧
    (∀ (k : Stage), k ∈ [(0 : Stage), (11 : Stage)] → readyRun.holder k = 0 ∧ readyRun.startCheck k = rOk)) ∧
    ((∀ (k : Stage), k ∈ [(0 : Stage), (11 : Stage)] → readyRun.holder k = 0) ∧
    (∀ (k : Stage), k ∈ [(0 : Stage), (11 : Stage)] → readyRun.holder k = 0 ∨ readyRun.holder k = 15) ∧
    (readyRun.holder 11 = 15 ∨ readyRun.holder 11 = 0) ∧
    (maskOf [(1 : Byte), (8 : Byte)] 4 = none ∨ 1 < byteAt [(1 : Byte), (8 : Byte)] 2 ∨ byteAt [(1 : Byte), (8 : Byte)] 3 ≠ 0) ∧
    readyRun.portFree 0 (1) ∧ (∀ (n : Link), readyRun.lnk[n].cfg = [])) ∧
    (¬1 ∈ [0, 3, 4, 5, 6, 7]) ∧
    (switching11.portFree 0 ([(0 : Byte), (8 : Byte)].length) ∧ maskOf [(0 : Byte), (8 : Byte)] 2 = some [(11 : Stage)] ∧
    (∀ (k : Stage), k ∈ [(11 : Stage)] → switching11.holder k = 0) ∧
    (∀ (k : Stage), k ∈ [(11 : Stage)] → switching11.holder k = 0 ∨ switching11.holder k = 15) ∧ switching11.holder 11 = 0 ∧
    isSwitchMode switching11.mode = true) ∧
    (switching11.halted = false ∧ switching11.startCheck (11 : Stage) ≠ rOk) :=
  ⟨by unfold State.portFree; decide +kernel,
    by unfold State.portFree; decide +kernel,
    by decide +kernel,
    by unfold State.portFree; decide +kernel,
    by decide +kernel⟩
theorem meets_StageAndModeCommands_2 :
    (foreign.portFree 0 ([(0 : Byte), (8 : Byte)].length) ∧ foreign.holder 11 ≠ 0 ∧ foreign.holder 11 ≠ 15) ∧
    (foreign.portFree 0 ([(0 : Byte), (8 : Byte), (0 : Byte), (0 : Byte)].length) ∧
    maskOf [(0 : Byte), (8 : Byte), (0 : Byte), (0 : Byte)] 2 = none ∧
    maskOf [(0 : Byte), (8 : Byte), (0 : Byte), (0 : Byte)] 4 = some [(11 : Stage)] ∧
    byteAt [(0 : Byte), (8 : Byte), (0 : Byte), (0 : Byte)] 2 ≤ 1 ∧ byteAt [(0 : Byte), (8 : Byte), (0 : Byte), (0 : Byte)] 3 = 0 ∧
    [(11 : Stage)] = [(11 : Stage)]) ∧
    foreign.grants 0 (byteAt [(0 : Byte), (8 : Byte), (0 : Byte), (0 : Byte)] 2 == 1) (11 : Stage) = false ∧
    (ports.portFree 0 ([(0 : Byte), (8 : Byte)].length) ∧ (∀ (k : Stage), k ∈ [(11 : Stage)] → ports.holder k = 0) ∧ ports.holder 11 = 0 ∧
    (isSwitchMode ports.mode = false ∨ ports.halted = true)) ∧
    (ports.portFree 0 ([(0 : Byte), (8 : Byte), (1 : Byte), (0 : Byte)].length) ∧
    maskOf [(0 : Byte), (8 : Byte), (1 : Byte), (0 : Byte)] 4 = some [(11 : Stage)] ∧
    byteAt [(0 : Byte), (8 : Byte), (1 : Byte), (0 : Byte)] 2 ≤ 1 ∧ byteAt [(0 : Byte), (8 : Byte), (1 : Byte), (0 : Byte)] 3 = 0 ∧
    (∀ (k : Stage), k ∈ [(11 : Stage)] → ports.grants 0 (byteAt [(0 : Byte), (8 : Byte), (1 : Byte), (0 : Byte)] 2 == 1) k = true)) :=
  ⟨by unfold State.portFree; decide +kernel,
    by unfold State.portFree; decide +kernel,
    by decide +kernel,
    by unfold State.portFree; decide +kernel,
    by unfold State.portFree; decide +kernel⟩
theorem meets_StageAndModeCommands_3 :
    (ports.portFree 3 0 ∧ maskOf [] 2 = none ∧ (maskOf [] 4 = none ∨ 1 < byteAt [] 2 ∨ byteAt [] 3 ≠ 0)) ∧
    (ports.portFree 3 (1) ∧ (∀ (n : Link), ports.lnk[n].cfg = []) ∧ 4 = ports.mode) ∧
    (ports.portFree 0 (1) ∧ (ports.mode = 3 ∨ ports.mode = 4 ∨ ports.mode = 10) ∧ (0 : Byte) = (0 : Byte)) ∧
    ((portsIn mConfigure).portFree 0 (1) ∧ (∀ (n : Link), (portsIn mConfigure).lnk[n].cfg = []) ∧ (portsIn mConfigure).mode = 3 ∧
    (4 : Byte) = (4 : Byte)) ∧
    (ports.mode = 4 ∧ (3 : Byte) = (3 : Byte)) :=
  ⟨by unfold State.portFree; decide +kernel,
    by unfold State.portFree; decide +kernel,
    by unfold State.portFree; decide +kernel,
    by unfold State.portFree; decide +kernel,
    by decide +kernel⟩
theorem meets_StageAndModeCommands_4 :
    (stestPass.portFree 0 (1) ∧ (∀ (n : Link), stestPass.lnk[n].cfg = []) ∧ stestPass.mode = 4 ∧ (5 : Byte) = (5 : Byte) ∧
    stestPass.safForce = false ∧ stestPass.fb F.SYS_STEST_pass = true) ∧
    stestPass.halted = false ∧
    (ports.safForce = true ∨ ports.fb F.SYS_STEST_pass = false ∨ ports.halted = true) ∧
    (pchDone.portFree 0 (1) ∧ (∀ (n : Link), pchDone.lnk[n].cfg = []) ∧ pchDone.mode = 5 ∧ (6 : Byte) = (6 : Byte) ∧
    pchDone.fb F.SYS_PCH_STAT_done = true) ∧
    ((portsIn mPrecharge).portFree 0 (1) ∧ (∀ (n : Link), (portsIn mPrecharge).lnk[n].cfg = []) ∧ (portsIn mPrecharge).mode = 5 ∧
    (portsIn mPrecharge).fb F.SYS_PCH_STAT_done = false) ∧
    ((7 : Byte) = (7 : Byte) ∧ pchDone.kReady = true ∧ pchDone.halted = false) :=
  ⟨by unfold State.portFree; decide +kernel,
    by decide +kernel,
    by decide +kernel,
    by unfold State.portFree; decide +kernel,
    by unfold State.portFree; decide +kernel,
    by decide +kernel⟩
theorem meets_StageAndModeCommands_5 :
    ((portsIn mPrecharge).fb F.SYS_PCH_STAT_done = false ∨ (portsIn mPrecharge).kReady = false ∨ (portsIn mPrecharge).halted = true) ∧
    ((portsIn mSync).portFree 0 (1) ∧ (∀ (n : Link), (portsIn mSync).lnk[n].cfg = []) ∧ (portsIn mSync).mode = 6 ∧
    (portsIn mSync).kReady = true ∧ (portsIn mSync).halted = false) ∧
    (((portsIn mSync).put F.ISL_KCFG_en 1).portFree 0 (1) ∧ (∀ (n : Link), ((portsIn mSync).put F.ISL_KCFG_en 1).lnk[n].cfg = []) ∧
    ((portsIn mSync).put F.ISL_KCFG_en 1).mode = 6 ∧
    (((portsIn mSync).put F.ISL_KCFG_en 1).kReady = false ∨ ((portsIn mSync).put F.ISL_KCFG_en 1).halted = true)) ∧
    ((portsIn mRide).portFree 0 (1) ∧ (∀ (n : Link), (portsIn mRide).lnk[n].cfg = []) ∧
    ((portsIn mRide).mode = 6 ∨ (portsIn mRide).mode = 7 ∨ (portsIn mRide).mode = 8) ∧ (portsIn mRide).anySwitching = false) ∧
    (switching11.portFree 0 (1) ∧ (∀ (n : Link), switching11.lnk[n].cfg = []) ∧
    (switching11.mode = 6 ∨ switching11.mode = 7 ∨ switching11.mode = 8) ∧ switching11.anySwitching = true ∧
    (∀ (k : Stage), switching11.stg[k].starting = none)) :=
  ⟨by decide +kernel,
    by unfold State.portFree; decide +kernel,
    by unfold State.portFree; decide +kernel,
    by unfold State.portFree; decide +kernel,
    by unfold State.portFree; decide +kernel⟩
theorem meets_StageAndModeCommands_6 :
    (7 ≠ ports.mode ∧
    (¬(ports.mode, 7) ∈ [(3, 0), (4, 0), (10, 0), (3, 4), (4, 3), (4, 5), (5, 6), (5, 7), (5, 4), (6, 7), (6, 4), (7, 4), (8, 4)])) := by decide +kernel
theorem meets_ProgramAndUnitCommands_1 :
    (ports.portFree 0 ((List.replicate 7 (0 : Byte)).length + 1) ∧ 7 ≤ (List.replicate 7 (0 : Byte)).length ∧
    bytesAt (List.replicate 7 (0 : Byte)) 1 2 = 0 ∧ (List.replicate 7 (0 : Byte)).length < 256 ∧ (List.replicate 7 (0 : Byte)).length = 7 ∧
    (ports.mode = mConfigure ∨ ports.mode = mStandby)) ∧
    (ports.f (if ports.activeB = true then F.PRS_PSA_erases else F.PRS_PSB_erases) < 10000 ∧
    bytesAt (List.replicate 7 (0 : Byte)) 3 4 % 4 = 0 ∧ List.drop 7 (List.replicate 7 (0 : Byte)) = [] ∧
    bytesAt (List.replicate 7 (0 : Byte)) 3 4 ≤ 262144 ∧
    (64 ≤ bytesAt (List.replicate 7 (0 : Byte)) 3 4 ∨ bytesAt (List.replicate 7 (0 : Byte)) 3 4 ≤ 60) ∧
    ports.imageOk ports.inactiveBase = false) ∧
    (ports.portFree 0 ((List.replicate 7 (0 : Byte)).length) ∧ (∀ (n : Link), ports.lnk[n].cfg = []) ∧ List.replicate 7 (0 : Byte) ≠ [] ∧
    ((List.replicate 7 (0 : Byte)).length ≠ 2 ∨ bytesAt (List.replicate 7 (0 : Byte)) 0 2 = 0) ∧
    ((List.replicate 7 (0 : Byte)).length ≠ 20 ∨ 3 < byteAt (List.replicate 7 (0 : Byte)) 0 ∨ bytesAt (List.replicate 7 (0 : Byte)) 1 3 ≠ 0)) ∧
    (erased10k.portFree 0 ((List.replicate 7 (0 : Byte)).length + 1) ∧ (erased10k.mode = mConfigure ∨ erased10k.mode = mStandby) ∧
    10000 ≤ erased10k.f (if erased10k.activeB = true then F.PRS_PSA_erases else F.PRS_PSB_erases)) ∧
    ((portsIn mRun).portFree 0 ((List.replicate 7 (0 : Byte)).length + 1) ∧
    (¬((portsIn mRun).mode = mConfigure ∨ (portsIn mRun).mode = mStandby))) :=
  ⟨by unfold State.portFree; decide +kernel,
    by decide +kernel,
    by unfold State.portFree; decide +kernel,
    by unfold State.portFree; decide +kernel,
    by unfold State.portFree; decide +kernel⟩
theorem meets_ProgramAndUnitCommands_2 :
    (ports.portFree 0 ([(0 : Byte), (0 : Byte), (0 : Byte), (1 : Byte), (0 : Byte), (0 : Byte), (0 : Byte)].length + 1) ∧
    7 ≤ [(0 : Byte), (0 : Byte), (0 : Byte), (1 : Byte), (0 : Byte), (0 : Byte), (0 : Byte)].length ∧
    bytesAt [(0 : Byte), (0 : Byte), (0 : Byte), (1 : Byte), (0 : Byte), (0 : Byte), (0 : Byte)] 1 2 = 0 ∧
    [(0 : Byte), (0 : Byte), (0 : Byte), (1 : Byte), (0 : Byte), (0 : Byte), (0 : Byte)].length < 256) ∧
    (bytesAt [(0 : Byte), (0 : Byte), (0 : Byte), (1 : Byte), (0 : Byte), (0 : Byte), (0 : Byte)] 3 4 % 4 ≠ 0 ∨ 262144 < bytesAt [(0 :
      Byte), (0 : Byte), (0 : Byte), (1 : Byte), (0 : Byte), (0 : Byte), (0 : Byte)] 3 4 + (List.drop 7 [(0 : Byte), (0 : Byte), (0 :
      Byte), (1 : Byte), (0 : Byte), (0 : Byte), (0 : Byte)]).length ∨ bytesAt [(0 : Byte), (0 : Byte), (0 : Byte), (1 : Byte), (0 : Byte),
      (0 : Byte), (0 : Byte)] 3 4 < 64 ∧
      60 < bytesAt [(0 : Byte), (0 : Byte), (0 : Byte), (1 : Byte), (0 : Byte), (0 : Byte), (0 : Byte)] 3 4 + (List.drop 7 [(0 : Byte), (0
      : Byte), (0 : Byte), (1 : Byte), (0 : Byte), (0 : Byte), (0 : Byte)]).length ∨ ∃ i, i < (List.drop 7 [(0 : Byte), (0 : Byte), (0 :
      Byte), (1 : Byte), (0 : Byte), (0 : Byte), (0 : Byte)]).length ∧
      ports.mb (ports.inactiveBase + bytesAt [(0 : Byte), (0 : Byte), (0 : Byte), (1 : Byte), (0 : Byte), (0 : Byte), (0 : Byte)] 3 4 + i)
      ≠ (255 : Byte)) ∧
    (ports.portFree 0 ([(0 : Byte), (0 : Byte), (0 : Byte), (252 : Byte), (255 : Byte), (3 : Byte), (0 : Byte), (1 : Byte), (2 : Byte), (3
      : Byte), (4 : Byte)].length + 1) ∧
    7 ≤ [(0 : Byte), (0 : Byte), (0 : Byte), (252 : Byte), (255 : Byte), (3 : Byte), (0 : Byte), (1 : Byte), (2 : Byte), (3 : Byte), (4 :
      Byte)].length ∧
    bytesAt [(0 : Byte), (0 : Byte), (0 : Byte), (252 : Byte), (255 : Byte), (3 : Byte), (0 : Byte), (1 : Byte), (2 : Byte), (3 : Byte), (4
      : Byte)] 1 2 = 0 ∧
    [(0 : Byte), (0 : Byte), (0 : Byte), (252 : Byte), (255 : Byte), (3 : Byte), (0 : Byte), (1 : Byte), (2 : Byte), (3 : Byte), (4 :
      Byte)].length < 256 ∧
    bytesAt [(0 : Byte), (0 : Byte), (0 : Byte), (252 : Byte), (255 : Byte), (3 : Byte), (0 : Byte), (1 : Byte), (2 : Byte), (3 : Byte), (4
      : Byte)] 3 4 % 4 = 0 ∧
    List.drop 7 [(0 : Byte), (0 : Byte), (0 : Byte), (252 : Byte), (255 : Byte), (3 : Byte), (0 : Byte), (1 : Byte), (2 : Byte), (3 :
      Byte), (4 : Byte)] ≠ []) ∧
    (bytesAt [(0 : Byte), (0 : Byte), (0 : Byte), (252 : Byte), (255 : Byte), (3 : Byte), (0 : Byte), (1 : Byte), (2 : Byte), (3 : Byte),
      (4 : Byte)] 3 4 + (List.drop 7 [(0 : Byte), (0 : Byte), (0 : Byte), (252 : Byte), (255 : Byte), (3 : Byte), (0 : Byte), (1 : Byte),
      (2 : Byte), (3 : Byte), (4 : Byte)]).length ≤ 262144 ∧
    (64 ≤ bytesAt [(0 : Byte), (0 : Byte), (0 : Byte), (252 : Byte), (255 : Byte), (3 : Byte), (0 : Byte), (1 : Byte), (2 : Byte), (3 :
      Byte), (4 : Byte)] 3 4 ∨ bytesAt [(0 : Byte), (0 : Byte), (0 : Byte), (252 : Byte), (255 : Byte), (3 : Byte), (0 : Byte), (1 : Byte),
      (2 : Byte), (3 : Byte), (4 : Byte)] 3 4 + (List.drop 7 [(0 : Byte), (0 : Byte), (0 : Byte), (252 : Byte), (255 : Byte), (3 : Byte),
      (0 : Byte), (1 : Byte), (2 : Byte), (3 : Byte), (4 : Byte)]).length ≤ 60) ∧
    (∀ (i : Nat), i < (List.drop 7 [(0 : Byte), (0 : Byte), (0 : Byte), (252 : Byte), (255 : Byte), (3 : Byte), (0 : Byte), (1 : Byte), (2
      : Byte), (3 : Byte), (4 : Byte)]).length → ports.mb (ports.inactiveBase + bytesAt [(0 : Byte), (0 : Byte), (0 : Byte), (252 : Byte),
      (255 : Byte), (3 : Byte), (0 : Byte), (1 : Byte), (2 : Byte), (3 : Byte), (4 : Byte)] 3 4 + i) = (255 : Byte))) ∧
    (imaged.portFree 0 ((List.replicate 7 (0 : Byte)).length + 1) ∧ (imaged.mode = mConfigure ∨ imaged.mode = mStandby) ∧
    imaged.imageOk imaged.inactiveBase = true) :=
  ⟨by unfold State.portFree; decide +kernel,
    by decide +kernel,
    by unfold State.portFree; decide +kernel,
    by decide +kernel,
    by unfold State.portFree; decide +kernel⟩
theorem meets_ProgramAndUnitCommands_3 :
    (imaged.portFree 0 ([(6 : Byte), (0 : Byte), (0 : Byte), (0 : Byte), (0 : Byte), (0 : Byte), (0 : Byte)].length + 1) ∧
    7 ≤ [(6 : Byte), (0 : Byte), (0 : Byte), (0 : Byte), (0 : Byte), (0 : Byte), (0 : Byte)].length ∧
    bytesAt [(6 : Byte), (0 : Byte), (0 : Byte), (0 : Byte), (0 : Byte), (0 : Byte), (0 : Byte)] 1 2 = 0 ∧
    [(6 : Byte), (0 : Byte), (0 : Byte), (0 : Byte), (0 : Byte), (0 : Byte), (0 : Byte)].length < 256 ∧
    [(6 : Byte), (0 : Byte), (0 : Byte), (0 : Byte), (0 : Byte), (0 : Byte), (0 : Byte)].length = 7 ∧
    byteAt [(6 : Byte), (0 : Byte), (0 : Byte), (0 : Byte), (0 : Byte), (0 : Byte), (0 : Byte)] 0 = 6) ∧
    ((6 < 6 → imaged.holder (2 * 6) = 0 ∧ imaged.holder (2 * 6 + 1) = 0) ∧ (ctxsOf (6 : Fin 7)).any imaged.ctxOn = false) ∧
    (ctxRuns.portFree 0 ([(6 : Byte), (0 : Byte), (0 : Byte), (0 : Byte), (0 : Byte), (0 : Byte), (0 : Byte)].length + 1) ∧
    (6 < 6 → ctxRuns.holder (2 * 6) = 0 ∧ ctxRuns.holder (2 * 6 + 1) = 0) ∧ (ctxsOf (6 : Fin 7)).any ctxRuns.ctxOn = true) ∧
    (ports.portFree 1 ([(5 : Byte), (0 : Byte), (0 : Byte), (0 : Byte), (0 : Byte), (0 : Byte), (0 : Byte)].length + 1) ∧
    7 ≤ [(5 : Byte), (0 : Byte), (0 : Byte), (0 : Byte), (0 : Byte), (0 : Byte), (0 : Byte)].length ∧
    bytesAt [(5 : Byte), (0 : Byte), (0 : Byte), (0 : Byte), (0 : Byte), (0 : Byte), (0 : Byte)] 1 2 = 0 ∧
    [(5 : Byte), (0 : Byte), (0 : Byte), (0 : Byte), (0 : Byte), (0 : Byte), (0 : Byte)].length < 256 ∧
    [(5 : Byte), (0 : Byte), (0 : Byte), (0 : Byte), (0 : Byte), (0 : Byte), (0 : Byte)].length = 7 ∧
    byteAt [(5 : Byte), (0 : Byte), (0 : Byte), (0 : Byte), (0 : Byte), (0 : Byte), (0 : Byte)] 0 = 5) ∧
    (5 < 6 ∧ ports.holder (2 * 5) ≠ 1) :=
  ⟨by unfold State.portFree; decide +kernel,
    by decide +kernel,
    by unfold State.portFree; decide +kernel,
    by unfold State.portFree; decide +kernel,
    by decide +kernel⟩
theorem meets_ProgramAndUnitCommands_4 :
    (ports.portFree 0 0 ∧ ([] : List Byte) = [] ∧ ports.fb F.FLT_STAT_open = false ∧ ports.fb F.FLT_STAT_locked = false ∧
    (ports.mode ≠ mFaultHold ∨ ports.f F.FLT_STAT_cls_max ≠ 2 ∨ ports.fb F.CLK_STAT_lock = false)) ∧
    (ports.portFree 3 ([(0 : Byte), (128 : Byte)].length) ∧ [(0 : Byte), (128 : Byte)] ≠ [] ∧ [(0 : Byte), (128 : Byte)].length = 2 ∧
    bytesAt [(0 : Byte), (128 : Byte)] 0 2 ≠ 0 ∧
    ([(0 : Byte), (128 : Byte)].length ≠ 20 ∨ 3 < byteAt [(0 : Byte), (128 : Byte)] 0 ∨ bytesAt [(0 : Byte), (128 : Byte)] 1 3 ≠ 0)) ∧
    ((openIn mRun).portFree 0 0 ∧ (∀ (n : Link), (openIn mRun).lnk[n].cfg = []) ∧
    ((openIn mRun).fb F.FLT_STAT_open = true ∨ (openIn mRun).fb F.FLT_STAT_locked = true) ∧ (openIn mRun).mode ≠ mFaultHold ∧
    (openIn mRun).mode ≠ mSafeStop) ∧
    ((openIn mFaultHold).portFree 0 0 ∧ (∀ (n : Link), (openIn mFaultHold).lnk[n].cfg = []) ∧
    ((openIn mFaultHold).fb F.FLT_STAT_open = true ∨ (openIn mFaultHold).fb F.FLT_STAT_locked = true) ∧
    ((openIn mFaultHold).mode = mFaultHold ∨ (openIn mFaultHold).mode = mSafeStop) ∧ (openIn mFaultHold).refLost = false ∧
    (openIn mFaultHold).fb F.CLK_STAT_ref_ok = true) ∧
    ((openIn mFaultHold).fb F.CLK_STAT_lock = true ∧ (openIn mFaultHold).f F.ISL_KSTAT_st ≠ 4) :=
  ⟨by unfold State.portFree; decide +kernel,
    by unfold State.portFree; decide +kernel,
    by unfold State.portFree; decide +kernel,
    by unfold State.portFree; decide +kernel,
    by decide +kernel⟩
theorem meets_ProgramAndUnitCommands_5 :
    (((openIn mSafeStop).put F.CLK_STAT_lock 0).portFree 0 0 ∧ (∀ (n : Link), ((openIn mSafeStop).put F.CLK_STAT_lock 0).lnk[n].cfg = []) ∧
    (((openIn mSafeStop).put F.CLK_STAT_lock 0).fb F.FLT_STAT_open = true ∨ ((openIn mSafeStop).put F.CLK_STAT_lock 0).fb F.FLT_STAT_locked = true) ∧
    (((openIn mSafeStop).put F.CLK_STAT_lock 0).mode = mFaultHold ∨ ((openIn mSafeStop).put F.CLK_STAT_lock 0).mode = mSafeStop) ∧
    (((openIn mSafeStop).put F.CLK_STAT_lock 0).refLost = true ∨ ((openIn mSafeStop).put F.CLK_STAT_lock 0).fb F.CLK_STAT_lock = false)) ∧
    ((held2 false).portFree 0 0 ∧ (∀ (n : Link), (held2 false).lnk[n].cfg = []) ∧ (held2 false).mode = mFaultHold ∧
    (held2 false).fb F.FLT_STAT_hold = true ∧ (held2 false).f F.FLT_STAT_cls_max = 2 ∧ (held2 false).fb F.CLK_STAT_lock = true) ∧
    ((held2 false).fb F.CLK_STAT_ref_ok = true ∧ 0 < (held2 false).holdMode ∧ (held2 false).holdMode < 9) ∧
    (meters.portFree 0 ([(15 : Byte)].length) ∧ (∀ (n : Link), meters.lnk[n].cfg = []) ∧ [(15 : Byte)].length = 1 ∧
    1 ≤ byteAt [(15 : Byte)] 0 ∧ byteAt [(15 : Byte)] 0 < 16 ∧
    (∀ (i : Nat), i < 4 → natBit (byteAt [(15 : Byte)] 0) i = true → meters.fb (F.MTR_CTL_en i) = true)) ∧
    (ports.portFree 0 ([(8 : Byte)].length) ∧ 3 < 4 ∧ [(8 : Byte)].length = 1 ∧ natBit (byteAt [(8 : Byte)] 0) 3 = true ∧
    ports.fb (F.MTR_CTL_en 3) = false) :=
  ⟨by unfold State.portFree; decide +kernel,
    by unfold State.portFree; decide +kernel,
    by decide +kernel,
    by unfold State.portFree; decide +kernel,
    by unfold State.portFree; decide +kernel⟩
theorem meets_ProgramAndUnitCommands_6 :
    (ports.portFree 0 (((3 : Byte) :: List.replicate 19 (0 : Byte)).length) ∧ ((3 : Byte) :: List.replicate 19 (0 : Byte)).length = 20 ∧
    byteAt ((3 : Byte) :: List.replicate 19 (0 : Byte)) 0 ≤ 3 ∧ bytesAt ((3 : Byte) :: List.replicate 19 (0 : Byte)) 1 3 = 0) := by unfold State.portFree; decide +kernel
theorem meets_PortsAndPeerLink_1 :
    (ports.portLive 0 = true ∧ frameBad [(1 : Byte), (2 : Byte), (3 : Byte), (4 : Byte)] = true ∧
    (∀ (g : Fin 2), g = 0 → (List.filter (fun a => !a.accepted) ports.host[g]).length < 4) ∧ ports.portLive (2 + 1) = true ∧
    ports.rxq[(1 : Fin 2)] = [] ∧ (∀ (g : Fin 2), g = 2 + 1 → (List.filter (fun a => !a.accepted) ports.host[g]).length < 4) ∧
    ports.host[(0 : Fin 2)] = [] ∧
    (¬(64 ≤ [(1 : Byte), (2 : Byte), (3 : Byte), (4 : Byte)].length ∧ [(1 : Byte), (2 : Byte), (3 : Byte), (4 : Byte)].length ≤ 1522 ∧
      crc32 (List.take ([(1 : Byte), (2 : Byte), (3 : Byte), (4 : Byte)].length - 4) [(1 : Byte), (2 : Byte), (3 : Byte), (4 : Byte)]) =
      BitVec.ofNat 32 (bytesAt [(1 : Byte), (2 : Byte), (3 : Byte), (4 : Byte)] ([(1 : Byte), (2 : Byte), (3 : Byte), (4 : Byte)].length - 4) 4))) ∧
    (true = true ∨ ports.rxq[(1 : Fin 2)] = []) ∧
    (ports.fb (F.PRT_NNOTE_en 1) = false ∨ ports.noteGap (1 : Fin 2) = false ∨ ∀ (j : Nat), j < 4 → ports.reg (A.SYS_EVPND (2 + 1) j) = (0 : Word)) ∧
    ports.fb F.PRT_MDIO_busy = false) ∧
    ((journaled 0).portLive 0 = true ∧ frameBad (frame 9 opPing 0 []) = false ∧
    (natBit (byteAt (frame 9 opPing 0 []) 3) 2 || !(journaled 0).fb (F.CMD_PORTSTAT_valid 0)) = false ∧
    bytesAt (frame 9 opPing 0 []) 0 2 ≠ (journaled 0).f (F.CMD_PORTSTAT_last_seq 0) ∧
    bytesAt (frame 9 opPing 0 []) 0 2 ≠ (journaled 0).nextSeq 0 ∧
    (∀ (g : Fin 2), g = 0 → (List.filter (fun a => !a.accepted) (journaled 0).host[g]).length < 4)) ∧
    ((journaled 3).portLive (2 + 1) = true ∧ (journaled 3).rxq[(1 : Fin 2)] = [] ∧
    (natBit (byteAt (frame 9 opPing 0 []) 3) 2 || !(journaled 3).fb (F.CMD_PORTSTAT_valid (2 + 1))) = false ∧
    bytesAt (frame 9 opPing 0 []) 0 2 ≠ (journaled 3).f (F.CMD_PORTSTAT_last_seq (2 + 1)) ∧
    bytesAt (frame 9 opPing 0 []) 0 2 ≠ (journaled 3).nextSeq (2 + 1) ∧
    (∀ (g : Fin 2), g = 2 + 1 → (List.filter (fun a => !a.accepted) (journaled 3).host[g]).length < 4)) ∧
    (quotaFull.portLive 0 = true ∧ frameBad (frame 9 opPing 4 []) = false ∧
    ((natBit (byteAt (frame 9 opPing 4 []) 3) 2 || !quotaFull.fb (F.CMD_PORTSTAT_valid 0)) = true ∨ bytesAt (frame 9 opPing 4 []) 0 2 ≠
      quotaFull.f (F.CMD_PORTSTAT_last_seq 0) ∧ bytesAt (frame 9 opPing 4 []) 0 2 = quotaFull.nextSeq 0) ∧
    (quotaFull.quota 0 ≤ quotaFull.inflight 0 ∨ 64 ≤ quotaFull.inflightAll) ∧
    (∀ (g : Fin 2), g = 0 → (List.filter (fun a => !a.accepted) quotaFull.host[g]).length < 4) ∧ quotaFull.portLive (2 + 1) = true ∧
    quotaFull.rxq[(1 : Fin 2)] = [] ∧
    ((natBit (byteAt (frame 9 opPing 4 []) 3) 2 || !quotaFull.fb (F.CMD_PORTSTAT_valid (2 + 1))) = true ∨ bytesAt (frame 9 opPing 4 []) 0 2
      ≠ quotaFull.f (F.CMD_PORTSTAT_last_seq (2 + 1)) ∧ bytesAt (frame 9 opPing 4 []) 0 2 = quotaFull.nextSeq (2 + 1)) ∧
    (quotaFull.quota (2 + 1) ≤ quotaFull.inflight (2 + 1) ∨ 64 ≤ quotaFull.inflightAll) ∧
    (∀ (g : Fin 2), g = 2 + 1 → (List.filter (fun a => !a.accepted) quotaFull.host[g]).length < 4) ∧
    quotaFull.host[(0 : Fin 2)] = okAnswer :: List.replicate 299 okAnswer) ∧
    ((enteredIn ports (0 : Fin 4) opPing [(7 : Byte)]).portLive 0 = true ∧ frameBad (frame 1 opPing 0 [(7 : Byte)]) = false ∧
    (natBit (byteAt (frame 1 opPing 0 [(7 : Byte)]) 3) 2 || !(enteredIn ports (0 : Fin 4) opPing [(7 : Byte)]).fb (F.CMD_PORTSTAT_valid 0)) = false ∧
    bytesAt (frame 1 opPing 0 [(7 : Byte)]) 0 2 = (enteredIn ports (0 : Fin 4) opPing [(7 : Byte)]).f (F.CMD_PORTSTAT_last_seq 0) ∧
    ports.entered (0 : Fin 4) opPing false false [(7 : Byte)] ∈ (enteredIn ports (0 : Fin 4) opPing [(7 : Byte)]).cmds ∧
    (ports.entered (0 : Fin 4) opPing false false [(7 : Byte)]).port = 0 ∧
    (ports.entered (0 : Fin 4) opPing false false [(7 : Byte)]).seq = bytesAt (frame 1 opPing 0 [(7 : Byte)]) 0 2 ∧
    (ports.entered (0 : Fin 4) opPing false false [(7 : Byte)]).jidx.isSome = true) ∧
    ((enteredIn ports (3 : Fin 4) opPing [(7 : Byte)]).portLive (2 + 1) = true ∧
    (enteredIn ports (3 : Fin 4) opPing [(7 : Byte)]).rxq[(1 : Fin 2)] = [] ∧
    (natBit (byteAt (frame 1 opPing 0 [(7 : Byte)]) 3) 2 || !(enteredIn ports (3 : Fin 4) opPing [(7 : Byte)]).fb (F.CMD_PORTSTAT_valid (2
      + 1))) = false ∧
    bytesAt (frame 1 opPing 0 [(7 : Byte)]) 0 2 = (enteredIn ports (3 : Fin 4) opPing [(7 : Byte)]).f (F.CMD_PORTSTAT_last_seq (2 + 1)) ∧
    ports.entered (3 : Fin 4) opPing false false [(7 : Byte)] ∈ (enteredIn ports (3 : Fin 4) opPing [(7 : Byte)]).cmds ∧
    (ports.entered (3 : Fin 4) opPing false false [(7 : Byte)]).port = 2 + 1 ∧
    (ports.entered (3 : Fin 4) opPing false false [(7 : Byte)]).seq = bytesAt (frame 1 opPing 0 [(7 : Byte)]) 0 2 ∧
    (ports.entered (3 : Fin 4) opPing false false [(7 : Byte)]).jidx.isSome = true) ∧
    (frameBad (frame 1 opPing 0 []) = false ∧
    (natBit (byteAt (frame 1 opPing 0 []) 3) 2 || !(journaled 0).fb (F.CMD_PORTSTAT_valid 0)) = false ∧
    bytesAt (frame 1 opPing 0 []) 0 2 = (journaled 0).f (F.CMD_PORTSTAT_last_seq 0) ∧ (journaled 0).cmds = [] ∧
    (journaled 0).reg A.UHL_NEXT = BitVec.ofNat 32 (0 + 1) ∧ 0 + 1 < 2 ^ 32 ∧ (journaled 0).jLow ≤ 0 ∧
    getBits ((journaled 0).mw (jAddr 0 + 4)) 0 16 = bytesAt (frame 1 opPing 0 []) 0 2 ∧ getBits ((journaled 0).mw (jAddr 0 + 4)) 16 3 = 0 ∧
    parAt [] 62 0 = Par.clean) ∧
    ((natBit (byteAt (frame 1 opPing 0 []) 3) 2 || !(journaled 3).fb (F.CMD_PORTSTAT_valid (2 + 1))) = false ∧
    bytesAt (frame 1 opPing 0 []) 0 2 = (journaled 3).f (F.CMD_PORTSTAT_last_seq (2 + 1)) ∧ (journaled 3).cmds = [] ∧
    (journaled 3).reg A.UHL_NEXT = BitVec.ofNat 32 (0 + 1) ∧ (journaled 3).jLow ≤ 0 ∧
    getBits ((journaled 3).mw (jAddr 0 + 4)) 0 16 = bytesAt (frame 1 opPing 0 []) 0 2 ∧
    getBits ((journaled 3).mw (jAddr 0 + 4)) 16 3 = 2 + 1) :=
  ⟨by decide +kernel,
    by decide +kernel,
    by decide +kernel,
    by decide +kernel,
    by decide +kernel,
    by decide +kernel,
    by decide +kernel,
    by decide +kernel⟩
theorem meets_PortsAndPeerLink_2 :
    (ports.portLive 1 = true ∧ frame 9 opPing 4 [(5 : Byte)] = frame (9) opPing 4 [(5 : Byte)] ∧ [(5 : Byte)].length ≤ 252 ∧
    ports.cmds = [] ∧ ports.full 1 = false ∧ ports.mode ≠ mHoldup ∧ ports.full (2 + 1) = false) ∧
    (notLive.portLive 1 = false ∧ notLive.portLive (2 + 1) = false) ∧
    (64 ≤ arpFrame.length ∧ arpFrame.length ≤ 1522 ∧
    crc32 (List.take (arpFrame.length - 4) arpFrame) = BitVec.ofNat 32 (bytesAt arpFrame (arpFrame.length - 4) 4) ∧
    ports.rxq[(1 : Fin 2)].length < 4 ∧ [(1 : Byte), (2 : Byte), (3 : Byte), (4 : Byte), (5 : Byte), (6 : Byte)].length = 6 ∧
    [(10 : Byte), (0 : Byte), (0 : Byte), (9 : Byte)].length = 4 ∧ (List.replicate 6 (0 : Byte)).length = 6 ∧
    ports.netId[(1 : Fin 2)].ip.length = 4 ∧
    arpFrame = List.replicate 6 (255 : Byte) ++ [(1 : Byte), (2 : Byte), (3 : Byte), (4 : Byte), (5 : Byte), (6 : Byte)] ++ [(8 : Byte), (6
      : Byte), (0 : Byte), (1 : Byte), (8 : Byte), (0 : Byte), (6 : Byte), (4 : Byte), (0 : Byte), (1 : Byte)] ++ [(1 : Byte), (2 : Byte),
      (3 : Byte), (4 : Byte), (5 : Byte), (6 : Byte)] ++ [(10 : Byte), (0 : Byte), (0 : Byte), (9 : Byte)] ++ List.replicate 6 (0 : Byte)
      ++ ports.netId[(1 : Fin 2)].ip ++ List.replicate 18 (0 : Byte) ++ wordBytes (crc32 (List.replicate 6 (255 : Byte) ++ [(1 : Byte), (2
      : Byte), (3 : Byte), (4 : Byte), (5 : Byte), (6 : Byte)] ++ [(8 : Byte), (6 : Byte), (0 : Byte), (1 : Byte), (8 : Byte), (0 : Byte),
      (6 : Byte), (4 : Byte), (0 : Byte), (1 : Byte)] ++ [(1 : Byte), (2 : Byte), (3 : Byte), (4 : Byte), (5 : Byte), (6 : Byte)] ++ [(10 :
      Byte), (0 : Byte), (0 : Byte), (9 : Byte)] ++ List.replicate 6 (0 : Byte) ++ ports.netId[(1 : Fin 2)].ip ++ List.replicate 18 (0 : Byte)))) ∧
    (ports.netId[(1 : Fin 2)].mac.length = 6 ∧
    ports.udpOf (1 : Fin 2) (udpPacket (frame 1 opPing 4 [])) = some (frame 1 opPing 4 [], [(10 : Byte), (0 : Byte), (0 : Byte), (9 :
      Byte), (48 : Byte), (57 : Byte)]) ∧
    frame 1 opPing 4 [] = frame 1 opPing 4 [] ∧ 1 < 65536 ∧ ([] : List Byte).length ≤ 252 ∧
    udpFrame = ports.netId[(1 : Fin 2)].mac ++ [(1 : Byte), (2 : Byte), (3 : Byte), (4 : Byte), (5 : Byte), (6 : Byte)] ++ [(8 : Byte), (0
      : Byte)] ++ udpPacket (frame 1 opPing 4 []) ++ wordBytes (crc32 (ports.netId[(1 : Fin 2)].mac ++ [(1 : Byte), (2 : Byte), (3 : Byte),
      (4 : Byte), (5 : Byte), (6 : Byte)] ++ [(8 : Byte), (0 : Byte)] ++ udpPacket (frame 1 opPing 4 []))) ∧
    64 ≤ udpFrame.length ∧ udpFrame.length ≤ 1522 ∧ ports.netId[(1 : Fin 2)].etype ≠ 2048) ∧
    (rxFull.portLive (2 + 1) = true ∧ 4 ≤ rxFull.rxq[(1 : Fin 2)].length) ∧
    (notifying.portLive (2 + 1) = true ∧ notifying.fb (F.PRT_NNOTE_en 1) = true ∧ notifying.noteGap (1 : Fin 2) = true ∧
    notifying.ports[2 + 1].src ≠ [] ∧ (∃ j : Fin 4, notifying.reg (A.SYS_EVPND (2 + 1) j) ≠ (0 : Word))) ∧
    (mdio 0).fb F.PRT_MDIO_busy = true ∧
    (mdio 1).fb F.PRT_MDIO_busy = true :=
  ⟨by decide +kernel,
    by decide +kernel,
    by decide +kernel,
    by decide +kernel,
    by decide +kernel,
    by decide +kernel,
    by decide +kernel,
    by decide +kernel⟩
theorem meets_PortsAndPeerLink_3 :
    ((peer 0).peerOn = true ∧ (peer 0).leads = true ∧ (peer 0).fb F.PRT_PSTAT_up = false ∧ (peer 0).ringWait = false ∧
    (peer 0).ringLost = false ∧ 7 + 1 = (peer 0).f F.PRT_PCFG_n ∧ ((peer 0).fb F.PRT_PCFG_relay_en = false ∨ 7 = (peer 0).f F.PRT_PCFG_pos)) ∧
    (ringWaits.peerOn = true ∧ ringWaits.leads = true ∧ ringWaits.fb F.PRT_PSTAT_up = false ∧
    (ringWaits.ringWait = true ∨ ringWaits.ringLost = true) ∧ ringWaits.ringWait = true ∧ ringWaits.f F.PRT_PCFG_n ≠ 0 ∧ 9 ≤ 9) ∧
    ((peer 7).peerOn = true ∧ ((peer 7).leads = false ∨ (peer 7).fb F.PRT_PSTAT_up = true) ∧ (peer 7).leads = false) ∧
    ((following 7).peerOn = true ∧ (following 7).leads = false ∧ (following 7).fb F.PRT_PSTAT_up = true) ∧
    ((relaying 3).peerOn = true ∧ (relaying 3).fb F.PRT_PCFG_relay_en = true ∧ 6 ≠ (relaying 3).f F.PRT_PCFG_pos ∧
    (∀ (n : Link), (relaying 3).lnkSt n ≠ lSeq ∧ (relaying 3).lnk[n].cfg = []) ∧ (relaying 3).cmds = []) ∧
    ((switches (relaying mRun) (11 : Stage)).peerOn = true ∧ (switches (relaying mRun) (11 : Stage)).fb F.PRT_PCFG_relay_en = true ∧
    6 ≠ (switches (relaying mRun) (11 : Stage)).f F.PRT_PCFG_pos ∧
    (∀ (n : Link), (switches (relaying mRun) (11 : Stage)).lnkSt n ≠ lSeq ∧ (switches (relaying mRun) (11 : Stage)).lnk[n].cfg = []) ∧
    (switches (relaying mRun) (11 : Stage)).cmds = []) :=
  ⟨by decide +kernel,
    by decide +kernel,
    by decide +kernel,
    by decide +kernel,
    by decide +kernel,
    by decide +kernel⟩
theorem meets_DebugPort_1 :
    (devarOn.mode ≠ mReset ∧ devarOn.fb F.DBG_STAT_port_en = true ∧ devarOn.fb F.DBG_STAT_blocked = false ∧
    devarOn.fb F.DBG_STAT_lockout = false ∧ devarOn.reg 720960 = devarOn.reg 720960 ∧ devarOn.fb F.DBG_STAT_unlocked = false ∧
    0 ≠ A.DBG_STAT ∧ (devarOn.ctx[(12 : Fin 13)].st ≠ CtxSt.run ∨ devarOn.bpStop (12 : Fin 13) = none)) ∧
    devarOn.reg 720960 + (1 : Word) ≠ devarOn.reg 720960 ∧
    (blocked.mode ≠ mReset ∧ blocked.fb F.DBG_STAT_port_en = true ∧
    (blocked.fb F.DBG_STAT_blocked = true ∨ blocked.fb F.DBG_STAT_lockout = true) ∧ ((0 : BitVec 4) = (0 : BitVec 4) ∨ 4 < 0)) ∧
    ((inMode mStandby).mode ≠ mReset ∧ (inMode mStandby).fb F.DBG_STAT_port_en = false) ∧
    (sess.mode ≠ mReset ∧ sess.fb F.DBG_STAT_port_en = true ∧ sess.fb F.DBG_STAT_unlocked = true ∧ 2621440 % 4 = 0 ∧
    mapped (2621440) = true ∧ 1048576 ≤ 2621440 ∧ (2621440 < 3407872 ∨ 3538944 ≤ 2621440) ∧
    sess.letsWrite 5 (A.DBG_CTL) (dbgWord (6 : Fin 7) 0 1 true) ∧ sess.anySwitching = false ∧ sess.cmds = []) ∧
    (sess.letsWrite 5 (A.DBG_CTL) (dbgWord (6 : Fin 7) 0 2 true) ∧
    sess.letsWrite 5 (A.DBG_CTL) (dbgWord (engineOf (12 : Fin 13)) (ctxBit (12 : Fin 13)) 3 false) ∧
    sess.ctx[(12 : Fin 13)].st ≠ CtxSt.halt) :=
  ⟨by decide +kernel,
    by decide +kernel,
    by decide +kernel,
    by decide +kernel,
    by unfold State.letsWrite; decide +kernel,
    by unfold State.letsWrite; decide +kernel⟩
theorem meets_DebugPort_2 :
    ((1 % 4 ≠ 0 ∨ mapped (1) = false) ∧ (sess.judge 5 [⟨1, (5 : Word)⟩]).1 ≠ rOk) ∧
    ((sess.judge 5 [⟨(BitVec.ofNat 32 A.CLK_SYNCI_CFG).toNat, (5 : Word)⟩]).1 = rOk ∧ (BitVec.ofNat 32 A.CLK_SYNCI_CFG).toNat / 65536 = 2 ∧
    (rowAt (BitVec.ofNat 32 A.CLK_SYNCI_CFG).toNat).w1c = 0 ∧ (rowAt (BitVec.ofNat 32 A.CLK_SYNCI_CFG).toNat).rs = 0 ∧
    (rowAt (BitVec.ofNat 32 A.CLK_SYNCI_CFG).toNat).rw ≠ 0) ∧
    sess.letsWrite 5 (A.DBG_CTL) (dbgWord (6 : Fin 7) 0 1 false) ∧
    (sessSw.letsWrite 5 (A.DBG_CTL) (dbgWord (6 : Fin 7) 0 1 false) ∧ sessSw.anySwitching = true ∧ false = false ∧
    (∃ e, e ∈ ctxsOf (6 : Fin 7) ∧ (sessSw.ctx[e].st = CtxSt.run ∨ sessSw.ctx[e].st = CtxSt.wait))) ∧
    ((haltedAdd CtxSt.run).letsWrite 5 (A.DBG_CTL) (dbgWord (6 : Fin 7) 0 2 true) ∧
    (haltedAdd CtxSt.run).letsWrite 5 (A.DBG_CTL) (dbgWord (engineOf 12) (ctxBit (12 : CtxId)) 3 false) ∧
    (haltedAdd CtxSt.run).ctx[(12 : CtxId)].st = CtxSt.halt ∧ (haltedAdd CtxSt.run).ctx[(12 : CtxId)].prev = CtxSt.run ∧
    (haltedAdd CtxSt.run).ctx[(12 : CtxId)].pc < pcLimit 12 ∧
    decodeFj (12 : CtxId) ((haltedAdd CtxSt.run).mw (imemAddr (12 : CtxId) (haltedAdd CtxSt.run).ctx[(12 : CtxId)].pc)) Par.clean = some
      (Instr.add (12 : CtxId) (3 : VReg) (1 : VReg) (2 : VReg))) :=
  ⟨by decide +kernel,
    by decide +kernel,
    by unfold State.letsWrite; decide +kernel,
    by unfold State.letsWrite; decide +kernel,
    by unfold State.letsWrite; decide +kernel⟩
theorem meets_DebugPort_3 :
    (haltedAdd CtxSt.wait).letsWrite 5 (A.DBG_CTL) (dbgWord (6 : Fin 7) 0 2 true) ∧
    (atBp.ctx[(12 : CtxId)].st = CtxSt.run ∧ atBp.bpStop 12 = some 0 ∧ atBp.anySwitching = false) ∧
    (atBpSw.ctx[(12 : CtxId)].st = CtxSt.run ∧ atBpSw.bpStop 12 = some 0 ∧ atBpSw.anySwitching = true) :=
  ⟨by unfold State.letsWrite; decide +kernel,
    by decide +kernel,
    by decide +kernel⟩

end Sys2Proof.Tests
end

section
/-! A write of one register by itself (R6, R368, R370): what the event it may raise leaves unchanged, what the whole
write answers for one word, and where the row REGISTER_WRITE is that write. -/

namespace Sys2Proof.Machine

/-! ### Raising an event -/

@[simp] theorem State.pendTarget_mem (s : State) (ev t : Nat) : (s.pendTarget ev t).mem = s.mem := by
  unfold State.pendTarget; split <;> rfl

@[simp] theorem State.pendTarget_ctx (s : State) (ev t : Nat) : (s.pendTarget ev t).ctx = s.ctx := by
  unfold State.pendTarget; split <;> rfl

theorem State.pendTarget_reg_ne (s : State) {ev t a : Nat} (h : home a ≠ home (A.SYS_EVPND t (ev / 32))) :
    (s.pendTarget ev t).reg a = s.reg a := by
  unfold State.pendTarget
  split
  · exact State.reg_setReg_ne _ _ h
  · rfl

@[simp] theorem State.raise_mem (s : State) (ev : Nat) : (s.raise ev).mem = s.mem := by
  simp only [State.raise, List.foldl_cons, List.foldl_nil, State.pendTarget_mem]
  split <;> rfl

@[simp] theorem State.raise_ctx (s : State) (ev : Nat) : (s.raise ev).ctx = s.ctx := by
  simp only [State.raise, List.foldl_cons, List.foldl_nil, State.pendTarget_ctx]
  split <;> rfl

/-- An event changes its pending and repeat bits alone (R77, R436). -/
theorem State.raise_reg_ne (s : State) {ev a : Nat} (hp : home a ≠ home (A.LTH_HS_EVPEND (ev / 32)))
    (hr : home a ≠ home (A.LTH_HS_EVREP (ev / 32))) (ht : ∀ t < 4, home a ≠ home (A.SYS_EVPND t (ev / 32))) :
    (s.raise ev).reg a = s.reg a := by
  simp only [State.raise, List.foldl_cons, List.foldl_nil]
  rw [State.pendTarget_reg_ne _ (ht 3 (by decide)), State.pendTarget_reg_ne _ (ht 2 (by decide)),
    State.pendTarget_reg_ne _ (ht 1 (by decide)), State.pendTarget_reg_ne _ (ht 0 (by decide))]
  split
  · exact State.reg_setReg_ne _ _ hr
  · exact State.reg_setReg_ne _ _ hp

@[simp] theorem State.src_mem (s : State) (x : Fld) (ev : Nat) : (s.src x ev).mem = s.mem := by
  unfold State.src
  split
  · rfl
  · rw [State.raise_mem]; rfl

@[simp] theorem State.src_ctx (s : State) (x : Fld) (ev : Nat) : (s.src x ev).ctx = s.ctx := by
  unfold State.src
  split
  · rfl
  · rw [State.raise_ctx]; rfl

/-- MTR_EVT.save_fail, which a save refused with ENDURANCE sets (R305), is set. -/
theorem State.mtrBlockEvt_save_fail (s : State) : (s.mtrBlockEvt 11).fb ⟨A.MTR_EVT, 11, 1⟩ = true := by
  unfold State.mtrBlockEvt State.src
  split
  case isTrue h => exact h
  case isFalse =>
    have hreg (t : State) : (t.raise 75).reg A.MTR_EVT = t.reg A.MTR_EVT :=
      t.raise_reg_ne (by decide) (by decide) (by decide)
    calc ((s.set1 ⟨A.MTR_EVT, 11, 1⟩).raise 75).fb ⟨A.MTR_EVT, 11, 1⟩
        = (s.put ⟨A.MTR_EVT, 11, 1⟩ 1).fb ⟨A.MTR_EVT, 11, 1⟩ := by
          unfold State.fb State.f; rw [hreg]; rfl
      _ = true := s.fb_put_same _ _ (by decide)

/-! ### A whole write of one word -/

/-- A write that the judgement refuses stores nothing (R370). -/
theorem State.write_of_judge_ne {s : State} {port : Nat} {cmd : Option Nat} {ws : List AW} (h : (s.judge port ws).1 ≠ rOk) :
    s.write port cmd ws = ((s.judge port ws).1, (s.judge port ws).2, s) :=
  if_pos h

/-- What is left of the state `s` where its only word answers code `q` and would leave `t` (R305, R370). -/
def State.afterWord (s : State) (q : Nat) (t : State) : State :=
  if q = rOk then t else if q = rEndurance then s.mtrBlockEvt 11 else s

/-- A write of one word that the judgement lets through is that word's act (R370). -/
theorem State.write_single {s : State} {port : Nat} {cmd : Option Nat} {a : Nat} {v : Word}
    (h : (s.judge port [⟨a, v⟩]).1 = rOk) :
    s.write port cmd [⟨a, v⟩] =
      ((s.writeWord cmd a v).1, 0, s.afterWord (s.writeWord cmd a v).1 (s.writeWord cmd a v).2) := by
  have hall : s.writeAll cmd 0 [⟨a, v⟩] = ((s.writeWord cmd a v).1, 0,
      if (s.writeWord cmd a v).1 = rOk then (s.writeWord cmd a v).2 else s) := by
    by_cases hq : (s.writeWord cmd a v).1 = rOk <;> simp [State.writeAll, hq]
  unfold State.write State.afterWord
  rw [hall]
  by_cases hq : (s.writeWord cmd a v).1 = rOk
  · simp [h, hq, show rOk ≠ rEndurance by decide]
  · by_cases he : (s.writeWord cmd a v).1 = rEndurance <;> simp [h, hq, he, show rEndurance ≠ rOk by decide]

/-! ### The direct write -/

/-- The code `r` goes to writer `p`, and one that is not OK is counted for the Devar port (R431). -/
def State.answeredTo (t : State) (p : Fin 6) (r : Nat) (v : Word) : State :=
  if r = rOk then t.emit (.access r v) else t.refusedTo p r v

theorem State.answeredTo_ok (t : State) (p : Fin 6) (v : Word) : t.answeredTo p rOk v = t.emit (.access rOk v) := if_pos rfl

theorem State.answeredTo_ne (t : State) (p : Fin 6) {r : Nat} (v : Word) (h : r ≠ rOk) : t.answeredTo p r v = t.refusedTo p r v :=
  if_neg h

theorem State.answeredTo_eq (t : State) (p : Fin 6) (r : Nat) (v : Word) :
    (if r ≠ rOk ∧ p.val = pDevar then t.bump F.DBG_CNT_refused else t).emit (.access r v) = t.answeredTo p r v := by
  have hp : p.val = pDevar ↔ p = 5 := (Fin.ext_iff (a := p) (b := 5)).symm
  unfold State.answeredTo State.refusedTo
  by_cases hr : r = rOk <;> simp [hr, hp]

theorem State.writeOut_reset {s : State} (p : Fin 6) (a : Nat) (v : Word) (hm : s.mode = mReset) : s.writeOut p a v = s :=
  if_pos hm

theorem State.writeOut_closed {s : State} {p : Fin 6} (a : Nat) (v : Word) (hm : s.mode ≠ mReset) (hc : s.accessCode p ≠ rOk) :
    s.writeOut p a v = s.refusedTo p (s.accessCode p) v := by
  rw [← State.answeredTo_ne _ _ _ hc, ← State.answeredTo_eq]
  unfold State.writeOut
  rw [if_neg hm, if_pos hc]

theorem State.writeOut_open {s : State} {p : Fin 6} (a : Nat) (v : Word) (hm : s.mode ≠ mReset) (hc : s.accessCode p = rOk) :
    s.writeOut p a v = (s.write p none [⟨a, v⟩]).2.2.answeredTo p (s.write p none [⟨a, v⟩]).1 v := by
  rw [← State.answeredTo_eq]
  unfold State.writeOut
  rw [if_neg hm, if_neg (not_not_intro hc)]

/-- A write that is let through: the word's act, its code to the writer (R6, R370). -/
theorem State.writeOut_letsWrite {s : State} {p : Fin 6} {a : Nat} {v : Word} (h : s.letsWrite p a v) :
    s.writeOut p a v = (s.afterWord (s.writeWord none a v).1 (s.writeWord none a v).2).answeredTo p (s.writeWord none a v).1 v := by
  obtain ⟨hm, hc, hj⟩ := h
  rw [State.writeOut_open a v hm hc, State.write_single hj]

/-! ### The row REGISTER_WRITE -/

/-- A word of DBG_CTL written through the Devar port is a direct write, unless it is op 3 and takes effect (R426). -/
theorem State.dbgCtl_eq_writeOut (s : State) (v : Word) (p : StepPar)
    (h : getBits v 4 2 = 3 → s.accessCode pDevar = rOk → (s.write pDevar none [⟨A.DBG_CTL, v⟩]).1 ≠ rOk) :
    s.dbgCtl v p = .next (s.writeOut pDevar A.DBG_CTL v) := by
  unfold State.dbgCtl State.writeOut State.devarWrite
  by_cases hc : s.accessCode pDevar = rOk
  · by_cases hw : (s.write pDevar none [⟨A.DBG_CTL, v⟩]).1 = rOk
    · have h3 : getBits v 4 2 ≠ 3 := fun h3 => h h3 hc hw
      simp [hc, hw, h3]
    · simp [hc, hw]
  · simp [hc]

/-- REGISTER_WRITE is the direct write, but for a word of DBG_CTL that steps a context (R6, R426). -/
theorem exec_registerWrite (s : State) (p : Fin 6) (a v : Word)
    (h : a.toNat = A.DBG_CTL → getBits v 4 2 = 3 → s.accessCode p = rOk → (s.write p none [⟨a.toNat, v⟩]).1 ≠ rOk) :
    exec (.registerWrite p a v) s = .next (s.writeOut p a.toNat v) := by
  show execRegisterWrite p a v s = _
  unfold execRegisterWrite
  split
  case isTrue hd =>
    obtain ⟨rfl, ha⟩ := hd
    rw [ha] at h ⊢
    exact s.dbgCtl_eq_writeOut v _ (h rfl)
  case isFalse => rfl

/-- The debugger's write of DBG_CTL op 3 is the row DEBUG_STEP with clean reads (R426). -/
theorem exec_registerWrite_step (s : State) (e : CtxId) :
    exec (.registerWrite 5 (BitVec.ofNat 32 A.DBG_CTL) (dbgWord (engineOf e) (ctxBit e) 3 false)) s =
      exec (.debugStep e ⟨none, .clean⟩) s := by
  have hd : (5 : Fin 6) = 5 ∧ (BitVec.ofNat 32 A.DBG_CTL).toNat = A.DBG_CTL := ⟨rfl, rfl⟩
  show execRegisterWrite _ _ _ s = execDebugStep e ⟨none, .clean⟩ s
  unfold execRegisterWrite execDebugStep
  rw [if_pos hd]

theorem exec_registerWrite_next (s : State) (p : Fin 6) (a v : Word) : ∃ t, exec (.registerWrite p a v) s = .next t := by
  show ∃ t, execRegisterWrite p a v s = .next t
  unfold execRegisterWrite
  split
  · exact ⟨_, rfl⟩
  · exact ⟨_, rfl⟩

/-- A write that is refused changes nothing but that its code goes to the writer; in RESET nothing does (R6, R24, R431). -/
theorem exec_registerWrite_refused (s : State) (p : Fin 6) (a v : Word) :
    (s.mode = mReset → exec (.registerWrite p a v) s = .next s) ∧
    (s.mode ≠ mReset → s.accessCode p ≠ rOk → exec (.registerWrite p a v) s = .next (s.refusedTo p (s.accessCode p) v)) ∧
    (s.mode ≠ mReset → s.accessCode p = rOk → (s.judge p [⟨a.toNat, v⟩]).1 ≠ rOk →
      exec (.registerWrite p a v) s = .next (s.refusedTo p (s.judge p [⟨a.toNat, v⟩]).1 v)) := by
  refine ⟨fun hm => ?_, fun hm hc => ?_, fun hm hc hj => ?_⟩
  · show execRegisterWrite p a v s = _
    unfold execRegisterWrite State.dbgCtl State.direct
    rw [if_pos hm, State.writeOut_reset _ _ _ hm, ite_self]
  · rw [exec_registerWrite s p a v fun _ _ ho => absurd ho hc, State.writeOut_closed _ _ hm hc]
  · have hw := State.write_of_judge_ne (cmd := none) hj
    rw [exec_registerWrite s p a v fun _ _ _ => by rw [hw]; exact hj, State.writeOut_open _ _ hm hc, hw,
      State.answeredTo_ne _ _ _ hj]

/-- ENDURANCE from the act itself: the code goes to the writer, save_fail is set, memory and contexts stay (R305). -/
theorem State.mtrBlockEvt_refusedTo (s : State) (p : Fin 6) (r : Nat) (v : Word) : ∃ u : State,
    (s.mtrBlockEvt 11).refusedTo p r v = u.emit (.access r v) ∧
      u.fb ⟨A.MTR_EVT, 11, 1⟩ = true ∧ u.mem = s.mem ∧ u.ctx = s.ctx := by
  have hmem : (s.mtrBlockEvt 11).mem = s.mem := State.src_mem _ _ _
  have hctx : (s.mtrBlockEvt 11).ctx = s.ctx := State.src_ctx _ _ _
  refine ⟨_, rfl, ?_⟩
  split
  · refine ⟨?_, hmem, hctx⟩
    unfold State.bump State.fb
    rw [State.f_put_ne _ _ (by decide)]
    exact s.mtrBlockEvt_save_fail
  · exact ⟨s.mtrBlockEvt_save_fail, hmem, hctx⟩

/-- A write that is let through takes effect as its word does (R6, R370). -/
theorem exec_registerWrite_letsWrite (s : State) (p : Fin 6) (a v : Word) (h : s.letsWrite p a.toNat v) :
    ∃ t, exec (.registerWrite p a v) s = .next t ∧
      ((s.writeWord none a.toNat v).1 = rOk → a.toNat ≠ A.DBG_CTL ∨ getBits v 4 2 ≠ 3 →
        t = (s.writeWord none a.toNat v).2.emit (.access rOk v)) ∧
      ((s.writeWord none a.toNat v).1 ≠ rOk → (s.writeWord none a.toNat v).1 ≠ rEndurance →
        t = s.refusedTo p (s.writeWord none a.toNat v).1 v) ∧
      ((s.writeWord none a.toNat v).1 = rEndurance → ∃ u : State, t = u.emit (.access rEndurance v) ∧
        u.fb ⟨A.MTR_EVT, 11, 1⟩ = true ∧ u.mem = s.mem ∧ u.ctx = s.ctx) := by
  obtain ⟨t, ht⟩ := exec_registerWrite_next s p a v
  have hcode : (s.write p none [⟨a.toNat, v⟩]).1 = (s.writeWord none a.toNat v).1 := by rw [State.write_single h.2.2]
  have hdirect (hs : a.toNat = A.DBG_CTL → getBits v 4 2 = 3 → (s.writeWord none a.toNat v).1 ≠ rOk) :
      t = (s.afterWord (s.writeWord none a.toNat v).1 (s.writeWord none a.toNat v).2).answeredTo p
        (s.writeWord none a.toNat v).1 v := by
    have := exec_registerWrite s p a v fun ha h3 _ => by rw [hcode]; exact hs ha h3
    rw [ht, State.writeOut_letsWrite h] at this
    exact Host.Outcome.next.inj this
  refine ⟨t, ht, fun hq hs => ?_, fun hq he => ?_, fun he => ?_⟩
  · rw [hdirect fun ha h3 => (hs.elim (absurd ha) (absurd h3)), hq, State.answeredTo_ok]
    rfl
  · rw [hdirect fun _ _ => hq, State.answeredTo_ne _ _ _ hq]
    unfold State.afterWord
    rw [if_neg hq, if_neg he]
  · have hq : (s.writeWord none a.toNat v).1 ≠ rOk := by rw [he]; decide
    rw [hdirect fun _ _ => hq, he, State.answeredTo_ne _ _ _ (by decide)]
    exact s.mtrBlockEvt_refusedTo p rEndurance v

/-! ### A word of a plain register -/

@[simp] theorem State.takeOpen_reg (s : State) (a b : Nat) : (s.takeOpen a).reg b = s.reg b := by
  unfold State.takeOpen; split <;> rfl

@[simp] theorem State.takeOpen_mem (s : State) (a : Nat) : (s.takeOpen a).mem = s.mem := by
  unfold State.takeOpen; split <;> rfl

/-- A register word but STG_REG takes the masked bits of the new value and keeps the others (R6, R7). -/
theorem State.applyWord_reg {s : State} {a : Nat} (v m : Word) (ha : a < 0x100000) (hs : regStage a = none) :
    s.applyWord a v m = s.setReg a ((s.reg a &&& ~~~m) ||| (v &&& m)) := by
  unfold State.applyWord
  rw [if_neg (by omega), hs]

/-- A word whose register has RW bits alone, with no stage boundary ahead, is applied at once (R6; assumption 37). -/
theorem State.plain_of_rw {s : State} {cmd : Option Nat} {a : Nat} (v : Word) (hw1c : (rowAt a).w1c = 0)
    (hrs : (rowAt a).rs = 0) (hrw : (rowAt a).rw ≠ 0) (hb : s.boundaryFor cmd a = none) :
    s.plain cmd a v = (s.applyWord a v (BitVec.ofNat 32 (rowAt a).rw)).takeOpen a := by
  unfold State.plain
  simp [hw1c, hrs, hrw, hb]

end Sys2Proof.Machine

open Sys2Proof Sys2Proof.Machine

/-- Settles O28, by the one equation of a direct write that is let through, and for DBG_CTL by the only case in which
REGISTER_WRITE is no direct write: the step. -/
theorem registerWrites : Obligations.RegisterWrites := by
  unfold Obligations.RegisterWrites
  refine ⟨exec_registerWrite_refused, ⟨exec_registerWrite_letsWrite, fun s e => ?_⟩, ?_⟩
  · exact exec_registerWrite_step s e
  · intro s cmd a v hw1c hrs hrw ha hb hs
    rw [State.plain_of_rw v hw1c hrs hrw hb, State.applyWord_reg v _ ha hs]
    refine ⟨?_, fun b hne => ?_, ?_⟩
    · rw [State.takeOpen_reg, State.reg_setReg_same]
    · rw [State.takeOpen_reg, State.reg_setReg_ne _ _ hne]
    · rw [State.takeOpen_mem]; rfl

end

section
/-! Values of the core instructions: saturation (R95, R97), rounding (R96), halves of products and of accumulators (R93,
R98), immediates (R99). -/

namespace Sys2Proof.Machine

/-! ### Saturation -/

/-- The word of a saturated result holds it exactly. -/
theorem sat32_toInt (v : Int) : (sat32 v).1.toInt = satInt v := by
  have hv : clampInt int32Lo int32Hi v = satInt v := by unfold clampInt satInt int32Lo int32Hi; omega
  unfold sat32
  rw [hv]
  refine BitVec.toInt_ofInt_eq_self (by decide) ?_ ?_ <;> unfold satInt <;> omega

theorem flagIf_decide_ne (v w : Int) (m : BitVec 8) : flagIf (decide (v ≠ w)) m = if v = w then 0 else m := by
  by_cases h : v = w
  · rw [if_pos h, decide_eq_false (not_not_intro h)]; rfl
  · rw [if_neg h, decide_eq_true h]; rfl

/-- The flag of a saturation is set exactly where saturation changes the value. -/
theorem flagIf_sat32 (v : Int) (m : BitVec 8) : flagIf (sat32 v).2 m = if satInt v = v then 0 else m := by
  have hs : (sat32 v).2 = decide (satInt v ≠ v) := by
    unfold sat32 satInt int32Lo int32Hi
    exact decide_eq_decide.mpr (by omega)
  rw [hs, flagIf_decide_ne]

theorem sat48_toInt (v : Int) : (sat48 v).1.toInt = satAccInt v := by
  have hv : clampInt (-140737488355328) 140737488355327 v = satAccInt v := by unfold clampInt satAccInt; omega
  unfold sat48
  rw [hv]
  refine BitVec.toInt_ofInt_eq_self (by decide) ?_ ?_ <;> unfold satAccInt <;> omega

theorem flagIf_sat48 (v : Int) (m : BitVec 8) : flagIf (sat48 v).2 m = if satAccInt v = v then 0 else m := by
  have hs : (sat48 v).2 = decide (satAccInt v ≠ v) := by
    unfold sat48 satAccInt
    exact decide_eq_decide.mpr (by omega)
  rw [hs, flagIf_decide_ne]

/-! ### Rounding -/

theorem rshRound_succ (x : Int) (n : Nat) : rshRound x (n + 1) = (x + 2 ^ n) / 2 ^ (n + 1) :=
  Int.fdiv_eq_ediv_of_nonneg _ (Int.le_of_lt (Int.pow_pos (by decide)))

/-- Adding half of the least bit before the shift, or one of the doubled value after it, rounds alike (R96). -/
theorem rshRound_eq_roundInt (x : Int) (n : Nat) : rshRound x n = roundInt x n := by
  unfold roundInt
  cases n with
  | zero =>
    show x = (2 * x + 2 ^ 0) / 2 ^ 1
    omega
  | succ n =>
    have hnum : 2 * x + 2 ^ (n + 1) = 2 * (x + 2 ^ n) := by rw [Int.pow_succ]; omega
    have hden : (2 : Int) ^ (n + 1 + 1) = 2 * 2 ^ (n + 1) := by rw [Int.pow_succ, Int.mul_comm]
    rw [rshRound_succ, hnum, hden, Int.mul_ediv_mul_of_pos _ _ (by decide)]

/-- Rounding to fewer bits never leaves the range of 32 bits, so that PSHR and PTOI do not saturate (R95). -/
theorem ofInt_roundInt_toInt (x : Word) (n : Nat) : (BitVec.ofInt 32 (roundInt x.toInt n)).toInt = roundInt x.toInt n := by
  have hlo : -2 ^ 31 ≤ x.toInt := x.le_toInt
  have hhi : x.toInt < 2 ^ 31 := x.toInt_lt
  have hp : (0 : Int) < 2 ^ n := Int.pow_pos (by decide)
  have hd : (2 : Int) ^ (n + 1) = 2 * 2 ^ n := by rw [Int.pow_succ, Int.mul_comm]
  unfold roundInt
  rw [hd]
  refine BitVec.toInt_ofInt_eq_self (by decide) ?_ ?_
  · exact (Int.le_ediv_iff_mul_le (by omega)).mpr (by omega)
  · exact (Int.ediv_lt_iff_lt_mul (by omega)).mpr (by omega)

theorem fPshr_toInt (x : Word) (n : Nat) : (fPshr x n).toInt = roundInt x.toInt n := by
  unfold fPshr
  rw [rshRound_eq_roundInt, ofInt_roundInt_toInt]

theorem fPtoi_toInt (x : Word) (n : Nat) : (fPtoi x n).toInt = roundInt x.toInt (28 - n) := fPshr_toInt x (28 - n)

/-! ### Comparisons and products -/

theorem bword_decide (p : Prop) [Decidable p] : bword (decide p) = if p then 1 else 0 := by
  unfold bword
  simp only [decide_eq_true_eq]

/-- The high half of a product of 32-bit values lies well within 32 bits (R93). -/
theorem fMulh_toInt (x y : Word) : (fMulh x y).toInt = x.toInt * y.toInt / 2 ^ 32 := by
  have hlo : -2 ^ 62 ≤ x.toInt * y.toInt := BitVec.le_toInt_mul_toInt
  have hhi : x.toInt * y.toInt ≤ 2 ^ 62 := BitVec.toInt_mul_toInt_le
  unfold fMulh
  rw [Int.fdiv_eq_ediv_of_nonneg _ (by decide)]
  refine BitVec.toInt_ofInt_eq_self (by decide) ?_ ?_ <;> omega

theorem fMin_toInt (x y : Word) : (fMin x y).toInt = min x.toInt y.toInt := by
  unfold fMin
  split <;> omega

theorem fMax_toInt (x y : Word) : (fMax x y).toInt = max x.toInt y.toInt := by
  unfold fMax
  split <;> omega

/-! ### Moves to and from an accumulator -/

/-- A pu28 value enters an accumulator shifted left by 8 bits, which is exact (R97). -/
theorem ofInt_toInt_mul_256 (x : Word) : (BitVec.ofInt 48 (x.toInt * 256)).toInt = x.toInt * 2 ^ 8 := by
  have hlo : -2 ^ 31 ≤ x.toInt := x.le_toInt
  have hhi : x.toInt < 2 ^ 31 := x.toInt_lt
  refine BitVec.toInt_ofInt_eq_self (by decide) ?_ ?_ <;> omega

theorem extractLsb'_low (c : BitVec 48) : c.extractLsb' 0 32 = BitVec.ofNat 32 c.toNat :=
  BitVec.eq_of_toNat_eq (by rw [BitVec.extractLsb'_toNat, BitVec.toNat_ofNat, Nat.shiftRight_zero])

theorem signExtend_extractLsb'_high (c : BitVec 48) : ((c.extractLsb' 32 16).signExtend 32).toInt = c.toInt / 2 ^ 32 := by
  have hc := c.isLt
  rw [BitVec.toInt_signExtend_of_le (by decide), BitVec.toInt_eq_toNat_cond, BitVec.toInt_eq_toNat_cond,
    BitVec.extractLsb'_toNat, Nat.shiftRight_eq_div_pow]
  omega

theorem append_toNat {m n : Nat} (x : BitVec m) (y : BitVec n) : (x ++ y).toNat = x.toNat * 2 ^ n + y.toNat := by
  rw [BitVec.toNat_append, ← Nat.shiftLeft_add_eq_or_of_lt y.isLt, Nat.shiftLeft_eq]

/-! ### Immediates -/

theorem append_zero_toInt (imm : BitVec 16) : (imm ++ (0 : BitVec 16) : Word).toInt = imm.toInt * 2 ^ 16 := by
  rw [BitVec.toInt_append, if_neg (by decide), BitVec.ofNat_eq_ofNat, BitVec.toNat_ofNat, Nat.zero_mod, Int.mul_comm]
  exact Int.add_zero _

theorem append_zero_toNat (imm : BitVec 16) : (imm ++ (0 : BitVec 16) : Word).toNat = imm.toNat * 2 ^ 16 := by
  rw [append_toNat, BitVec.ofNat_eq_ofNat, BitVec.toNat_ofNat, Nat.zero_mod, Nat.add_zero]

/-- An addition of a sign-extended immediate wraps (R99). -/
theorem add_signExtend (x : Word) (imm : BitVec 16) : x + imm.signExtend 32 = BitVec.ofInt 32 (x.toInt + imm.toInt) := by
  rw [BitVec.ofInt_add, BitVec.ofInt_toInt]
  rfl

theorem zeroExtend_eq_ofNat (imm : BitVec 16) : imm.zeroExtend 32 = BitVec.ofNat 32 imm.toNat := (BitVec.ofNat_toNat ..).symm

end Sys2Proof.Machine
end

section
/-! Completion of the core instructions by a context that issues: what a result in a register, a result in an accumulator,
a branch and a jump change, and what they leave unchanged (R87 to R92). -/

namespace Sys2Proof.Machine

variable {s : State} {e : CtxId} {i : Instr}

/-- Whatever an instruction makes of its own context, all else is as it was but the note of the fetch (R82, R87). -/
theorem State.onlyCtx_fetched_setCtx (s : State) (e : CtxId) (c : Ctx) : s.onlyCtx e ((s.fetched e).setCtx e c) := by
  refine ⟨fun x hx => ?_, fun a => s.fetched_mb e a, fun a ha => s.fetched_reg e ha, ?_⟩
  · rw [State.ctx_setCtx_ne _ _ hx, State.fetched_ctx_ne _ hx]
  · rw [State.fetched_eq]
    split <;> rfl

theorem Ctx.rd_wr_eq (c : Ctx) (d : VReg) (w : Word) : (c.wr d w).rd d = if d = 0 then 0 else w := by
  split
  case isTrue h => rw [h]; rfl
  case isFalse h => exact c.rd_wr_same w h

/-! ### A result in a register -/

theorem State.givesReg_of_done {d : VReg} {w : Word} {m : BitVec 8} {n : Nat} (h : s.canIssue e)
    (hi : exec i s = .next ((s.fetched e).done e d (w, m) n)) : s.givesReg e i d w m n := by
  obtain ⟨hrun, -, -⟩ := h
  have hc : ((s.fetched e).done e d (w, m) n).ctx[e] = ((s.ctx[e].noted.wr d w).flag m).step n := by
    rw [State.done_ctx, State.fetched_ctx]
  refine ⟨_, hi, ?_, fun r hr => ?_, ?_, ⟨?_, ?_, ?_, ?_⟩, s.onlyCtx_fetched_setCtx e _⟩ <;> rw [hc]
  · exact Ctx.rd_wr_eq ..
  · exact Ctx.rd_wr_ne _ w (mt List.mem_singleton.mpr hr)
  · exact Ctx.wr_acc ..
  · exact (Ctx.wr_st ..).trans hrun
  · exact congrArg (· + 1) (Ctx.wr_pc ..)
  · exact congrArg (· + n) (Ctx.wr_slots ..)
  · exact congrArg (· ||| m) (Ctx.wr_sf ..)

theorem State.givesReg_of_regOp {d : VReg} {n : Nat} {f : Ctx → Word × BitVec 8} {w : Word} {m : BitVec 8} (h : s.canIssue e)
    (hi : exec i s = .next (s.regOp e d n f)) (hf : f s.ctx[e].noted = (w, m)) : s.givesReg e i d w m n :=
  State.givesReg_of_done h (by rw [hi, State.regOp_ready h, hf])

theorem State.givesReg_of_regOp0 {d : VReg} {n : Nat} {f : Ctx → Word} {w : Word} (h : s.canIssue e)
    (hi : exec i s = .next (s.regOp0 e d n f)) (hf : f s.ctx[e].noted = w) : s.givesReg e i d w 0 n :=
  State.givesReg_of_regOp h hi (congrArg (·, 0) hf)

/-- A saturated result, whatever the instruction completes with (R3, R95). -/
theorem State.givesSat_of_done {d : VReg} {v : Int} {m : BitVec 8} {n : Nat} (h : s.canIssue e)
    (hi : exec i s = .next ((s.fetched e).done e d (satFlag v m) n)) : s.givesSat e i d v m n :=
  ⟨(sat32 v).1, sat32_toInt v, State.givesReg_of_done h (by rw [hi, ← flagIf_sat32]; rfl)⟩

theorem State.givesSat_of_regOp {d : VReg} {n : Nat} {f : Ctx → Word × BitVec 8} {v : Int} {m : BitVec 8} (h : s.canIssue e)
    (hi : exec i s = .next (s.regOp e d n f)) (hf : f s.ctx[e].noted = satFlag v m) : s.givesSat e i d v m n :=
  State.givesSat_of_done h (by rw [hi, State.regOp_ready h, hf])

/-! ### An encoding that its literal may make illegal -/

theorem State.exec_of_issueIf {ok : Bool} {d : VReg} {n : Nat} {f : Ctx → Word × BitVec 8} (h : s.canIssue e)
    (hi : exec i s = .next (s.issueIf e ok fun u => u.done e d (f u.ctx[e]) n)) (hok : ok = true) :
    exec i s = .next ((s.fetched e).done e d (f s.ctx[e].noted) n) := by
  rw [hi, hok, ← State.fetched_ctx]
  unfold State.issueIf
  rw [State.issue_ready h, if_pos rfl]

theorem State.faultsAt_of_issueIf {ok : Bool} {f : State → State} (h : s.canIssue e) (hi : exec i s = .next (s.issueIf e ok f))
    (hok : ok = false) : s.faultsAt e i 1 := by
  unfold State.faultsAt
  rw [hi, hok]
  unfold State.issueIf
  rw [State.issue_ready h, if_neg Bool.false_ne_true]

/-! ### A result in an accumulator -/

theorem State.givesAcc_of_accOp {n : BitVec 2} {f : Ctx → BitVec 48 × BitVec 8} {v : BitVec 48} {m : BitVec 8}
    (h : s.canIssue e) (hi : exec i s = .next (s.accOp e n f)) (hf : f s.ctx[e].noted = (v, m)) : s.givesAcc e i n v m := by
  rw [State.accOp_ready h, hf] at hi
  obtain ⟨hrun, -, -⟩ := h
  refine ⟨_, hi, ?_, fun k hk => ?_, fun r _ => ?_, ⟨?_, ?_, ?_, ?_⟩, s.onlyCtx_fetched_setCtx e _⟩ <;>
    rw [State.ctx_setCtx_same]
  · exact Ctx.rdAcc_wrAcc_same ..
  · exact Ctx.rdAcc_wrAcc_ne _ v hk
  · rfl
  · exact hrun
  · rfl
  · rfl
  · rfl

theorem State.givesAccSat_of_accOp {n : BitVec 2} {f : Ctx → BitVec 48 × BitVec 8} {v : Int} (h : s.canIssue e)
    (hi : exec i s = .next (s.accOp e n f)) (hf : f s.ctx[e].noted = accSat v) : s.givesAccSat e i n v :=
  ⟨(sat48 v).1, sat48_toInt v, State.givesAcc_of_accOp h hi (by rw [hf, ← flagIf_sat48]; rfl)⟩

/-! ### Branches and jumps -/

/-- The context that goes on at address `g` with the link `w` in register `d` (nothing in V0), 2 slots later (R91, R101). -/
def Ctx.goTo (c : Ctx) (d : VReg) (w : Word) (g : Nat) : Ctx := { c.wr d w with pc := g, slots := c.slots + 2 }

/-- From `s` to `t` context `e` goes on at address `g` after 2 slots with no flag, with the V registers kept but for those of the
list, and nothing else changes (R91, R100, R101). -/
def State.goesTo (s : State) (e : CtxId) (g : Nat) (l : List VReg) (t : State) : Prop :=
  t.ctx[e].pc = g ∧ t.ctx[e].st = .run ∧ t.ctx[e].slots = s.ctx[e].slots + 2 ∧ t.ctx[e].sf = s.ctx[e].sf ∧
    t.ctx[e].acc = s.ctx[e].acc ∧ s.keepsV e l t ∧ s.onlyCtx e t

/-- The state that a jump, or a branch as a jump with its link in V0, goes on with. -/
def State.goneTo (s : State) (e : CtxId) (d : VReg) (g : Nat) : State :=
  (s.fetched e).setCtx e (s.ctx[e].noted.goTo d (BitVec.ofNat 32 (s.ctx[e].pc + 1)) g)

theorem State.goneTo_rd (s : State) (e : CtxId) (d : VReg) (g : Nat) :
    (s.goneTo e d g).ctx[e].rd d = if d = 0 then 0 else BitVec.ofNat 32 (s.ctx[e].pc + 1) := by
  unfold State.goneTo
  rw [State.ctx_setCtx_same]
  exact Ctx.rd_wr_eq ..

theorem State.goneTo_goesTo (h : s.canIssue e) (d : VReg) (g : Nat) : s.goesTo e g [d] (s.goneTo e d g) := by
  obtain ⟨hrun, -, -⟩ := h
  refine ⟨?_, ?_, ?_, ?_, ?_, fun r hr => ?_, s.onlyCtx_fetched_setCtx e _⟩ <;> unfold State.goneTo <;>
    rw [State.ctx_setCtx_same]
  · rfl
  · exact (Ctx.wr_st ..).trans hrun
  · rfl
  · exact Ctx.wr_sf ..
  · exact Ctx.wr_acc ..
  · exact Ctx.rd_wr_ne _ _ (mt List.mem_singleton.mpr hr)

/-- V0 reads 0 in every state, so that keeping the others keeps all (R87). -/
theorem State.keepsV_zero {t : State} (h : s.keepsV e [0] t) : s.keepsV e [] t := fun r _ => by
  by_cases hr : r = 0
  · rw [hr]; rfl
  · exact h r (mt List.mem_singleton.mp hr)

theorem State.goneTo_goesTo_zero (h : s.canIssue e) (g : Nat) : s.goesTo e g [] (s.goneTo e 0 g) := by
  obtain ⟨hpc, hst, hslots, hsf, hacc, hv, ho⟩ := State.goneTo_goesTo h 0 g
  exact ⟨hpc, hst, hslots, hsf, hacc, State.keepsV_zero hv, ho⟩

/-- A jump that issues: a fault where the target lies outside the instruction memory, else the target (R94, R101). -/
theorem State.jump_fetched (s : State) (e : CtxId) (d : VReg) (g : Nat) :
    (s.fetched e).jump e d g = if pcLimit e ≤ g then (s.fetched e).engineFault e 2 else s.goneTo e d g := by
  unfold State.jump State.goneTo
  rw [State.fetched_ctx]
  rfl

theorem State.faultsAt_of_jump {d : VReg} {g : Nat} (hi : exec i s = .next ((s.fetched e).jump e d g)) (hg : pcLimit e ≤ g) :
    s.faultsAt e i 2 := by
  rw [State.jump_fetched, if_pos hg] at hi
  exact hi

theorem State.exec_of_jump {d : VReg} {g : Nat} (hi : exec i s = .next ((s.fetched e).jump e d g)) (hg : g < pcLimit e) :
    exec i s = .next (s.goneTo e d g) := by
  rw [hi, State.jump_fetched, if_neg (by omega)]

/-- The target of a branch of context `e` with offset `off` (R100). -/
def State.branchTarget (s : State) (e : CtxId) (off : BitVec 16) : Int := s.ctx[e].pc + 1 + off.toInt

/-- A branch that issues: a fault where it is taken to a target outside the instruction memory, else the target or the next
word (R63, R100). -/
theorem State.branch_ready (h : s.canIssue e) (d a : VReg) (off : BitVec 16) (p : Word → Word → Bool) :
    s.branch e d a off p =
      if p (s.ctx[e].rd d) (s.ctx[e].rd a) then
        if s.branchTarget e off < 0 ∨ (pcLimit e : Int) ≤ s.branchTarget e off then (s.fetched e).engineFault e 2
        else s.goneTo e 0 (s.branchTarget e off).toNat
      else s.goneTo e 0 (s.ctx[e].pc + 1) := by
  unfold State.branch
  rw [State.issue_ready h, State.fetched_ctx]
  rfl

theorem State.faultsAt_of_branch {d a : VReg} {off : BitVec 16} {p : Word → Word → Bool} (h : s.canIssue e)
    (hi : exec i s = .next (s.branch e d a off p)) (hp : p (s.ctx[e].rd d) (s.ctx[e].rd a) = true)
    (hg : ¬(0 ≤ s.branchTarget e off ∧ s.branchTarget e off < pcLimit e)) : s.faultsAt e i 2 := by
  rw [State.branch_ready h, if_pos hp, if_pos (by omega)] at hi
  exact hi

theorem State.exec_of_branch {d a : VReg} {off : BitVec 16} {p : Word → Word → Bool} {c : Bool} (h : s.canIssue e)
    (hi : exec i s = .next (s.branch e d a off p)) (hp : p (s.ctx[e].rd d) (s.ctx[e].rd a) = c)
    (hg : c = false ∨ (0 ≤ s.branchTarget e off ∧ s.branchTarget e off < pcLimit e)) :
    ∃ g : Nat, exec i s = .next (s.goneTo e 0 g) ∧ (g : Int) = if c then s.branchTarget e off else s.ctx[e].pc + 1 := by
  rw [State.branch_ready h, hp] at hi
  cases c with
  | false => exact ⟨_, hi, rfl⟩
  | true =>
    obtain ⟨hlo, hhi⟩ := hg.resolve_left nofun
    rw [if_pos rfl, if_neg (by omega)] at hi
    exact ⟨_, hi, Int.toNat_of_nonneg hlo⟩

/-! ### The rows of branches and jumps -/

/-- The six branches are one with the condition as a Boolean (R100). -/
theorem State.exec_branch_of_mem {d a : VReg} {off : BitVec 16} {c : Bool}
    (hi : (i, c) ∈ [(Instr.beq e d a off, decide (s.ctx[e].rd d = s.ctx[e].rd a)),
      (.bne e d a off, decide (s.ctx[e].rd d ≠ s.ctx[e].rd a)),
      (.blt e d a off, decide ((s.ctx[e].rd d).toInt < (s.ctx[e].rd a).toInt)),
      (.bge e d a off, decide ((s.ctx[e].rd a).toInt ≤ (s.ctx[e].rd d).toInt)),
      (.bltu e d a off, decide ((s.ctx[e].rd d).toNat < (s.ctx[e].rd a).toNat)),
      (.bgeu e d a off, decide ((s.ctx[e].rd a).toNat ≤ (s.ctx[e].rd d).toNat))]) :
    ∃ p : Word → Word → Bool, exec i s = .next (s.branch e d a off p) ∧ p (s.ctx[e].rd d) (s.ctx[e].rd a) = c := by
  simp only [List.mem_cons, List.not_mem_nil, or_false, Prod.mk.injEq] at hi
  obtain ⟨rfl, rfl⟩ | ⟨rfl, rfl⟩ | ⟨rfl, rfl⟩ | ⟨rfl, rfl⟩ | ⟨rfl, rfl⟩ | ⟨rfl, rfl⟩ := hi
  -- BNE compares with `!=`, the negation of the decision that the list names
  case inr.inl => exact ⟨_, rfl, decide_not.symm⟩
  all_goals exact ⟨_, rfl, rfl⟩

theorem State.exec_jl (h : s.canIssue e) (d : VReg) (target : BitVec 16) :
    exec (.jl e d target) s = .next ((s.fetched e).jump e d target.toNat) :=
  congrArg Host.Outcome.next (State.issue_ready h _)

/-- The target of JLR is what Va held before the instruction, also where Va is Vd (R94). -/
theorem State.exec_jlr (h : s.canIssue e) (d a : VReg) :
    exec (.jlr e d a) s = .next ((s.fetched e).jump e d (s.ctx[e].rd a).toNat) := by
  refine congrArg Host.Outcome.next ((State.issue_ready h _).trans ?_)
  rw [State.fetched_ctx]
  rfl

/-- JL and JLR are the same jump, to the literal and to what Va held (R94, R101). -/
theorem State.exec_jump_of_mem (h : s.canIssue e) {d a : VReg} {target : BitVec 16} {g : Nat}
    (hi : (i, g) ∈ [(Instr.jl e d target, target.toNat), (.jlr e d a, (s.ctx[e].rd a).toNat)]) :
    exec i s = .next ((s.fetched e).jump e d g) := by
  simp only [List.mem_cons, List.not_mem_nil, or_false, Prod.mk.injEq] at hi
  obtain ⟨rfl, rfl⟩ | ⟨rfl, rfl⟩ := hi
  · exact State.exec_jl h d target
  · exact State.exec_jlr h d a

end Sys2Proof.Machine
end

section
/-! The core instructions (R93 to R101): results, flags and slots, group by group. -/

open Sys2Proof Sys2Proof.Machine

/-- Settles O9: each row of the group is an instruction of one destination register, whose word is that of R93. -/
theorem integerResults : Obligations.IntegerResults := by
  unfold Obligations.IntegerResults
  intro s e h d a b lit x y
  refine ⟨?add, ?sub, ?adds, ?subs, ?and, ?or, ?xor, ?andn, ?shl, ?shr, ?sar, ?shli, ?shri, ?sari, ?mul, ?mulh, ?clt, ?cltu,
    ?ceq, ?min, ?max, ?sfrd⟩
  case add | sub | and | or | xor | andn | shl | shr | sar | shli | shri | sari | sfrd =>
    exact State.givesReg_of_regOp0 h rfl rfl
  case adds | subs => exact State.givesSat_of_regOp h rfl rfl
  case mul => exact State.givesReg_of_regOp h rfl (congrArg (x * y, ·) (flagIf_sat32 _ _))
  case mulh => exact ⟨fMulh x y, fMulh_toInt x y, State.givesReg_of_regOp0 h rfl rfl⟩
  case clt | cltu | ceq => exact State.givesReg_of_regOp0 h rfl (bword_decide _)
  case min => exact ⟨fMin x y, fMin_toInt x y, State.givesReg_of_regOp0 h rfl rfl⟩
  case max => exact ⟨fMax x y, fMax_toInt x y, State.givesReg_of_regOp0 h rfl rfl⟩

/-- Settles O10: the cases of R94 are those of the divisor, and JLR is the jump to what Va held. -/
theorem divisionResults : Obligations.DivisionResults := by
  unfold Obligations.DivisionResults
  intro s e h d a b x y z
  have hjump := State.exec_jlr h d a
  refine ⟨fun hy => ⟨?_, ?_⟩, fun hy => ⟨?_, ?_⟩, State.faultsAt_of_jump hjump, fun hx => ?_⟩
  · exact State.givesReg_of_regOp h rfl (if_pos hy)
  · exact State.givesReg_of_regOp h rfl (if_pos hy)
  · exact State.givesSat_of_regOp h rfl (if_neg hy)
  · exact State.givesSat_of_regOp h rfl (if_neg hy)
  · exact ⟨_, State.exec_of_jump hjump hx, (State.goneTo_goesTo h d _).1, s.goneTo_rd e d _⟩

/-- Settles O11: the exact results saturate, and those of PSHR and PTOI cannot leave the range. -/
theorem perUnitResults : Obligations.PerUnitResults := by
  unfold Obligations.PerUnitResults
  intro s e h d a b lit x y
  refine ⟨?padd, ?psub, ?pneg, ?pabs, ?pmul, ?pshl, ?pshr, fun hl => ⟨?itop, ?ptoi⟩, fun hl => ⟨?itopFault, ?ptoiFault⟩⟩
  case padd | psub | pneg | pabs | pshl => exact State.givesSat_of_regOp h rfl rfl
  case pmul =>
    exact State.givesSat_of_regOp h rfl (congrArg (satFlag · fSatMul) (rshRound_eq_roundInt (x * y) 28))
  case pshr => exact ⟨_, fPshr_toInt _ _, State.givesReg_of_regOp0 h rfl rfl⟩
  case itop =>
    exact State.givesSat_of_done h
      (State.exec_of_issueIf (f := fun k => fItop (k.rd a) lit.toNat) h rfl (decide_eq_true hl))
  case ptoi =>
    exact ⟨_, fPtoi_toInt _ _, State.givesReg_of_done h
      (State.exec_of_issueIf (f := fun k => (fPtoi (k.rd a) lit.toNat, 0)) h rfl (decide_eq_true hl))⟩
  case itopFault | ptoiFault => exact State.faultsAt_of_issueIf h rfl (decide_eq_false (by omega))

/-- Settles O12: a product enters the sum rounded as R96 states, a pu28 value exactly, and raw moves keep the bits. -/
theorem accumulatorResults : Obligations.AccumulatorResults := by
  unfold Obligations.AccumulatorResults
  intro s e h n d a b x y c
  have hprod : accProd x y = roundInt (x.toInt * y.toInt) 20 := rshRound_eq_roundInt _ _
  refine ⟨?pmac, ?pmsb, ?accld, ?accadd, ?accrd, ?accclr, ?acclo, ?acchi, ?accset⟩
  case pmac => exact State.givesAccSat_of_accOp h rfl (congrArg (accSat <| c.toInt + ·) hprod)
  case pmsb => exact State.givesAccSat_of_accOp h rfl (congrArg (accSat <| c.toInt - ·) hprod)
  case accld => exact ⟨_, ofInt_toInt_mul_256 x, State.givesAcc_of_accOp h rfl rfl⟩
  case accadd => exact State.givesAccSat_of_accOp h rfl rfl
  case accrd => exact State.givesSat_of_regOp h rfl (congrArg (satFlag · fSatAcc) (rshRound_eq_roundInt c.toInt 8))
  case accclr => exact State.givesAcc_of_accOp h rfl rfl
  case acclo => exact State.givesReg_of_regOp0 h rfl (extractLsb'_low c)
  case acchi => exact ⟨_, signExtend_extractLsb'_high c, State.givesReg_of_regOp0 h rfl rfl⟩
  case accset =>
    refine ⟨_, ?_, State.givesAcc_of_accOp h rfl rfl⟩
    exact (append_toNat (x.extractLsb' 0 16) y).trans (by rw [BitVec.extractLsb'_toNat]; rfl)

/-- Settles O13: the immediate stands in the high half, or extended in the low one. -/
theorem immediateResults : Obligations.ImmediateResults := by
  unfold Obligations.ImmediateResults
  intro s e h d a imm x
  refine ⟨?pli, ?paddi, ?addi, ?clti, ?andi, ?ori, ?xori, ?lhi⟩
  case pli => exact ⟨_, append_zero_toInt imm, State.givesReg_of_regOp0 h rfl rfl⟩
  case paddi => exact State.givesSat_of_regOp h rfl rfl
  case addi => exact ⟨_, rfl, State.givesReg_of_regOp0 h rfl (add_signExtend x imm)⟩
  case clti => exact State.givesReg_of_regOp0 h rfl (bword_decide _)
  case andi => exact State.givesReg_of_regOp0 h rfl (congrArg (x &&& ·) (zeroExtend_eq_ofNat imm))
  case ori => exact State.givesReg_of_regOp0 h rfl (congrArg (x ||| ·) (zeroExtend_eq_ofNat imm))
  case xori => exact State.givesReg_of_regOp0 h rfl (congrArg (x ^^^ ·) (zeroExtend_eq_ofNat imm))
  case lhi => exact ⟨_, append_zero_toNat imm, State.givesReg_of_regOp0 h rfl rfl⟩

/-- Settles O14: the six branches are one branch, the two jumps one jump. -/
theorem branchesAndJumps : Obligations.BranchesAndJumps := by
  unfold Obligations.BranchesAndJumps
  refine ⟨?branches, ?jumps⟩
  case branches =>
    intro s e h d a off i c x y hmem g inside
    obtain ⟨p, hi, hp⟩ := State.exec_branch_of_mem hmem
    refine ⟨fun ⟨hc, hout⟩ => State.faultsAt_of_branch h hi (hp.trans hc) hout, fun hgo => ?_⟩
    obtain ⟨n, hn, hng⟩ := State.exec_of_branch h hi hp hgo
    obtain ⟨hpc, hst, hslots, hsf, hacc, hv, ho⟩ := State.goneTo_goesTo_zero h n
    exact ⟨_, hn, by rw [hpc]; exact hng, hst, hslots, hsf, hacc, hv, ho⟩
  case jumps =>
    intro s e h d a target i g hmem
    have hi := State.exec_jump_of_mem h hmem
    refine ⟨State.faultsAt_of_jump hi, fun hg => ?_⟩
    obtain ⟨hpc, hst, hslots, hsf, hacc, hv, ho⟩ := State.goneTo_goesTo h d g
    exact ⟨_, State.exec_of_jump hi hg, hpc, hst, s.goneTo_rd e d g, hv, hslots, hsf, hacc, ho⟩

end

section
/-! Values of the transforms (R110, R111): quotients by 3 and √3, the bounds of the sine generator. -/

namespace Sys2Proof.Machine

/-- Both results of a rotation round alike (R96, R110). -/
theorem rshRound_pair (u v : Int) (n : Nat) : (rshRound u n, rshRound v n) = (roundInt u n, roundInt v n) := by
  rw [rshRound_eq_roundInt, rshRound_eq_roundInt]

/-! ### Division by 3 and by √3 -/

theorem divRound_three (x : Int) : divRound x 3 = (2 * x + 3) / 6 := Int.fdiv_eq_ediv_of_nonneg _ (by decide)

/-- Bit by bit from `r`, the search ends at the square root of `n`, where that lies less than `2 ^ (k + 1)` above `r`. -/
theorem isqrtGo_spec (n k r : Nat) (hlo : r * r ≤ n) (hhi : n < (r + 2 ^ (k + 1)) * (r + 2 ^ (k + 1))) :
    isqrtGo n k r * isqrtGo n k r ≤ n ∧ n < (isqrtGo n k r + 1) * (isqrtGo n k r + 1) := by
  induction k generalizing r with
  | zero =>
    unfold isqrtGo
    split
    case isTrue hr => exact ⟨hr, hhi⟩
    case isFalse hr => exact ⟨hlo, Nat.lt_of_not_le hr⟩
  | succ k ih =>
    unfold isqrtGo
    split
    case isTrue hr =>
      refine ih _ hr ?_
      rwa [Nat.add_assoc, ← Nat.two_mul, ← Nat.pow_succ']
    case isFalse hr => exact ih _ hlo (Nat.lt_of_not_le hr)

/-- The root that `n / √3` is rounded from: the floor of `2n / √3`. -/
def rootOfThird (n : Int) : Nat := isqrtGo (4 * n.natAbs * n.natAbs / 3) 40 0

theorem rootOfThird_spec {n : Int} (hn : n.natAbs < 2 ^ 34) :
    3 * (rootOfThird n * rootOfThird n) ≤ 4 * (n.natAbs * n.natAbs) ∧
      4 * (n.natAbs * n.natAbs) < 3 * ((rootOfThird n + 1) * (rootOfThird n + 1)) := by
  have hsq : n.natAbs * n.natAbs < 2 ^ 34 * 2 ^ 34 := Nat.mul_lt_mul'' hn hn
  obtain ⟨hlo, hhi⟩ := isqrtGo_spec (4 * n.natAbs * n.natAbs / 3) 40 0 (Nat.zero_le _) (by rw [Nat.mul_assoc]; omega)
  change rootOfThird n * rootOfThird n ≤ _ at hlo
  change _ < (rootOfThird n + 1) * (rootOfThird n + 1) at hhi
  rw [Nat.mul_assoc] at hlo hhi
  omega

/-- `n / √3` is half the root, halves upward (R96). -/
theorem overSqrt3_eq (n : Int) :
    overSqrt3 n = if 0 ≤ n then ((rootOfThird n : Int) + 1) / 2 else -(rootOfThird n : Int) / 2 := by
  have hdiv (x : Int) : Int.fdiv x 2 = x / 2 := Int.fdiv_eq_ediv_of_nonneg x (by decide)
  rw [← hdiv, ← hdiv]
  rfl

theorem natAbs_overSqrt3 (n : Int) : (overSqrt3 n).natAbs = (rootOfThird n + 1) / 2 := by
  rw [overSqrt3_eq]
  split <;> omega

/-- The β component lies within 1 LSB of the exact `n / √3`, on its side of zero (R111). -/
theorem overSqrt3_bounds {n : Int} (hn : n.natAbs < 2 ^ 34) :
    3 * ((overSqrt3 n).natAbs - 1) * ((overSqrt3 n).natAbs - 1) ≤ n.natAbs * n.natAbs ∧
      n.natAbs * n.natAbs ≤ 3 * ((overSqrt3 n).natAbs + 1) * ((overSqrt3 n).natAbs + 1) := by
  obtain ⟨hlo, hhi⟩ := rootOfThird_spec hn
  rw [natAbs_overSqrt3]
  generalize rootOfThird n = t at hlo hhi
  generalize hb : (t + 1) / 2 = b
  have hbelow : (2 * (b - 1)) * (2 * (b - 1)) ≤ t * t := Nat.mul_le_mul (by omega) (by omega)
  have habove : (t + 1) * (t + 1) ≤ (2 * (b + 1)) * (2 * (b + 1)) := Nat.mul_le_mul (by omega) (by omega)
  have hdouble (c : Nat) : 4 * (3 * c * c) = 3 * ((2 * c) * (2 * c)) := by
    rw [Nat.mul_mul_mul_comm, Nat.mul_assoc 3]
    omega
  have hdec := hdouble (b - 1)
  have hinc := hdouble (b + 1)
  omega

theorem overSqrt3_nonneg {n : Int} (hn : 0 ≤ n) : 0 ≤ overSqrt3 n := by
  rw [overSqrt3_eq, if_pos hn]
  omega

theorem overSqrt3_nonpos {n : Int} (hn : n ≤ 0) : overSqrt3 n ≤ 0 := by
  by_cases h0 : n = 0
  case pos =>
    have hroot : 3 * (rootOfThird 0 * rootOfThird 0) ≤ 0 := (rootOfThird_spec (n := 0) (by decide)).1
    have hzero : rootOfThird 0 = 0 := (Nat.mul_eq_zero.mp (Nat.le_zero.mp (by omega))).elim id id
    rw [h0, overSqrt3_eq, hzero]
    decide
  case neg =>
    rw [overSqrt3_eq, if_neg (by omega)]
    omega

/-! ### The sine generator -/

/-- Whatever the generator's error, its value is not above 1.0 pu (R111). -/
theorem genValue_natAbs_le (t err : Int) : (genValue t err).natAbs ≤ 2 ^ 28 := by
  unfold genValue clampInt
  omega

/-- The generator's error goes to 15 LSB; limiting to 1.0 pu brings no value further from one within it (R111). -/
theorem genValue_near {t : Int} (err : Int) (ht : t.natAbs ≤ 2 ^ 28) : (genValue t err - t).natAbs ≤ 15 := by
  unfold genValue clampInt
  omega

theorem sinTrue_quarter : sinTrue 0x40000000 = 2 ^ 28 := by decide
theorem sinTrue_half : sinTrue 0x80000000 = 0 := by decide

theorem sinGen_quarter : sinGen 0x40000000 = 2 ^ 28 := rfl
theorem cosGen_quarter : cosGen 0x40000000 = 0 := rfl

theorem sinGen_of_ne {th : Word} (h : th ≠ 0x40000000) : sinGen th = genValue (sinTrue th) (Config.sinErr th) := if_neg h
theorem cosGen_of_ne {th : Word} (h : th ≠ 0x40000000) :
    cosGen th = genValue (sinTrue (th + 0x40000000)) (Config.cosErr th) := if_neg h

theorem sinGen_natAbs_le (th : Word) : (sinGen th).natAbs ≤ 2 ^ 28 := by
  by_cases h : th = 0x40000000
  · rw [h]; decide
  · rw [sinGen_of_ne h]; exact genValue_natAbs_le ..

theorem cosGen_natAbs_le (th : Word) : (cosGen th).natAbs ≤ 2 ^ 28 := by
  by_cases h : th = 0x40000000
  · rw [h]; decide
  · rw [cosGen_of_ne h]; exact genValue_natAbs_le ..

theorem sinGen_near {th : Word} (ht : (sinTrue th).natAbs ≤ 2 ^ 28) : (sinGen th - sinTrue th).natAbs ≤ 15 := by
  by_cases h : th = 0x40000000
  · rw [h, sinTrue_quarter, sinGen_quarter]; decide
  · rw [sinGen_of_ne h]; exact genValue_near _ ht

theorem cosGen_near {th : Word} (ht : (sinTrue (th + 0x40000000)).natAbs ≤ 2 ^ 28) :
    (cosGen th - sinTrue (th + 0x40000000)).natAbs ≤ 15 := by
  by_cases h : th = 0x40000000
  · rw [h, cosGen_quarter, show (0x40000000 + 0x40000000 : Word) = 0x80000000 from rfl, sinTrue_half]; decide
  · rw [cosGen_of_ne h]; exact genValue_near _ ht

/-- No value of the generator needs saturation (R110). -/
theorem satInt_of_natAbs_le {v : Int} (h : v.natAbs ≤ 2 ^ 28) : satInt v = v := by
  unfold satInt
  omega

end Sys2Proof.Machine
end

section
/-! A pair of results: both registers of an even pair are written together (R108, R110). -/

namespace Sys2Proof.Machine

variable {s : State} {e : CtxId} {i : Instr} {d a : VReg}

/-- The second register of a destination pair is another one than the first, and not V0 (R108). -/
theorem pairHi_ne {d : VReg} (h : d.toNat % 2 = 0) : d + 1 ≠ 0 ∧ d + 1 ≠ d := by
  constructor <;> bv_omega

theorem Ctx.rd_wr_pair_low (c : Ctx) (w x : Word) (hd : d.toNat % 2 = 0) (h0 : d ≠ 0) : ((c.wr d w).wr (d + 1) x).rd d = w := by
  rw [Ctx.rd_wr_ne _ _ (pairHi_ne hd).2.symm, Ctx.rd_wr_same _ _ h0]

theorem State.givesPair_of_donePair {w x : Word} {m : BitVec 8} {n : Nat} (h : s.canIssue e) (hd : d.toNat % 2 = 0) (h0 : d ≠ 0)
    (hi : exec i s = .next ((s.fetched e).donePair e d w x m n)) : s.givesPair e i d w x m n := by
  obtain ⟨hrun, -, -⟩ := h
  have hc : ((s.fetched e).donePair e d w x m n).ctx[e] = (((s.ctx[e].noted.wr d w).wr (d + 1) x).flag m).step n := by
    unfold State.donePair
    rw [State.ctx_setCtx_same, State.fetched_ctx]
    rfl
  refine ⟨_, hi, ?_, ?_, fun r hr => ?_, ?_, ⟨?_, ?_, ?_, ?_⟩, s.onlyCtx_fetched_setCtx e _⟩ <;> rw [hc]
  · exact Ctx.rd_wr_pair_low _ w x hd h0
  · exact Ctx.rd_wr_same _ x (pairHi_ne hd).1
  · obtain ⟨hlow, hhigh⟩ : r ≠ d ∧ r ≠ d + 1 := by simpa using hr
    exact (Ctx.rd_wr_ne _ x hhigh).trans (Ctx.rd_wr_ne _ w hlow)
  · exact (Ctx.wr_acc ..).trans (Ctx.wr_acc ..)
  · exact ((Ctx.wr_st ..).trans (Ctx.wr_st ..)).trans hrun
  · exact congrArg (· + 1) ((Ctx.wr_pc ..).trans (Ctx.wr_pc ..))
  · exact congrArg (· + n) ((Ctx.wr_slots ..).trans (Ctx.wr_slots ..))
  · exact congrArg (· ||| m) ((Ctx.wr_sf ..).trans (Ctx.wr_sf ..))

/-- The flag of a pair is set where either result saturates. -/
theorem flagIf_sat32_or (u v : Int) (m : BitVec 8) :
    flagIf (sat32 u).2 m ||| flagIf (sat32 v).2 m = if satInt u = u ∧ satInt v = v then 0 else m := by
  rw [flagIf_sat32, flagIf_sat32]
  by_cases hu : satInt u = u <;> by_cases hv : satInt v = v <;> simp [hu, hv]

/-- A transform that issues on good pairs (R108). -/
theorem State.transform_ready {pa : Bool} (h : s.canIssue e) (hok : (dstPairOk d && (!pa || pairOk a)) = true)
    (f : Ctx → Int × Int) :
    s.transform e d a pa f = (s.fetched e).donePu e d (f s.ctx[e].noted).1 (f s.ctx[e].noted).2 := by
  unfold State.transform State.issueIf
  rw [State.issue_ready h, if_pos hok, ← State.fetched_ctx]

/-- A transform with an even source pair and a good destination pair completes with its two saturated results (R108, R110). -/
theorem State.givesPair_of_transform {pa : Bool} {f : Ctx → Int × Int} {u v : Int} (h : s.canIssue e) (hd : d.toNat % 2 = 0)
    (h0 : d ≠ 0) (ha : pa = true → a.toNat % 2 = 0) (hi : exec i s = .next (s.transform e d a pa f))
    (hf : f s.ctx[e].noted = (u, v)) :
    s.givesPair e i d (sat32 u).1 (sat32 v).1 (if satInt u = u ∧ satInt v = v then 0 else fSatMul) 4 := by
  have hok : (dstPairOk d && (!pa || pairOk a)) = true := by
    cases pa <;> simp_all [dstPairOk, pairOk]
  refine State.givesPair_of_donePair h hd h0 ?_
  rw [hi, State.transform_ready h hok, hf, ← flagIf_sat32_or]
  rfl

end Sys2Proof.Machine
end

section
/-! The transforms (R110, R111). -/

open Sys2Proof Sys2Proof.Machine

/-- Settles O16: each row is a transform of the pair's two values, and its rounding is that of R96. -/
theorem transformResults : Obligations.TransformResults := by
  unfold Obligations.TransformResults
  intro s e h d a b hd h0 ha x y th i u v hmem
  have gives {f : Ctx → Int × Int} (hi : exec i s = .next (s.transform e d a true f)) (hf : f s.ctx[e].noted = (u, v)) :
      ∃ p q : Word, p.toInt = satInt u ∧ q.toInt = satInt v ∧
        s.givesPair e i d p q (if satInt u = u ∧ satInt v = v then 0 else 0x02) 4 :=
    ⟨_, _, sat32_toInt u, sat32_toInt v, State.givesPair_of_transform h hd h0 (fun _ => ha) hi hf⟩
  simp only [List.mem_cons, List.not_mem_nil, or_false, Prod.mk.injEq] at hmem
  obtain ⟨rfl, rfl, rfl⟩ | ⟨rfl, rfl, rfl⟩ | ⟨rfl, rfl, rfl⟩ | ⟨rfl, rfl, rfl⟩ := hmem
  case inl => exact gives rfl (congrArg (·, _) (divRound_three _))
  case inr.inl => exact gives rfl rfl
  case inr.inr.inl =>
    have hq : y * cosGen th - x * sinGen th = -x * sinGen th + y * cosGen th := by
      rw [Int.neg_mul]
      omega
    have hpair := rshRound_pair (x * cosGen th + y * sinGen th) (y * cosGen th - x * sinGen th) 28
    exact gives rfl (hpair.trans (congrArg (fun w => (_, roundInt w 28)) hq))
  case inr.inr.inr => exact gives rfl (rshRound_pair _ _ 28)

/-- Settles O17: the generator's values lie well within pu28, and the rounded root of `n / √3` brackets the exact value. -/
theorem sincosAndClarkeBounds : Obligations.SincosAndClarkeBounds := by
  unfold Obligations.SincosAndClarkeBounds
  refine ⟨⟨?sincos, fun th => ⟨sinGen_natAbs_le th, cosGen_natAbs_le th⟩, fun th ht => ⟨sinGen_near ht, cosGen_near⟩,
    sinGen_quarter, cosGen_quarter, ?_, ?_, ?_, ?_, sinTrue_quarter, ?_, ?_⟩, fun n hn => ?beta⟩
  case sincos =>
    intro s e h d a hd h0
    have hs := satInt_of_natAbs_le (sinGen_natAbs_le (s.ctx[e].rd a))
    have hc := satInt_of_natAbs_le (cosGen_natAbs_le (s.ctx[e].rd a))
    refine ⟨_, _, (sat32_toInt _).trans hs, (sat32_toInt _).trans hc, ?_⟩
    have hgives := State.givesPair_of_transform (i := .sincos e d a) (a := a) (pa := false)
      (f := fun c => (sinGen (c.rd a), cosGen (c.rd a))) h hd h0 nofun rfl rfl
    rwa [Ctx.noted_rd, if_pos ⟨hs, hc⟩] at hgives
  case beta =>
    obtain ⟨hlo, hhi⟩ := overSqrt3_bounds hn
    exact ⟨hlo, hhi, overSqrt3_nonneg, overSqrt3_nonpos⟩
  all_goals decide

end

section
/-! Reads of devices (R119 to R121). -/

namespace Sys2Proof.Machine

variable {s : State} {e : CtxId} {i : Instr} {d : VReg}

/-- A device read gives the word that the state holds as the instruction issues, in 2 slots (R119). -/
theorem State.givesReg_of_devRead {f : State → Word} (h : s.canIssue e) (hi : exec i s = .next (s.devRead e d f)) :
    s.givesReg e i d (f (s.fetched e)) 0 2 :=
  State.givesReg_of_done h (hi.trans (congrArg Host.Outcome.next (State.issue_ready h _)))

/-- GRID on a Lathe gives the snapshot that the stage event took, which the fetch does not touch (R120). -/
theorem State.gridRead_fetched (s : State) (e : CtxId) (g : Fin 4) (q : Fin 11) :
    (s.fetched e).gridRead e g q = if e.val < 12 then s.ctx[e].snap[g][q]
      else (s.fetched e).gridVal g ((s.fetched e).reg (A.GRD_THETA g)).toNat q := by
  unfold State.gridRead
  rw [State.fetched_ctx]
  rfl

theorem State.exec_grid (h : s.canIssue e) (g : Fin 4) (q : BitVec 6) :
    exec (.grid e d g q) s = .next (if h : q.toNat < 11 then (s.fetched e).done e d ((s.fetched e).gridRead e g ⟨q.toNat, h⟩, 0) 2
      else (s.fetched e).engineFault e 1) :=
  congrArg Host.Outcome.next (State.issue_ready h _)

theorem State.exec_mtr (s : State) (e : CtxId) (d : VReg) (m : Fin 4) (q : BitVec 6) :
    exec (.mtr e d m q) s = .next (s.issueIf e (decide (q.toNat < 11)) fun u => u.done e d (u.mtrRead m q.toNat, 0) 2) := rfl

end Sys2Proof.Machine

open Sys2Proof Sys2Proof.Machine

/-- Settles O21: each is a device read; of GRID and MTR the quantity decides whether the encoding is legal. -/
theorem deviceReads : Obligations.DeviceReads := by
  unfold Obligations.DeviceReads
  intro s e h d x sel g q u
  have hgrid := State.exec_grid (d := d) h g q
  refine ⟨?avg, ?smpRaw, ?smp, fun hq => ?grid, fun hq => ?mtr, fun hq => ⟨?gridFault, ?mtrFault⟩⟩
  case avg => exact State.givesReg_of_devRead (f := (·.avgRead x sel)) h rfl
  case smpRaw => exact State.givesReg_of_devRead (f := fun u => BitVec.ofNat 32 (u.f (F.ADC_RES_code x))) h rfl
  case smp => exact State.givesReg_of_devRead (f := fun u => u.scale x (u.f (F.ADC_RES_code x))) h rfl
  case grid =>
    rw [dif_pos hq, State.gridRead_fetched] at hgrid
    exact State.givesReg_of_done h hgrid
  case mtr =>
    refine State.givesReg_of_done h ((State.exec_mtr s e d g q).trans ?_)
    unfold State.issueIf
    rw [State.issue_ready h, if_pos (decide_eq_true hq)]
  case gridFault =>
    rw [dif_neg (by omega)] at hgrid
    exact hgrid
  case mtrFault => exact State.faultsAt_of_issueIf h (State.exec_mtr s e d g q) (decide_eq_false (by omega))

end

section
/-! What PLAN and PLANC do to the plan being built, and the instants that PLAN takes (R122, R123). -/

namespace Sys2Proof.Machine

/-! ### The instants -/

theorem clampInt_zero_mem {lim : Int} (h : 0 ≤ lim) (x : Int) : 0 ≤ clampInt 0 lim x ∧ clampInt 0 lim x ≤ lim := by
  unfold clampInt
  omega

/-- A part of the period that is at most 1.0 pu is at most the period, also rounded (R96, R123). -/
theorem rshRound_share_le {x : Int} {pt : Nat} (hx : x ≤ 2 ^ 28) : rshRound (x * pt) 28 ≤ pt := by
  have hshare : x * pt ≤ 2 ^ 28 * pt := Int.mul_le_mul_of_nonneg_right hx (Int.natCast_nonneg pt)
  rw [rshRound_succ]
  omega

/-- The whole period is 1.0 pu of it (R123). -/
theorem rshRound_whole (pt : Nat) : rshRound (2 ^ 28 * pt) 28 = pt := by
  rw [rshRound_succ]
  omega

theorem planInstant_le (frac : Bool) (pt : Nat) (w : Word) : (planInstant frac pt w).1 ≤ pt := by
  cases frac with
  | false =>
    have := clampInt_zero_mem (Int.natCast_nonneg pt) w.toInt
    exact Int.toNat_le.mpr this.2
  | true =>
    have := clampInt_zero_mem (lim := 2 ^ 28) (by decide) w.toInt
    exact Int.toNat_le.mpr (rshRound_share_le this.2)

theorem planInstant_one (pt : Nat) : planInstant true pt 0x10000000 = (pt, false) := by
  have hx : clampInt 0 268435456 (0x10000000 : Word).toInt = 2 ^ 28 := by decide
  have hl : decide ((0x10000000 : Word).toInt < 0 ∨ 268435456 < (0x10000000 : Word).toInt) = false := by decide
  unfold planInstant
  simp only [if_true, hx, hl, rshRound_whole, Int.toNat_natCast]

theorem planInstant_limited (frac : Bool) (pt : Nat) (w : Word) :
    (planInstant frac pt w).2 = true ↔ w.toInt < 0 ∨ (if frac then 2 ^ 28 else (pt : Int)) < w.toInt := decide_eq_true_iff

theorem flagIf_or (b c : Bool) (m : BitVec 8) : flagIf (b || c) m = if b = true ∨ c = true then m else 0 := by
  simp only [flagIf, Bool.or_eq_true]

/-! ### The switch's owner -/

/-- A register outside the persistent bank and the serial number's words is its own home (R6, R441). -/
theorem home_eq_self {a : Nat} (hlo : 0x10 ≤ a) (hhi : a < 0xB0400) : home a = a := by
  unfold home
  repeat rw [if_neg (by omega)]

/-- The fetch notes its address in LTH_PC, no register that maps switches to stages (R82, R171). -/
theorem State.fetched_owns (s : State) (e : CtxId) (k : Stage) {sw : Nat} (h : sw < 96) : (s.fetched e).owns k sw = s.owns k sw := by
  have hmap : home (A.STG_MAP k (sw / 32)) ≠ home (A.LTH_PC (e.val / 2) (e.val % 2)) := by
    unfold A.STG_MAP A.LTH_PC
    rw [home_eq_self, home_eq_self] <;> omega
  unfold State.owns
  rw [State.fetched_reg s e (.inl hmap)]

/-! ### The pending plan -/

variable {s : State} {e : CtxId} {k : Stage} {sw : BitVec 7}

@[simp] theorem State.stg_setStg_same (s : State) (k : Stage) (g : Stg) : (s.setStg k g).stg[k] = g := by
  simp [State.setStg]

/-- A context that goes on with flags `m` after `n` slots, whatever else its instruction changed. -/
theorem State.wentOn_setCtx (h : s.canIssue e) (u : State) (m : BitVec 8) (n : Nat) :
    s.wentOn e m n (u.setCtx e ((s.ctx[e].noted.flag m).step n)) := by
  unfold State.wentOn
  rw [State.ctx_setCtx_same]
  exact ⟨h.1, rfl, rfl, rfl⟩

theorem State.keepsV_setCtx (s u : State) (e : CtxId) (m : BitVec 8) (n : Nat) :
    s.keepsV e [] (u.setCtx e ((s.ctx[e].noted.flag m).step n)) := fun r _ => by
  rw [State.ctx_setCtx_same]
  rfl

/-- The state in which an instruction of context `e` that has made `p` of its stage's pending plan goes on with flags `m` (R122). -/
def State.planned (s : State) (e : CtxId) (k : Stage) (p : Plan) (m : BitVec 8) : State :=
  ((s.fetched e).setStg k { (s.fetched e).stg[k] with pend := p }).setCtx e ((s.ctx[e].noted.flag m).step 2)

theorem State.planned_stg (s : State) (e : CtxId) (k : Stage) (p : Plan) (m : BitVec 8) :
    (s.planned e k p m).stg[k] = { s.stg[k] with pend := p } := by
  rw [← State.fetched_stg s e]
  exact State.stg_setStg_same ..

theorem State.planned_mem (s : State) (e : CtxId) (k : Stage) (p : Plan) (m : BitVec 8) : (s.planned e k p m).mem = s.mem :=
  s.fetched_mem e

theorem State.planned_wentOn (h : s.canIssue e) (k : Stage) (p : Plan) (m : BitVec 8) : s.wentOn e m 2 (s.planned e k p m) :=
  State.wentOn_setCtx h ..

theorem State.planned_keepsV (s : State) (e : CtxId) (k : Stage) (p : Plan) (m : BitVec 8) : s.keepsV e [] (s.planned e k p m) :=
  s.keepsV_setCtx _ e m 2

/-- The state in which an instruction of context `e` that has changed nothing goes on. -/
def State.discarded (s : State) (e : CtxId) : State := (s.fetched e).setCtx e ((s.ctx[e].noted.flag 0).step 2)

theorem State.discarded_stg (s : State) (e : CtxId) : (s.discarded e).stg = s.stg := s.fetched_stg e
theorem State.discarded_mem (s : State) (e : CtxId) : (s.discarded e).mem = s.mem := s.fetched_mem e
theorem State.discarded_wentOn (h : s.canIssue e) : s.wentOn e 0 2 (s.discarded e) := State.wentOn_setCtx h ..
theorem State.discarded_keepsV (s : State) (e : CtxId) : s.keepsV e [] (s.discarded e) := s.keepsV_setCtx _ e 0 2

/-- A PLAN that issues on a Lathe writes its slot, or is discarded where its stage does not own the switch (R122, R123). -/
theorem State.planSlot_ready (h : s.canIssue e) (hk : stageOf e = some k) (hsw : sw.toNat < 96) (d a : VReg) (p : BitVec 2)
    (frac : Bool) :
    s.planSlot e d a sw p frac =
      let x := planInstant frac ((s.fetched e).planPeriod k) (s.ctx[e].rd d)
      let y := planInstant frac ((s.fetched e).planPeriod k) (s.ctx[e].rd a)
      if s.owns k sw.toNat then
        s.planned e k (setSlot s.stg[k].pend (4 * sw.toNat + p.toNat) x.1 y.1) (flagIf (x.2 || y.2) fSatAdd)
      else s.discarded e := by
  have hrd (r : VReg) : (s.fetched e).ctx[e].rd r = s.ctx[e].rd r := congrArg (·.rd r) (s.fetched_ctx e)
  unfold State.planSlot State.planned State.discarded
  rw [State.issue_ready h, hk, ← State.fetched_owns s e k hsw, ← State.fetched_stg s e, Ctx.flag_zero, ← State.fetched_ctx,
    ← hrd d, ← hrd a]
  exact if_neg (by omega)

theorem State.exec_planc_ready (h : s.canIssue e) (hk : stageOf e = some k) (hsw : sw.toNat < 96) :
    exec (.planc e sw) s = .next (if s.owns k sw.toNat then
        s.planned e k (s.stg[k].pend.filter fun x => x.1 / 4 != sw.toNat) 0
      else s.discarded e) := by
  refine congrArg Host.Outcome.next ((State.issue_ready h _).trans ?_)
  unfold State.planned State.discarded
  rw [hk, ← State.fetched_owns s e k hsw, ← State.fetched_stg s e, Ctx.flag_zero, ← State.fetched_ctx]
  refine (if_neg (by omega)).trans ?_
  split <;> rfl

end Sys2Proof.Machine

open Sys2Proof Sys2Proof.Machine

/-- Settles O22: by the owner of the switch, and for the instants by the limits 0 and 1.0 pu or the period. -/
theorem planInstructions : Obligations.PlanInstructions := by
  unfold Obligations.PlanInstructions
  refine ⟨?slots, fun frac pt w => ⟨planInstant_le frac pt w, planInstant_one pt, planInstant_limited frac pt w⟩⟩
  intro s e h k hk d a sw p hsw pt slot
  have hslot (frac : Bool) (i : Instr) (hi : exec i s = .next (s.planSlot e d a sw p frac)) : slot (planInstant frac) i := by
    rw [State.planSlot_ready h hk hsw] at hi
    by_cases ho : s.owns k sw.toNat = true
    case pos =>
      rw [if_pos ho] at hi
      refine ⟨_, hi, s.planned_keepsV e k _ _, s.planned_mem .., fun _ => ⟨?_, ?_, ?_⟩, fun hn => absurd (ho.symm.trans hn) nofun⟩
      · rw [flagIf_or]
        exact State.planned_wentOn h ..
      · rw [State.planned_stg]
      · rw [State.planned_stg]
    case neg =>
      rw [if_neg ho] at hi
      exact ⟨_, hi, s.discarded_keepsV e, s.discarded_mem e, fun hy => absurd hy ho,
        fun _ => ⟨State.discarded_wentOn h, s.discarded_stg e⟩⟩
  refine ⟨hslot false _ rfl, hslot true _ rfl, ?planc⟩
  have hi := State.exec_planc_ready h hk hsw
  by_cases ho : s.owns k sw.toNat = true
  case pos =>
    rw [if_pos ho] at hi
    refine ⟨_, hi, s.planned_keepsV e k _ _, State.planned_wentOn h .., s.planned_mem .., fun _ => ?_,
      fun hn => absurd (ho.symm.trans hn) nofun⟩
    rw [State.planned_stg]
    exact ⟨rfl, rfl⟩
  case neg =>
    rw [if_neg ho] at hi
    exact ⟨_, hi, s.discarded_keepsV e, State.discarded_wentOn h, s.discarded_mem e, fun hy => absurd hy ho,
      fun _ => s.discarded_stg e⟩

end

section
/-! BRK where a configuration word that waits on a link stores into the debug unit's own register (R131, R196, R424). -/

namespace Sys2Proof.Machine

/-- Outcome `r` is a next state with `p`. -/
def nextHas (r : Res) (p : State → Bool) : Bool := match r with
  | .next t => p t
  | _ => false

theorem nextHas_next (t : State) (p : State → Bool) : nextHas (.next t) p = p t := rfl

/-- A configuration word whose value is stored in DBG_ESTAT of Lathe 0 when its link parts. Only a write of a GL register stages
such words, with that register's address; the type of a link's state admits any address. -/
def strayWord : CfgWord := ⟨0, 0, 0, none, false, true, some (A.DBG_ESTAT 0, 0, 0xFFFFFFFF)⟩

/-- In RUN stage 0 switches and its link is in EN; a debug session is unlocked, with software breakpoints on for Lathe 0; context
0 runs; the stray word waits on link 0. -/
def strayWordWaits : State :=
  let s := ((((State.reset.put F.SYS_MODE_mode mRun).put (F.STG_STAT_st 0) stSwitching).put (F.GL_STAT_st 0) lEn).put
    (F.DBG_ECFG_sw_en 0) 1).put F.DBG_STAT_unlocked 1
  (s.setCtx 0 { s.ctx[(0 : CtxId)] with st := .run }).setLnk 0 { s.lnk[(0 : Link)] with cfg := [strayWord] }

theorem strayWordWaits_canIssue : strayWordWaits.canIssue 0 := by
  unfold State.canIssue
  decide +kernel

theorem strayWordWaits_breaks :
    (strayWordWaits.fb (F.DBG_ECFG_sw_en (engineOf 0)) && strayWordWaits.fb F.DBG_STAT_unlocked) = true := by decide +kernel

/-- The halt reports class A, the links part, and the word's value goes over the code that BRK has just stored (R21, R357). -/
theorem brk_strayWordWaits : nextHas (exec (.brk 0 1) strayWordWaits) (fun t => t.f (F.DBG_ESTAT_brk 0) == 0) = true := by
  decide +kernel

end Sys2Proof.Machine

open Sys2Proof Sys2Proof.Machine

/-- Refutes O25 in its last clause: a state whose link holds a configuration word for DBG_ESTAT loses the code of a BRK that
halts while a stage switches. The statement asks nothing of the links' words. -/
theorem not_eventFlagAndBreak : ¬ Obligations.EventFlagAndBreak := by
  unfold Obligations.EventFlagAndBreak
  intro ⟨_, hbrk⟩
  obtain ⟨-, hhalts⟩ := hbrk strayWordWaits 0 1 strayWordWaits_canIssue
  obtain ⟨t, ht, -, -, -, -, -, hcode, -⟩ := hhalts strayWordWaits_breaks
  have hlost := brk_strayWordWaits
  rw [ht, nextHas_next] at hlost
  exact absurd (hcode.symm.trans (eq_of_beq hlost)) (by decide)

end

section
/-! What a comparator's decision shows, and its trip (R157 to R165). -/

namespace Sys2Proof.Machine

/-! ### Fields that a write or an event leaves unchanged -/

/-- The two fields have no bit in common. -/
def Fld.Apart (x y : Fld) : Prop := x.addr ≠ y.addr ∨ x.lo + x.wd ≤ y.lo ∨ y.lo + y.wd ≤ x.lo

theorem Fld.Apart.symm {x y : Fld} (h : x.Apart y) : y.Apart x := by
  unfold Fld.Apart at *
  omega

/-- The field's register lies below the persistent bank and above the serial number's words, so it is its own home. -/
def Fld.Homed (x : Fld) : Prop := 0x10 ≤ x.addr ∧ x.addr < 0xB0400

/-- The field lies in the blocks of the comparators and stages, where no event keeps its pending bits. -/
def Fld.InSchedule (x : Fld) : Prop := 0x38000 ≤ x.addr ∧ x.addr < 0x60000

theorem Fld.InSchedule.homed {x : Fld} (h : x.InSchedule) : x.Homed := by
  unfold Fld.InSchedule at h
  unfold Fld.Homed
  omega

theorem Fld.Homed.home_eq {x : Fld} (h : x.Homed) : home x.addr = x.addr := home_eq_self h.1 h.2

variable {x y : Fld}

theorem State.f_put_apart (s : State) (v : Nat) (hx : x.Homed) (hy : y.Homed) (h : y.Apart x) : (s.put x v).f y = s.f y := by
  by_cases ha : y.addr = x.addr
  · exact s.f_put_disjoint v ha (h.resolve_left (not_not_intro ha))
  · exact s.f_put_ne v (by rwa [hx.home_eq, hy.home_eq])

theorem State.fb_congr {s t : State} (h : s.f x = t.f x) : s.fb x = t.fb x := congrArg (· != 0) h

theorem satInc_lt (wd n : Nat) : satInc wd n < 2 ^ wd := by
  have := Nat.two_pow_pos wd
  unfold satInc
  split <;> omega

theorem State.f_bump_same (s : State) (h : x.lo + x.wd ≤ 32) : (s.bump x).f x = satInc x.wd (s.f x) := by
  unfold State.bump
  rw [State.f_put_same _ _ _ h, Nat.mod_eq_of_lt (satInc_lt _ _)]

theorem State.fb_putB_same (s : State) (b : Bool) (h : x.lo + 1 ≤ 32) (hw : x.wd = 1) : (s.putB x b).fb x = b := by
  unfold State.putB
  rw [State.fb_put_same _ _ _ (by omega), hw]
  cases b <;> rfl

@[simp] theorem State.pendTarget_etime (s : State) (ev t : Nat) : (s.pendTarget ev t).etime = s.etime := by
  unfold State.pendTarget; split <;> rfl

@[simp] theorem State.raise_etime (s : State) (ev : Nat) : (s.raise ev).etime = s.etime := by
  simp only [State.raise, List.foldl_cons, List.foldl_nil, State.pendTarget_etime]
  split <;> rfl

@[simp] theorem State.src_etime (s : State) (x : Fld) (ev : Nat) : (s.src x ev).etime = s.etime := by
  unfold State.src
  split
  · rfl
  · rw [State.raise_etime]; rfl

/-- The pending bits of the 128 events lie outside the blocks of the comparators and stages (R77, R436, R439). -/
theorem State.raise_f (s : State) {ev : Nat} (hev : ev < 128) (hy : y.InSchedule) : (s.raise ev).f y = s.f y := by
  have hhome := hy.homed.home_eq
  obtain ⟨hlo, hhi⟩ := hy
  unfold State.f
  rw [State.raise_reg_ne]
  · unfold A.LTH_HS_EVPEND; rw [hhome, home_eq_self] <;> omega
  · unfold A.LTH_HS_EVREP; rw [hhome, home_eq_self] <;> omega
  · intro t ht
    unfold A.SYS_EVPND; rw [hhome, home_eq_self] <;> omega

theorem State.src_f_apart (s : State) {ev : Nat} (hev : ev < 128) (hx : x.Homed) (hy : y.InSchedule) (h : y.Apart x) :
    (s.src x ev).f y = s.f y := by
  unfold State.src
  split
  · rfl
  · rw [State.raise_f _ hev hy]
    exact s.f_put_apart 1 hx hy.homed h

/-! ### What a decision shows -/

/-- Bit `c` of CMP_LIVE and of CMP_EVT (R165). -/
def liveBit (c : Fin 24) : Fld := ⟨A.CMP_LIVE, c.val, 1⟩
def evtBit (c : Fin 24) : Fld := ⟨A.CMP_EVT, c.val, 1⟩

/-- A field of the comparators and stages outside the registers that a decision of comparator c stores. -/
def Fld.Beside (x : Fld) (c : Fin 24) : Prop :=
  x.InSchedule ∧ x.addr ≠ A.CMP_STAT c ∧ x.addr ≠ A.CMP_LIVE ∧ x.addr ≠ A.CMP_EVT

variable {c : Fin 24}

theorem cmpStat_inSchedule (c : Fin 24) (lo wd : Nat) : (⟨A.CMP_STAT c, lo, wd⟩ : Fld).InSchedule := by
  simp only [Fld.InSchedule, A.CMP_STAT]
  omega

theorem cmpStat_homed (c : Fin 24) (lo wd : Nat) : (⟨A.CMP_STAT c, lo, wd⟩ : Fld).Homed := (cmpStat_inSchedule c lo wd).homed

theorem cmpStat_apart {lo wd lo' wd' : Nat} (h : lo + wd ≤ lo' ∨ lo' + wd' ≤ lo) :
    (⟨A.CMP_STAT c, lo, wd⟩ : Fld).Apart ⟨A.CMP_STAT c, lo', wd'⟩ := .inr h

theorem cmpStat_apart_live (c : Fin 24) (lo wd : Nat) : (⟨A.CMP_STAT c, lo, wd⟩ : Fld).Apart (liveBit c) := by
  simp only [Fld.Apart, liveBit, A.CMP_STAT, A.CMP_LIVE]
  omega

theorem cmpStat_apart_evt (c : Fin 24) (lo wd : Nat) : (⟨A.CMP_STAT c, lo, wd⟩ : Fld).Apart (evtBit c) := by
  simp only [Fld.Apart, evtBit, A.CMP_STAT, A.CMP_EVT]
  omega

theorem liveBit_homed (c : Fin 24) : (liveBit c).Homed := by
  simp only [Fld.Homed, liveBit, A.CMP_LIVE]
  omega

theorem evtBit_homed (c : Fin 24) : (evtBit c).Homed := by
  simp only [Fld.Homed, evtBit, A.CMP_EVT]
  omega

/-- Setting bit `c` of CMP_EVT raises one of the events 36 to 59 (R165). -/
theorem State.src_evtBit_f (s : State) (hy : y.InSchedule) (h : y.Apart (evtBit c)) :
    (s.src (evtBit c) (36 + c.val)).f y = s.f y := s.src_f_apart (by omega) (evtBit_homed c) hy h

/-- Comparator c's decision on level `lvl` in the tick that begins at `t` is out of window (R158). -/
def State.cmpOut (s : State) (c : Fin 24) (t lvl : Nat) : Bool :=
  s.cmpHigh c (s.thrAt c t) lvl || s.cmpLow c (s.thrAt c t) lvl

/-- The state that shows and keeps decision `out` of comparator c in the tick that begins at `t`. -/
def State.cmpShown (s : State) (c : Fin 24) (t : Nat) (out : Bool) : State :=
  let s1 := ((s.toInstant t).putB (F.CMP_STAT_out c) out).putB (liveBit c) out
  { s1 with cmpDec := s1.cmpDec.set c ((t, out) :: s1.cmpDec[c].take 7) }

/-- That state with the comparator shown as armed from 2 µs after its first tick (R163). -/
def State.cmpDecided (s : State) (c : Fin 24) (t : Nat) (out : Bool) : State :=
  if s.cmpFrom[c] + 16000 ≤ t then (s.cmpShown c t out).put (F.CMP_STAT_armed c) 1 else s.cmpShown c t out

theorem exec_comparatorDecision_idle {s : State} {t : Nat} (lvl : Nat) (h : s.ticks c t = false) :
    exec (.comparatorDecision c t lvl) s = .next s := by
  show execComparatorDecision c t lvl s = _
  unfold execComparatorDecision
  rw [if_neg (by simp [h])]

/-- A decision is shown, and trips where it is armed and out of window (R160, R163). -/
theorem exec_comparatorDecision {s : State} {t : Nat} (lvl : Nat) (h : s.ticks c t = true) :
    exec (.comparatorDecision c t lvl) s = .next (
      if s.cmpFrom[c] + 16000 ≤ t ∧ s.cmpOut c t lvl = true then
        (s.cmpDecided c t (s.cmpOut c t lvl)).cmpTrip c t (b2n (s.cmpHigh c (s.thrAt c t) lvl))
      else s.cmpDecided c t (s.cmpOut c t lvl)) := by
  have hexec : exec (.comparatorDecision c t lvl) s = .next (
      if s.cmpFrom[c] + 16000 ≤ t then
        if s.cmpOut c t lvl then
          ((s.cmpShown c t (s.cmpOut c t lvl)).put (F.CMP_STAT_armed c) 1).cmpTrip c t (b2n (s.cmpHigh c (s.thrAt c t) lvl))
        else (s.cmpShown c t (s.cmpOut c t lvl)).put (F.CMP_STAT_armed c) 1
      else s.cmpShown c t (s.cmpOut c t lvl)) :=
    congrArg Host.Outcome.next (if_pos h)
  rw [hexec]
  unfold State.cmpDecided
  by_cases ha : s.cmpFrom[c] + 16000 ≤ t
  · simp only [ha, if_true, true_and]
  · simp only [ha, if_false, false_and]

theorem State.ticks_of {s : State} {t : Nat} (hpow : s.cmpPow[c] = true) (hgrid : t % 320 = 0) (hfrom : s.cmpFrom[c] ≤ t)
    (hlast : ∀ x ∈ s.cmpDec[c], x.1 < t) : s.ticks c t = true := by
  have hhead : (s.cmpDec[c].head?).all (fun p => decide (p.1 < t)) = true := by
    cases hd : s.cmpDec[c] with
    | nil => rfl
    | cons x l => exact decide_eq_true (hlast x (hd ▸ List.mem_cons_self))
  unfold State.ticks
  rw [hpow, hhead]
  simpa [hgrid] using hfrom

/-! ### What the decision leaves unchanged -/

theorem State.cmpShown_f_apart (s : State) (t : Nat) (out : Bool) (hy : y.Homed) (ho : y.Apart (F.CMP_STAT_out c))
    (hl : y.Apart (liveBit c)) : (s.cmpShown c t out).f y = s.f y := by
  have hstat : (F.CMP_STAT_out c).Homed := cmpStat_homed c 0 1
  calc (s.cmpShown c t out).f y
      = ((s.toInstant t).putB (F.CMP_STAT_out c) out).f y := State.f_put_apart _ _ (liveBit_homed c) hy hl
    _ = s.f y := State.f_put_apart _ _ hstat hy ho

theorem State.cmpDecided_f_apart (s : State) (t : Nat) (out : Bool) (hy : y.Homed) (ho : y.Apart (F.CMP_STAT_out c))
    (ha : y.Apart (F.CMP_STAT_armed c)) (hl : y.Apart (liveBit c)) : (s.cmpDecided c t out).f y = s.f y := by
  have hstat : (F.CMP_STAT_armed c).Homed := cmpStat_homed c 1 1
  have hshown := s.cmpShown_f_apart t out hy ho hl
  unfold State.cmpDecided
  split
  · rw [State.f_put_apart _ _ hstat hy ha, hshown]
  · exact hshown

@[simp] theorem State.cmpDecided_etime (s : State) (c : Fin 24) (t : Nat) (out : Bool) :
    (s.cmpDecided c t out).etime = max s.etime t := by
  unfold State.cmpDecided; split <;> rfl

@[simp] theorem State.cmpDecided_ctx (s : State) (c : Fin 24) (t : Nat) (out : Bool) : (s.cmpDecided c t out).ctx = s.ctx := by
  unfold State.cmpDecided; split <;> rfl

@[simp] theorem State.cmpDecided_lnk (s : State) (c : Fin 24) (t : Nat) (out : Bool) : (s.cmpDecided c t out).lnk = s.lnk := by
  unfold State.cmpDecided; split <;> rfl

@[simp] theorem State.cmpDecided_mode (s : State) (c : Fin 24) (t : Nat) (out : Bool) : (s.cmpDecided c t out).mode = s.mode := by
  have hstat (lo wd : Nat) : F.SYS_MODE_mode.Apart ⟨A.CMP_STAT c, lo, wd⟩ := .inl (by
    simp only [F.SYS_MODE_mode, A.SYS_MODE, A.CMP_STAT]
    omega)
  exact s.cmpDecided_f_apart t out ⟨by decide, by decide⟩ (hstat 0 1) (hstat 1 1) (.inl (by
    simp only [F.SYS_MODE_mode, liveBit, A.SYS_MODE, A.CMP_LIVE]
    omega))

theorem State.cmpDecided_beside (s : State) (t : Nat) (out : Bool) (h : y.Beside c) : (s.cmpDecided c t out).f y = s.f y := by
  obtain ⟨hin, hstat, hlive, -⟩ := h
  exact s.cmpDecided_f_apart t out hin.homed (.inl hstat) (.inl hstat) (.inl hlive)

theorem State.cmpDecided_cnt (s : State) (c : Fin 24) (t : Nat) (out : Bool) :
    (s.cmpDecided c t out).f (F.CMP_STAT_cnt c) = s.f (F.CMP_STAT_cnt c) :=
  s.cmpDecided_f_apart t out (cmpStat_homed c 16 16) (cmpStat_apart (by decide)) (cmpStat_apart (by decide))
    (cmpStat_apart_live c 16 16)

/-! ### What the decision shows -/

theorem State.cmpShown_out (s : State) (c : Fin 24) (t : Nat) (out : Bool) :
    (s.cmpShown c t out).fb (F.CMP_STAT_out c) = out := by
  have hlive := ((s.toInstant t).putB (F.CMP_STAT_out c) out).f_put_apart (b2n out) (liveBit_homed c)
    (cmpStat_homed c 0 1) (cmpStat_apart_live c 0 1)
  exact (State.fb_congr hlive).trans (State.fb_putB_same (x := F.CMP_STAT_out c) _ out (by simp [F.CMP_STAT_out]) rfl)

theorem State.cmpShown_live (s : State) (c : Fin 24) (t : Nat) (out : Bool) : (s.cmpShown c t out).fb (liveBit c) = out :=
  State.fb_putB_same (x := liveBit c) _ out (by simp only [liveBit]; omega) rfl

theorem State.cmpDecided_fb (s : State) (t : Nat) (out : Bool) (hy : y.Homed) (ha : y.Apart (F.CMP_STAT_armed c)) :
    (s.cmpDecided c t out).fb y = (s.cmpShown c t out).fb y := by
  unfold State.cmpDecided State.fb
  split
  · rw [State.f_put_apart (x := F.CMP_STAT_armed c) _ _ (cmpStat_homed c 1 1) hy ha]
  · rfl

@[simp] theorem State.cmpDecided_out (s : State) (c : Fin 24) (t : Nat) (out : Bool) :
    (s.cmpDecided c t out).fb (F.CMP_STAT_out c) = out := by
  rw [s.cmpDecided_fb (y := F.CMP_STAT_out c) t out (cmpStat_homed c 0 1) (cmpStat_apart (by decide)), s.cmpShown_out]

@[simp] theorem State.cmpDecided_live (s : State) (c : Fin 24) (t : Nat) (out : Bool) :
    (s.cmpDecided c t out).fb (liveBit c) = out := by
  rw [s.cmpDecided_fb t out (liveBit_homed c) (cmpStat_apart_live c 1 1).symm, s.cmpShown_live]

theorem State.put_armed (s : State) (c : Fin 24) : (s.put (F.CMP_STAT_armed c) 1).fb (F.CMP_STAT_armed c) = true :=
  s.fb_put_same (F.CMP_STAT_armed c) 1 (by simp [F.CMP_STAT_armed])

theorem State.cmpDecided_armed {s : State} {t : Nat} (out : Bool) (h : s.cmpFrom[c] + 16000 ≤ t) :
    (s.cmpDecided c t out).fb (F.CMP_STAT_armed c) = true := by
  unfold State.cmpDecided
  rw [if_pos h]
  exact State.put_armed ..

/-! ### The trip -/

/-- The state that has shown the side of an armed out-of-window decision, counted it and set its bit of CMP_EVT (R160). -/
def State.cmpCounted (s : State) (c : Fin 24) (side : Nat) : State :=
  ((s.put (F.CMP_STAT_side c) side).bump (F.CMP_STAT_cnt c)).src (evtBit c) (36 + c.val)

theorem State.cmpCounted_f_apart (s : State) (side : Nat) (hy : y.InSchedule) (hs : y.Apart (F.CMP_STAT_side c))
    (hn : y.Apart (F.CMP_STAT_cnt c)) (he : y.Apart (evtBit c)) : (s.cmpCounted c side).f y = s.f y := by
  unfold State.cmpCounted State.bump
  rw [State.src_evtBit_f _ hy he, State.f_put_apart (x := F.CMP_STAT_cnt c) _ _ (cmpStat_homed c 16 16) hy.homed hn,
    State.f_put_apart (x := F.CMP_STAT_side c) _ _ (cmpStat_homed c 3 1) hy.homed hs]

theorem State.cmpCounted_side (s : State) (c : Fin 24) (b : Bool) : (s.cmpCounted c (b2n b)).fb (F.CMP_STAT_side c) = b := by
  have hside := cmpStat_inSchedule c 3 1
  have hsame : ((s.putB (F.CMP_STAT_side c) b).bump (F.CMP_STAT_cnt c)).f (F.CMP_STAT_side c)
      = (s.putB (F.CMP_STAT_side c) b).f (F.CMP_STAT_side c) :=
    State.f_put_apart _ _ (cmpStat_homed c 16 16) hside.homed (cmpStat_apart (by decide))
  unfold State.cmpCounted State.fb
  rw [State.src_evtBit_f (y := F.CMP_STAT_side c) _ hside (cmpStat_apart_evt c 3 1)]
  exact (State.fb_congr hsame).trans (State.fb_putB_same (x := F.CMP_STAT_side c) _ b (by simp [F.CMP_STAT_side]) rfl)

theorem State.cmpCounted_cnt (s : State) (c : Fin 24) (side : Nat) :
    (s.cmpCounted c side).f (F.CMP_STAT_cnt c) = satInc (F.CMP_STAT_cnt c).wd (s.f (F.CMP_STAT_cnt c)) := by
  have hcnt := cmpStat_inSchedule c 16 16
  unfold State.cmpCounted
  rw [State.src_evtBit_f (y := F.CMP_STAT_cnt c) _ hcnt (cmpStat_apart_evt c 16 16),
    State.f_bump_same _ (by simp [F.CMP_STAT_cnt]), State.f_put_apart (x := F.CMP_STAT_side c) (y := F.CMP_STAT_cnt c) _ _
      (cmpStat_homed c 3 1) hcnt.homed (cmpStat_apart (by decide))]

@[simp] theorem State.cmpCounted_etime (s : State) (c : Fin 24) (side : Nat) : (s.cmpCounted c side).etime = s.etime := by
  unfold State.cmpCounted
  rw [State.src_etime]
  rfl

theorem State.cmpCounted_beside (s : State) (side : Nat) (h : y.Beside c) : (s.cmpCounted c side).f y = s.f y := by
  obtain ⟨hin, hstat, -, hevt⟩ := h
  exact s.cmpCounted_f_apart side hin (.inl hstat) (.inl hstat) (.inl hevt)

/-- The state upon which the trip of an owned comparator is reported (R160). -/
def State.cmpTripped (s : State) (c : Fin 24) (side : Nat) : State := (s.cmpCounted c side).set1 (F.CMP_STAT_trip c)

theorem State.cmpTripped_f_apart (s : State) (side : Nat) (hy : y.Homed) (h : y.Apart (F.CMP_STAT_trip c)) :
    (s.cmpTripped c side).f y = (s.cmpCounted c side).f y :=
  State.f_put_apart _ 1 (cmpStat_homed c 2 1) hy h

theorem State.cmpTripped_out (s : State) (c : Fin 24) (side : Nat) :
    (s.cmpTripped c side).fb (F.CMP_STAT_out c) = s.fb (F.CMP_STAT_out c) := by
  have hout := cmpStat_inSchedule c 0 1
  unfold State.fb
  rw [State.cmpTripped_f_apart (y := F.CMP_STAT_out c) _ _ hout.homed (cmpStat_apart (by decide)),
    State.cmpCounted_f_apart (y := F.CMP_STAT_out c) _ _ hout (cmpStat_apart (by decide)) (cmpStat_apart (by decide))
      (cmpStat_apart_evt c 0 1)]

theorem State.cmpTripped_trip (s : State) (c : Fin 24) (side : Nat) :
    (s.cmpTripped c side).fb (F.CMP_STAT_trip c) = true :=
  State.fb_put_same _ (F.CMP_STAT_trip c) 1 (by simp [F.CMP_STAT_trip])

theorem State.cmpTripped_side (s : State) (c : Fin 24) (b : Bool) :
    (s.cmpTripped c (b2n b)).fb (F.CMP_STAT_side c) = b := by
  have hf := s.cmpTripped_f_apart (y := F.CMP_STAT_side c) (b2n b) (cmpStat_homed c 3 1) (cmpStat_apart (by decide))
  exact (State.fb_congr hf).trans (s.cmpCounted_side c b)

theorem State.cmpTripped_cnt (s : State) (c : Fin 24) (side : Nat) :
    (s.cmpTripped c side).f (F.CMP_STAT_cnt c) = satInc (F.CMP_STAT_cnt c).wd (s.f (F.CMP_STAT_cnt c)) := by
  rw [State.cmpTripped_f_apart (y := F.CMP_STAT_cnt c) _ _ (cmpStat_homed c 16 16) (cmpStat_apart (by decide)),
    State.cmpCounted_cnt]

@[simp] theorem State.cmpTripped_etime (s : State) (c : Fin 24) (side : Nat) : (s.cmpTripped c side).etime = s.etime :=
  s.cmpCounted_etime c side

theorem State.cmpTripped_beside (s : State) (side : Nat) (h : y.Beside c) : (s.cmpTripped c side).f y = s.f y := by
  rw [s.cmpTripped_f_apart side h.1.homed (.inl h.2.1), s.cmpCounted_beside side h]

theorem stgStat_beside (k : Stage) (c : Fin 24) : (F.STG_STAT_st k).Beside c := by
  simp only [Fld.Beside, Fld.InSchedule, F.STG_STAT_st, A.STG_STAT, A.CMP_STAT, A.CMP_LIVE, A.CMP_EVT]
  omega

theorem cmpCfgStg_beside (c : Fin 24) : (F.CMP_CFG_stg c).Beside c := by
  simp only [Fld.Beside, Fld.InSchedule, F.CMP_CFG_stg, A.CMP_CFG, A.CMP_STAT, A.CMP_LIVE, A.CMP_EVT]
  omega

theorem State.anySwitching_congr {s t : State} (h : ∀ k : Stage, t.f (F.STG_STAT_st k) = s.f (F.STG_STAT_st k)) :
    t.anySwitching = s.anySwitching := by
  unfold State.anySwitching State.switching State.stgSt
  simp only [h]

/-- The trip of an owned comparator is class B while a stage switches (R160). -/
theorem State.cmpTrip_owned {s : State} (t side : Nat) (hstg : s.f (F.CMP_CFG_stg c) < 12) (hsw : s.anySwitching = true) :
    s.cmpTrip c t side = (s.cmpTripped c side).report (0x2100 + c.val) .B (BitVec.ofNat 32 side) := by
  have howned : (s.cmpCounted c side).f (F.CMP_CFG_stg c) < 12 := by rwa [s.cmpCounted_beside side (cmpCfgStg_beside c)]
  have hswT : (s.cmpTripped c side).anySwitchingAt = true := by
    unfold State.anySwitchingAt
    rw [State.anySwitching_congr fun k => s.cmpTripped_beside side (stgStat_beside k c), hsw, Bool.true_or]
  exact (if_pos howned).trans (if_pos hswT)

/-! ### The thresholds -/

theorem State.cmpHigh_iff (s : State) (c : Fin 24) (w : Word) (lvl : Nat) : s.cmpHigh c w lvl = true ↔
    s.fb (F.CMP_CFG_hi_en c) = true ∧ 78125 * (2 * getBits w 16 10 + 1) < lvl := by
  unfold State.cmpHigh
  rw [Bool.and_eq_true, decide_eq_true_iff]
  rfl

theorem State.cmpLow_iff (s : State) (c : Fin 24) (w : Word) (lvl : Nat) : s.cmpLow c w lvl = true ↔
    s.fb (F.CMP_CFG_lo_en c) = true ∧ lvl < 78125 * (2 * getBits w 0 10 + 1) := by
  unfold State.cmpLow
  rw [Bool.and_eq_true, decide_eq_true_iff]
  rfl

theorem State.cmpOut_iff (s : State) (c : Fin 24) (t lvl : Nat) : s.cmpOut c t lvl = true ↔
    s.cmpHigh c (s.thrAt c t) lvl = true ∨ s.cmpLow c (s.thrAt c t) lvl = true := Bool.or_eq_true_iff

/-- The argument of the report: 1 above high, 0 below low (R165). -/
theorem ofNat_b2n {b : Bool} {p : Prop} [Decidable p] (h : b = true ↔ p) :
    BitVec.ofNat 32 (b2n b) = if p then 1 else 0 := by
  cases b
  · rw [if_neg fun hp => nomatch h.mpr hp]; rfl
  · rw [if_pos (h.mp rfl)]; rfl

/-! ### The rows -/

/-- A decision that is not armed, or in window, is shown and does no more (R163). -/
theorem exec_comparatorDecision_shown {s : State} {t lvl : Nat} (h : s.ticks c t = true)
    (hno : t < s.cmpFrom[c] + 16000 ∨ ¬s.cmpOut c t lvl = true) :
    exec (.comparatorDecision c t lvl) s = .next (s.cmpDecided c t (s.cmpOut c t lvl)) := by
  rw [exec_comparatorDecision lvl h, if_neg fun ⟨ha, ho⟩ => hno.elim (Nat.not_lt.mpr ha) (· ho)]

/-- An armed decision out of window trips its stage, with class B while a stage switches (R160). -/
theorem exec_comparatorDecision_trips {s : State} {t lvl : Nat} (h : s.ticks c t = true) (ha : s.cmpFrom[c] + 16000 ≤ t)
    (ho : s.cmpOut c t lvl = true) (hstg : s.f (F.CMP_CFG_stg c) < 12) (hsw : s.anySwitching = true) :
    exec (.comparatorDecision c t lvl) s =
      .next (((s.cmpDecided c t true).cmpTripped c (b2n (s.cmpHigh c (s.thrAt c t) lvl))).report (0x2100 + c.val) .B
        (BitVec.ofNat 32 (b2n (s.cmpHigh c (s.thrAt c t) lvl)))) := by
  have hstgD : (s.cmpDecided c t true).f (F.CMP_CFG_stg c) < 12 := by rwa [s.cmpDecided_beside t true (cmpCfgStg_beside c)]
  have hswD : (s.cmpDecided c t true).anySwitching = true := by
    rwa [State.anySwitching_congr fun k => s.cmpDecided_beside t true (stgStat_beside k c)]
  rw [exec_comparatorDecision lvl h, if_pos ⟨ha, ho⟩, ho, State.cmpTrip_owned t _ hstgD hswD]

theorem exec_comparatorArmed {s : State} (h : s.cmpPow[c] = true) :
    exec (.comparatorArmed c) s = .next ((s.toInstant (s.cmpFrom[c] + 16000)).put (F.CMP_STAT_armed c) 1) :=
  congrArg Host.Outcome.next (if_pos h)

end Sys2Proof.Machine

open Sys2Proof Sys2Proof.Machine

/-- Settles O36, by what a tick's decision shows, and for an armed one out of window by the state that its trip reports upon. -/
theorem comparatorEvents : Obligations.ComparatorEvents := by
  unfold Obligations.ComparatorEvents
  intro s c t lvl
  refine ⟨exec_comparatorDecision_idle lvl, fun hpow hgrid hfrom hlast => ?decides, fun hpow => ?armed⟩
  case decides =>
    intro w high low
    have hticks := State.ticks_of hpow hgrid hfrom hlast
    have hhigh : s.cmpHigh c w lvl = true ↔ high := s.cmpHigh_iff c w lvl
    have hout : s.cmpOut c t lvl = true ↔ high ∨ low := (s.cmpOut_iff c t lvl).trans (or_congr hhigh (s.cmpLow_iff c w lvl))
    refine ⟨fun hno => ?shown, fun ha ho hstg hsw => ?trips⟩
    case shown =>
      refine ⟨_, exec_comparatorDecision_shown hticks (hno.imp_right (mt hout.mp)), ?_, ?_, s.cmpDecided_etime ..,
        s.cmpDecided_ctx .., s.cmpDecided_lnk .., s.cmpDecided_mode .., State.cmpDecided_armed _⟩
      · rw [State.cmpDecided_out, hout]
      · exact (Bool.eq_iff_iff.mp (s.cmpDecided_live ..)).trans hout
    case trips =>
      have hexec := exec_comparatorDecision_trips hticks ha (hout.mpr ho) hstg hsw
      rw [ofNat_b2n hhigh] at hexec
      refine ⟨_, hexec, ?_, State.cmpTripped_trip .., ?_, ?_, ?_⟩
      · rw [State.cmpTripped_out, State.cmpDecided_out]
      · rw [State.cmpTripped_side, hhigh]
      · rw [State.cmpTripped_cnt, State.cmpDecided_cnt]
      · rw [State.cmpTripped_etime, State.cmpDecided_etime]
  case armed =>
    exact ⟨_, exec_comparatorArmed hpow, State.put_armed .., rfl, rfl, rfl⟩

end
